-- ==== Sys2Proof/Word.lean ====
section
/-! DEFINITION. The words of the manual and the sparse map in which sparse state is held. -/
namespace Sys2Proof

/-- One byte. -/
abbrev Byte := BitVec 8

/-- One 64-byte line, the unit in which the DRAM channels read and write (08, Queues and the pick). -/
abbrev Line := BitVec 512

/-- Sparse data by key: (key, value) pairs, keys strictly rising, and no entry equal to what an
unlisted key reads as (`mapWf` in Machine/Memory.lean states that form). -/
abbrev SMap (α : Type) := List (Nat × α)

end Sys2Proof
end

