-- ==== Sys2Proof/Syntax.lean ====
section
/-! DEFINITION. The commands and events of spec/opcode_table.json, one constructor per row, with the
operands the spec gives them. An operand of an event is what the block observes from outside: a pin, a
level, a measured reading, a physical outcome (a tag that verifies, a NAND status). -/
namespace Sys2Proof

/-- A host port, HP0 or HP1 (R80). -/
abbrev Port := Fin 2
/-- A logical device, 0 to 31 (R80). -/
abbrev Ld := Fin 32
/-- A DRAM channel MC0 to MC15 (R280). -/
abbrev Mc := Fin 16
/-- A flash channel FC0 to FC63 (R324). -/
abbrev Fc := Fin 64
/-- A porter PT0 to PT7 (R498). -/
abbrev Pt := Fin 8
/-- A cipher pipe P0 to P39 (R351). -/
abbrev Pipe := Fin 40
/-- A Loop Line link: 0 to 7 are ring E from stop n, 8 to 15 are ring W from stop n - 8 (R572). -/
abbrev Link := Fin 16

/-- Where a ZOP request comes from (R448). -/
inductive Transport where
  | mailbox (ld : Ld)
  | vdm (port : Port) (eid : BitVec 8)
  | smbus (eid : BitVec 8)
  | proxy
  deriving DecidableEq, Repr

/-- The part of a ZOP request frame that every request has (R439): its session, TAG and CRC. -/
structure Req where
  src : Transport
  tag : BitVec 8
  crc : BitVec 32
  deriving DecidableEq, Repr

/-- Which signal a Commit came by in one comparator sample (R53). -/
inductive CommitSource where
  | pfsense | pwrfail | both
  deriving DecidableEq, Repr

/-- The regions that have a prefect (R16). -/
inductive Region where
  | host | map | memory | flash | crypt | signalBox
  deriving DecidableEq, Repr

/-- Why a stationmaster restart happens (R495); an uncorrectable word of its code, by its place in the active bank (R507). -/
inductive RestartCause where
  | watchdog | resetN | sramError | codeFault (word : Nat)
  deriving DecidableEq, Repr

/-- Which IDE stream an IDE_KM message concerns (R106). -/
inductive IdeStream where
  | mem | io
  deriving DecidableEq, Repr

/-- What a decoder finds in one DRAM read burst (R297). -/
inductive Decode where
  | good | corrected (device : Fin 10) | poison | addressError | uncorrectable
  deriving DecidableEq, Repr

/-- The priority source of a DRAM request (R283). -/
inductive DramSource where
  | host | expressHost | bulk | walk | patrol | salvage
  deriving DecidableEq, Repr

/-- A Loop Line packet (R23). -/
structure Packet where
  pcrc : BitVec 32
  dst : BitVec 3
  src : BitVec 3
  cls : BitVec 2
  opc : BitVec 4
  len : BitVec 3
  pois : BitVec 1
  tag : BitVec 14
  addr : BitVec 64
  payload : List Byte
  deriving DecidableEq, Repr

/-- A block that fails its own self-check (R15, R105, R306, R333). -/
inductive SelfCheckBlock where
  | port (p : Port) | dram (c : Mc) (modeRegister : Bool) | flash (c : Fc)
  deriving DecidableEq, Repr

/-- What happens at an unexpected point of a two-wire transaction (R472). -/
inductive BusCondition where
  | startInWriteData | startInReadData | restartAtAckRead | restartAtAckWrite
  | stopInWriteData | stopInReadData | inAddressByte
  deriving DecidableEq, Repr

/-- The instructions of the JTAG TAP (R603), and its reset. -/
inductive TapInstruction where
  | bypass | idcode | samplePreload | extest | extestPulse | extestTrain | other | reset
  deriving DecidableEq, Repr

/-- What the capability structures of a port tell of an LD (R74, R75, R77, R80, R81, R88, R89, R107), named by its meaning: the
registers that hold it lie where CXL and PCIe put them. -/
inductive CapField where
  | deviceType | cxlIo | cxlMem | cxlCache | backInvalidate | dynamicCapacity | switching | maxLinkRate | maxWidth | mldCapable
  | logicalDevices | ldId | volatileCapacity | persistentCapacity | hdmDecoders | maxInterleaveWays | gpfPhase2Duration
  | gpfPhase2Power | memoryActive | mediaReady | memoryActiveTimeout | lsaSize | mailboxPayload | ideContainment | ideSkid
  | ideSkidActive
  deriving DecidableEq, Repr

/-- A CXL.io configuration request (R65). The HDM decoders and the mode of CXL.mem IDE are the parts of configuration space whose
programming the manual describes (R82, R107). -/
inductive ConfigRequest where
  | readSpace (offset : BitVec 12)
  | readField (ld : Ld) (field : CapField)
  | hdmDecoder (ld : Ld) (decoder : Fin 4) (base size : BitVec 64) (ways granularity : Nat)
  | ideMode (skid : Bool)
  deriving DecidableEq, Repr

/-- What completes a non-resident fetch (R145, R168). -/
inductive FetchName where
  | page (cid : BitVec 16) (page : BitVec 28)
  | depot (index : BitVec 32)
  deriving DecidableEq, Repr

/-- Pairings of pipes whose compare mismatches in turn on one block (R381, R382). -/
abbrev Pairings := List (Pipe × Pipe)

/-- How one flash-to-DRAM move ended: its NAND read, then its seal or depot check (R43, R44, R145, R171), or the check of R37 that it
met: a double-bit error in staging, which repeats the move, one in transport, which poisons a line, or pipe mismatches. -/
inductive FetchOutcome where
  | ok | okAfterRepeat | mismatchTwice | unreadable | staging | transport (line : Fin 64) | pipes (pairings : Pairings)
  deriving DecidableEq, Repr

/-- How a NAND read ended: the step of R329 at which every codeword passed, or none. -/
inductive ReadOutcome where
  | step (n : Fin 5) | unreadable
  deriving DecidableEq, Repr

/-- What a full-population monitor sample reports for one sensor (R410), in 1/100 percent and 0.1 degree. -/
structure MonitorReading where
  driftBase : Int
  driftReplan : Int
  slack : Int
  temp : Int
  deriving DecidableEq, Repr

/-- One reading of the gauge inputs (R395): cell voltages in mV, pack current in mA (positive on
discharge), the charge counted since the last sample in mC (positive on discharge), and the thermistors in
0.1 degree (none: the input reads open or short). -/
structure GaugeReading where
  cell1 : Nat
  cell2 : Nat
  cell3 : Nat
  cell4 : Nat
  current : Int
  charge : Int
  th1 : Option Int
  th2 : Option Int
  deriving DecidableEq, Repr

/-- What may go wrong on the way of a transaction through the block (R37, R140, R381, R382): nothing; a double-bit
error in port buffers; a double-bit error in transport; an uncorrectable error in the translation-cache entry; pipe
checks that mismatch, with the pairings that fail in turn. -/
inductive PathFault where
  | none | portBuffer | transport | cacheEntry | pipes (pairings : Pairings)
  deriving DecidableEq, Repr

/-- The commands and events of the block: one constructor per row of spec/opcode_table.json. -/
inductive Instr where
  /-- SIGNAL_BOX_COLD_START (R496). VSB comes into regulation after the Signal Box was unpowered; the mask ROM checks itself, verifies the stationmaster image, classifies sectors, scans the log regions and enters OFF or VAULT; the record slots in which the scans correct a word, and those with an uncorrectable one (R507). -/
  | signalBoxColdStart (romOk bankAOk bankBOk : Bool) (address : BitVec 3) (corrected bad : List (Nat × Nat) := [])
  /-- POWER_ON_RESET (R591). VSB falls below the power-on-reset level and the Signal Box stops; its next start is a cold start. -/
  | powerOnReset
  /-- VSB_EARLY_WARNING (R591). VSB falls below the early-warning level; no embedded-flash program or erase starts, and event 0x6302 is raised if the supply recovers. -/
  | vsbEarlyWarning (recovered : Bool)
  /-- CRYSTAL_FAIL (R599). The 32.768 kHz crystal does not start or stops; the Signal Box switches to its internal oscillator and raises event 0x6320. -/
  | crystalFail
  /-- MAIN_DIE_POWER_GOOD (R592). MD_PWRGD is recognised high with RESET_N high and the cold start complete, and BOOT starts at t0 from OFF, or from VAULT when the Main die is powered. -/
  | mainDiePowerGood
  /-- MD_PWRGD_LOST (R594). MD_PWRGD goes low for 2 µs while the Main die runs without a recent Commit, and event 0x6301 is raised. -/
  | mdPwrgdLost
  /-- RESET_N_ASSERT (R67). RESET_N is recognised low for 1 µs, and the controller acts per mode: it fences and performs a reset save, latches the reset in SAVE, abandons BOOT, or restarts the stationmaster. -/
  | resetNAssert
  /-- RESET_N_RELEASE (R55). RESET_N returns high after a reset is pending, and BOOT starts at t0 with cause 0x03. -/
  | resetNRelease
  /-- PERST_N_ASSERT (R69). A port's PERST_N is asserted; that port's link goes down and its CXL state resets, while granted writes are kept; the assertion is ignored and counted in SAVE. -/
  | perstNAssert (p : Port)
  /-- PERST_N_DEASSERT (R65). A port's PERST_N goes high once BOOT step t1 has been reached, and the port starts link training. -/
  | perstNDeassert (p : Port)
  /-- LINK_UP (R76). Link training completes at some width and rate; the port enables full or reduced operation and raises event 0x1001, 0x1010 or 0x1011. -/
  | linkUp (p : Port) (rate width : Nat) (flit : Fin 3) (bound : Option (BitVec 16))
  /-- SURPRISE_LINK_DOWN (R78). A link goes down without a host request; accepted writes complete internally, read completions are discarded, and the port counts the loss and retrains. -/
  | surpriseLinkDown (p : Port)
  /-- IDE_KM_MESSAGE (R106). An IDE_KM message over DOE establishes or refreshes a CXL.mem or CXL.io IDE key. -/
  | ideKmMessage (p : Port) (stream : IdeStream) (key : BitVec 256)
  /-- IDE_MAC_FAILURE (R107). An IDE MAC fails to verify; the port discards every message since the last verified MAC, enters the insecure state and takes its link down. -/
  | ideMacFailure (p : Port)
  /-- WARN (R237). PFSENSE falls below WarnLevel in the Normal state; the controller arms, applies the armed ceiling and the Armed flush regime, aborts any drill, clears perturbation and notifies hosts. -/
  | warn
  /-- COMMIT (R236). PFSENSE falls below CommitLevel or PWRFAIL_N goes low in one sample; the controller fences the ports and starts a save, or enters VAULT or OFF from BOOT or early RESTORE. -/
  | commit (source : CommitSource)
  /-- DISARM (R238). While Armed, the Release hold reaches ReleaseHold; the controller disarms, restores C_eff to C_plan, rechooses the flush regime and releases a drill's BATSEL. -/
  | disarm
  /-- POWER_RETURN_EVENT (R54). The Release hold completes with the Main die supplies in regulation; the controller starts BOOT from VAULT or sets PWRRET during SAVE. -/
  | powerReturnEvent
  /-- POWER_SIGNAL_CHANGE_IN_SAVE (R236). A threshold crossing or PWRFAIL_N change in the Committed state is counted in OD 0x5400.12 and raises event 0x2804. -/
  | powerSignalChangeInSave
  /-- CHIP_DECISION_REQUEST (R17). A prefect requests a chip-level decision, and the stationmaster applies the first matching row: no change, SAVE with an internal cause, or FREEZE. -/
  | chipDecisionRequest (region : Region)
  /-- STATIONMASTER_WATCHDOG_EXPIRY (R70). The stationmaster watchdog expires; the stationmaster restarts and resumes its mode, fails the BOOT attempt, or has the expiry latched in SAVE. -/
  | stationmasterWatchdogExpiry
  /-- PORTER_WATCHDOG_EXPIRY (R70). A porter watchdog expires; the porter is reloaded, BOOT fails, or the expiry is logged in SAVE, and a third expiry within 10 min requests a decision; `segment`: it is an access to another porter's segment (R498). -/
  | porterWatchdogExpiry (pt : Pt) (segment : Bool := false)
  /-- STATIONMASTER_RESTART (R495). After a watchdog expiry, RESET_N or an SRAM error, the mask ROM reloads ITCM, rescans settings and the journal, and resumes the retained mode; `corrected` and `bad` as for the cold start (R507). -/
  | stationmasterRestart (cause : RestartCause) (imageOk : Bool) (corrected bad : List (Nat × Nat) := [])
  /-- PORTER_RELOAD_COMPLETE (R500). A porter's image is recopied and its hash checked against the manifest digest, and the porter restarts and rebuilds its state. -/
  | porterReloadComplete (pt : Pt) (hashOk : Bool)
  /-- BOOT_START (R62). BOOT begins at t0: the Main die is released, the SRAM is initialised, the Loop Line is trained and the die bridge is linked. -/
  | bootStart (mainDieTemp : Int)
  /-- PORTERS_LOADED (R499). The porter images are verified against the signed manifest and all eight porters are released together at BOOT step t2. -/
  | portersLoaded (hashUnitOk signaturesOk digestsOk : Bool)
  /-- VAULT_KEY_DERIVED (R363). At step t3 the vault key is derived and checked against the journal, key slots are restored, pipes are self-tested and counters are advanced. -/
  | vaultKeyDerived (check : BitVec 24) (pipesPass : BitVec 40) (badSlots : List (BitVec 8))
  /-- FLASH_CHANNELS_READY (R323). At step t4 every flash channel has reset, profiled, switched interface and trained its dies, or put them out of service; `factoryBad` lists the blocks with the maker's bad-block mark (R331). -/
  | flashChannelsReady (rate : Nat) (badDies : List (Fc × Fin 16)) (failedTraining : BitVec 64) (factoryBad : List (Fc × Fin 16 × Nat) := [])
  /-- DRAM_CHANNELS_TRAINED (R303). At step t5 every DRAM channel is initialised and trained in full or from stored results, or put offline; the devices' rate, and the ranks (channel × 4 + rank) whose devices all report DRFM (R280). -/
  | dramChannelsTrained (mismatched failed : BitVec 16) (deviceRate : Nat := 8800) (drfm : BitVec 64 := 0)
  /-- SEAL_RECORDS_READ (R266). At step t6 the vault records and seal copies are read and the vault is classified. -/
  | sealRecordsRead (copy1 copy2 header metaMark : Bool) (unreadable : List Nat)
  /-- BOOT_COMPLETE (R62). BOOT ends at t7; the controller increments the dirty shutdown count if needed and enters RESTORE or SERVICE. -/
  | bootComplete
  /-- BOOT_STEP_TIMEOUT (R64). A BOOT step misses its bound or fails its check; the attempt fails, and the controller retries or, on the third failure, enters FREEZE. -/
  | bootStepTimeout (step : Fin 7)
  /-- BOOT_RETRY_DELAY_EXPIRY (R55). The 10 ms Main die reset hold after a failed BOOT attempt ends, and BOOT restarts at t0. -/
  | bootRetryDelayExpiry
  /-- SAVE_THEN_RESTORE_ENTRY (R59). After a seal with power returned, the seal is confirmed and the porters are reloaded, and RESTORE is entered within 130 ms. -/
  | saveThenRestoreEntry
  /-- MODE_REQUEST (R56). A Request command (OD 0x1100.02) asks for a mode; the transition table accepts or refuses it. -/
  | modeRequest (q : Req) (mode : BitVec 8)
  /-- SAVE_DRAIN_COMPLETE (R241). At save step t3 granted writes have drained into the residue and the freeze records of frozen channels are logged. -/
  | saveDrainComplete (faults : List (FetchName × FetchOutcome) := [])
  /-- SAVE_HEADER_PROGRAMMED (R241). At t4 the translation-cache lines have been written back and the header segment is programmed. -/
  | saveHeaderProgrammed
  /-- SAVE_METADATA_PROGRAMMED (R241). At t5 the metadata segments, the residue list and the metadata mark are programmed. -/
  | saveMetadataProgrammed
  /-- SAVE_STREAM_PROGRAMMED (R242). At t6 the residue stream, including salvage, is programmed oldest first, or is cut short when the save region is used up. -/
  | saveStreamProgrammed (faults : List (BitVec 16 × BitVec 28 × Pairings) := [])
  /-- SAVE_LOG_PROGRAMMED (R567). At t7 the logbook records are programmed into the log segments. -/
  | saveLogProgrammed
  /-- SEAL_COMPLETE (R252). At t8 both seal copies are programmed and read back; SAVE_ACTIVE goes low and the next mode is chosen from the SAVE rows. -/
  | sealComplete (copy1 copy2 : Bool) (energy : Nat)
  /-- VAULT_RECORD_COMPLETE (R255). At t9 the vault completion record is journalled and VAULT_OK follows its COMPLETE flag. -/
  | vaultRecordComplete
  /-- SALVAGE_INIT_COMPLETE (R308). A frozen channel completes salvage initialisation, and the thaw pass or save salvage begins. -/
  | salvageInitComplete (c : Mc)
  /-- SALVAGE_INIT_TIMEOUT (R259). Salvage initialisation misses its 10 ms bound; the channel's residue and lines are poisoned and the channel goes offline. -/
  | salvageInitTimeout (c : Mc)
  /-- THAW_PASS_COMPLETE (R310). The thaw pass has moved all unique data off a frozen channel, and the channel goes offline with event 0x3042. -/
  | thawPassComplete (c : Mc) (failedLines : List (Nat × Fin 64))
  /-- RESTORE_METADATA_PHASE_COMPLETE (R268). The cold-restore translation-metadata phase ends; carriage states are normalised, the planner computes and early admission may follow. -/
  | restoreMetadataPhaseComplete
  /-- RESTORE_COMPLETE (R272). The background restore finishes step 3; the controller enters SERVICE and raises event 0x2822. -/
  | restoreComplete (unreadable : List (BitVec 16 × BitVec 28)) (faults : List (BitVec 16 × BitVec 28 × FetchOutcome) := [])
  /-- RESTORE_CHECKPOINT_DUE (R518). The restore checkpoint is journalled at each change of background step, and at least every 2 s in RESTORE. -/
  | restoreCheckpointDue (step : Fin 4) (planPosition : BitVec 16) (segment : BitVec 32)
  /-- CXL_MEM_READ (R143). A CXL.mem read is received and goes through coupling, translation, DRAM access and decryption, or ends as an uncoupled, poison or zero answer. -/
  | cxlMemRead (ld : Ld) (dpa : BitVec 64) (fault : PathFault)
  /-- CXL_MEM_WRITE (R146). A CXL.mem write is received, marked dirty, counted in the residue, encrypted and queued to DRAM, and its completion is sent. -/
  | cxlMemWrite (ld : Ld) (dpa : BitVec 64) (data : Line) (fault : PathFault)
  /-- NONRESIDENT_FETCH_COMPLETE (R145). A non-resident fetch completes after the seal or depot checks, making the page resident or poisoning it, and waiting requests resume. -/
  | nonresidentFetchComplete (name : FetchName) (outcome : FetchOutcome) (slow : Bool)
  /-- FRAME_WAIT_TIMEOUT (R142). A host request waits 10 ms for a frame without one being freed; a write is discarded with its leaf poisoned, or a read gets poison. -/
  | frameWaitTimeout (ld : Ld) (dpa : BitVec 64) (isWrite : Bool)
  /-- EVICTION_SWEEP (R141). When free frames fall below FreeLow, a sweep clears ACC bits and evicts clean idle pages until twice FreeLow frames are free. -/
  | evictionSweep
  /-- GPF_PHASE2_REQUEST (R89). A GPF Phase 2 request completes every accepted write into the DRAM path and signals completion within 10 µs. -/
  | gpfPhase2Request (p : Port)
  /-- RESIDUE_UPDATE (R101). The Map region sends the residue, the effective ceiling and the flush rate to the Host region, and the throttle state is reevaluated. -/
  | residueUpdate
  /-- EXPRESS_PANIC_CHANGE (R96). Express-buffer occupancy or request age crosses a panic threshold after the minimum hold, and the port raises or clears panic. -/
  | expressPanicChange (p : Port) (occupancy age : Nat)
  /-- PANIC_PACKET (R287). An urgent panic-state packet reaches the DRAM channels, which change their pick and refresh rules from the next pick. -/
  | panicPacket (p : Port) (raised : Bool)
  /-- MBX_IDENTIFY_MEMORY_DEVICE (R108). The mailbox command Identify Memory Device returns the device identity and capacity. -/
  | mbxIdentifyMemoryDevice (ld : Ld)
  /-- MBX_GET_PARTITION_INFO (R108). Get Partition Info reports persistent capacity only. -/
  | mbxGetPartitionInfo (ld : Ld)
  /-- MBX_GET_SUPPORTED_LOGS (R108). Get Supported Logs lists the supported logs. -/
  | mbxGetSupportedLogs (ld : Ld)
  /-- MBX_GET_LOG (R108). Get Log returns the command effects log. -/
  | mbxGetLog (ld : Ld)
  /-- MBX_GET_EVENT_RECORDS (R571). Get Event Records returns records from the LD's CXL event logs. -/
  | mbxGetEventRecords (ld : Ld) (log : Fin 4)
  /-- MBX_CLEAR_EVENT_RECORDS (R571). Clear Event Records removes records from the CXL log only. -/
  | mbxClearEventRecords (ld : Ld) (log : Fin 4) (count : Nat)
  /-- MBX_GET_EVENT_INTERRUPT_POLICY (R108). Get Event Interrupt Policy returns the LD's interrupt policy. -/
  | mbxGetEventInterruptPolicy (ld : Ld)
  /-- MBX_SET_EVENT_INTERRUPT_POLICY (R108). Set Event Interrupt Policy sets the LD's interrupt policy. -/
  | mbxSetEventInterruptPolicy (ld : Ld) (policy : BitVec 32)
  /-- MBX_GET_ALERT_CONFIGURATION (R108). Get Alert Configuration returns the alert settings. -/
  | mbxGetAlertConfiguration (ld : Ld)
  /-- MBX_SET_ALERT_CONFIGURATION (R108). Set Alert Configuration sets the alert settings. -/
  | mbxSetAlertConfiguration (ld : Ld) (config : List Byte)
  /-- MBX_GET_TIMESTAMP (R456). Get Timestamp reads the Signal Box TIME64 clock. -/
  | mbxGetTimestamp (ld : Ld)
  /-- MBX_SET_TIMESTAMP (R456). Set Timestamp sets the clock and TimeValid and raises event 0x7014. -/
  | mbxSetTimestamp (ld : Ld) (time : BitVec 64)
  /-- MBX_GET_FW_INFO (R544). Get FW Info reports both banks as slots, with the active slot and the staged slot. -/
  | mbxGetFwInfo (ld : Ld)
  /-- MBX_GET_HEALTH_INFO (R90). Get Health Info returns health status including the dirty shutdown count. -/
  | mbxGetHealthInfo (ld : Ld)
  /-- MBX_GET_SHUTDOWN_STATE (R91). Get Shutdown State returns the LD's recorded clean or dirty state. -/
  | mbxGetShutdownState (ld : Ld)
  /-- MBX_SET_SHUTDOWN_STATE (R91). Set Shutdown State records a clean or dirty state for the LD persistently. -/
  | mbxSetShutdownState (ld : Ld) (dirty : Bool)
  /-- MBX_GET_POISON_LIST (R155). Get Poison List reports the poisoned pages and ranges of carriages coupled to the LD. -/
  | mbxGetPoisonList (ld : Ld)
  /-- MBX_CLEAR_POISON (R155). Clear Poison makes a poisoned page resident and dirty with the supplied line, or clears a poisoned range. -/
  | mbxClearPoison (ld : Ld) (dpa : BitVec 64) (data : Line)
  /-- MBX_INJECT_POISON (R74). Inject Poison writes the poison encoding to a line, and is accepted in MAINTENANCE only. -/
  | mbxInjectPoison (ld : Ld) (dpa : BitVec 64)
  /-- MBX_GET_SCAN_MEDIA_CAPABILITIES (R108). Get Scan Media Capabilities reports the scan capabilities. -/
  | mbxGetScanMediaCapabilities (ld : Ld)
  /-- MBX_SCAN_MEDIA (R108). Scan Media starts a media scan. -/
  | mbxScanMedia (ld : Ld) (dpa length : BitVec 64)
  /-- MBX_GET_SCAN_MEDIA_RESULTS (R108). Get Scan Media Results returns the scan results. -/
  | mbxGetScanMediaResults (ld : Ld)
  /-- MBX_GET_LSA (R88). Get LSA reads the LD's 128 KiB label storage area. -/
  | mbxGetLsa (ld : Ld) (offset length : Nat)
  /-- MBX_SET_LSA (R88). Set LSA updates the label storage area in the flash tier before completing. -/
  | mbxSetLsa (ld : Ld) (offset : Nat) (data : List Byte)
  /-- FM_GET_LD_ALLOCATIONS (R93). The FM API command Get LD Allocations reads the LD allocation objects. -/
  | fmGetLdAllocations (p : Port)
  /-- FM_SET_LD_ALLOCATIONS (R93). The FM API command Set LD Allocations writes the LD allocation objects. -/
  | fmSetLdAllocations (p : Port) (first : Fin 16) (fractions : List Byte)
  /-- FM_GET_QOS_CONTROL (R93). Get QoS Control reads the QoS control objects. -/
  | fmGetQosControl (p : Port)
  /-- FM_SET_QOS_CONTROL (R93). Set QoS Control writes the QoS control objects. -/
  | fmSetQosControl (p : Port) (control : List Byte)
  /-- FM_GET_QOS_STATUS (R93). Get QoS Status returns the QoS status. -/
  | fmGetQosStatus (p : Port)
  /-- FM_GET_QOS_ALLOCATED_BW (R93). Get QoS Allocated BW reads the LDs' allocated-bandwidth fractions. -/
  | fmGetQosAllocatedBw (p : Port) (first : Fin 16) (count : Nat)
  /-- FM_SET_QOS_ALLOCATED_BW (R93). Set QoS Allocated BW writes the LDs' allocated-bandwidth fractions. -/
  | fmSetQosAllocatedBw (p : Port) (first : Fin 16) (fractions : List Byte)
  /-- FM_GET_QOS_BW_LIMIT (R93). Get QoS BW Limit reads the LDs' bandwidth limits. -/
  | fmGetQosBwLimit (p : Port) (first : Fin 16) (count : Nat)
  /-- FM_SET_QOS_BW_LIMIT (R93). Set QoS BW Limit writes the LDs' bandwidth limits. -/
  | fmSetQosBwLimit (p : Port) (first : Fin 16) (limits : List Byte)
  /-- MBX_UNSUPPORTED_OPCODE (R108). A mailbox opcode outside the supported set completes with Unsupported. -/
  | mbxUnsupportedOpcode (ld : Ld) (opcode : BitVec 16)
  /-- ZOP_REQUEST (R449). Mailbox opcode 0xC000 carries one ZOP frame and returns its response frame. -/
  | zopRequest (ld : Ld) (frame : List Byte)
  /-- ZOP_REQUEST_IN_BACKGROUND (R449). Mailbox opcode 0xC001 runs a CMD EXECUTE as a CXL background command. -/
  | zopRequestInBackground (ld : Ld) (frame : List Byte)
  /-- GET_ZOP_LIMITS (R109). Mailbox opcode 0xC002 returns the ZOP and mailbox payload limits and the LD's access level. -/
  | getZopLimits (ld : Ld)
  /-- GET_PERSISTENCE_SNAPSHOT (R109). Mailbox opcode 0xC010 returns the residue, ceiling, throttle state, residue band and power state, all captured at one instant. -/
  | getPersistenceSnapshot (ld : Ld)
  /-- GET_COUPLING_MAP (R109). Mailbox opcode 0xC020 returns up to 64 coupling entries from a first entry. -/
  | getCouplingMap (ld : Ld) (first : BitVec 16)
  /-- GET_VENDOR_IDENTITY (R109). Mailbox opcode 0xC0FF returns the identity objects OD 0x1000.01 to 0x1000.05. -/
  | getVendorIdentity (ld : Ld)
  /-- MCTP_MESSAGE (R450). A complete MCTP message over PCIe VDM or SMBus is assembled, and either carries a ZOP frame or is an MCTP control message. -/
  | mctpMessage (source : Transport) (msgType : BitVec 8) (body : List Byte)
  /-- ZOP_READ (R441). The ZOP READ opcode returns an object's value. -/
  | zopRead (q : Req) (index : BitVec 16) (sub : BitVec 8)
  /-- OBJECT_WRITE (R428). A ZOP WRITE to an RW or RWI object without behaviour of its own is checked and applied atomically or block by block, and persisted. -/
  | objectWrite (q : Req) (index : BitVec 16) (sub : BitVec 8) (value : List Byte)
  /-- STAGED_OBJECT_WRITE (R435). A WRITE to an RWS object enters the uncommitted staged set. -/
  | stagedObjectWrite (q : Req) (index : BitVec 16) (sub : BitVec 8) (value : List Byte)
  /-- COMPARE_WRITE (R441). The COMPARE_WRITE opcode writes only when the current value equals the expected value, and otherwise returns MISMATCH. -/
  | compareWrite (q : Req) (index : BitVec 16) (sub : BitVec 8) (payload : List Byte)
  /-- FETCH (R444). The FETCH opcode returns and releases a pending result held under its tag. -/
  | fetch (q : Req)
  /-- DESCRIBE (R442). The DESCRIBE opcode returns an object's 64-byte descriptor. -/
  | describe (q : Req) (index : BitVec 16) (sub : BitVec 8)
  /-- READ_STAGED (R435). The READ_STAGED opcode returns the staged value, or NO_DATA. -/
  | readStaged (q : Req) (index : BitVec 16) (sub : BitVec 8)
  /-- EXECUTE_PENDING_TIMEOUT (R444). An EXECUTE not finished within 10 ms is answered PENDING while it continues. -/
  | executePendingTimeout (src : Transport) (tag : BitVec 8)
  /-- PENDING_RESULT_EXPIRY (R444). A completed result left unfetched for 60 s is released and event 0x7012 is raised. -/
  | pendingResultExpiry (src : Transport) (tag : BitVec 8)
  /-- SESSION_IDLE_TIMEOUT (R448). A session with no request for 10 min is closed and its pending results are released. -/
  | sessionIdleTimeout (src : Transport)
  /-- PERSISTENT_WRITE_RECORD (R432). An accepted persistent value is recorded in the settings area within 1 s of its response. -/
  | persistentWriteRecord
  /-- TIME_SET (R456). A write to Now sets the TIME64 clock and TimeValid and raises event 0x7014. -/
  | timeSet (q : Req) (time : BitVec 64)
  /-- THRESHOLD_WRITE (R233). A write to a power-fail threshold is checked against the threshold constraints, the armed state and the rail reading, and reaches the comparators within 1 ms. -/
  | thresholdWrite (q : Req) (sub : BitVec 8) (level : BitVec 16)
  /-- DIVIDER_RATIO_WRITE (R389). A write to DividerRatio is checked against the pin limits and the rail reading, and reconverts the thresholds. -/
  | dividerRatioWrite (q : Req) (ratio : BitVec 16)
  /-- SAVE_CEILING_MAX_WRITE (R334). A write to SaveCeilingMax is accepted only in MAINTENANCE with no vault pending and takes effect at the next BOOT. -/
  | saveCeilingMaxWrite (q : Req) (size : BitVec 64)
  /-- COMMIT_STAGED (R436). The Commit command turns the uncommitted set into the committed set at apply point 0, 1 or 2, forcing a boundary under light load for 2. -/
  | commitStaged (q : Req) (point : BitVec 8)
  /-- DISCARD_STAGED (R436). The Discard command drops the uncommitted staged set. -/
  | discardStaged (q : Req)
  /-- COUPLE (R84). The Couple command maps a carriage into an LD's DPA range when its six conditions hold. -/
  | couple (q : Req) (ld : BitVec 8) (entry : BitVec 128)
  /-- UNCOUPLE (R85). The Uncouple command removes a coupling entry at once for new requests. -/
  | uncouple (q : Req) (ld : BitVec 8) (dpa : BitVec 64)
  /-- UNCOUPLE_COMPLETE (R85). Every transaction accepted into the uncoupled range has completed, so the uncouple completes and the next coupling command may run. -/
  | uncoupleComplete
  /-- CARRIAGE_ADVANCE (R157). The Advance command moves the carriage cursor to the next carriage that is not Free. -/
  | carriageAdvance (q : Req)
  /-- CARRIAGE_CREATE (R124). The Create command makes a Free carriage Active with a new key generation. -/
  | carriageCreate (q : Req) (id : BitVec 16) (flags : BitVec 8) (size : BitVec 32) (label : BitVec 64)
  /-- CARRIAGE_DELETE (R127). The Delete command takes an uncoupled carriage to Deleting and starts release. -/
  | carriageDelete (q : Req) (id : BitVec 16)
  /-- CARRIAGE_RELEASE_COMPLETE (R123). A deleted carriage's release finishes, and its descriptor is zeroed and it becomes Free. -/
  | carriageReleaseComplete (id : BitVec 16)
  /-- CARRIAGE_RESIZE (R125). The Resize command changes a carriage's SIZE and releases pages beyond a smaller size. -/
  | carriageResize (q : Req) (id : BitVec 16) (size : BitVec 32)
  /-- RESIZE_RELEASE_COMPLETE (R125). Every page beyond the new size has been released, so the resize completes with event 0x2003. -/
  | resizeReleaseComplete
  /-- SET_SEAL (R123). The SetSeal command records the requested seal setting in SEALPEND. -/
  | setSeal (q : Req) (id : BitVec 16) (on : BitVec 8)
  /-- SET_LABEL (R157). The SetLabel command writes the carriage label at once. -/
  | setLabel (q : Req) (id : BitVec 16) (label : BitVec 64)
  /-- CLEAR_PAGE_POISON (R155). The ClearPagePoison command clears a page's poison by carriage ID and page index. -/
  | clearPagePoison (q : Req) (id : BitVec 16) (page : BitVec 32)
  /-- ADMIT (R163). The Admit command merges or creates depot pages from a carriage page range under a key slot. -/
  | admission (q : Req) (id : BitVec 16) (first count : BitVec 32) (slot : BitVec 8)
  /-- ADMISSION_COMPLETE (R164). An admission finishes its range and raises event 0x2101 with its counts. -/
  | admissionComplete
  /-- MAP_DEPOT (R165). The MapDepot command sets a carriage's Unallocated leaves to existing depot pages. -/
  | mapDepot (q : Req) (id : BitVec 16) (page depot count : BitVec 32)
  /-- PARK (R172). The Park command queues a park, or starts it by ending the carriage's term and copying resident pages into the siding. -/
  | park (q : Req) (id : BitVec 16)
  /-- PARK_COPY_COMPLETE (R172). A park's copy phase ends; the siding directory is written, the carriage becomes Parked and the release pass begins. -/
  | parkCopyComplete (id : BitVec 16) (faults : List (BitVec 28 × Pairings) := [])
  /-- PARK_RELEASE_PASS_COMPLETE (R172). A park's release pass, with its repeat visits, ends; the park leaves the in-progress count and deferred term ends run. -/
  | parkReleasePassComplete (id : BitVec 16)
  /-- RECALL (R174). The Recall command queues a recall, starts fetching a parked carriage's pages, or cancels a park. -/
  | recall (q : Req) (id : BitVec 16)
  /-- RECALL_COMPLETE (R174). Every flash-copy-only page of a recalling carriage has been fetched, and the carriage becomes Active. -/
  | recallComplete (id : BitVec 16) (faults : List (BitVec 28 × FetchOutcome) := [])
  /-- PARK_QUEUE_DEQUEUE (R176). A waiting park or recall reaches the queue head and is executed, or dropped with event 0x2204. -/
  | parkQueueDequeue
  /-- EXPORT (R190). The Export command ends the source's term and writes the snapshot as GCM-sealed records into an output carriage. -/
  | exportCarriage (q : Req) (source output : BitVec 16) (unit : BitVec 64) (key : List Byte)
  /-- EXPORT_COMPLETE (R190). An export has written its last record, and its source's term ends are no longer deferred. -/
  | exportComplete (pairings : Pairings := [])
  /-- IMPORT (R191). The Import command checks the preamble, unwraps the transfer key and creates a Shadow carriage. -/
  | importCarriage (q : Req) (input result : BitVec 16) (flags : BitVec 8)
  /-- IMPORT_RECORD_VERIFIED (R192). An import record is decrypted and its tag is checked; its pages are applied, or the import fails and the shadow is released. -/
  | importRecordVerified (record : BitVec 32) (pairings : Pairings := [])
  /-- END_CARRIAGE_TERM (R177). The EndCarriageTerm command, a park or an export starts a carriage term end that holds new writes. -/
  | endCarriageTerm (q : Req) (id : BitVec 16)
  /-- TERM_END_COMMIT (R177). Accepted writes have drained, so TERM is incremented, the snapshot is fixed and held writes are released. -/
  | termEndCommit (id : BitVec 16)
  /-- END_GLOBAL_TERM (R179). The EndGlobalTerm command starts a global term end. -/
  | endGlobalTerm (q : Req)
  /-- GLOBAL_TERM_END (R180). GlobalPeriod elapses and a global term end holds writes to every eligible carriage, ends their terms, applies staged sets and may activate firmware. -/
  | globalTermEnd
  /-- RETAG_PASS_COMPLETE (R181). A retag pass started at a multiple of 128 terms finishes, and deferred term ends proceed. -/
  | retagPassComplete (id : BitVec 16)
  /-- REVERT (R185). The Revert command returns an uncoupled carriage to its snapshot and ends its term. -/
  | revert (q : Req) (id : BitVec 16)
  /-- SNAPSHOT_RELEASE_COMPLETE (R186). A detached snapshot's records have been released, freeing its copies and depot references. -/
  | snapshotReleaseComplete (id : BitVec 16)
  /-- FLUSH_CLAIM (R206). The flush engine takes the age-list head and claims a dirty page, sets it aside, or drops a stale entry. -/
  | flushClaim (pairings : Pairings := [])
  /-- FLUSH_SET_ASIDE_RETRY (R206). An entry set aside for BUSY is tried again after 10 µs. -/
  | flushSetAsideRetry
  /-- FLUSH_CONFIRM (R149). The Flash region confirms a flush program; FLC is set, and the page leaves the residue or is requeued if dirty again. -/
  | flushConfirm (id : BitVec 16) (page : BitVec 28)
  /-- METADATA_CHECKPOINT_START (R212). D_m reaches half of MetaCeiling or MetaPeriod elapses, and the changed lines are written back and appended to the metadata log. -/
  | metadataCheckpointStart
  /-- METADATA_CHECKPOINT_COMPLETE (R212). The last checkpoint program is confirmed; the flush checkpoint stands, superseded copies are freed and a restored vault may be released. -/
  | metadataCheckpointComplete
  /-- PLANNER_COMPUTE (R218). Every 100 ms, or at once on a trigger, the planner computes C_plan and C_eff and sends them to the Host region. -/
  | plannerCompute
  /-- WEAR_INTERVAL_BOUNDARY (R227). A 15 min flush-volume interval ends; V24 is updated and the wear step changes. -/
  | wearIntervalBoundary
  /-- DRILL_START (R220). The DrillStart command starts a drill in SERVICE, or the drill is refused or deferred. -/
  | drillStart (q : Req)
  /-- DRILL_DUE (R220). DrillPeriod or the first-hour rule falls due, or a deferred drill's 10 min retry expires, and a drill is started or deferred. -/
  | drillDue
  /-- DRILL_STREAM_COMPLETE (R221). A drill's DrillVolume has been streamed into the drill area, and the rehearsal seal is written. -/
  | drillStreamComplete (rate : Nat)
  /-- DRILL_SEAL_COMPLETE (R223). The rehearsal seal is written; BATSEL is released, the figures are computed, the drill is accepted or discarded and the drill area is released. -/
  | drillSealComplete (sealTime power dieRate : Nat)
  /-- DRILL_BOUND_TIMEOUT (R221). A drill misses one of its bounds and is discarded. -/
  | drillBoundTimeout
  /-- DRILL_OVERDUE (R220). A drill is 24 h overdue and event 0x2703 is raised. -/
  | drillOverdue
  /-- PLAN_LOAD (R277). The PlanLoad command writes up to 500 seating-plan entries. -/
  | planLoad (q : Req) (first : BitVec 16) (ids : List (BitVec 16))
  /-- CLEAR_OUTCOMES (R278). The ClearOutcomes command sets every carriage outcome to 0. -/
  | clearOutcomes (q : Req)
  /-- DRAM_READ_DECODE (R300). A DRAM read burst returns and is decoded; the line is good, corrected, poison, retried, poisoned, or its channel freezes. -/
  | dramReadDecode (frame : BitVec 31) (line : Fin 64) (source : DramSource) (first second : Decode)
  /-- DRAM_ALERT (R301). A device's ALERT_N makes the channel reissue the writes in their alert window, freezing the channel after four retries; `held` is how many of the last writes issued still stand in it. -/
  | dramAlert (c : Mc) (held : Nat := 1)
  /-- REFRESH_DUE (R288). A bank's refresh interval elapses, and a same-bank refresh becomes due for the pick. -/
  | refreshDue (c : Mc) (bank : Fin 256)
  /-- REFRESH_DEADLINE_MISS (R291). A bank reaches its refresh deadline unrefreshed; RefreshGap is set and the channel freezes with cause 6. -/
  | refreshDeadlineMiss (c : Mc) (bank : Fin 256)
  /-- MR4_POLL (R288). Every 16 ms each device's MR4 is read to set the refresh rate. -/
  | mr4Poll (c : Mc) (rank : Fin 4) (mr4 : BitVec 8)
  /-- ACTIVATE_TALLY_UPDATE (R293). An activate updates the tally; at Threshold the row's neighbours are refreshed, and fallback may be entered. -/
  | activateTallyUpdate (c : Mc) (subch : Fin 2) (rank : Fin 4) (bank : Fin 32) (row : BitVec 18)
  /-- TALLY_WINDOW_END (R292). The activate-tally window ends, the counts are cleared and fallback ends. -/
  | tallyWindowEnd (c : Mc) (subch : Fin 2)
  /-- CLOSE_PAGE_TIMEOUT (R285). A bank idle for ClosePageTimeout has its row closed. -/
  | closePageTimeout (c : Mc) (bank : Fin 256)
  /-- ZQ_CALIBRATION_DUE (R305). Every 128 ms a DRAM channel runs ZQ calibration. -/
  | zqCalibrationDue (c : Mc)
  /-- DQS_OSCILLATOR_READ (R305). Every 16 ms each rank's DQS oscillator is read and the write timing is adjusted on drift. -/
  | dqsOscillatorRead (c : Mc) (rank : Fin 4) (drift : Int)
  /-- PATROL_SCRUB_READ (R302). The patrol scrub reads a line, writes back corrections and counts passes; `ecs` is the error-check-and-scrub count of each rank, read at the end of a pass (R289). -/
  | patrolScrubRead (c : Mc) (result : Decode) (ecs : List Nat := [])
  /-- FREEZE_CHANNEL (R306). The FreezeChannel command freezes a DRAM channel in MAINTENANCE with cause 7 within the budget. -/
  | freezeChannel (q : Req) (c : BitVec 8)
  /-- DRAM_RETURN_CHANNEL (R309). The DRAM ReturnChannel command marks an offline channel for retraining at the next BOOT. -/
  | dramReturnChannel (q : Req) (c : BitVec 8)
  /-- FORCE_FULL_TRAINING (R303). The ForceFullTraining command discards the stored training results and the failed-device marks. -/
  | forceFullTraining (q : Req)
  /-- FLASH_READ_COMPLETE (R329). A NAND read completes and is decoded, or the next recovery step is applied, up to finding the codeword unreadable. -/
  | flashReadComplete (c : Fc) (block : Nat) (name : BitVec 48) (outcome : ReadOutcome)
  /-- FLASH_PROGRAM_COMPLETE (R331). A NAND program completes, confirming its page, or retires the failed block and reprograms the data elsewhere; `stream` is its write stream: 0 hot, 1 cold, 2 depot, 3 system (R341). -/
  | flashProgramComplete (c : Fc) (die : Fin 16) (block : Nat) (bytes : Nat) (ok : Bool) (pairings : Pairings := []) (stream : Fin 4 := 0)
  /-- FLASH_ERASE_COMPLETE (R331). A NAND block erase completes, or fails and the block is retired. -/
  | flashEraseComplete (c : Fc) (die : Fin 16) (block : Nat) (ok : Bool)
  /-- STRIPE_CLOSE_TIMEOUT (R327). Ten milliseconds after a stripe's first program, the stripe of a write stream is closed with pad codewords and parity. -/
  | stripeCloseTimeout (group : Fin 4) (stream : Fin 4 := 0)
  /-- LUN_TIMEOUT (R332). A die times out and is reset, and it is retired after three timeouts within 10 s. -/
  | lunTimeout (c : Fc) (die : Fin 16)
  /-- CHANNEL_STATUS_TIMEOUT (R333). Sixteen command statuses of a flash channel are unreadable within 1 s, and the channel goes out of service. -/
  | channelStatusTimeout (c : Fc)
  /-- FLASH_ZQ_SHORT_DUE (R322). Every 100 ms a flash channel runs ZQ Calibration Short. -/
  | flashZqShortDue (c : Fc)
  /-- BACKING_RECOMPUTE (R336). Every 1 s, or on a die or channel loss, BackingPagesTotal is recomputed. -/
  | backingRecompute
  /-- GC_RELOCATION (R343). Garbage collection picks a victim, moves its valid codewords, updates entries on confirmation and erases the victim; `bad` names the codewords that cannot be read (R335). -/
  | gcRelocation (block : Nat) (bad : List (BitVec 48) := [])
  /-- FLASH_RETURN_CHANNEL (R333). The flash ReturnChannel command marks an out-of-service channel for retraining at the next BOOT. -/
  | flashReturnChannel (q : Req) (c : BitVec 8)
  /-- SAVE_SLOT_ERASE (R337). A save-region slot released by a vault or drill is erased within 10 s. -/
  | saveSlotErase
  /-- KEY_LOAD (R369). A write of a load blob to a slot's Key object stores a new root key and generation atomically, or is refused. -/
  | keyLoad (q : Req) (slot : BitVec 8) (blob : List Byte)
  /-- KEY_SLOT_ERASE (R368). The Erase command zeroes a slot's keys and keeps its generation. -/
  | keySlotErase (q : Req) (slot : BitVec 8)
  /-- SEAL_BLOB (R379). The Seal command encrypts a blob under a sealing slot with a new nonce. -/
  | sealBlob (q : Req) (slot : BitVec 8) (aad plaintext : List Byte) (pairings : Pairings := [])
  /-- UNSEAL_BLOB (R379). The Unseal command verifies and decrypts a blob, refusing an old generation or a failed tag. -/
  | unsealBlob (q : Req) (slot : BitVec 8) (aad nonce ciphertext tag : List Byte) (pairings : Pairings := [])
  /-- NONCE_MARK_RECORDED (R374). A new high-water mark record becomes valid, and invocations waiting at the limit resume. -/
  | nonceMarkRecorded (context : Fin 257)
  /-- PIPE_SELFTEST_COMPLETE (R381). A quarantined pipe's self-test ends, and the pipe returns to service or stays quarantined. -/
  | pipeSelftestComplete (pipe : Pipe) (pass : Bool)
  /-- PIPE_RETEST (R381). The PipeRetest command self-tests every quarantined pipe in MAINTENANCE. -/
  | pipeRetest (q : Req) (pass : BitVec 40)
  /-- PASS_GRANT (R372). The Grant command grants a carriage a pass for a slot. -/
  | passGrant (q : Req) (id : BitVec 16) (slot : BitVec 8)
  /-- PASS_REVOKE (R372). The Revoke command removes a carriage's pass for a slot. -/
  | passRevoke (q : Req) (id : BitVec 16) (slot : BitVec 8)
  /-- REVOKE_SLOT (R372). The RevokeSlot command clears a slot's pass in every row within 1 ms. -/
  | revokeSlot (q : Req) (slot : BitVec 8)
  /-- LOOP_LINE_PACKET (R25). A Loop Line packet arrives at a link receiver; it is checked for PCRC and sequence, and passed on or a replay is requested. -/
  | loopLinePacket (link : Link) (seq : BitVec 8) (packet : Packet) (sent : Option Packet := none)
  /-- LINK_FAILURE (R26). Replay counts declare a Loop Line link failed, and traffic is rerouted on the other ring. -/
  | linkFailure (link : Link)
  /-- DIE_BRIDGE_FAILURE (R37). Eight failed die-bridge replays declare the bridge failed. -/
  | dieBridgeFailure (good : Option (Fin 8) := none)
  /-- BATSEL_NO_CURRENT (R393). No discharge current appears within 1 ms of BATSEL, and event 0x6001 is raised. -/
  | batselNoCurrent
  /-- PACK_RESISTANCE_MEASURED (R406). A measurement taken 5 ms after a BATSEL step updates LearnedR25. -/
  | packResistanceMeasured (resistance : Nat)
  /-- GAUGE_SAMPLE (R398). At each sample the cell, pack and thermistor inputs update SOC_cc, SOC_v and the pack class. -/
  | gaugeSample (reading : GaugeReading)
  /-- PACK_ABSENT (R396). The pack voltage stays below 4,000 mV for 1 s, so the pack is Absent and E_b is 0. -/
  | packAbsent
  /-- REST_POINT (R399). Thirty minutes of rest re-anchor SOC_cc to SOC_ocv, check disagreement and may accept a capacity learning. -/
  | restPoint
  /-- LEARNING_RECORD_WRITE (R408). Within 1 s of an acceptance the learning record is journalled, deferred while the pack is weak. -/
  | learningRecordWrite
  /-- ENERGY_RECOMPUTE (R403). Every 1 s the gauge recomputes E_b from SOC_p and the resistance. -/
  | energyRecompute
  /-- RELEARN (R405). The Relearn command forces a re-learning. -/
  | relearn (q : Req)
  /-- MONITOR_SAMPLE (R410). Every 1 s the 96 ageing monitors are sampled and drift is computed. -/
  | monitorSample (readings : List MonitorReading)
  /-- REPLAN (R413). A re-plan changes VTRIM, island clocks, refresh multipliers, retry order and K_r when due and permitted. -/
  | replan (cause : Fin 4)
  /-- REPLAN_DUE (R411). ReplanPeriod elapses or drift exceeds DriftTrigger, and a re-plan runs or is deferred. -/
  | replanDue
  /-- REPLAN_NOW (R411). The ReplanNow command requests a re-plan. -/
  | replanNow (q : Req)
  /-- VTRIM_STEP (R417). Every 10 ms VTRIM moves one 5 mV step toward the requested offset. -/
  | vtrimStep
  /-- DAY_COUNT (R415). A whole day passes, and DaysSinceLearning is recorded and K_r is recomputed. -/
  | dayCount
  /-- THERMAL_THRESHOLD (R610). A die reaches 100 °C or its maximum, and event 0x6310 or 0x6311 is raised. -/
  | thermalThreshold (mainDie : Bool) (temp : Int)
  /-- EFLASH_OPERATION_COMPLETE (R504). An embedded-flash program or erase finishes, waiting reads proceed and a latched reset may apply. -/
  | eflashOperationComplete
  /-- EFLASH_RECORD_WRITE (R514). A record is programmed, read back and marked Valid, or retried in the next slot. -/
  | eflashRecordWrite (region : Fin 4) (type : BitVec 16) (key : BitVec 32) (payload : List Byte) (mismatches : Nat)
  /-- EFLASH_SECTOR_ERASE (R521). A sector erase runs with intent and completion words, verification and retirement. -/
  | eflashSectorErase (sector : Fin 4096) (passAt : Option (Fin 3))
  /-- JOURNAL_COMPACTION (R516). When free sectors run low, the oldest journal sector's current records are rewritten and the sector is erased. -/
  | journalCompaction
  /-- MARGIN_READ_DUE (R508). Every 720 h the mark words are margin-read and weak records are rewritten. -/
  | marginReadDue (weak : List (Nat × Nat))
  /-- BLOCK_PART (R532). A write to BlockPart stores 1,024 bytes in the session's block buffer. -/
  | blockPart (q : Req) (bytes : List Byte)
  /-- SUBMIT_BLOCK (R533). The SubmitBlock command checks and stores a package block. -/
  | submitBlock (q : Req)
  /-- UPDATE_ABORT (R535). The Abort command drops the package and the transfer area. -/
  | updateAbort (q : Req)
  /-- APPLY (R535). The Apply command starts rebuilding the inactive bank from a received package. -/
  | applyPackage (q : Req)
  /-- APPLY_SECTOR_COMPLETE (R537). One bank sector is assembled, erased, programmed, verified and journalled, and the next sector starts. -/
  | applySectorComplete (readBacks : List Bool)
  /-- BANK_VERIFICATION_COMPLETE (R539). The inactive bank's digest and signatures are checked, and the bank becomes verified or rejected. -/
  | bankVerificationComplete (digestOk signatureOk regionsOk : Bool)
  /-- SCHEDULE (R540). The Schedule command sets a departure time and mode. -/
  | schedule (q : Req) (time : BitVec 64) (mode : BitVec 8)
  /-- SCHEDULE_CANCEL (R535). The Cancel command returns the update state from Scheduled to Verified. -/
  | scheduleCancel (q : Req)
  /-- TRIAL_CONFIRMATION (R545). ConfirmPeriod of SERVICE time passes without a rollback cause, so the bank record clears TRIAL. -/
  | trialConfirmation
  /-- ROLLBACK (R547). The Rollback command schedules activation of the inactive verified bank. -/
  | rollback (q : Req)
  /-- LOGBOOK_RECORD (R560). An event occurrence is merged into an existing record or creates a new record, freeing older ones, and may be delivered to hosts. -/
  | logbookRecord
  /-- LOGBOOK_MIRROR (R564). Within 100 ms a FAULT or FATAL record is mirrored into the logbook summary. -/
  | logbookMirror
  /-- CLEAR_FATAL (R563). The ClearFatal command clears one or all FATAL records. -/
  | clearFatal (q : Req) (seq : BitVec 64)
  /-- COUNTER_SOURCE_WRITE (R573). A write of a counter's Source or Qualifier zeroes it and changes what it counts. -/
  | counterSourceWrite (q : Req) (sub : BitVec 8) (value : BitVec 16)
  /-- COUNTER_OVERFLOW (R574). A counter overflows, loads Preset and, when sampling is enabled, writes a sample and sends an MSI-X message. -/
  | counterOverflow (n : Fin 1024)
  /-- COUNTER_SNAPSHOT (R575). The Snapshot command captures all 1,024 counters at one instant. -/
  | counterSnapshot (q : Req)
  /-- TICKET_SEED_WRITE (R576). A write of Seed reloads both ports' ticket LFSRs. -/
  | ticketSeedWrite (q : Req) (seed : BitVec 32)
  /-- TICKET_CLEAR (R579). The Clear command empties the ticket buffer. -/
  | ticketClear (q : Req)
  /-- PERTURBATION_UNLOCK (R581). The Unlock command unlocks test perturbation in MAINTENANCE. -/
  | perturbationUnlock (q : Req) (unit : BitVec 64) (word : BitVec 32)
  /-- PERTURBATION_ARM (R582). The Arm command applies every perturbation entry within 10 µs. -/
  | perturbationArm (q : Req)
  /-- PERTURBATION_DISARM (R582). The Disarm command returns every perturbation setting to zero. -/
  | perturbationDisarm (q : Req)
  /-- TEST_NOTIFY (R475). The TestNotify command queues a Host Notify message for a given event code. -/
  | testNotify (q : Req) (code : BitVec 16)
  /-- REVERT_COMPLETE (R185). A revert has applied every snapshot record, so the carriage's term ends with the reverted content as its new snapshot, and event 0x2304 is raised. -/
  | revertComplete (id : BitVec 16)
  /-- STRIPE_REBUILD_COMPLETE (R333). The rebuild and relocation of a lost channel's or retired die's stripe units finishes, and the group is no longer degraded. -/
  | stripeRebuildComplete (c : Fc)
  /-- TWO_WIRE_WRITE (R466). A two-wire write transaction sets the pointer and stores window bytes, which take effect at its end. -/
  | twoWireWrite (bytes : List Byte)
  /-- TWO_WIRE_READ (R467). A two-wire read transaction returns window bytes from the pointer, latching the snapshot. -/
  | twoWireRead (count : Nat)
  /-- QUICK_COMMAND (R465). A Quick Command to the port's address is acknowledged and has no effect. -/
  | quickCommand
  /-- TWO_WIRE_BUS_CONDITION (R472). A START, repeated START or STOP at an unexpected point ends or changes the transaction. -/
  | twoWireBusCondition (at' : BusCondition) (bytes : List Byte)
  /-- PROXY_SUBMIT (R486). PXCTRL 0x01 passes the proxy buffer to ZOP as one request, or enters Error. -/
  | proxySubmit
  /-- PROXY_RESPONSE_READY (R486). The proxy's ZOP response frame is placed in its buffer and PXSTAT becomes Ready. -/
  | proxyResponseReady
  /-- PROXY_CLEAR (R486). PXCTRL 0x02 zeroes the proxy buffer and returns it to Idle. -/
  | proxyClear
  /-- WINDOW_SNAPSHOT_REFRESH (R469). Every 10 ms the stationmaster refreshes the identity and battery snapshot ranges. -/
  | windowSnapshotRefresh
  /-- STRETCH_LIMIT_EXPIRY (R471). A stretch reaches 1 ms in a bounded mode, so the port serves the previous snapshot and marks it STALE. -/
  | stretchLimitExpiry (second : Bool)
  /-- SMBUS_CLOCK_LOW_TIMEOUT (R471). SCL held low by another device for tTIMEOUT makes the port abandon the transaction. -/
  | smbusClockLowTimeout
  /-- HOST_NOTIFY_SEND (R474). With a message queued and the bus free, the port sends a Host Notify message or an MCTP packet as controller. -/
  | hostNotifySend (acknowledged : Bool)
  /-- ARBITRATION_LOST (R476). The port samples SDA low while sending a 1, stops sending and counts the loss. -/
  | arbitrationLost (inAddress : Bool)
  /-- HOST_NOTIFY_RETRY (R477). The backoff after a lost or unacknowledged attempt expires, and the message is resent or dropped. -/
  | hostNotifyRetry
  /-- RELEASE_COMPARATOR_CROSSING (R391). PFSENSE crosses the effective ReleaseLevel, or PWRFAIL_N returns high, which starts or restarts the Release hold count from 0. -/
  | releaseComparatorCrossing (rail : Nat) (pwrfailHigh : Bool)
  /-- CONFIGURATION_REQUEST (R65). A CXL.io configuration request reaches a port; it is answered with Configuration Request Retry Status before BOOT step t2, and afterwards reads or programs configuration space such as the HDM decoders and the DVSECs. -/
  | configurationRequest (p : Port) (r : ConfigRequest)
  /-- TAP_INSTRUCTION (R603). A JTAG TAP sequence on TCK, TMS and TDI, or TRST_N, selects and executes BYPASS, IDCODE, SAMPLE/PRELOAD or EXTEST-type instructions, or resets the TAP. -/
  | tapInstruction (chosen : TapInstruction)
  /-- SELF_CHECK_FAILURE (R15). A block such as a port controller, DRAM channel controller or flash channel controller fails its own self-check, and its prefect fences, freezes (cause 8) or takes it out of service (cause 3). -/
  | selfCheckFailure (b : SelfCheckBlock)
  /-- PORTER_MEMORY_ERROR (R37). An uncorrectable error in porter memory resets that porter and starts the reload of its image, and event 0x6211 is raised. -/
  | porterMemoryError (pt : Pt)
  /-- EXPRESS_PANIC_HELD (R97). Express panic has been held for longer than 1 ms, and event 0x1021 is raised. -/
  | expressPanicHeld (p : Port)
  /-- REPLAN_DEFERRAL_OVERDUE (R411). A due re-plan has waited more than 24 h with Deferred set, and event 0x6031 is raised. -/
  | replanDeferralOverdue
  deriving DecidableEq, Repr

end Sys2Proof
end

