-- ==== Sys2Proof/Config.lean ====
section
/-! DEFINITION. What the manual leaves open: values no rule fixes, as constants without a body, so that no proof can
rest on one (log 2, 3, 4). The argument is the model's counter of free values taken, or the data the value depends on. -/
namespace Sys2Proof.Config

/-- The n-th free value of `w` bits: a result the manual leaves open, a random number, a time stamp within its bound. -/
opaque freeBits (w n : Nat) : BitVec w

/-- What XTS decryption under the wrong key or tweak gives for line `line` of a page: nothing the manual fixes (R357).
`key` and `tweak` name what is used, `image` what lies there. -/
opaque garbledLine (key tweak image line : Nat) : BitVec 512

/-- Byte `n` of sector `sector` of a factory bank image (R526). -/
opaque factoryByte (bank sector n : Nat) : BitVec 8

/-- What the stationmaster reads at an address whose content no rule gives (R491): mask ROM, factory area, unused data SRAM. -/
opaque coreByte (address : Nat) : BitVec 8

/-- The fixed hash that selects bank and set of a translation-cache line, which software cannot see (R137): the number from
which the bank is taken, the one from which the set is taken, and the one that places a line of a quarantined bank among
the remaining banks (R140). -/
opaque cacheBank (line : Nat) : Nat
opaque cacheSet (line : Nat) : Nat
opaque cacheRemap (line : Nat) : Nat

/-- The devices' RAA initial management threshold, which DDR5 defines and the manual does not state (R294). -/
opaque raaThreshold : Nat

end Sys2Proof.Config
end

