-- ==== Sys2Proof/Machine/Events.lean ====
section
/-! DEFINITION. The event codes of every chapter, with the severity its table gives (R13, R555) and, for a code
whose chapter states a rate limit, the period of that limit in ns (R560). -/
namespace Sys2Proof.Machine

/-- One row of an event-code table. `period` is 0 for a code without a rate limit. -/
structure EventRow where
  code : Nat
  severity : Nat
  period : Nat
  deriving DecidableEq, Repr

/-- Codes 0x1xxx (03_host_ports.md R115). -/
def events1 : List EventRow := [
  EventRow.mk 0x1001 0 0,
  EventRow.mk 0x1002 1 0,
  EventRow.mk 0x1003 0 0,
  EventRow.mk 0x1010 2 0,
  EventRow.mk 0x1011 1 0,
  EventRow.mk 0x1020 0 1000000000,
  EventRow.mk 0x1021 1 0,
  EventRow.mk 0x1030 1 0,
  EventRow.mk 0x1031 1 0,
  EventRow.mk 0x1032 0 0,
  EventRow.mk 0x1040 1 1000000000,
  EventRow.mk 0x1041 1 1000000000,
  EventRow.mk 0x1050 2 0,
  EventRow.mk 0x1051 0 0,
  EventRow.mk 0x1060 0 0,
  EventRow.mk 0x1061 1 0,
  EventRow.mk 0x1070 2 0,
  EventRow.mk 0x1080 2 0]

/-- Codes 0x2xxx (04_carriages_and_translation.md R158, 05_depot_sidings_terms.md R199, 06_residue_and_flush.md R234, 07_save_and_restore.md R279). -/
def events2 : List EventRow := [
  EventRow.mk 0x2001 0 0,
  EventRow.mk 0x2002 0 0,
  EventRow.mk 0x2003 0 0,
  EventRow.mk 0x2010 1 0,
  EventRow.mk 0x2011 1 0,
  EventRow.mk 0x2012 2 1000000000,
  EventRow.mk 0x2013 2 1000000000,
  EventRow.mk 0x2014 2 0,
  EventRow.mk 0x2015 2 0,
  EventRow.mk 0x2020 2 0,
  EventRow.mk 0x2021 1 0,
  EventRow.mk 0x2031 2 0,
  EventRow.mk 0x2032 1 0,
  EventRow.mk 0x2040 1 1000000000,
  EventRow.mk 0x2041 0 0,
  EventRow.mk 0x2050 2 1000000000,
  EventRow.mk 0x2051 1 0,
  EventRow.mk 0x2052 1 0,
  EventRow.mk 0x2053 2 1000000000,
  EventRow.mk 0x2101 0 0,
  EventRow.mk 0x2102 0 0,
  EventRow.mk 0x2103 1 0,
  EventRow.mk 0x2104 2 0,
  EventRow.mk 0x2105 1 0,
  EventRow.mk 0x2106 2 0,
  EventRow.mk 0x2110 1 1000000000,
  EventRow.mk 0x2111 2 1000000000,
  EventRow.mk 0x2201 0 0,
  EventRow.mk 0x2202 0 0,
  EventRow.mk 0x2203 0 0,
  EventRow.mk 0x2204 1 0,
  EventRow.mk 0x2301 0 0,
  EventRow.mk 0x2302 1 0,
  EventRow.mk 0x2303 1 0,
  EventRow.mk 0x2304 0 0,
  EventRow.mk 0x2401 0 0,
  EventRow.mk 0x2402 0 0,
  EventRow.mk 0x2403 2 0,
  EventRow.mk 0x2502 1 10000000000,
  EventRow.mk 0x2503 1 0,
  EventRow.mk 0x2601 0 10000000000,
  EventRow.mk 0x2602 1 10000000000,
  EventRow.mk 0x2603 2 0,
  EventRow.mk 0x2604 0 0,
  EventRow.mk 0x2605 1 1000000000,
  EventRow.mk 0x2606 0 0,
  EventRow.mk 0x2610 1 0,
  EventRow.mk 0x2611 0 0,
  EventRow.mk 0x2701 0 0,
  EventRow.mk 0x2702 1 0,
  EventRow.mk 0x2703 1 0,
  EventRow.mk 0x2704 1 0,
  EventRow.mk 0x2801 1 0,
  EventRow.mk 0x2802 0 0,
  EventRow.mk 0x2803 1 0,
  EventRow.mk 0x2804 0 0,
  EventRow.mk 0x2805 0 1000000000,
  EventRow.mk 0x2810 0 0,
  EventRow.mk 0x2811 2 0,
  EventRow.mk 0x2812 1 0,
  EventRow.mk 0x2813 2 0,
  EventRow.mk 0x2814 1 0,
  EventRow.mk 0x2815 1 0,
  EventRow.mk 0x2820 0 0,
  EventRow.mk 0x2821 0 0,
  EventRow.mk 0x2822 0 0,
  EventRow.mk 0x2823 0 0,
  EventRow.mk 0x2824 1 0,
  EventRow.mk 0x2825 2 0,
  EventRow.mk 0x2826 3 0,
  EventRow.mk 0x2827 0 0,
  EventRow.mk 0x2828 0 0,
  EventRow.mk 0x2829 2 0]

/-- Codes 0x3xxx (08_dram_controller.md R320). -/
def events3 : List EventRow := [
  EventRow.mk 0x3001 0 0,
  EventRow.mk 0x3002 2 0,
  EventRow.mk 0x3003 2 0,
  EventRow.mk 0x3010 0 1000000000,
  EventRow.mk 0x3011 1 0,
  EventRow.mk 0x3012 1 0,
  EventRow.mk 0x3013 1 1000000000,
  EventRow.mk 0x3021 1 60000000000,
  EventRow.mk 0x3030 0 0,
  EventRow.mk 0x3040 2 0,
  EventRow.mk 0x3041 0 0,
  EventRow.mk 0x3042 0 0,
  EventRow.mk 0x3043 2 0,
  EventRow.mk 0x3044 1 1000000000,
  EventRow.mk 0x3050 0 0,
  EventRow.mk 0x3060 0 0]

/-- Codes 0x4xxx (09_flash_tier.md R350). -/
def events4 : List EventRow := [
  EventRow.mk 0x4001 0 0,
  EventRow.mk 0x4002 2 0,
  EventRow.mk 0x4003 1 0,
  EventRow.mk 0x4004 0 0,
  EventRow.mk 0x4010 0 1000000000,
  EventRow.mk 0x4011 1 0,
  EventRow.mk 0x4012 2 0,
  EventRow.mk 0x4013 2 0,
  EventRow.mk 0x4020 1 0,
  EventRow.mk 0x4021 1 0,
  EventRow.mk 0x4022 2 0,
  EventRow.mk 0x4023 1 0,
  EventRow.mk 0x4030 1 0,
  EventRow.mk 0x4031 2 0,
  EventRow.mk 0x4032 0 0,
  EventRow.mk 0x4040 1 0,
  EventRow.mk 0x4041 2 0,
  EventRow.mk 0x4042 0 0,
  EventRow.mk 0x4050 1 0,
  EventRow.mk 0x4051 2 0,
  EventRow.mk 0x4052 2 0]

/-- Codes 0x5xxx (10_cipher_and_keys.md R386). -/
def events5 : List EventRow := [
  EventRow.mk 0x5001 0 0,
  EventRow.mk 0x5002 0 0,
  EventRow.mk 0x5003 1 0,
  EventRow.mk 0x5004 2 0,
  EventRow.mk 0x5010 0 0,
  EventRow.mk 0x5011 1 0,
  EventRow.mk 0x5012 2 0,
  EventRow.mk 0x5013 1 0,
  EventRow.mk 0x5020 1 0,
  EventRow.mk 0x5021 2 0,
  EventRow.mk 0x5022 0 0,
  EventRow.mk 0x5023 2 0,
  EventRow.mk 0x5030 2 0,
  EventRow.mk 0x5031 3 0,
  EventRow.mk 0x5032 3 0,
  EventRow.mk 0x5040 1 1000000000,
  EventRow.mk 0x5041 1 0]

/-- Codes 0x6xxx (11_power_battery_ageing.md R423, 13_management_bus.md R490, 14_cores_and_embedded_flash.md R525, 17_electrical_and_package.md R618). -/
def events6 : List EventRow := [
  EventRow.mk 0x6001 1 0,
  EventRow.mk 0x6010 0 3600000000000,
  EventRow.mk 0x6011 1 0,
  EventRow.mk 0x6012 0 0,
  EventRow.mk 0x6013 1 0,
  EventRow.mk 0x6014 1 0,
  EventRow.mk 0x6015 2 0,
  EventRow.mk 0x6016 1 3600000000000,
  EventRow.mk 0x6017 1 3600000000000,
  EventRow.mk 0x6019 2 0,
  EventRow.mk 0x6020 0 0,
  EventRow.mk 0x6030 0 0,
  EventRow.mk 0x6031 1 0,
  EventRow.mk 0x6032 1 0,
  EventRow.mk 0x6033 2 0,
  EventRow.mk 0x6034 0 0,
  EventRow.mk 0x6101 0 60000000000,
  EventRow.mk 0x6102 1 0,
  EventRow.mk 0x6103 0 60000000000,
  EventRow.mk 0x6104 1 1000000000,
  EventRow.mk 0x6105 0 60000000000,
  EventRow.mk 0x6106 0 0,
  EventRow.mk 0x6201 0 60000000000,
  EventRow.mk 0x6202 1 0,
  EventRow.mk 0x6203 1 0,
  EventRow.mk 0x6204 1 0,
  EventRow.mk 0x6205 2 0,
  EventRow.mk 0x6206 0 0,
  EventRow.mk 0x6207 1 0,
  EventRow.mk 0x6208 2 0,
  EventRow.mk 0x6210 1 0,
  EventRow.mk 0x6211 1 0,
  EventRow.mk 0x6212 3 0,
  EventRow.mk 0x6301 2 0,
  EventRow.mk 0x6302 1 0,
  EventRow.mk 0x6310 1 60000000000,
  EventRow.mk 0x6311 2 60000000000,
  EventRow.mk 0x6320 1 0]

/-- Codes 0x7xxx (12_object_dictionary.md R461, 15_firmware_update.md R553). -/
def events7 : List EventRow := [
  EventRow.mk 0x7001 0 0,
  EventRow.mk 0x7002 0 0,
  EventRow.mk 0x7003 2 0,
  EventRow.mk 0x7004 1 0,
  EventRow.mk 0x7005 0 0,
  EventRow.mk 0x7010 1 1000000000,
  EventRow.mk 0x7011 1 1000000000,
  EventRow.mk 0x7012 0 0,
  EventRow.mk 0x7013 1 0,
  EventRow.mk 0x7014 0 0,
  EventRow.mk 0x7101 0 0,
  EventRow.mk 0x7102 1 1000000000,
  EventRow.mk 0x7103 0 0,
  EventRow.mk 0x7104 0 0,
  EventRow.mk 0x7110 0 0,
  EventRow.mk 0x7111 0 0,
  EventRow.mk 0x7112 0 0,
  EventRow.mk 0x7113 2 0,
  EventRow.mk 0x7120 0 0,
  EventRow.mk 0x7121 0 0,
  EventRow.mk 0x7122 0 0,
  EventRow.mk 0x7123 0 0,
  EventRow.mk 0x7124 2 0,
  EventRow.mk 0x7125 0 0,
  EventRow.mk 0x7130 0 0,
  EventRow.mk 0x7131 1 0]

/-- Codes 0x8xxx (01_regions_and_islands.md R46, 02_operating_modes.md R73, 16_logbook_and_counters.md R588). -/
def events8 : List EventRow := [
  EventRow.mk 0x8001 0 0,
  EventRow.mk 0x8002 1 0,
  EventRow.mk 0x8003 0 0,
  EventRow.mk 0x8004 1 0,
  EventRow.mk 0x8010 1 0,
  EventRow.mk 0x8011 1 0,
  EventRow.mk 0x8012 2 0,
  EventRow.mk 0x8020 2 0,
  EventRow.mk 0x8021 3 0,
  EventRow.mk 0x8030 0 0,
  EventRow.mk 0x8031 0 0,
  EventRow.mk 0x8032 0 0,
  EventRow.mk 0x8101 0 1000000000,
  EventRow.mk 0x8102 2 0,
  EventRow.mk 0x8103 3 0,
  EventRow.mk 0x8110 1 0,
  EventRow.mk 0x8120 1 0,
  EventRow.mk 0x8121 2 0,
  EventRow.mk 0x8122 2 0,
  EventRow.mk 0x8125 1 0,
  EventRow.mk 0x8130 0 1000000000,
  EventRow.mk 0x8131 3 0,
  EventRow.mk 0x8140 1 0,
  EventRow.mk 0x8141 2 0,
  EventRow.mk 0x8201 1 60000000000,
  EventRow.mk 0x8202 0 0,
  EventRow.mk 0x8203 0 0,
  EventRow.mk 0x8204 1 3600000000000,
  EventRow.mk 0x8210 0 0,
  EventRow.mk 0x8220 0 0,
  EventRow.mk 0x8221 0 0,
  EventRow.mk 0x8222 0 0,
  EventRow.mk 0x8223 1 0]

/-- The table of the region named by bits [15:12] of a code (R13); a code of another region is never raised (R14). -/
def eventsOf (code : Nat) : List EventRow :=
  match code / 4096 with
  | 1 => events1 | 2 => events2 | 3 => events3 | 4 => events4
  | 5 => events5 | 6 => events6 | 7 => events7 | 8 => events8
  | _ => []

/-- The row of a code. -/
def findEvent (code : Nat) : Option EventRow := (eventsOf code).find? (fun r => r.code == code)

/-- The severity of a code: 0 NOTE, 1 WARN, 2 FAULT, 3 FATAL (R555). -/
def severityOf (code : Nat) : Nat := match findEvent code with | some r => r.severity | none => 0

/-- The bytes of DETAIL that name the instance for which a rate limit holds, where DETAIL gives more than the instance: R86 limits
event 0x1040 per LD and R452 event 0x7011 per session, and the others listed are limited in all (R142, R208, R218, R219, R399, R507, R533;
DEDUCED, log 174). -/
def rateScope (code : Nat) : Nat :=
  match code with
  | 0x1040 => 1 | 0x7011 => 2
  | 0x2053 => 0 | 0x2502 => 0 | 0x2601 => 0 | 0x2602 => 0 | 0x2605 => 0 | 0x6010 => 0 | 0x6201 => 0 | 0x7102 => 0
  | _ => 8

/-- The period of the rate limit of a code in ns; 0 when its chapter states none (R560). -/
def ratePeriod (code : Nat) : Nat := match findEvent code with | some r => r.period | none => 0

end Sys2Proof.Machine
end

