-- ==== Sys2Proof/Machine/Dictionary.lean ====
section
/-! DEFINITION. The object dictionary (12, R424 to R453): every object of every index the map of R453 lists,
with the type, access code, default, bounds and descriptor flags its chapter's table gives it. -/
namespace Sys2Proof.Machine

/-- The types of R425. -/
inductive OType where
  | bool | u8 | u16 | u32 | u64 | s8 | s16 | s32 | s64 | time64 | str | blob | key | cmd
  deriving DecidableEq, Repr

/-- The access codes of R427. -/
inductive Access where
  | ro | rw | wo | rws | rwi | cmd
  deriving DecidableEq, Repr

/-- One object of the dictionary. `minLen` and `maxLen` bound its payload (R426), `lo` and `hi` are the outer
bounds of a numeric type (R442), `dflt` is 0 where the table prints a dash (R434). -/
structure ObjRow where
  sub : Nat
  name : String
  type : OType
  access : Access
  dflt : Nat
  lo : Int
  hi : Int
  minLen : Nat
  maxLen : Nat
  persistent : Bool
  selector : Bool
  maintOnly : Bool
  deferred : Bool
  deriving DecidableEq, Repr

/-- The objects of one index, or of each of `count` indices spaced by `stride` (R424). -/
structure IndexRow where
  base : Nat
  count : Nat
  stride : Nat
  rows : List ObjRow
  deriving DecidableEq, Repr

/-- A row without descriptor flags: read-only objects and commands. -/
def objPlain (sub : Nat) (name : String) (t : OType) (a : Access) (d : Nat) (lo hi : Int) (n m : Nat) : ObjRow :=
  ObjRow.mk sub name t a d lo hi n m false false false false

/-- A row whose `flags` are bits 0 (persistent), 1 (selector), 3 (MAINTENANCE only) and 4 (deferred) of the
FLAGS byte of R442; bit 2 is a property of the index (`heldInSignalBox`). -/
def objRow (sub : Nat) (name : String) (t : OType) (a : Access) (d : Nat) (lo hi : Int) (n m flags : Nat) : ObjRow :=
  ObjRow.mk sub name t a d lo hi n m (flags.testBit 0) (flags.testBit 1) (flags.testBit 3) (flags.testBit 4)

/-- Index 0x1000 (12_object_dictionary.md, R454). -/
def rows1000 : List ObjRow := [
  objPlain 0x00 "HighestSub" .u8 .ro 10 0 255 1 1,
  objPlain 0x01 "Vendor" .str .ro 0 0 0 0 32,
  objPlain 0x02 "Part" .str .ro 0 0 0 0 16,
  objPlain 0x03 "Stepping" .str .ro 0 0 0 0 4,
  objPlain 0x04 "UnitId" .u64 .ro 0 0 18446744073709551615 8 8,
  objPlain 0x05 "FirmwareVersions" .blob .ro 0 0 0 32 32,
  objPlain 0x06 "PciVendorId" .u16 .ro 0 0 65535 2 2,
  objPlain 0x07 "Family" .str .ro 0 0 0 0 16,
  objPlain 0x08 "Product" .str .ro 0 0 0 0 16,
  objPlain 0x09 "ManufactureTime" .time64 .ro 0 0 18446744073709551615 8 8,
  objPlain 0x0A "DictionaryVersion" .u16 .ro 1 0 65535 2 2]

/-- Index 0x1010 (12_object_dictionary.md, R456). -/
def rows1010 : List ObjRow := [
  objPlain 0x00 "HighestSub" .u8 .ro 3 0 255 1 1,
  objRow 0x01 "Now" .time64 .rw 0 0 18446744073709551615 8 8 0,
  objPlain 0x02 "TimeValid" .bool .ro 0 0 1 1 1,
  objPlain 0x03 "LastSet" .time64 .ro 0 0 18446744073709551615 8 8]

/-- Index 0x1100 (12_object_dictionary.md, R457). -/
def rows1100 : List ObjRow := [
  objPlain 0x00 "HighestSub" .u8 .ro 7 0 255 1 1,
  objPlain 0x01 "Mode" .u8 .ro 0 0 255 1 1,
  objPlain 0x02 "Request" .cmd .cmd 0 0 0 1 1,
  objPlain 0x03 "LastCause" .u8 .ro 0 0 255 1 1,
  objPlain 0x04 "PreviousMode" .u8 .ro 0 0 255 1 1,
  objPlain 0x05 "LastTransition" .time64 .ro 0 0 18446744073709551615 8 8,
  objPlain 0x06 "BootFailures" .u8 .ro 0 0 255 1 1,
  objPlain 0x07 "BootFailStep" .u8 .ro 0 0 255 1 1]

/-- Index 0x1200 (12_object_dictionary.md, R459). -/
def rows1200 : List ObjRow := [
  objPlain 0x00 "HighestSub" .u8 .ro 3 0 255 1 1,
  objRow 0x01 "VdmAccess" .u8 .rw 3 0 3 1 1 1,
  objRow 0x02 "SmbusAccess" .u8 .rw 3 0 3 1 1 1,
  objRow 0x03 "ProxyAccess" .u8 .rw 3 0 3 1 1 1]

/-- Index 0x1F00 (12_object_dictionary.md, R460). -/
def rows1F00 : List ObjRow := [
  objPlain 0x00 "HighestSub" .u8 .ro 11 0 255 1 1,
  objPlain 0x01 "Commit" .cmd .cmd 0 0 0 1 1,
  objPlain 0x02 "PendingCount" .u16 .ro 0 0 65535 2 2,
  objPlain 0x03 "ApplyPoint" .u8 .ro 255 0 255 1 1,
  objPlain 0x04 "Discard" .cmd .cmd 0 0 0 0 0,
  objPlain 0x05 "CommittedCount" .u16 .ro 0 0 65535 2 2,
  objRow 0x06 "Cursor" .u16 .rw 0 0 65535 2 2 2,
  objPlain 0x07 "Entry" .blob .ro 0 0 0 0 1024,
  objPlain 0x08 "LastApplied" .time64 .ro 0 0 18446744073709551615 8 8,
  objPlain 0x09 "LastApplyResult" .u8 .ro 0 0 255 1 1,
  objPlain 0x0A "LastRejected" .u32 .ro 0 0 4294967295 4 4,
  objPlain 0x0B "LastResult" .u8 .ro 0 0 255 1 1]

/-- Index 0x2000 (03_host_ports.md, R111). -/
def rows2000 : List ObjRow := [
  objPlain 0x00 "HighestSub" .u8 .ro 13 0 255 1 1,
  objPlain 0x01 "LinkState" .u8 .ro 0 0 255 1 1,
  objPlain 0x02 "Rate" .u8 .ro 0 0 255 1 1,
  objPlain 0x03 "Width" .u8 .ro 0 0 255 1 1,
  objRow 0x04 "MaxWidth" .u8 .rw 16 8 16 1 1 17,
  objPlain 0x05 "FlitMode" .u8 .ro 0 0 255 1 1,
  objPlain 0x06 "Topology" .u8 .ro 0 0 255 1 1,
  objRow 0x07 "ReqCredits" .u16 .rw 2560 0 65535 2 2 17,
  objRow 0x08 "RwDCredits" .u16 .rw 1536 0 65535 2 2 17,
  objPlain 0x09 "IdeState" .u8 .ro 0 0 255 1 1,
  objPlain 0x0A "SurpriseDowns" .u32 .ro 0 0 4294967295 4 4,
  objPlain 0x0B "PerstCount" .u32 .ro 0 0 4294967295 4 4,
  objPlain 0x0C "MemAdmitted" .bool .ro 0 0 1 1 1,
  objPlain 0x0D "FenceCause" .u8 .ro 0 0 255 1 1]

/-- Index 0x2400 (03_host_ports.md, R112). -/
def rows2400 : List ObjRow := [
  objPlain 0x00 "HighestSub" .u8 .ro 10 0 255 1 1,
  objRow 0x01 "Enabled" .bool .rw 0 0 1 1 1 1,
  objPlain 0x02 "Port" .u8 .ro 0 0 255 1 1,
  objRow 0x03 "WindowSize" .u64 .rw 0 0 4503599627370496 8 8 1,
  objRow 0x04 "Class" .u8 .rwi 2 0 3 1 1 1,
  objRow 0x05 "AllocatedBw" .u8 .rw 16 0 255 1 1 1,
  objRow 0x06 "BwLimit" .u8 .rw 255 0 255 1 1 1,
  objRow 0x07 "MgmtAccess" .u8 .rw 1 0 3 1 1 1,
  objPlain 0x08 "ShutdownState" .u8 .ro 0 0 255 1 1,
  objPlain 0x09 "Couplings" .u16 .ro 0 0 65535 2 2,
  objPlain 0x0A "RefusedAccesses" .u32 .ro 0 0 4294967295 4 4]

/-- Index 0x2500 (03_host_ports.md, R113). -/
def rows2500 : List ObjRow := [
  objPlain 0x00 "HighestSub" .u8 .ro 6 0 255 1 1,
  objRow 0x01 "CursorLd" .u8 .rw 0 0 31 1 1 2,
  objRow 0x02 "Cursor" .u16 .rw 0 0 4095 2 2 2,
  objPlain 0x03 "Entry" .blob .ro 0 0 0 16 16,
  objPlain 0x04 "Couple" .cmd .cmd 0 0 0 17 17,
  objPlain 0x05 "Uncouple" .cmd .cmd 0 0 0 9 9,
  objPlain 0x06 "LastResult" .u8 .ro 0 0 255 1 1]

/-- Index 0x2600 (03_host_ports.md, R114). -/
def rows2600 : List ObjRow := [
  objPlain 0x00 "HighestSub" .u8 .ro 15 0 255 1 1,
  objRow 0x01 "WeightInteractive" .u8 .rwi 8 1 32 1 1 1,
  objRow 0x02 "WeightStandard" .u8 .rwi 4 1 32 1 1 1,
  objRow 0x03 "WeightBackground" .u8 .rwi 1 1 32 1 1 1,
  objRow 0x04 "ExpressCap" .u8 .rwi 25 5 50 1 1 1,
  objPlain 0x05 "ExpressEntries" .u16 .ro 512 0 65535 2 2,
  objRow 0x06 "PanicHigh" .u16 .rwi 384 0 512 2 2 1,
  objRow 0x07 "PanicLow" .u16 .rwi 128 0 511 2 2 1,
  objRow 0x08 "PanicAgeHigh" .u32 .rwi 800 0 4294967295 4 4 1,
  objRow 0x09 "PanicAgeLow" .u32 .rwi 400 0 4294967295 4 4 1,
  objRow 0x0A "LoadOptimal" .u8 .rwi 25 1 97 1 1 1,
  objRow 0x0B "LoadModerate" .u8 .rwi 60 2 98 1 1 1,
  objRow 0x0C "LoadSevere" .u8 .rwi 85 3 99 1 1 1,
  objPlain 0x0D "PanicCountHp0" .u32 .ro 0 0 4294967295 4 4,
  objPlain 0x0E "PanicCountHp1" .u32 .ro 0 0 4294967295 4 4,
  objPlain 0x0F "ThrottleState" .u8 .ro 0 0 255 1 1]

/-- Index 0x3000 (04_carriages_and_translation.md, R156). -/
def rows3000 : List ObjRow := [
  objPlain 0x00 "HighestSub" .u8 .ro 17 0 255 1 1,
  objPlain 0x01 "LogicalBytes" .u64 .ro 0x10000000000000 0 18446744073709551615 8 8,
  objPlain 0x02 "ExtentsTotal" .u32 .ro 0x400000 0 4294967295 4 4,
  objPlain 0x03 "ExtentsUsed" .u32 .ro 0 0 4294967295 4 4,
  objPlain 0x04 "ExtentsReserved" .u32 .ro 0 0 4294967295 4 4,
  objPlain 0x05 "FramesTotal" .u32 .ro 0 0 4294967295 4 4,
  objPlain 0x06 "FramesFree" .u32 .ro 0 0 4294967295 4 4,
  objRow 0x07 "FreeLow" .u32 .rwi 262144 65536 4194304 4 4 1,
  objRow 0x08 "TableShare" .u8 .rw 4 1 8 1 1 17,
  objPlain 0x09 "TableNodesUsed" .u32 .ro 0 0 4294967295 4 4,
  objPlain 0x0A "TableNodesTotal" .u32 .ro 0 0 4294967295 4 4,
  objPlain 0x0B "BackingPagesUsed" .u64 .ro 0 0 18446744073709551615 8 8,
  objPlain 0x0C "BackingPagesTotal" .u64 .ro 0 0 18446744073709551615 8 8,
  objRow 0x0D "SpaceWarn" .u8 .rw 90 50 99 1 1 1,
  objRow 0x0E "SpaceCritical" .u8 .rw 95 51 100 1 1 1,
  objPlain 0x0F "PoisonedPages" .u64 .ro 0 0 18446744073709551615 8 8,
  objPlain 0x10 "CarriagesInUse" .u32 .ro 0 0 4294967295 4 4,
  objPlain 0x11 "KeyGenNext" .u32 .ro 1 0 4294967295 4 4]

/-- Index 0x3100 (04_carriages_and_translation.md, R157). -/
def rows3100 : List ObjRow := [
  objPlain 0x00 "HighestSub" .u8 .ro 12 0 255 1 1,
  objRow 0x01 "Cursor" .u16 .rw 0 0 65535 2 2 2,
  objPlain 0x02 "Descriptor" .blob .ro 0 0 0 64 64,
  objPlain 0x03 "Advance" .cmd .cmd 0 0 0 0 0,
  objPlain 0x04 "Create" .cmd .cmd 0 0 0 15 15,
  objPlain 0x05 "Delete" .cmd .cmd 0 0 0 2 2,
  objPlain 0x06 "Resize" .cmd .cmd 0 0 0 6 6,
  objPlain 0x07 "SetSeal" .cmd .cmd 0 0 0 3 3,
  objPlain 0x08 "SetLabel" .cmd .cmd 0 0 0 10 10,
  objPlain 0x09 "ClearPagePoison" .cmd .cmd 0 0 0 6 6,
  objPlain 0x0A "LastResult" .u8 .ro 0 0 255 1 1,
  objPlain 0x0B "LastId" .u16 .ro 0 0 65535 2 2,
  objPlain 0x0C "CommandBusy" .bool .ro 0 0 1 1 1]

/-- Index 0x3400 (05_depot_sidings_terms.md, R195). -/
def rows3400 : List ObjRow := [
  objPlain 0x00 "HighestSub" .u8 .ro 13 0 255 1 1,
  objPlain 0x01 "DepotPages" .u32 .ro 0 0 4294967295 4 4,
  objRow 0x02 "Cursor" .u32 .rw 0 0 4294967295 4 4 2,
  objPlain 0x03 "Entry" .blob .ro 0 0 0 32 32,
  objPlain 0x04 "Admit" .cmd .cmd 0 0 0 11 11,
  objPlain 0x05 "MapDepot" .cmd .cmd 0 0 0 14 14,
  objPlain 0x06 "AdmitExamined" .u32 .ro 0 0 4294967295 4 4,
  objPlain 0x07 "AdmitMerged" .u32 .ro 0 0 4294967295 4 4,
  objPlain 0x08 "AdmitNew" .u32 .ro 0 0 4294967295 4 4,
  objPlain 0x09 "AdmitSkipped" .u32 .ro 0 0 4294967295 4 4,
  objPlain 0x0A "AdmitZeroed" .u32 .ro 0 0 4294967295 4 4,
  objPlain 0x0B "Collisions" .u32 .ro 0 0 4294967295 4 4,
  objPlain 0x0C "AdmitBusy" .bool .ro 0 0 1 1 1,
  objPlain 0x0D "LastResult" .u8 .ro 0 0 255 1 1]

/-- Index 0x3600 (05_depot_sidings_terms.md, R196). -/
def rows3600 : List ObjRow := [
  objPlain 0x00 "HighestSub" .u8 .ro 9 0 255 1 1,
  objPlain 0x01 "Park" .cmd .cmd 0 0 0 2 2,
  objPlain 0x02 "Recall" .cmd .cmd 0 0 0 2 2,
  objRow 0x03 "ParkRate" .u16 .rwi 40 1 220 2 2 1,
  objRow 0x04 "RecallRate" .u16 .rwi 100 1 230 2 2 1,
  objRow 0x05 "ProgressCursor" .u16 .rw 0 0 65535 2 2 2,
  objPlain 0x06 "ProgressDone" .u32 .ro 0 0 4294967295 4 4,
  objPlain 0x07 "ProgressTotal" .u32 .ro 0 0 4294967295 4 4,
  objPlain 0x08 "ParkResidual" .u32 .ro 0 0 4294967295 4 4,
  objPlain 0x09 "LastResult" .u8 .ro 0 0 255 1 1]

/-- Index 0x3700 (05_depot_sidings_terms.md, R197). -/
def rows3700 : List ObjRow := [
  objPlain 0x00 "HighestSub" .u8 .ro 11 0 255 1 1,
  objPlain 0x01 "ImportPublicKey" .blob .ro 0 0 0 97 97,
  objPlain 0x02 "NextExportId" .u64 .ro 1 0 18446744073709551615 8 8,
  objRow 0x03 "TransferRate" .u16 .rwi 20 1 60 2 2 1,
  objPlain 0x04 "Export" .cmd .cmd 0 0 0 109 109,
  objPlain 0x05 "Import" .cmd .cmd 0 0 0 5 5,
  objPlain 0x06 "ExportRecords" .u32 .ro 0 0 4294967295 4 4,
  objPlain 0x07 "ImportRecords" .u32 .ro 0 0 4294967295 4 4,
  objPlain 0x08 "ImportTotal" .u32 .ro 0 0 4294967295 4 4,
  objPlain 0x09 "FailedRecord" .u32 .ro 0xFFFFFFFF 0 4294967295 4 4,
  objPlain 0x0A "ResultId" .u16 .ro 0 0 65535 2 2,
  objPlain 0x0B "LastResult" .u8 .ro 0 0 255 1 1]

/-- Index 0x3800 (05_depot_sidings_terms.md, R198). -/
def rows3800 : List ObjRow := [
  objPlain 0x00 "HighestSub" .u8 .ro 11 0 255 1 1,
  objPlain 0x01 "GlobalTerm" .u64 .ro 0 0 18446744073709551615 8 8,
  objRow 0x02 "GlobalPeriod" .u32 .rw 10000 0 3600000 4 4 17,
  objPlain 0x03 "EndCarriageTerm" .cmd .cmd 0 0 0 2 2,
  objPlain 0x04 "EndGlobalTerm" .cmd .cmd 0 0 0 0 0,
  objRow 0x05 "SnapshotReserve" .u8 .rw 10 0 50 1 1 1,
  objPlain 0x06 "Revert" .cmd .cmd 0 0 0 2 2,
  objPlain 0x07 "SnapshotPages" .u64 .ro 0 0 18446744073709551615 8 8,
  objPlain 0x08 "LastBoundary" .time64 .ro 0 0 18446744073709551615 8 8,
  objRow 0x09 "SnapshotCursor" .u16 .rw 0 0 65535 2 2 2,
  objPlain 0x0A "SnapshotDropped" .bool .ro 0 0 1 1 1,
  objPlain 0x0B "LastResult" .u8 .ro 0 0 255 1 1]

/-- Index 0x4000 (08_dram_controller.md, R316). -/
def rows4000 : List ObjRow := [
  objPlain 0x00 "HighestSub" .u8 .ro 14 0 255 1 1,
  objPlain 0x01 "State" .u8 .ro 0 0 255 1 1,
  objPlain 0x02 "Rate" .u16 .ro 0 0 65535 2 2,
  objPlain 0x03 "Ranks" .u8 .ro 0 0 255 1 1,
  objPlain 0x04 "Density" .u8 .ro 0 0 255 1 1,
  objPlain 0x05 "Capacity" .u64 .ro 0 0 18446744073709551615 8 8,
  objPlain 0x06 "Corrected" .u64 .ro 0 0 18446744073709551615 8 8,
  objPlain 0x07 "Uncorrectable" .u32 .ro 0 0 4294967295 4 4,
  objPlain 0x08 "PoisonedLines" .u32 .ro 0 0 4294967295 4 4,
  objPlain 0x09 "FailedDevices" .blob .ro 0 0 0 16 16,
  objPlain 0x0A "RefreshMultiplier" .u8 .ro 4 0 255 1 1,
  objPlain 0x0B "RefreshGap" .bool .ro 0 0 1 1 1,
  objPlain 0x0C "WriteCrcRetries" .u32 .ro 0 0 4294967295 4 4,
  objPlain 0x0D "NeighbourRefreshes" .u64 .ro 0 0 18446744073709551615 8 8,
  objPlain 0x0E "LastFreezeCause" .u8 .ro 0 0 255 1 1]

/-- Index 0x4100 (08_dram_controller.md, R317). -/
def rows4100 : List ObjRow := [
  objPlain 0x00 "HighestSub" .u8 .ro 10 0 255 1 1,
  objRow 0x01 "SpeedLimit" .u16 .rw 8800 0 65535 2 2 17,
  objRow 0x02 "WriteCrc" .bool .rws 0 0 1 1 1 17,
  objRow 0x03 "ScrubPeriod" .u16 .rwi 24 1 168 2 2 1,
  objRow 0x04 "Population" .blob .rw 0 0 0 4 4 25,
  objPlain 0x05 "ChannelsInService" .u8 .ro 0 0 255 1 1,
  objPlain 0x06 "StoredTrainingValid" .bool .ro 0 0 1 1 1,
  objPlain 0x07 "ForceFullTraining" .cmd .cmd 0 0 0 0 0,
  objPlain 0x08 "FramesPerChannel" .u32 .ro 0 0 4294967295 4 4,
  objPlain 0x09 "FramesTotal" .u32 .ro 0 0 4294967295 4 4,
  objRow 0x0A "ClosePageTimeout" .u16 .rwi 200 50 2000 2 2 1]

/-- Index 0x4200 (08_dram_controller.md, R318). -/
def rows4200 : List ObjRow := [
  objPlain 0x00 "HighestSub" .u8 .ro 9 0 255 1 1,
  objRow 0x01 "Threshold" .u16 .rwi 1024 128 4096 2 2 17,
  objPlain 0x02 "Window" .u32 .ro 32000 0 4294967295 4 4,
  objPlain 0x03 "Mitigation" .u32 .ro 0 0 4294967295 4 4,
  objRow 0x04 "Subchannel" .u8 .rw 0 0 31 1 1 2,
  objRow 0x05 "Cursor" .u16 .rw 0 0 2047 2 2 2,
  objPlain 0x06 "Entry" .blob .ro 0 0 0 12 12,
  objPlain 0x07 "Fallbacks" .u32 .ro 0 0 4294967295 4 4,
  objPlain 0x08 "InFallback" .u32 .ro 0 0 4294967295 4 4,
  objPlain 0x09 "Deferred" .u64 .ro 0 0 18446744073709551615 8 8]

/-- Index 0x4400 (08_dram_controller.md, R319). -/
def rows4400 : List ObjRow := [
  objPlain 0x00 "HighestSub" .u8 .ro 8 0 255 1 1,
  objRow 0x01 "RecordChannel" .u8 .rw 0 0 15 1 1 2,
  objPlain 0x02 "RecordLow" .blob .ro 0 0 0 1024 1024,
  objPlain 0x03 "RecordHigh" .blob .ro 0 0 0 1024 1024,
  objPlain 0x04 "FreezeChannel" .cmd .cmd 0 0 0 1 1,
  objPlain 0x05 "ReturnChannel" .cmd .cmd 0 0 0 1 1,
  objPlain 0x06 "ThawDone" .u32 .ro 0 0 4294967295 4 4,
  objPlain 0x07 "ThawTotal" .u32 .ro 0 0 4294967295 4 4,
  objPlain 0x08 "LastResult" .u8 .ro 0 0 255 1 1]

/-- Index 0x5000 (06_residue_and_flush.md, R230). -/
def rows5000 : List ObjRow := [
  objPlain 0x00 "HighestSub" .u8 .ro 10 0 255 1 1,
  objRow 0x01 "CeilingConfigured" .u64 .rwi 0x4000000000 17179869184 1099511627776 8 8 1,
  objRow 0x02 "ArmedShare" .u8 .rwi 50 10 100 1 1 1,
  objRow 0x03 "RateMargin" .u8 .rwi 25 10 50 1 1 1,
  objRow 0x04 "MetaCeiling" .u64 .rwi 0x80000000 268435456 8589934592 8 8 1,
  objRow 0x05 "MetaPeriod" .u32 .rwi 1000 100 10000 4 4 1,
  objRow 0x06 "FlushHorizon" .u32 .rwi 2000 100 30000 4 4 1,
  objRow 0x07 "FlushPressure" .u8 .rwi 50 10 90 1 1 1,
  objRow 0x08 "FlushRateMax" .u16 .rwi 120 1 200 2 2 1,
  objRow 0x09 "FlushBudget" .u32 .rw 131072 1024 4194304 4 4 1,
  objRow 0x0A "SavePowerAssumed" .u16 .rw 320 100 1000 2 2 1]

/-- Index 0x5010 (06_residue_and_flush.md, R231). -/
def rows5010 : List ObjRow := [
  objPlain 0x00 "HighestSub" .u8 .ro 25 0 255 1 1,
  objPlain 0x01 "EffectiveCeiling" .u64 .ro 0 0 18446744073709551615 8 8,
  objPlain 0x02 "PlannedCeiling" .u64 .ro 0 0 18446744073709551615 8 8,
  objPlain 0x03 "EnergyBound" .u64 .ro 0 0 18446744073709551615 8 8,
  objPlain 0x04 "SlcBound" .u64 .ro 0 0 18446744073709551615 8 8,
  objPlain 0x05 "PoolBound" .u64 .ro 0 0 18446744073709551615 8 8,
  objPlain 0x06 "TargetCeiling" .u64 .ro 0x4000000000 0 18446744073709551615 8 8,
  objPlain 0x07 "Binding" .u8 .ro 0 0 255 1 1,
  objPlain 0x08 "Residue" .u64 .ro 0 0 18446744073709551615 8 8,
  objPlain 0x09 "ResidueFraction" .u16 .ro 0 0 65535 2 2,
  objPlain 0x0A "FlushRate" .u32 .ro 0 0 4294967295 4 4,
  objPlain 0x0B "MetaDirty" .u64 .ro 0 0 18446744073709551615 8 8,
  objPlain 0x0C "Armed" .bool .ro 0 0 1 1 1,
  objPlain 0x0D "UsableEnergy" .u32 .ro 0 0 4294967295 4 4,
  objPlain 0x0E "ReserveShare" .u8 .ro 10 0 255 1 1,
  objPlain 0x0F "PlanRate" .u32 .ro 0 0 4294967295 4 4,
  objPlain 0x10 "PlanPower" .u16 .ro 0 0 65535 2 2,
  objPlain 0x11 "PlanFixedTime" .u32 .ro 0 0 4294967295 4 4,
  objPlain 0x12 "WearStep" .u8 .ro 0 0 255 1 1,
  objPlain 0x13 "FlushVolume24h" .u64 .ro 0 0 18446744073709551615 8 8,
  objPlain 0x14 "LastPlanTime" .time64 .ro 0 0 18446744073709551615 8 8,
  objPlain 0x15 "HorizonEffective" .u32 .ro 2000 0 4294967295 4 4,
  objPlain 0x16 "OldestDirtyAge" .u32 .ro 0 0 4294967295 4 4,
  objPlain 0x17 "DiesInService" .u16 .ro 0 0 65535 2 2,
  objPlain 0x18 "SaveFree" .u64 .ro 0 0 18446744073709551615 8 8,
  objPlain 0x19 "FlushAmplification" .u16 .ro 0 0 65535 2 2]

/-- Index 0x5100 (06_residue_and_flush.md, R233). -/
def rows5100 : List ObjRow := [
  objPlain 0x00 "HighestSub" .u8 .ro 4 0 255 1 1,
  objRow 0x01 "WarnLevel" .u16 .rw 11000 9300 11800 2 2 1,
  objRow 0x02 "CommitLevel" .u16 .rw 10500 9000 11500 2 2 1,
  objRow 0x03 "ReleaseLevel" .u16 .rw 11400 9500 12000 2 2 1,
  objPlain 0x04 "ReleaseHold" .u16 .ro 100 0 65535 2 2]

/-- Index 0x5200 (06_residue_and_flush.md, R232). -/
def rows5200 : List ObjRow := [
  objPlain 0x00 "HighestSub" .u8 .ro 13 0 255 1 1,
  objPlain 0x01 "DrillStart" .cmd .cmd 0 0 0 0 0,
  objRow 0x02 "DrillPeriod" .u32 .rw 168 0 2160 4 4 1,
  objRow 0x03 "DrillVolume" .u32 .rw 64 8 256 4 4 1,
  objRow 0x04 "DrillOnBattery" .bool .rw 1 0 1 1 1 1,
  objPlain 0x05 "DrillState" .u8 .ro 0 0 255 1 1,
  objRow 0x06 "LastDrillTime" .time64 .ro 0 0 18446744073709551615 8 8 1,
  objRow 0x07 "LastStreamRate" .u32 .ro 0 0 4294967295 4 4 1,
  objRow 0x08 "LastPower" .u16 .ro 0 0 65535 2 2 1,
  objRow 0x09 "LastFixedTime" .u32 .ro 0 0 4294967295 4 4 1,
  objRow 0x0A "LastDieRate" .u32 .ro 0 0 4294967295 4 4 1,
  objRow 0x0B "LastDies" .u16 .ro 0 0 65535 2 2 1,
  objRow 0x0C "LastResult" .u8 .ro 0 0 255 1 1 1,
  objRow 0x0D "DrillsAccepted" .u32 .ro 0 0 4294967295 4 4 1]

/-- Index 0x5300 (07_save_and_restore.md, R277). -/
def rows5300 : List ObjRow := [
  objPlain 0x00 "HighestSub" .u8 .ro 12 0 255 1 1,
  objRow 0x01 "PlanLength" .u16 .rw 0 0 4096 2 2 1,
  objRow 0x02 "PlanCursor" .u16 .rw 0 0 4095 2 2 2,
  objRow 0x03 "PlanEntry" .u16 .rw 65535 0 65535 2 2 1,
  objPlain 0x04 "PlanLoad" .cmd .cmd 0 0 0 6 1004,
  objRow 0x05 "EarlyAdmission" .bool .rw 1 0 1 1 1 1,
  objRow 0x06 "RestoreRate" .u16 .rwi 230 1 230 2 2 1,
  objPlain 0x07 "RestoreState" .u8 .ro 0 0 255 1 1,
  objPlain 0x08 "RestoreDone" .u64 .ro 0 0 18446744073709551615 8 8,
  objPlain 0x09 "RestoreTotal" .u64 .ro 0 0 18446744073709551615 8 8,
  objPlain 0x0A "PlanPosition" .u16 .ro 0 0 65535 2 2,
  objPlain 0x0B "AdmissionTime" .u32 .ro 0 0 4294967295 4 4,
  objPlain 0x0C "RestoreKind" .u8 .ro 0 0 255 1 1]

/-- Index 0x5400 (07_save_and_restore.md, R278). -/
def rows5400 : List ObjRow := [
  objPlain 0x00 "HighestSub" .u8 .ro 18 0 255 1 1,
  objPlain 0x01 "VaultPending" .bool .ro 0 0 1 1 1,
  objPlain 0x02 "SealSeq" .u64 .ro 0 0 18446744073709551615 8 8,
  objPlain 0x03 "VaultClass" .u8 .ro 0 0 255 1 1,
  objPlain 0x04 "ChainDepth" .u8 .ro 0 0 255 1 1,
  objPlain 0x05 "SealFlags" .u16 .ro 0 0 65535 2 2,
  objPlain 0x06 "CommitTime" .time64 .ro 0 0 18446744073709551615 8 8,
  objPlain 0x07 "SealTime" .time64 .ro 0 0 18446744073709551615 8 8,
  objPlain 0x08 "SaveDuration" .u32 .ro 0 0 4294967295 4 4,
  objPlain 0x09 "SavedPages" .u64 .ro 0 0 18446744073709551615 8 8,
  objPlain 0x0A "PoisonedPages" .u64 .ro 0 0 18446744073709551615 8 8,
  objPlain 0x0B "UnsavedPages" .u64 .ro 0 0 18446744073709551615 8 8,
  objPlain 0x0C "FrozenChannels" .u16 .ro 0 0 65535 2 2,
  objRow 0x0D "OutcomeCursor" .u16 .rw 0 0 65535 2 2 2,
  objPlain 0x0E "CarriageOutcome" .u8 .ro 0 0 255 1 1,
  objPlain 0x0F "ClearOutcomes" .cmd .cmd 0 0 0 0 0,
  objPlain 0x10 "SaveCount" .u32 .ro 0 0 4294967295 4 4,
  objPlain 0x11 "DirtyShutdowns" .u32 .ro 0 0 4294967295 4 4,
  objPlain 0x12 "SignalsInSave" .u32 .ro 0 0 4294967295 4 4]

/-- Index 0x6000 (09_flash_tier.md, R346). -/
def rows6000 : List ObjRow := [
  objPlain 0x00 "HighestSub" .u8 .ro 14 0 255 1 1,
  objRow 0x01 "Population" .blob .rw 0 0 0 4 4 25,
  objRow 0x02 "SpeedLimit" .u16 .rw 3600 0 65535 2 2 25,
  objRow 0x03 "SaveCeilingMax" .u64 .rw 0x10000000000 17179869184 1099511627776 8 8 25,
  objPlain 0x04 "Rate" .u16 .ro 0 0 65535 2 2,
  objPlain 0x05 "DiesPopulated" .u16 .ro 0 0 65535 2 2,
  objPlain 0x06 "DiesInService" .u16 .ro 0 0 65535 2 2,
  objPlain 0x07 "ChannelsInService" .u8 .ro 0 0 255 1 1,
  objPlain 0x08 "SaveRegionUsable" .u64 .ro 0 0 18446744073709551615 8 8,
  objPlain 0x09 "SaveFree" .u64 .ro 0 0 18446744073709551615 8 8,
  objPlain 0x0A "RotationPointer" .u32 .ro 0 0 4294967295 4 4,
  objPlain 0x0B "SpareShare" .u8 .ro 2 0 255 1 1,
  objRow 0x0C "DieProfile" .blob .rw 0 0 0 256 256 25,
  objPlain 0x0D "ReturnChannel" .cmd .cmd 0 0 0 1 1,
  objPlain 0x0E "LastResult" .u8 .ro 0 0 255 1 1]

/-- Index 0x6100 (09_flash_tier.md, R347). -/
def rows6100 : List ObjRow := [
  objPlain 0x00 "HighestSub" .u8 .ro 9 0 255 1 1,
  objPlain 0x01 "State" .u8 .ro 0 0 255 1 1,
  objPlain 0x02 "Dies" .u8 .ro 0 0 255 1 1,
  objPlain 0x03 "OutCause" .u8 .ro 0 0 255 1 1,
  objPlain 0x04 "RetryReads" .u64 .ro 0 0 18446744073709551615 8 8,
  objPlain 0x05 "SoftDecodes" .u64 .ro 0 0 18446744073709551615 8 8,
  objPlain 0x06 "Rebuilds" .u32 .ro 0 0 4294967295 4 4,
  objPlain 0x07 "ProgramFailures" .u32 .ro 0 0 4294967295 4 4,
  objPlain 0x08 "EraseFailures" .u32 .ro 0 0 4294967295 4 4,
  objPlain 0x09 "BytesProgrammed" .u64 .ro 0 0 18446744073709551615 8 8]

/-- Index 0x6400 (09_flash_tier.md, R348). -/
def rows6400 : List ObjRow := [
  objPlain 0x00 "HighestSub" .u8 .ro 11 0 255 1 1,
  objPlain 0x01 "EraseAvg" .u32 .ro 0 0 4294967295 4 4,
  objPlain 0x02 "EraseMin" .u32 .ro 0 0 4294967295 4 4,
  objPlain 0x03 "EraseMax" .u32 .ro 0 0 4294967295 4 4,
  objPlain 0x04 "SlcEraseMax" .u32 .ro 0 0 4294967295 4 4,
  objPlain 0x05 "LifeUsed" .u8 .ro 0 0 255 1 1,
  objPlain 0x06 "GrownBadBlocks" .u32 .ro 0 0 4294967295 4 4,
  objPlain 0x07 "SpareLeftMin" .u8 .ro 100 0 255 1 1,
  objPlain 0x08 "DiesRetired" .u16 .ro 0 0 65535 2 2,
  objPlain 0x09 "GcBytesProgrammed" .u64 .ro 0 0 18446744073709551615 8 8,
  objPlain 0x0A "GcAmplification" .u16 .ro 100 0 65535 2 2,
  objPlain 0x0B "RefreshRelocations" .u64 .ro 0 0 18446744073709551615 8 8]

/-- Index 0x6600 (09_flash_tier.md, R349). -/
def rows6600 : List ObjRow := [
  objPlain 0x00 "HighestSub" .u8 .ro 7 0 255 1 1,
  objRow 0x01 "GcHigh" .u8 .rwi 8 0 255 1 1 1,
  objRow 0x02 "GcLow" .u8 .rwi 4 0 255 1 1 1,
  objRow 0x03 "GcStop" .u8 .rwi 2 0 255 1 1 1,
  objRow 0x04 "OverProvision" .u8 .rw 10 5 40 1 1 1,
  objRow 0x05 "RefreshAge" .u32 .rwi 2160 168 8760 4 4 1,
  objPlain 0x06 "FreeShare" .u16 .ro 0 0 65535 2 2,
  objPlain 0x07 "GcState" .u8 .ro 0 0 255 1 1]

/-- Index 0x7000 (10_cipher_and_keys.md, R365). -/
def rows7000 : List ObjRow := [
  objPlain 0x00 "HighestSub" .u8 .ro 8 0 255 1 1,
  objRow 0x01 "Key" .key .wo 0 0 0 0 1024 0,
  objPlain 0x02 "Type" .u8 .ro 0 0 255 1 1,
  objPlain 0x03 "CheckValue" .u32 .ro 0 0 4294967295 4 4,
  objPlain 0x04 "Generation" .u32 .ro 0 0 4294967295 4 4,
  objPlain 0x05 "CounterHighWater" .u64 .ro 0 0 18446744073709551615 8 8,
  objPlain 0x06 "Counter" .u64 .ro 0 0 18446744073709551615 8 8,
  objPlain 0x07 "Erase" .cmd .cmd 0 0 0 0 0,
  objPlain 0x08 "LastResult" .u8 .ro 0 0 255 1 1]

/-- Index 0x7200 (10_cipher_and_keys.md, R379). -/
def rows7200 : List ObjRow := [
  objPlain 0x00 "HighestSub" .u8 .ro 3 0 255 1 1,
  objPlain 0x01 "Seal" .cmd .cmd 0 0 0 4 1024,
  objPlain 0x02 "Unseal" .cmd .cmd 0 0 0 4 1024,
  objPlain 0x03 "LastResult" .u8 .ro 0 0 255 1 1]

/-- Index 0x7300 (10_cipher_and_keys.md, R385). -/
def rows7300 : List ObjRow := [
  objPlain 0x00 "HighestSub" .u8 .ro 9 0 255 1 1,
  objPlain 0x01 "PipesUsable" .u8 .ro 40 0 255 1 1,
  objPlain 0x02 "PipesQuarantined" .u64 .ro 0 0 18446744073709551615 8 8,
  objPlain 0x03 "TranscryptRate" .u16 .ro 240 0 65535 2 2,
  objPlain 0x04 "Mismatches" .u64 .ro 0 0 18446744073709551615 8 8,
  objPlain 0x05 "BlocksFailed" .u32 .ro 0 0 4294967295 4 4,
  objRow 0x06 "PlainKeyLoad" .bool .rw 0 0 1 1 1 8,
  objPlain 0x07 "VaultCheckValue" .u32 .ro 0 0 4294967295 4 4,
  objPlain 0x08 "PipeRetest" .cmd .cmd 0 0 0 0 0,
  objPlain 0x09 "LastResult" .u8 .ro 0 0 255 1 1]

/-- Index 0x7400 (10_cipher_and_keys.md, R372). -/
def rows7400 : List ObjRow := [
  objPlain 0x00 "HighestSub" .u8 .ro 6 0 255 1 1,
  objRow 0x01 "Cursor" .u16 .rw 0 0 65535 2 2 2,
  objPlain 0x02 "Passes" .blob .ro 0 0 0 32 32,
  objPlain 0x03 "Grant" .cmd .cmd 0 0 0 3 3,
  objPlain 0x04 "Revoke" .cmd .cmd 0 0 0 3 3,
  objPlain 0x05 "RevokeSlot" .cmd .cmd 0 0 0 1 1,
  objPlain 0x06 "LastResult" .u8 .ro 0 0 255 1 1]

/-- Index 0x8000 (11_power_battery_ageing.md, R418). -/
def rows8000 : List ObjRow := [
  objPlain 0x00 "HighestSub" .u8 .ro 22 0 255 1 1,
  objRow 0x01 "DesignCapacity" .u32 .rw 0 0 500000 4 4 1,
  objRow 0x02 "DesignR25" .u32 .rw 100000 1000 1000000 4 4 1,
  objRow 0x03 "ShuntValue" .u16 .rw 1000 100 10000 2 2 1,
  objRow 0x04 "CutoffCell" .u16 .rw 3000 2800 3400 2 2 1,
  objRow 0x05 "SocFloor" .u8 .rw 5 0 20 1 1 1,
  objRow 0x06 "OcvTable" .blob .rw 0 0 0 202 202 1,
  objRow 0x07 "RFactor" .blob .rw 0 0 0 10 10 1,
  objRow 0x08 "ThermistorBeta" .u16 .rw 3435 2500 5000 2 2 1,
  objPlain 0x09 "PackState" .u8 .ro 0 0 255 1 1,
  objPlain 0x0A "PackVoltage" .u16 .ro 0 0 65535 2 2,
  objPlain 0x0B "CellVoltages" .blob .ro 0 0 0 8 8,
  objPlain 0x0C "Current" .s32 .ro 0 (-2147483648) 2147483647 4 4,
  objPlain 0x0D "Temperatures" .blob .ro 0 0 0 4 4,
  objPlain 0x0E "SocCoulomb" .u16 .ro 0 0 65535 2 2,
  objPlain 0x0F "SocVoltage" .u16 .ro 0 0 65535 2 2,
  objPlain 0x10 "SocRest" .u16 .ro 0 0 65535 2 2,
  objPlain 0x11 "SocPlanning" .u16 .ro 0 0 65535 2 2,
  objPlain 0x12 "Estimate" .u8 .ro 0 0 255 1 1,
  objPlain 0x13 "AtRest" .bool .ro 0 0 1 1 1,
  objPlain 0x14 "UsableEnergy" .u32 .ro 0 0 4294967295 4 4,
  objPlain 0x15 "Disagreement" .bool .ro 0 0 1 1 1,
  objPlain 0x16 "LastDisagreement" .u16 .ro 0 0 65535 2 2]

/-- Index 0x8100 (11_power_battery_ageing.md, R419). -/
def rows8100 : List ObjRow := [
  objPlain 0x00 "HighestSub" .u8 .ro 12 0 255 1 1,
  objPlain 0x01 "LearnedCapacity" .u32 .ro 0 0 4294967295 4 4,
  objPlain 0x02 "LearnedR25" .u32 .ro 100000 0 4294967295 4 4,
  objPlain 0x03 "InitialR25" .u32 .ro 0 0 4294967295 4 4,
  objPlain 0x04 "LastLearnTime" .time64 .ro 0 0 18446744073709551615 8 8,
  objPlain 0x05 "LearnCount" .u32 .ro 0 0 4294967295 4 4,
  objPlain 0x06 "LastRejectCause" .u8 .ro 0 0 255 1 1,
  objPlain 0x07 "ForcedRelearn" .bool .ro 0 0 1 1 1,
  objRow 0x08 "LearnMinSwing" .u8 .rw 40 20 80 1 1 1,
  objPlain 0x09 "Derated" .bool .ro 0 0 1 1 1,
  objPlain 0x0A "Relearn" .cmd .cmd 0 0 0 0 0,
  objPlain 0x0B "RecordSeq" .u32 .ro 0 0 4294967295 4 4,
  objPlain 0x0C "DaysSinceLearning" .u16 .ro 0 0 65535 2 2]

/-- Index 0x8200 (11_power_battery_ageing.md, R420). -/
def rows8200 : List ObjRow := [
  objPlain 0x00 "HighestSub" .u8 .ro 7 0 255 1 1,
  objPlain 0x01 "SensorCount" .u8 .ro 96 0 255 1 1,
  objRow 0x02 "Cursor" .u8 .rw 0 0 95 1 1 2,
  objPlain 0x03 "Sensor" .blob .ro 0 0 0 12 12,
  objPlain 0x04 "WorstDrift" .s16 .ro 0 (-32768) 32767 2 2,
  objPlain 0x05 "WorstSlack" .s16 .ro 0 (-32768) 32767 2 2,
  objRow 0x06 "DriftTrigger" .u8 .rw 2 1 10 1 1 1,
  objPlain 0x07 "LastSample" .time64 .ro 0 0 18446744073709551615 8 8]

/-- Index 0x8300 (11_power_battery_ageing.md, R421). -/
def rows8300 : List ObjRow := [
  objPlain 0x00 "HighestSub" .u8 .ro 14 0 255 1 1,
  objRow 0x01 "ReplanPeriod" .u32 .rw 720 24 2160 4 4 1,
  objPlain 0x02 "ReplanNow" .cmd .cmd 0 0 0 0 0,
  objPlain 0x03 "LastReplanTime" .time64 .ro 0 0 18446744073709551615 8 8,
  objPlain 0x04 "LastReplanCause" .u8 .ro 0 0 255 1 1,
  objPlain 0x05 "ReserveShare" .u8 .ro 10 0 255 1 1,
  objRow 0x06 "ReserveMin" .u8 .rw 10 10 40 1 1 1,
  objPlain 0x07 "VtrimOffset" .u8 .ro 0 0 255 1 1,
  objRow 0x08 "VtrimMax" .u8 .rw 40 0 40 1 1 1,
  objRow 0x09 "VtrimGain" .u8 .rw 4 1 6 1 1 1,
  objPlain 0x0A "ClockDerate" .blob .ro 0 0 0 4 4,
  objRow 0x0B "SlackMin" .u8 .rw 8 5 20 1 1 1,
  objRow 0x0C "RetentionHigh" .u16 .rw 16 1 1000 2 2 1,
  objRow 0x0D "RetentionLow" .u16 .rw 2 0 999 2 2 1,
  objPlain 0x0E "Deferred" .bool .ro 0 0 1 1 1]

/-- Index 0x8400 (11_power_battery_ageing.md, R422). -/
def rows8400 : List ObjRow := [
  objPlain 0x00 "HighestSub" .u8 .ro 7 0 255 1 1,
  objRow 0x01 "DividerRatio" .u16 .rw 10000 0 65535 2 2 1,
  objPlain 0x02 "RailVoltage" .u16 .ro 0 0 65535 2 2,
  objPlain 0x03 "EffectiveLevels" .blob .ro 0 0 0 6 6,
  objPlain 0x04 "PwrfailLevel" .bool .ro 1 0 1 1 1,
  objPlain 0x05 "BatselState" .u8 .ro 0 0 255 1 1,
  objPlain 0x06 "BatselConfirmFails" .u32 .ro 0 0 4294967295 4 4,
  objPlain 0x07 "ReleaseHoldElapsed" .u16 .ro 0 0 65535 2 2]

/-- Index 0x9000 (16_logbook_and_counters.md, R583). -/
def rows9000 : List ObjRow := [
  objPlain 0x00 "HighestSub" .u8 .ro 18 0 255 1 1,
  objPlain 0x01 "Records" .u32 .ro 0 0 4294967295 4 4,
  objRow 0x02 "Cursor" .u64 .rw 0 0 18446744073709551615 8 8 2,
  objRow 0x03 "Filter" .u8 .rw 0 0 3 1 1 2,
  objPlain 0x04 "Window" .blob .ro 0 0 0 1024 1024,
  objPlain 0x05 "WindowCount" .u8 .ro 0 0 255 1 1,
  objPlain 0x06 "Generation" .u64 .ro 0 0 18446744073709551615 8 8,
  objPlain 0x07 "NextSeq" .u64 .ro 0 0 18446744073709551615 8 8,
  objPlain 0x08 "OldestSeq" .u64 .ro 0 0 18446744073709551615 8 8,
  objPlain 0x09 "DroppedNote" .u32 .ro 0 0 4294967295 4 4,
  objPlain 0x0A "DroppedWarn" .u32 .ro 0 0 4294967295 4 4,
  objPlain 0x0B "DroppedFault" .u32 .ro 0 0 4294967295 4 4,
  objPlain 0x0C "DroppedFatal" .u32 .ro 0 0 4294967295 4 4,
  objRow 0x0D "HostMinSeverity" .u8 .rw 1 0 3 1 1 1,
  objPlain 0x0E "ClearFatal" .cmd .cmd 0 0 0 8 8,
  objPlain 0x0F "FatalRecords" .u32 .ro 0 0 4294967295 4 4,
  objPlain 0x10 "HostLogSize" .u16 .ro 128 0 65535 2 2,
  objPlain 0x11 "LastResult" .u8 .ro 0 0 255 1 1,
  objPlain 0x12 "RestoredFrom" .u8 .ro 0 0 255 1 1]

/-- Index 0x9100 (16_logbook_and_counters.md, R584). -/
def rows9100 : List ObjRow := [
  objPlain 0x00 "HighestSub" .u8 .ro 7 0 255 1 1,
  objRow 0x01 "Cursor" .u64 .rw 0 0 18446744073709551615 8 8 2,
  objPlain 0x02 "Window" .blob .ro 0 0 0 1024 1024,
  objPlain 0x03 "Copies" .u32 .ro 0 0 4294967295 4 4,
  objPlain 0x04 "FreeSectors" .u16 .ro 0 0 65535 2 2,
  objPlain 0x05 "Dropped" .u32 .ro 0 0 4294967295 4 4,
  objPlain 0x06 "Generation" .u64 .ro 0 0 18446744073709551615 8 8,
  objPlain 0x07 "SeqMark" .u64 .ro 0 0 18446744073709551615 8 8]

/-- Index 0x9400 (16_logbook_and_counters.md, R585). -/
def rows9400 : List ObjRow := [
  objPlain 0x00 "HighestSub" .u8 .ro 15 0 255 1 1,
  objRow 0x01 "Select" .u16 .rw 0 0 1023 2 2 2,
  objRow 0x02 "Source" .u16 .rw 0 0 65535 2 2 0,
  objRow 0x03 "Qualifier" .u16 .rw 65535 0 65535 2 2 0,
  objRow 0x04 "Value" .u64 .rw 0 0 281474976710655 8 8 0,
  objRow 0x05 "Preset" .u64 .rw 0 0 281474976710655 8 8 0,
  objRow 0x06 "SampleEnable" .bool .rw 0 0 1 1 1 0,
  objPlain 0x07 "Snapshot" .cmd .cmd 0 0 0 0 0,
  objPlain 0x08 "SnapshotTime" .time64 .ro 0 0 18446744073709551615 8 8,
  objRow 0x09 "SnapshotBlock" .u8 .rw 0 0 7 1 1 2,
  objPlain 0x0A "SnapshotData" .blob .ro 0 0 0 768 768,
  objRow 0x0B "SampleLd" .u8 .rw 255 0 255 1 1 1,
  objRow 0x0C "SampleCursor" .u16 .rw 0 0 255 2 2 2,
  objPlain 0x0D "SampleWindow" .blob .ro 0 0 0 1024 1024,
  objPlain 0x0E "SamplesLost" .u32 .ro 0 0 4294967295 4 4,
  objPlain 0x0F "LastResult" .u8 .ro 0 0 255 1 1]

/-- Index 0x9800 (16_logbook_and_counters.md, R586). -/
def rows9800 : List ObjRow := [
  objPlain 0x00 "HighestSub" .u8 .ro 11 0 255 1 1,
  objRow 0x01 "Enable" .bool .rw 0 0 1 1 1 1,
  objRow 0x02 "Rate" .u8 .rw 12 0 24 1 1 1,
  objRow 0x03 "Seed" .u32 .rw 0x1D2C3B4A 1 4294967294 4 4 1,
  objRow 0x04 "BufferMode" .u8 .rw 0 0 1 1 1 1,
  objRow 0x05 "Cursor" .u32 .rw 0 0 4294967295 4 4 2,
  objPlain 0x06 "Window" .blob .ro 0 0 0 1024 1024,
  objPlain 0x07 "Generation" .u64 .ro 0 0 18446744073709551615 8 8,
  objPlain 0x08 "Tickets" .u32 .ro 0 0 4294967295 4 4,
  objPlain 0x09 "Skipped" .u32 .ro 0 0 4294967295 4 4,
  objPlain 0x0A "Clear" .cmd .cmd 0 0 0 0 0,
  objPlain 0x0B "NextTicket" .u32 .ro 1 0 4294967295 4 4]

/-- Index 0xA000 (15_firmware_update.md, R550). -/
def rowsA000 : List ObjRow := [
  objPlain 0x00 "HighestSub" .u8 .ro 12 0 255 1 1,
  objPlain 0x01 "UpdateState" .u8 .ro 0 0 255 1 1,
  objRow 0x02 "PartSelect" .u8 .rw 0 0 3 1 1 2,
  objRow 0x03 "BlockPart" .blob .wo 0 0 0 1024 1024 0,
  objPlain 0x04 "SubmitBlock" .cmd .cmd 0 0 0 0 0,
  objPlain 0x05 "Abort" .cmd .cmd 0 0 0 0 0,
  objPlain 0x06 "Apply" .cmd .cmd 0 0 0 0 0,
  objPlain 0x07 "NextOffset" .u32 .ro 0 0 4294967295 4 4,
  objPlain 0x08 "PackageId" .u64 .ro 0 0 18446744073709551615 8 8,
  objPlain 0x09 "PackageLength" .u32 .ro 0 0 4294967295 4 4,
  objPlain 0x0A "ApplySector" .u16 .ro 0 0 65535 2 2,
  objPlain 0x0B "TargetVersions" .blob .ro 0 0 0 8 8,
  objPlain 0x0C "LastResult" .u8 .ro 0 0 255 1 1]

/-- Index 0xA100 (15_firmware_update.md, R551). -/
def rowsA100 : List ObjRow := [
  objPlain 0x00 "HighestSub" .u8 .ro 7 0 255 1 1,
  objPlain 0x01 "Schedule" .cmd .cmd 0 0 0 9 9,
  objPlain 0x02 "Cancel" .cmd .cmd 0 0 0 0 0,
  objPlain 0x03 "DepartureTime" .time64 .ro 0 0 18446744073709551615 8 8,
  objPlain 0x04 "DepartureMode" .u8 .ro 0 0 255 1 1,
  objPlain 0x05 "Deferrals" .u32 .ro 0 0 4294967295 4 4,
  objPlain 0x06 "DeferCause" .u8 .ro 0 0 255 1 1,
  objPlain 0x07 "LastResult" .u8 .ro 0 0 255 1 1]

/-- Index 0xA200 (15_firmware_update.md, R552). -/
def rowsA200 : List ObjRow := [
  objPlain 0x00 "HighestSub" .u8 .ro 9 0 255 1 1,
  objPlain 0x01 "ActiveBank" .u8 .ro 0 0 255 1 1,
  objPlain 0x02 "BankA" .blob .ro 0 0 0 84 84,
  objPlain 0x03 "BankB" .blob .ro 0 0 0 84 84,
  objPlain 0x04 "Rollback" .cmd .cmd 0 0 0 0 0,
  objRow 0x05 "ConfirmPeriod" .u32 .rw 600 60 86400 4 4 1,
  objPlain 0x06 "TrialRemaining" .u32 .ro 0 0 4294967295 4 4,
  objPlain 0x07 "Activations" .u32 .ro 0 0 4294967295 4 4,
  objPlain 0x08 "Rollbacks" .u32 .ro 0 0 4294967295 4 4,
  objPlain 0x09 "LastResult" .u8 .ro 0 0 255 1 1]

/-- Index 0xB000 (16_logbook_and_counters.md, R587). -/
def rowsB000 : List ObjRow := [
  objPlain 0x00 "HighestSub" .u8 .ro 7 0 255 1 1,
  objPlain 0x01 "Unlock" .cmd .cmd 0 0 0 12 12,
  objPlain 0x02 "Unlocked" .bool .ro 0 0 1 1 1,
  objPlain 0x03 "Arm" .cmd .cmd 0 0 0 0 0,
  objPlain 0x04 "Disarm" .cmd .cmd 0 0 0 0 0,
  objPlain 0x05 "Armed" .bool .ro 0 0 1 1 1,
  objPlain 0x06 "LastClearCause" .u8 .ro 0 0 255 1 1,
  objPlain 0x07 "LastResult" .u8 .ro 0 0 255 1 1]

/-- Index 0xB010 (16_logbook_and_counters.md, R587). -/
def rowsB010 : List ObjRow := [
  objPlain 0x00 "HighestSub" .u8 .ro 4 0 255 1 1,
  objRow 0x01 "Kind" .u8 .rw 0 0 4 1 1 0,
  objRow 0x02 "Target" .u16 .rw 0 0 65535 2 2 0,
  objRow 0x03 "Param" .u16 .rw 0 0 65535 2 2 0,
  objRow 0x04 "Duty" .u8 .rw 16 1 16 1 1 0]

/-- Index 0xC000 (13_management_bus.md, R488). -/
def rowsC000 : List ObjRow := [
  objPlain 0x00 "HighestSub" .u8 .ro 12 0 255 1 1,
  objPlain 0x01 "Address" .u8 .ro 0 0 255 1 1,
  objRow 0x02 "BusSpeed" .u8 .rw 1 0 2 1 1 17,
  objRow 0x03 "Slope" .u8 .rw 1 0 2 1 1 17,
  objRow 0x04 "SmbusTimeout" .bool .rw 1 0 1 1 1 1,
  objRow 0x05 "PecRequired" .bool .rw 0 0 1 1 1 1,
  objRow 0x06 "WindowWrites" .bool .rw 1 0 1 1 1 1,
  objPlain 0x07 "Transactions" .u32 .ro 0 0 4294967295 4 4,
  objPlain 0x08 "NackedBytes" .u32 .ro 0 0 4294967295 4 4,
  objPlain 0x09 "Timeouts" .u32 .ro 0 0 4294967295 4 4,
  objPlain 0x0A "StaleReads" .u32 .ro 0 0 4294967295 4 4,
  objPlain 0x0B "PecFailures" .u32 .ro 0 0 4294967295 4 4,
  objPlain 0x0C "DiscardedBytes" .u32 .ro 0 0 4294967295 4 4]

/-- Index 0xC100 (13_management_bus.md, R489). -/
def rowsC100 : List ObjRow := [
  objPlain 0x00 "HighestSub" .u8 .ro 11 0 255 1 1,
  objRow 0x01 "Enable" .bool .rw 1 0 1 1 1 1,
  objRow 0x02 "MinSeverity" .u8 .rw 1 0 3 1 1 1,
  objRow 0x03 "Attempts" .u8 .rw 8 1 15 1 1 1,
  objPlain 0x04 "Pending" .u8 .ro 0 0 255 1 1,
  objPlain 0x05 "Sent" .u32 .ro 0 0 4294967295 4 4,
  objPlain 0x06 "Dropped" .u32 .ro 0 0 4294967295 4 4,
  objPlain 0x07 "ArbitrationLost" .u32 .ro 0 0 4294967295 4 4,
  objPlain 0x08 "Nacked" .u32 .ro 0 0 4294967295 4 4,
  objPlain 0x09 "LastCode" .u16 .ro 0 0 65535 2 2,
  objPlain 0x0A "LastResult" .u8 .ro 0 0 255 1 1,
  objPlain 0x0B "TestNotify" .cmd .cmd 0 0 0 2 2]

/-- The index-range map of R453. -/
def dictionary : List IndexRow := [
  IndexRow.mk 0x1000 1 1 rows1000,
  IndexRow.mk 0x1010 1 1 rows1010,
  IndexRow.mk 0x1100 1 1 rows1100,
  IndexRow.mk 0x1200 1 1 rows1200,
  IndexRow.mk 0x1F00 1 1 rows1F00,
  IndexRow.mk 0x2000 2 256 rows2000,
  IndexRow.mk 0x2400 32 1 rows2400,
  IndexRow.mk 0x2500 1 1 rows2500,
  IndexRow.mk 0x2600 1 1 rows2600,
  IndexRow.mk 0x3000 1 1 rows3000,
  IndexRow.mk 0x3100 1 1 rows3100,
  IndexRow.mk 0x3400 1 1 rows3400,
  IndexRow.mk 0x3600 1 1 rows3600,
  IndexRow.mk 0x3700 1 1 rows3700,
  IndexRow.mk 0x3800 1 1 rows3800,
  IndexRow.mk 0x4000 16 16 rows4000,
  IndexRow.mk 0x4100 1 1 rows4100,
  IndexRow.mk 0x4200 1 1 rows4200,
  IndexRow.mk 0x4400 1 1 rows4400,
  IndexRow.mk 0x5000 1 1 rows5000,
  IndexRow.mk 0x5010 1 1 rows5010,
  IndexRow.mk 0x5100 1 1 rows5100,
  IndexRow.mk 0x5200 1 1 rows5200,
  IndexRow.mk 0x5300 1 1 rows5300,
  IndexRow.mk 0x5400 1 1 rows5400,
  IndexRow.mk 0x6000 1 1 rows6000,
  IndexRow.mk 0x6100 64 1 rows6100,
  IndexRow.mk 0x6400 1 1 rows6400,
  IndexRow.mk 0x6600 1 1 rows6600,
  IndexRow.mk 0x7000 256 1 rows7000,
  IndexRow.mk 0x7200 1 1 rows7200,
  IndexRow.mk 0x7300 1 1 rows7300,
  IndexRow.mk 0x7400 1 1 rows7400,
  IndexRow.mk 0x8000 1 1 rows8000,
  IndexRow.mk 0x8100 1 1 rows8100,
  IndexRow.mk 0x8200 1 1 rows8200,
  IndexRow.mk 0x8300 1 1 rows8300,
  IndexRow.mk 0x8400 1 1 rows8400,
  IndexRow.mk 0x9000 1 1 rows9000,
  IndexRow.mk 0x9100 1 1 rows9100,
  IndexRow.mk 0x9400 1 1 rows9400,
  IndexRow.mk 0x9800 1 1 rows9800,
  IndexRow.mk 0xA000 1 1 rowsA000,
  IndexRow.mk 0xA100 1 1 rowsA100,
  IndexRow.mk 0xA200 1 1 rowsA200,
  IndexRow.mk 0xB000 1 1 rowsB000,
  IndexRow.mk 0xB010 16 1 rowsB010,
  IndexRow.mk 0xC000 1 1 rowsC000,
  IndexRow.mk 0xC100 1 1 rowsC100]

/-- Does the index row cover this index? -/
def IndexRow.covers (r : IndexRow) (index : Nat) : Bool :=
  r.base ≤ index && (index - r.base) % r.stride == 0 && (index - r.base) / r.stride < r.count

/-- The index row of an index (R424: none means NO_OBJECT). -/
def findIndex (index : Nat) : Option IndexRow := dictionary.find? (fun r => r.covers index)

/-- The object at an index and subindex. -/
def findObj (index sub : Nat) : Option ObjRow :=
  match findIndex index with
  | some r => r.rows.find? (fun o => o.sub == sub)
  | none => none

/-- KEY of R520: index × 256 + subindex. -/
def keyOf (index sub : Nat) : Nat := index * 256 + sub

/-- The default of a scalar object by its key (R434). Two defaults depend on the family member: MgmtAccess is 3 for
LD 0 and LD 16 (R112), and Port is 1 for LDs 16 to 31. -/
def odDefault (key : Nat) : Nat :=
  if key = 0x240007 ∨ key = 0x241007 then 3
  else if 0x241002 ≤ key ∧ key ≤ 0x241F02 ∧ key % 256 = 2 then 1
  else match findObj (key / 256) (key % 256) with
    | some o => o.dflt
    | none => 0

/-- The indices the Signal Box holds (R448), in the order R448 lists them. -/
def heldInSignalBox (index sub : Nat) : Bool :=
  index == 0x1000 || index == 0x1010 || index == 0x1100 || index == 0x1200 || index == 0x5100
  || (index == 0x5400 && 1 ≤ sub && sub ≤ 8) || (0x8000 ≤ index && index ≤ 0x8FFF) || index == 0x9100
  || index == 0xA200 || (0xC000 ≤ index && index ≤ 0xCFFF)

/-- The size in bytes of a fixed-size type (R425); 0 for STR, BLOB, KEY and CMD. -/
def OType.size : OType → Nat
  | .bool => 1 | .u8 => 1 | .u16 => 2 | .u32 => 4 | .u64 => 8
  | .s8 => 1 | .s16 => 2 | .s32 => 4 | .s64 => 8 | .time64 => 8
  | .str => 0 | .blob => 0 | .key => 0 | .cmd => 0

/-- Is the type signed (R425)? -/
def OType.signed : OType → Bool
  | .s8 => true | .s16 => true | .s32 => true | .s64 => true
  | .bool => false | .u8 => false | .u16 => false | .u32 => false | .u64 => false | .time64 => false
  | .str => false | .blob => false | .key => false | .cmd => false

/-- The type code of R425. -/
def OType.code : OType → Nat
  | .bool => 0x01 | .u8 => 0x02 | .u16 => 0x03 | .u32 => 0x04 | .u64 => 0x05
  | .s8 => 0x06 | .s16 => 0x07 | .s32 => 0x08 | .s64 => 0x09 | .time64 => 0x0A
  | .str => 0x0B | .blob => 0x0C | .key => 0x0D | .cmd => 0x0E

/-- The access code of R427. -/
def Access.code : Access → Nat
  | .ro => 1 | .rw => 2 | .wo => 3 | .rws => 4 | .rwi => 5 | .cmd => 6

/-! The keys of the objects, by name. -/

/-- OD 0x2000.01 LinkState (R111), member n. -/
def OD.hpLinkState (n : Nat) : Nat := (0x2000 + 256 * n) * 256 + 0x01
/-- OD 0x2000.02 Rate (R111), member n. -/
def OD.hpRate (n : Nat) : Nat := (0x2000 + 256 * n) * 256 + 0x02
/-- OD 0x2000.03 Width (R111), member n. -/
def OD.hpWidth (n : Nat) : Nat := (0x2000 + 256 * n) * 256 + 0x03
/-- OD 0x2000.04 MaxWidth (R111), member n. -/
def OD.hpMaxWidth (n : Nat) : Nat := (0x2000 + 256 * n) * 256 + 0x04
/-- OD 0x2000.05 FlitMode (R111), member n. -/
def OD.hpFlitMode (n : Nat) : Nat := (0x2000 + 256 * n) * 256 + 0x05
/-- OD 0x2000.06 Topology (R111), member n. -/
def OD.hpTopology (n : Nat) : Nat := (0x2000 + 256 * n) * 256 + 0x06
/-- OD 0x2000.07 ReqCredits (R111), member n. -/
def OD.hpReqCredits (n : Nat) : Nat := (0x2000 + 256 * n) * 256 + 0x07
/-- OD 0x2000.08 RwDCredits (R111), member n. -/
def OD.hpRwDCredits (n : Nat) : Nat := (0x2000 + 256 * n) * 256 + 0x08
/-- OD 0x2000.09 IdeState (R111), member n. -/
def OD.hpIdeState (n : Nat) : Nat := (0x2000 + 256 * n) * 256 + 0x09
/-- OD 0x2000.0A SurpriseDowns (R111), member n. -/
def OD.hpSurpriseDowns (n : Nat) : Nat := (0x2000 + 256 * n) * 256 + 0x0A
/-- OD 0x2000.0B PerstCount (R111), member n. -/
def OD.hpPerstCount (n : Nat) : Nat := (0x2000 + 256 * n) * 256 + 0x0B
/-- OD 0x2000.0C MemAdmitted (R111), member n. -/
def OD.hpMemAdmitted (n : Nat) : Nat := (0x2000 + 256 * n) * 256 + 0x0C
/-- OD 0x2000.0D FenceCause (R111), member n. -/
def OD.hpFenceCause (n : Nat) : Nat := (0x2000 + 256 * n) * 256 + 0x0D
/-- OD 0x2400+n.01 Enabled (R112), member n. -/
def OD.ldEnabled (n : Nat) : Nat := (0x2400 + n) * 256 + 0x01
/-- OD 0x2400+n.02 Port (R112), member n. -/
def OD.ldPort (n : Nat) : Nat := (0x2400 + n) * 256 + 0x02
/-- OD 0x2400+n.03 WindowSize (R112), member n. -/
def OD.ldWindowSize (n : Nat) : Nat := (0x2400 + n) * 256 + 0x03
/-- OD 0x2400+n.04 Class (R112), member n. -/
def OD.ldClass (n : Nat) : Nat := (0x2400 + n) * 256 + 0x04
/-- OD 0x2400+n.05 AllocatedBw (R112), member n. -/
def OD.ldAllocatedBw (n : Nat) : Nat := (0x2400 + n) * 256 + 0x05
/-- OD 0x2400+n.06 BwLimit (R112), member n. -/
def OD.ldBwLimit (n : Nat) : Nat := (0x2400 + n) * 256 + 0x06
/-- OD 0x2400+n.07 MgmtAccess (R112), member n. -/
def OD.ldMgmtAccess (n : Nat) : Nat := (0x2400 + n) * 256 + 0x07
/-- OD 0x2400+n.08 ShutdownState (R112), member n. -/
def OD.ldShutdownState (n : Nat) : Nat := (0x2400 + n) * 256 + 0x08
/-- OD 0x2400+n.09 Couplings (R112), member n. -/
def OD.ldCouplings (n : Nat) : Nat := (0x2400 + n) * 256 + 0x09
/-- OD 0x2400+n.0A RefusedAccesses (R112), member n. -/
def OD.ldRefusedAccesses (n : Nat) : Nat := (0x2400 + n) * 256 + 0x0A
/-- OD 0x2500.01 CursorLd (R113). -/
abbrev OD.couplingCursorLd : Nat := 0x250001
/-- OD 0x2500.02 Cursor (R113). -/
abbrev OD.couplingCursor : Nat := 0x250002
/-- OD 0x2500.03 Entry (R113). -/
abbrev OD.couplingEntry : Nat := 0x250003
/-- OD 0x2500.04 Couple (R113). -/
abbrev OD.couplingCouple : Nat := 0x250004
/-- OD 0x2500.05 Uncouple (R113). -/
abbrev OD.couplingUncouple : Nat := 0x250005
/-- OD 0x2500.06 LastResult (R113). -/
abbrev OD.couplingLastResult : Nat := 0x250006
/-- OD 0x2600.01 WeightInteractive (R114). -/
abbrev OD.qosWeightInteractive : Nat := 0x260001
/-- OD 0x2600.02 WeightStandard (R114). -/
abbrev OD.qosWeightStandard : Nat := 0x260002
/-- OD 0x2600.03 WeightBackground (R114). -/
abbrev OD.qosWeightBackground : Nat := 0x260003
/-- OD 0x2600.04 ExpressCap (R114). -/
abbrev OD.qosExpressCap : Nat := 0x260004
/-- OD 0x2600.05 ExpressEntries (R114). -/
abbrev OD.qosExpressEntries : Nat := 0x260005
/-- OD 0x2600.06 PanicHigh (R114). -/
abbrev OD.qosPanicHigh : Nat := 0x260006
/-- OD 0x2600.07 PanicLow (R114). -/
abbrev OD.qosPanicLow : Nat := 0x260007
/-- OD 0x2600.08 PanicAgeHigh (R114). -/
abbrev OD.qosPanicAgeHigh : Nat := 0x260008
/-- OD 0x2600.09 PanicAgeLow (R114). -/
abbrev OD.qosPanicAgeLow : Nat := 0x260009
/-- OD 0x2600.0A LoadOptimal (R114). -/
abbrev OD.qosLoadOptimal : Nat := 0x26000A
/-- OD 0x2600.0B LoadModerate (R114). -/
abbrev OD.qosLoadModerate : Nat := 0x26000B
/-- OD 0x2600.0C LoadSevere (R114). -/
abbrev OD.qosLoadSevere : Nat := 0x26000C
/-- OD 0x2600.0D PanicCountHp0 (R114). -/
abbrev OD.qosPanicCountHp0 : Nat := 0x26000D
/-- OD 0x2600.0E PanicCountHp1 (R114). -/
abbrev OD.qosPanicCountHp1 : Nat := 0x26000E
/-- OD 0x2600.0F ThrottleState (R114). -/
abbrev OD.qosThrottleState : Nat := 0x26000F
/-- OD 0x3000.01 LogicalBytes (R156). -/
abbrev OD.spaceLogicalBytes : Nat := 0x300001
/-- OD 0x3000.02 ExtentsTotal (R156). -/
abbrev OD.spaceExtentsTotal : Nat := 0x300002
/-- OD 0x3000.03 ExtentsUsed (R156). -/
abbrev OD.spaceExtentsUsed : Nat := 0x300003
/-- OD 0x3000.04 ExtentsReserved (R156). -/
abbrev OD.spaceExtentsReserved : Nat := 0x300004
/-- OD 0x3000.05 FramesTotal (R156). -/
abbrev OD.spaceFramesTotal : Nat := 0x300005
/-- OD 0x3000.06 FramesFree (R156). -/
abbrev OD.spaceFramesFree : Nat := 0x300006
/-- OD 0x3000.07 FreeLow (R156). -/
abbrev OD.spaceFreeLow : Nat := 0x300007
/-- OD 0x3000.08 TableShare (R156). -/
abbrev OD.spaceTableShare : Nat := 0x300008
/-- OD 0x3000.09 TableNodesUsed (R156). -/
abbrev OD.spaceTableNodesUsed : Nat := 0x300009
/-- OD 0x3000.0A TableNodesTotal (R156). -/
abbrev OD.spaceTableNodesTotal : Nat := 0x30000A
/-- OD 0x3000.0B BackingPagesUsed (R156). -/
abbrev OD.spaceBackingPagesUsed : Nat := 0x30000B
/-- OD 0x3000.0C BackingPagesTotal (R156). -/
abbrev OD.spaceBackingPagesTotal : Nat := 0x30000C
/-- OD 0x3000.0D SpaceWarn (R156). -/
abbrev OD.spaceSpaceWarn : Nat := 0x30000D
/-- OD 0x3000.0E SpaceCritical (R156). -/
abbrev OD.spaceSpaceCritical : Nat := 0x30000E
/-- OD 0x3000.0F PoisonedPages (R156). -/
abbrev OD.spacePoisonedPages : Nat := 0x30000F
/-- OD 0x3000.10 CarriagesInUse (R156). -/
abbrev OD.spaceCarriagesInUse : Nat := 0x300010
/-- OD 0x3000.11 KeyGenNext (R156). -/
abbrev OD.spaceKeyGenNext : Nat := 0x300011
/-- OD 0x3100.01 Cursor (R157). -/
abbrev OD.carriageCursor : Nat := 0x310001
/-- OD 0x3100.02 Descriptor (R157). -/
abbrev OD.carriageDescriptor : Nat := 0x310002
/-- OD 0x3100.03 Advance (R157). -/
abbrev OD.carriageAdvance : Nat := 0x310003
/-- OD 0x3100.04 Create (R157). -/
abbrev OD.carriageCreate : Nat := 0x310004
/-- OD 0x3100.05 Delete (R157). -/
abbrev OD.carriageDelete : Nat := 0x310005
/-- OD 0x3100.06 Resize (R157). -/
abbrev OD.carriageResize : Nat := 0x310006
/-- OD 0x3100.07 SetSeal (R157). -/
abbrev OD.carriageSetSeal : Nat := 0x310007
/-- OD 0x3100.08 SetLabel (R157). -/
abbrev OD.carriageSetLabel : Nat := 0x310008
/-- OD 0x3100.09 ClearPagePoison (R157). -/
abbrev OD.carriageClearPagePoison : Nat := 0x310009
/-- OD 0x3100.0A LastResult (R157). -/
abbrev OD.carriageLastResult : Nat := 0x31000A
/-- OD 0x3100.0B LastId (R157). -/
abbrev OD.carriageLastId : Nat := 0x31000B
/-- OD 0x3100.0C CommandBusy (R157). -/
abbrev OD.carriageCommandBusy : Nat := 0x31000C
/-- OD 0x3400.01 DepotPages (R195). -/
abbrev OD.depotDepotPages : Nat := 0x340001
/-- OD 0x3400.02 Cursor (R195). -/
abbrev OD.depotCursor : Nat := 0x340002
/-- OD 0x3400.03 Entry (R195). -/
abbrev OD.depotEntry : Nat := 0x340003
/-- OD 0x3400.04 Admit (R195). -/
abbrev OD.depotAdmit : Nat := 0x340004
/-- OD 0x3400.05 MapDepot (R195). -/
abbrev OD.depotMapDepot : Nat := 0x340005
/-- OD 0x3400.06 AdmitExamined (R195). -/
abbrev OD.depotAdmitExamined : Nat := 0x340006
/-- OD 0x3400.07 AdmitMerged (R195). -/
abbrev OD.depotAdmitMerged : Nat := 0x340007
/-- OD 0x3400.08 AdmitNew (R195). -/
abbrev OD.depotAdmitNew : Nat := 0x340008
/-- OD 0x3400.09 AdmitSkipped (R195). -/
abbrev OD.depotAdmitSkipped : Nat := 0x340009
/-- OD 0x3400.0A AdmitZeroed (R195). -/
abbrev OD.depotAdmitZeroed : Nat := 0x34000A
/-- OD 0x3400.0B Collisions (R195). -/
abbrev OD.depotCollisions : Nat := 0x34000B
/-- OD 0x3400.0C AdmitBusy (R195). -/
abbrev OD.depotAdmitBusy : Nat := 0x34000C
/-- OD 0x3400.0D LastResult (R195). -/
abbrev OD.depotLastResult : Nat := 0x34000D
/-- OD 0x3600.01 Park (R196). -/
abbrev OD.sidingPark : Nat := 0x360001
/-- OD 0x3600.02 Recall (R196). -/
abbrev OD.sidingRecall : Nat := 0x360002
/-- OD 0x3600.03 ParkRate (R196). -/
abbrev OD.sidingParkRate : Nat := 0x360003
/-- OD 0x3600.04 RecallRate (R196). -/
abbrev OD.sidingRecallRate : Nat := 0x360004
/-- OD 0x3600.05 ProgressCursor (R196). -/
abbrev OD.sidingProgressCursor : Nat := 0x360005
/-- OD 0x3600.06 ProgressDone (R196). -/
abbrev OD.sidingProgressDone : Nat := 0x360006
/-- OD 0x3600.07 ProgressTotal (R196). -/
abbrev OD.sidingProgressTotal : Nat := 0x360007
/-- OD 0x3600.08 ParkResidual (R196). -/
abbrev OD.sidingParkResidual : Nat := 0x360008
/-- OD 0x3600.09 LastResult (R196). -/
abbrev OD.sidingLastResult : Nat := 0x360009
/-- OD 0x3700.01 ImportPublicKey (R197). -/
abbrev OD.transferImportPublicKey : Nat := 0x370001
/-- OD 0x3700.02 NextExportId (R197). -/
abbrev OD.transferNextExportId : Nat := 0x370002
/-- OD 0x3700.03 TransferRate (R197). -/
abbrev OD.transferTransferRate : Nat := 0x370003
/-- OD 0x3700.04 Export (R197). -/
abbrev OD.transferExport : Nat := 0x370004
/-- OD 0x3700.05 Import (R197). -/
abbrev OD.transferImport : Nat := 0x370005
/-- OD 0x3700.06 ExportRecords (R197). -/
abbrev OD.transferExportRecords : Nat := 0x370006
/-- OD 0x3700.07 ImportRecords (R197). -/
abbrev OD.transferImportRecords : Nat := 0x370007
/-- OD 0x3700.08 ImportTotal (R197). -/
abbrev OD.transferImportTotal : Nat := 0x370008
/-- OD 0x3700.09 FailedRecord (R197). -/
abbrev OD.transferFailedRecord : Nat := 0x370009
/-- OD 0x3700.0A ResultId (R197). -/
abbrev OD.transferResultId : Nat := 0x37000A
/-- OD 0x3700.0B LastResult (R197). -/
abbrev OD.transferLastResult : Nat := 0x37000B
/-- OD 0x3800.01 GlobalTerm (R198). -/
abbrev OD.termGlobalTerm : Nat := 0x380001
/-- OD 0x3800.02 GlobalPeriod (R198). -/
abbrev OD.termGlobalPeriod : Nat := 0x380002
/-- OD 0x3800.03 EndCarriageTerm (R198). -/
abbrev OD.termEndCarriageTerm : Nat := 0x380003
/-- OD 0x3800.04 EndGlobalTerm (R198). -/
abbrev OD.termEndGlobalTerm : Nat := 0x380004
/-- OD 0x3800.05 SnapshotReserve (R198). -/
abbrev OD.termSnapshotReserve : Nat := 0x380005
/-- OD 0x3800.06 Revert (R198). -/
abbrev OD.termRevert : Nat := 0x380006
/-- OD 0x3800.07 SnapshotPages (R198). -/
abbrev OD.termSnapshotPages : Nat := 0x380007
/-- OD 0x3800.08 LastBoundary (R198). -/
abbrev OD.termLastBoundary : Nat := 0x380008
/-- OD 0x3800.09 SnapshotCursor (R198). -/
abbrev OD.termSnapshotCursor : Nat := 0x380009
/-- OD 0x3800.0A SnapshotDropped (R198). -/
abbrev OD.termSnapshotDropped : Nat := 0x38000A
/-- OD 0x3800.0B LastResult (R198). -/
abbrev OD.termLastResult : Nat := 0x38000B
/-- OD 0x5000.01 CeilingConfigured (R230). -/
abbrev OD.ceilingCeilingConfigured : Nat := 0x500001
/-- OD 0x5000.02 ArmedShare (R230). -/
abbrev OD.ceilingArmedShare : Nat := 0x500002
/-- OD 0x5000.03 RateMargin (R230). -/
abbrev OD.ceilingRateMargin : Nat := 0x500003
/-- OD 0x5000.04 MetaCeiling (R230). -/
abbrev OD.ceilingMetaCeiling : Nat := 0x500004
/-- OD 0x5000.05 MetaPeriod (R230). -/
abbrev OD.ceilingMetaPeriod : Nat := 0x500005
/-- OD 0x5000.06 FlushHorizon (R230). -/
abbrev OD.ceilingFlushHorizon : Nat := 0x500006
/-- OD 0x5000.07 FlushPressure (R230). -/
abbrev OD.ceilingFlushPressure : Nat := 0x500007
/-- OD 0x5000.08 FlushRateMax (R230). -/
abbrev OD.ceilingFlushRateMax : Nat := 0x500008
/-- OD 0x5000.09 FlushBudget (R230). -/
abbrev OD.ceilingFlushBudget : Nat := 0x500009
/-- OD 0x5000.0A SavePowerAssumed (R230). -/
abbrev OD.ceilingSavePowerAssumed : Nat := 0x50000A
/-- OD 0x5010.01 EffectiveCeiling (R231). -/
abbrev OD.plannerEffectiveCeiling : Nat := 0x501001
/-- OD 0x5010.02 PlannedCeiling (R231). -/
abbrev OD.plannerPlannedCeiling : Nat := 0x501002
/-- OD 0x5010.03 EnergyBound (R231). -/
abbrev OD.plannerEnergyBound : Nat := 0x501003
/-- OD 0x5010.04 SlcBound (R231). -/
abbrev OD.plannerSlcBound : Nat := 0x501004
/-- OD 0x5010.05 PoolBound (R231). -/
abbrev OD.plannerPoolBound : Nat := 0x501005
/-- OD 0x5010.06 TargetCeiling (R231). -/
abbrev OD.plannerTargetCeiling : Nat := 0x501006
/-- OD 0x5010.07 Binding (R231). -/
abbrev OD.plannerBinding : Nat := 0x501007
/-- OD 0x5010.08 Residue (R231). -/
abbrev OD.plannerResidue : Nat := 0x501008
/-- OD 0x5010.09 ResidueFraction (R231). -/
abbrev OD.plannerResidueFraction : Nat := 0x501009
/-- OD 0x5010.0A FlushRate (R231). -/
abbrev OD.plannerFlushRate : Nat := 0x50100A
/-- OD 0x5010.0B MetaDirty (R231). -/
abbrev OD.plannerMetaDirty : Nat := 0x50100B
/-- OD 0x5010.0C Armed (R231). -/
abbrev OD.plannerArmed : Nat := 0x50100C
/-- OD 0x5010.0D UsableEnergy (R231). -/
abbrev OD.plannerUsableEnergy : Nat := 0x50100D
/-- OD 0x5010.0E ReserveShare (R231). -/
abbrev OD.plannerReserveShare : Nat := 0x50100E
/-- OD 0x5010.0F PlanRate (R231). -/
abbrev OD.plannerPlanRate : Nat := 0x50100F
/-- OD 0x5010.10 PlanPower (R231). -/
abbrev OD.plannerPlanPower : Nat := 0x501010
/-- OD 0x5010.11 PlanFixedTime (R231). -/
abbrev OD.plannerPlanFixedTime : Nat := 0x501011
/-- OD 0x5010.12 WearStep (R231). -/
abbrev OD.plannerWearStep : Nat := 0x501012
/-- OD 0x5010.13 FlushVolume24h (R231). -/
abbrev OD.plannerFlushVolume24h : Nat := 0x501013
/-- OD 0x5010.14 LastPlanTime (R231). -/
abbrev OD.plannerLastPlanTime : Nat := 0x501014
/-- OD 0x5010.15 HorizonEffective (R231). -/
abbrev OD.plannerHorizonEffective : Nat := 0x501015
/-- OD 0x5010.16 OldestDirtyAge (R231). -/
abbrev OD.plannerOldestDirtyAge : Nat := 0x501016
/-- OD 0x5010.17 DiesInService (R231). -/
abbrev OD.plannerDiesInService : Nat := 0x501017
/-- OD 0x5010.18 SaveFree (R231). -/
abbrev OD.plannerSaveFree : Nat := 0x501018
/-- OD 0x5010.19 FlushAmplification (R231). -/
abbrev OD.plannerFlushAmplification : Nat := 0x501019
/-- OD 0x5200.01 DrillStart (R232). -/
abbrev OD.drillDrillStart : Nat := 0x520001
/-- OD 0x5200.02 DrillPeriod (R232). -/
abbrev OD.drillDrillPeriod : Nat := 0x520002
/-- OD 0x5200.03 DrillVolume (R232). -/
abbrev OD.drillDrillVolume : Nat := 0x520003
/-- OD 0x5200.04 DrillOnBattery (R232). -/
abbrev OD.drillDrillOnBattery : Nat := 0x520004
/-- OD 0x5200.05 DrillState (R232). -/
abbrev OD.drillDrillState : Nat := 0x520005
/-- OD 0x5200.06 LastDrillTime (R232). -/
abbrev OD.drillLastDrillTime : Nat := 0x520006
/-- OD 0x5200.07 LastStreamRate (R232). -/
abbrev OD.drillLastStreamRate : Nat := 0x520007
/-- OD 0x5200.08 LastPower (R232). -/
abbrev OD.drillLastPower : Nat := 0x520008
/-- OD 0x5200.09 LastFixedTime (R232). -/
abbrev OD.drillLastFixedTime : Nat := 0x520009
/-- OD 0x5200.0A LastDieRate (R232). -/
abbrev OD.drillLastDieRate : Nat := 0x52000A
/-- OD 0x5200.0B LastDies (R232). -/
abbrev OD.drillLastDies : Nat := 0x52000B
/-- OD 0x5200.0C LastResult (R232). -/
abbrev OD.drillLastResult : Nat := 0x52000C
/-- OD 0x5200.0D DrillsAccepted (R232). -/
abbrev OD.drillDrillsAccepted : Nat := 0x52000D
/-- OD 0x5100.01 WarnLevel (R233). -/
abbrev OD.thresholdWarnLevel : Nat := 0x510001
/-- OD 0x5100.02 CommitLevel (R233). -/
abbrev OD.thresholdCommitLevel : Nat := 0x510002
/-- OD 0x5100.03 ReleaseLevel (R233). -/
abbrev OD.thresholdReleaseLevel : Nat := 0x510003
/-- OD 0x5100.04 ReleaseHold (R233). -/
abbrev OD.thresholdReleaseHold : Nat := 0x510004
/-- OD 0x5300.01 PlanLength (R277). -/
abbrev OD.restorePlanLength : Nat := 0x530001
/-- OD 0x5300.02 PlanCursor (R277). -/
abbrev OD.restorePlanCursor : Nat := 0x530002
/-- OD 0x5300.03 PlanEntry (R277). -/
abbrev OD.restorePlanEntry : Nat := 0x530003
/-- OD 0x5300.04 PlanLoad (R277). -/
abbrev OD.restorePlanLoad : Nat := 0x530004
/-- OD 0x5300.05 EarlyAdmission (R277). -/
abbrev OD.restoreEarlyAdmission : Nat := 0x530005
/-- OD 0x5300.06 RestoreRate (R277). -/
abbrev OD.restoreRestoreRate : Nat := 0x530006
/-- OD 0x5300.07 RestoreState (R277). -/
abbrev OD.restoreRestoreState : Nat := 0x530007
/-- OD 0x5300.08 RestoreDone (R277). -/
abbrev OD.restoreRestoreDone : Nat := 0x530008
/-- OD 0x5300.09 RestoreTotal (R277). -/
abbrev OD.restoreRestoreTotal : Nat := 0x530009
/-- OD 0x5300.0A PlanPosition (R277). -/
abbrev OD.restorePlanPosition : Nat := 0x53000A
/-- OD 0x5300.0B AdmissionTime (R277). -/
abbrev OD.restoreAdmissionTime : Nat := 0x53000B
/-- OD 0x5300.0C RestoreKind (R277). -/
abbrev OD.restoreRestoreKind : Nat := 0x53000C
/-- OD 0x5400.01 VaultPending (R278). -/
abbrev OD.vaultVaultPending : Nat := 0x540001
/-- OD 0x5400.02 SealSeq (R278). -/
abbrev OD.vaultSealSeq : Nat := 0x540002
/-- OD 0x5400.03 VaultClass (R278). -/
abbrev OD.vaultVaultClass : Nat := 0x540003
/-- OD 0x5400.04 ChainDepth (R278). -/
abbrev OD.vaultChainDepth : Nat := 0x540004
/-- OD 0x5400.05 SealFlags (R278). -/
abbrev OD.vaultSealFlags : Nat := 0x540005
/-- OD 0x5400.06 CommitTime (R278). -/
abbrev OD.vaultCommitTime : Nat := 0x540006
/-- OD 0x5400.07 SealTime (R278). -/
abbrev OD.vaultSealTime : Nat := 0x540007
/-- OD 0x5400.08 SaveDuration (R278). -/
abbrev OD.vaultSaveDuration : Nat := 0x540008
/-- OD 0x5400.09 SavedPages (R278). -/
abbrev OD.vaultSavedPages : Nat := 0x540009
/-- OD 0x5400.0A PoisonedPages (R278). -/
abbrev OD.vaultPoisonedPages : Nat := 0x54000A
/-- OD 0x5400.0B UnsavedPages (R278). -/
abbrev OD.vaultUnsavedPages : Nat := 0x54000B
/-- OD 0x5400.0C FrozenChannels (R278). -/
abbrev OD.vaultFrozenChannels : Nat := 0x54000C
/-- OD 0x5400.0D OutcomeCursor (R278). -/
abbrev OD.vaultOutcomeCursor : Nat := 0x54000D
/-- OD 0x5400.0E CarriageOutcome (R278). -/
abbrev OD.vaultCarriageOutcome : Nat := 0x54000E
/-- OD 0x5400.0F ClearOutcomes (R278). -/
abbrev OD.vaultClearOutcomes : Nat := 0x54000F
/-- OD 0x5400.10 SaveCount (R278). -/
abbrev OD.vaultSaveCount : Nat := 0x540010
/-- OD 0x5400.11 DirtyShutdowns (R278). -/
abbrev OD.vaultDirtyShutdowns : Nat := 0x540011
/-- OD 0x5400.12 SignalsInSave (R278). -/
abbrev OD.vaultSignalsInSave : Nat := 0x540012
/-- OD 0x4000+0x10n.01 State (R316), member n. -/
def OD.mcState (n : Nat) : Nat := (0x4000 + 16 * n) * 256 + 0x01
/-- OD 0x4000+0x10n.02 Rate (R316), member n. -/
def OD.mcRate (n : Nat) : Nat := (0x4000 + 16 * n) * 256 + 0x02
/-- OD 0x4000+0x10n.03 Ranks (R316), member n. -/
def OD.mcRanks (n : Nat) : Nat := (0x4000 + 16 * n) * 256 + 0x03
/-- OD 0x4000+0x10n.04 Density (R316), member n. -/
def OD.mcDensity (n : Nat) : Nat := (0x4000 + 16 * n) * 256 + 0x04
/-- OD 0x4000+0x10n.05 Capacity (R316), member n. -/
def OD.mcCapacity (n : Nat) : Nat := (0x4000 + 16 * n) * 256 + 0x05
/-- OD 0x4000+0x10n.06 Corrected (R316), member n. -/
def OD.mcCorrected (n : Nat) : Nat := (0x4000 + 16 * n) * 256 + 0x06
/-- OD 0x4000+0x10n.07 Uncorrectable (R316), member n. -/
def OD.mcUncorrectable (n : Nat) : Nat := (0x4000 + 16 * n) * 256 + 0x07
/-- OD 0x4000+0x10n.08 PoisonedLines (R316), member n. -/
def OD.mcPoisonedLines (n : Nat) : Nat := (0x4000 + 16 * n) * 256 + 0x08
/-- OD 0x4000+0x10n.09 FailedDevices (R316), member n. -/
def OD.mcFailedDevices (n : Nat) : Nat := (0x4000 + 16 * n) * 256 + 0x09
/-- OD 0x4000+0x10n.0A RefreshMultiplier (R316), member n. -/
def OD.mcRefreshMultiplier (n : Nat) : Nat := (0x4000 + 16 * n) * 256 + 0x0A
/-- OD 0x4000+0x10n.0B RefreshGap (R316), member n. -/
def OD.mcRefreshGap (n : Nat) : Nat := (0x4000 + 16 * n) * 256 + 0x0B
/-- OD 0x4000+0x10n.0C WriteCrcRetries (R316), member n. -/
def OD.mcWriteCrcRetries (n : Nat) : Nat := (0x4000 + 16 * n) * 256 + 0x0C
/-- OD 0x4000+0x10n.0D NeighbourRefreshes (R316), member n. -/
def OD.mcNeighbourRefreshes (n : Nat) : Nat := (0x4000 + 16 * n) * 256 + 0x0D
/-- OD 0x4000+0x10n.0E LastFreezeCause (R316), member n. -/
def OD.mcLastFreezeCause (n : Nat) : Nat := (0x4000 + 16 * n) * 256 + 0x0E
/-- OD 0x4100.01 SpeedLimit (R317). -/
abbrev OD.dramSpeedLimit : Nat := 0x410001
/-- OD 0x4100.02 WriteCrc (R317). -/
abbrev OD.dramWriteCrc : Nat := 0x410002
/-- OD 0x4100.03 ScrubPeriod (R317). -/
abbrev OD.dramScrubPeriod : Nat := 0x410003
/-- OD 0x4100.04 Population (R317). -/
abbrev OD.dramPopulation : Nat := 0x410004
/-- OD 0x4100.05 ChannelsInService (R317). -/
abbrev OD.dramChannelsInService : Nat := 0x410005
/-- OD 0x4100.06 StoredTrainingValid (R317). -/
abbrev OD.dramStoredTrainingValid : Nat := 0x410006
/-- OD 0x4100.07 ForceFullTraining (R317). -/
abbrev OD.dramForceFullTraining : Nat := 0x410007
/-- OD 0x4100.08 FramesPerChannel (R317). -/
abbrev OD.dramFramesPerChannel : Nat := 0x410008
/-- OD 0x4100.09 FramesTotal (R317). -/
abbrev OD.dramFramesTotal : Nat := 0x410009
/-- OD 0x4100.0A ClosePageTimeout (R317). -/
abbrev OD.dramClosePageTimeout : Nat := 0x41000A
/-- OD 0x4200.01 Threshold (R318). -/
abbrev OD.tallyThreshold : Nat := 0x420001
/-- OD 0x4200.02 Window (R318). -/
abbrev OD.tallyWindow : Nat := 0x420002
/-- OD 0x4200.03 Mitigation (R318). -/
abbrev OD.tallyMitigation : Nat := 0x420003
/-- OD 0x4200.04 Subchannel (R318). -/
abbrev OD.tallySubchannel : Nat := 0x420004
/-- OD 0x4200.05 Cursor (R318). -/
abbrev OD.tallyCursor : Nat := 0x420005
/-- OD 0x4200.06 Entry (R318). -/
abbrev OD.tallyEntry : Nat := 0x420006
/-- OD 0x4200.07 Fallbacks (R318). -/
abbrev OD.tallyFallbacks : Nat := 0x420007
/-- OD 0x4200.08 InFallback (R318). -/
abbrev OD.tallyInFallback : Nat := 0x420008
/-- OD 0x4200.09 Deferred (R318). -/
abbrev OD.tallyDeferred : Nat := 0x420009
/-- OD 0x4400.01 RecordChannel (R319). -/
abbrev OD.freezeRecordChannel : Nat := 0x440001
/-- OD 0x4400.02 RecordLow (R319). -/
abbrev OD.freezeRecordLow : Nat := 0x440002
/-- OD 0x4400.03 RecordHigh (R319). -/
abbrev OD.freezeRecordHigh : Nat := 0x440003
/-- OD 0x4400.04 FreezeChannel (R319). -/
abbrev OD.freezeFreezeChannel : Nat := 0x440004
/-- OD 0x4400.05 ReturnChannel (R319). -/
abbrev OD.freezeReturnChannel : Nat := 0x440005
/-- OD 0x4400.06 ThawDone (R319). -/
abbrev OD.freezeThawDone : Nat := 0x440006
/-- OD 0x4400.07 ThawTotal (R319). -/
abbrev OD.freezeThawTotal : Nat := 0x440007
/-- OD 0x4400.08 LastResult (R319). -/
abbrev OD.freezeLastResult : Nat := 0x440008
/-- OD 0x6000.01 Population (R346). -/
abbrev OD.flashPopulation : Nat := 0x600001
/-- OD 0x6000.02 SpeedLimit (R346). -/
abbrev OD.flashSpeedLimit : Nat := 0x600002
/-- OD 0x6000.03 SaveCeilingMax (R346). -/
abbrev OD.flashSaveCeilingMax : Nat := 0x600003
/-- OD 0x6000.04 Rate (R346). -/
abbrev OD.flashRate : Nat := 0x600004
/-- OD 0x6000.05 DiesPopulated (R346). -/
abbrev OD.flashDiesPopulated : Nat := 0x600005
/-- OD 0x6000.06 DiesInService (R346). -/
abbrev OD.flashDiesInService : Nat := 0x600006
/-- OD 0x6000.07 ChannelsInService (R346). -/
abbrev OD.flashChannelsInService : Nat := 0x600007
/-- OD 0x6000.08 SaveRegionUsable (R346). -/
abbrev OD.flashSaveRegionUsable : Nat := 0x600008
/-- OD 0x6000.09 SaveFree (R346). -/
abbrev OD.flashSaveFree : Nat := 0x600009
/-- OD 0x6000.0A RotationPointer (R346). -/
abbrev OD.flashRotationPointer : Nat := 0x60000A
/-- OD 0x6000.0B SpareShare (R346). -/
abbrev OD.flashSpareShare : Nat := 0x60000B
/-- OD 0x6000.0C DieProfile (R346). -/
abbrev OD.flashDieProfile : Nat := 0x60000C
/-- OD 0x6000.0D ReturnChannel (R346). -/
abbrev OD.flashReturnChannel : Nat := 0x60000D
/-- OD 0x6000.0E LastResult (R346). -/
abbrev OD.flashLastResult : Nat := 0x60000E
/-- OD 0x6100+n.01 State (R347), member n. -/
def OD.fcState (n : Nat) : Nat := (0x6100 + n) * 256 + 0x01
/-- OD 0x6100+n.02 Dies (R347), member n. -/
def OD.fcDies (n : Nat) : Nat := (0x6100 + n) * 256 + 0x02
/-- OD 0x6100+n.03 OutCause (R347), member n. -/
def OD.fcOutCause (n : Nat) : Nat := (0x6100 + n) * 256 + 0x03
/-- OD 0x6100+n.04 RetryReads (R347), member n. -/
def OD.fcRetryReads (n : Nat) : Nat := (0x6100 + n) * 256 + 0x04
/-- OD 0x6100+n.05 SoftDecodes (R347), member n. -/
def OD.fcSoftDecodes (n : Nat) : Nat := (0x6100 + n) * 256 + 0x05
/-- OD 0x6100+n.06 Rebuilds (R347), member n. -/
def OD.fcRebuilds (n : Nat) : Nat := (0x6100 + n) * 256 + 0x06
/-- OD 0x6100+n.07 ProgramFailures (R347), member n. -/
def OD.fcProgramFailures (n : Nat) : Nat := (0x6100 + n) * 256 + 0x07
/-- OD 0x6100+n.08 EraseFailures (R347), member n. -/
def OD.fcEraseFailures (n : Nat) : Nat := (0x6100 + n) * 256 + 0x08
/-- OD 0x6100+n.09 BytesProgrammed (R347), member n. -/
def OD.fcBytesProgrammed (n : Nat) : Nat := (0x6100 + n) * 256 + 0x09
/-- OD 0x6400.01 EraseAvg (R348). -/
abbrev OD.wearEraseAvg : Nat := 0x640001
/-- OD 0x6400.02 EraseMin (R348). -/
abbrev OD.wearEraseMin : Nat := 0x640002
/-- OD 0x6400.03 EraseMax (R348). -/
abbrev OD.wearEraseMax : Nat := 0x640003
/-- OD 0x6400.04 SlcEraseMax (R348). -/
abbrev OD.wearSlcEraseMax : Nat := 0x640004
/-- OD 0x6400.05 LifeUsed (R348). -/
abbrev OD.wearLifeUsed : Nat := 0x640005
/-- OD 0x6400.06 GrownBadBlocks (R348). -/
abbrev OD.wearGrownBadBlocks : Nat := 0x640006
/-- OD 0x6400.07 SpareLeftMin (R348). -/
abbrev OD.wearSpareLeftMin : Nat := 0x640007
/-- OD 0x6400.08 DiesRetired (R348). -/
abbrev OD.wearDiesRetired : Nat := 0x640008
/-- OD 0x6400.09 GcBytesProgrammed (R348). -/
abbrev OD.wearGcBytesProgrammed : Nat := 0x640009
/-- OD 0x6400.0A GcAmplification (R348). -/
abbrev OD.wearGcAmplification : Nat := 0x64000A
/-- OD 0x6400.0B RefreshRelocations (R348). -/
abbrev OD.wearRefreshRelocations : Nat := 0x64000B
/-- OD 0x6600.01 GcHigh (R349). -/
abbrev OD.gcGcHigh : Nat := 0x660001
/-- OD 0x6600.02 GcLow (R349). -/
abbrev OD.gcGcLow : Nat := 0x660002
/-- OD 0x6600.03 GcStop (R349). -/
abbrev OD.gcGcStop : Nat := 0x660003
/-- OD 0x6600.04 OverProvision (R349). -/
abbrev OD.gcOverProvision : Nat := 0x660004
/-- OD 0x6600.05 RefreshAge (R349). -/
abbrev OD.gcRefreshAge : Nat := 0x660005
/-- OD 0x6600.06 FreeShare (R349). -/
abbrev OD.gcFreeShare : Nat := 0x660006
/-- OD 0x6600.07 GcState (R349). -/
abbrev OD.gcGcState : Nat := 0x660007
/-- OD 0x7000+s.01 Key (R365), member n. -/
def OD.slotKey (n : Nat) : Nat := (0x7000 + n) * 256 + 0x01
/-- OD 0x7000+s.02 Type (R365), member n. -/
def OD.slotType (n : Nat) : Nat := (0x7000 + n) * 256 + 0x02
/-- OD 0x7000+s.03 CheckValue (R365), member n. -/
def OD.slotCheckValue (n : Nat) : Nat := (0x7000 + n) * 256 + 0x03
/-- OD 0x7000+s.04 Generation (R365), member n. -/
def OD.slotGeneration (n : Nat) : Nat := (0x7000 + n) * 256 + 0x04
/-- OD 0x7000+s.05 CounterHighWater (R365), member n. -/
def OD.slotCounterHighWater (n : Nat) : Nat := (0x7000 + n) * 256 + 0x05
/-- OD 0x7000+s.06 Counter (R365), member n. -/
def OD.slotCounter (n : Nat) : Nat := (0x7000 + n) * 256 + 0x06
/-- OD 0x7000+s.07 Erase (R365), member n. -/
def OD.slotErase (n : Nat) : Nat := (0x7000 + n) * 256 + 0x07
/-- OD 0x7000+s.08 LastResult (R365), member n. -/
def OD.slotLastResult (n : Nat) : Nat := (0x7000 + n) * 256 + 0x08
/-- OD 0x7400.01 Cursor (R372). -/
abbrev OD.passesCursor : Nat := 0x740001
/-- OD 0x7400.02 Passes (R372). -/
abbrev OD.passesPasses : Nat := 0x740002
/-- OD 0x7400.03 Grant (R372). -/
abbrev OD.passesGrant : Nat := 0x740003
/-- OD 0x7400.04 Revoke (R372). -/
abbrev OD.passesRevoke : Nat := 0x740004
/-- OD 0x7400.05 RevokeSlot (R372). -/
abbrev OD.passesRevokeSlot : Nat := 0x740005
/-- OD 0x7400.06 LastResult (R372). -/
abbrev OD.passesLastResult : Nat := 0x740006
/-- OD 0x7200.01 Seal (R379). -/
abbrev OD.sealingSeal : Nat := 0x720001
/-- OD 0x7200.02 Unseal (R379). -/
abbrev OD.sealingUnseal : Nat := 0x720002
/-- OD 0x7200.03 LastResult (R379). -/
abbrev OD.sealingLastResult : Nat := 0x720003
/-- OD 0x7300.01 PipesUsable (R385). -/
abbrev OD.pipesPipesUsable : Nat := 0x730001
/-- OD 0x7300.02 PipesQuarantined (R385). -/
abbrev OD.pipesPipesQuarantined : Nat := 0x730002
/-- OD 0x7300.03 TranscryptRate (R385). -/
abbrev OD.pipesTranscryptRate : Nat := 0x730003
/-- OD 0x7300.04 Mismatches (R385). -/
abbrev OD.pipesMismatches : Nat := 0x730004
/-- OD 0x7300.05 BlocksFailed (R385). -/
abbrev OD.pipesBlocksFailed : Nat := 0x730005
/-- OD 0x7300.06 PlainKeyLoad (R385). -/
abbrev OD.pipesPlainKeyLoad : Nat := 0x730006
/-- OD 0x7300.07 VaultCheckValue (R385). -/
abbrev OD.pipesVaultCheckValue : Nat := 0x730007
/-- OD 0x7300.08 PipeRetest (R385). -/
abbrev OD.pipesPipeRetest : Nat := 0x730008
/-- OD 0x7300.09 LastResult (R385). -/
abbrev OD.pipesLastResult : Nat := 0x730009
/-- OD 0x8000.01 DesignCapacity (R418). -/
abbrev OD.gaugeDesignCapacity : Nat := 0x800001
/-- OD 0x8000.02 DesignR25 (R418). -/
abbrev OD.gaugeDesignR25 : Nat := 0x800002
/-- OD 0x8000.03 ShuntValue (R418). -/
abbrev OD.gaugeShuntValue : Nat := 0x800003
/-- OD 0x8000.04 CutoffCell (R418). -/
abbrev OD.gaugeCutoffCell : Nat := 0x800004
/-- OD 0x8000.05 SocFloor (R418). -/
abbrev OD.gaugeSocFloor : Nat := 0x800005
/-- OD 0x8000.06 OcvTable (R418). -/
abbrev OD.gaugeOcvTable : Nat := 0x800006
/-- OD 0x8000.07 RFactor (R418). -/
abbrev OD.gaugeRFactor : Nat := 0x800007
/-- OD 0x8000.08 ThermistorBeta (R418). -/
abbrev OD.gaugeThermistorBeta : Nat := 0x800008
/-- OD 0x8000.09 PackState (R418). -/
abbrev OD.gaugePackState : Nat := 0x800009
/-- OD 0x8000.0A PackVoltage (R418). -/
abbrev OD.gaugePackVoltage : Nat := 0x80000A
/-- OD 0x8000.0B CellVoltages (R418). -/
abbrev OD.gaugeCellVoltages : Nat := 0x80000B
/-- OD 0x8000.0C Current (R418). -/
abbrev OD.gaugeCurrent : Nat := 0x80000C
/-- OD 0x8000.0D Temperatures (R418). -/
abbrev OD.gaugeTemperatures : Nat := 0x80000D
/-- OD 0x8000.0E SocCoulomb (R418). -/
abbrev OD.gaugeSocCoulomb : Nat := 0x80000E
/-- OD 0x8000.0F SocVoltage (R418). -/
abbrev OD.gaugeSocVoltage : Nat := 0x80000F
/-- OD 0x8000.10 SocRest (R418). -/
abbrev OD.gaugeSocRest : Nat := 0x800010
/-- OD 0x8000.11 SocPlanning (R418). -/
abbrev OD.gaugeSocPlanning : Nat := 0x800011
/-- OD 0x8000.12 Estimate (R418). -/
abbrev OD.gaugeEstimate : Nat := 0x800012
/-- OD 0x8000.13 AtRest (R418). -/
abbrev OD.gaugeAtRest : Nat := 0x800013
/-- OD 0x8000.14 UsableEnergy (R418). -/
abbrev OD.gaugeUsableEnergy : Nat := 0x800014
/-- OD 0x8000.15 Disagreement (R418). -/
abbrev OD.gaugeDisagreement : Nat := 0x800015
/-- OD 0x8000.16 LastDisagreement (R418). -/
abbrev OD.gaugeLastDisagreement : Nat := 0x800016
/-- OD 0x8100.01 LearnedCapacity (R419). -/
abbrev OD.learningLearnedCapacity : Nat := 0x810001
/-- OD 0x8100.02 LearnedR25 (R419). -/
abbrev OD.learningLearnedR25 : Nat := 0x810002
/-- OD 0x8100.03 InitialR25 (R419). -/
abbrev OD.learningInitialR25 : Nat := 0x810003
/-- OD 0x8100.04 LastLearnTime (R419). -/
abbrev OD.learningLastLearnTime : Nat := 0x810004
/-- OD 0x8100.05 LearnCount (R419). -/
abbrev OD.learningLearnCount : Nat := 0x810005
/-- OD 0x8100.06 LastRejectCause (R419). -/
abbrev OD.learningLastRejectCause : Nat := 0x810006
/-- OD 0x8100.07 ForcedRelearn (R419). -/
abbrev OD.learningForcedRelearn : Nat := 0x810007
/-- OD 0x8100.08 LearnMinSwing (R419). -/
abbrev OD.learningLearnMinSwing : Nat := 0x810008
/-- OD 0x8100.09 Derated (R419). -/
abbrev OD.learningDerated : Nat := 0x810009
/-- OD 0x8100.0A Relearn (R419). -/
abbrev OD.learningRelearn : Nat := 0x81000A
/-- OD 0x8100.0B RecordSeq (R419). -/
abbrev OD.learningRecordSeq : Nat := 0x81000B
/-- OD 0x8100.0C DaysSinceLearning (R419). -/
abbrev OD.learningDaysSinceLearning : Nat := 0x81000C
/-- OD 0x8200.01 SensorCount (R420). -/
abbrev OD.monitorSensorCount : Nat := 0x820001
/-- OD 0x8200.02 Cursor (R420). -/
abbrev OD.monitorCursor : Nat := 0x820002
/-- OD 0x8200.03 Sensor (R420). -/
abbrev OD.monitorSensor : Nat := 0x820003
/-- OD 0x8200.04 WorstDrift (R420). -/
abbrev OD.monitorWorstDrift : Nat := 0x820004
/-- OD 0x8200.05 WorstSlack (R420). -/
abbrev OD.monitorWorstSlack : Nat := 0x820005
/-- OD 0x8200.06 DriftTrigger (R420). -/
abbrev OD.monitorDriftTrigger : Nat := 0x820006
/-- OD 0x8200.07 LastSample (R420). -/
abbrev OD.monitorLastSample : Nat := 0x820007
/-- OD 0x8300.01 ReplanPeriod (R421). -/
abbrev OD.marginReplanPeriod : Nat := 0x830001
/-- OD 0x8300.02 ReplanNow (R421). -/
abbrev OD.marginReplanNow : Nat := 0x830002
/-- OD 0x8300.03 LastReplanTime (R421). -/
abbrev OD.marginLastReplanTime : Nat := 0x830003
/-- OD 0x8300.04 LastReplanCause (R421). -/
abbrev OD.marginLastReplanCause : Nat := 0x830004
/-- OD 0x8300.05 ReserveShare (R421). -/
abbrev OD.marginReserveShare : Nat := 0x830005
/-- OD 0x8300.06 ReserveMin (R421). -/
abbrev OD.marginReserveMin : Nat := 0x830006
/-- OD 0x8300.07 VtrimOffset (R421). -/
abbrev OD.marginVtrimOffset : Nat := 0x830007
/-- OD 0x8300.08 VtrimMax (R421). -/
abbrev OD.marginVtrimMax : Nat := 0x830008
/-- OD 0x8300.09 VtrimGain (R421). -/
abbrev OD.marginVtrimGain : Nat := 0x830009
/-- OD 0x8300.0A ClockDerate (R421). -/
abbrev OD.marginClockDerate : Nat := 0x83000A
/-- OD 0x8300.0B SlackMin (R421). -/
abbrev OD.marginSlackMin : Nat := 0x83000B
/-- OD 0x8300.0C RetentionHigh (R421). -/
abbrev OD.marginRetentionHigh : Nat := 0x83000C
/-- OD 0x8300.0D RetentionLow (R421). -/
abbrev OD.marginRetentionLow : Nat := 0x83000D
/-- OD 0x8300.0E Deferred (R421). -/
abbrev OD.marginDeferred : Nat := 0x83000E
/-- OD 0x8400.01 DividerRatio (R422). -/
abbrev OD.railDividerRatio : Nat := 0x840001
/-- OD 0x8400.02 RailVoltage (R422). -/
abbrev OD.railRailVoltage : Nat := 0x840002
/-- OD 0x8400.03 EffectiveLevels (R422). -/
abbrev OD.railEffectiveLevels : Nat := 0x840003
/-- OD 0x8400.04 PwrfailLevel (R422). -/
abbrev OD.railPwrfailLevel : Nat := 0x840004
/-- OD 0x8400.05 BatselState (R422). -/
abbrev OD.railBatselState : Nat := 0x840005
/-- OD 0x8400.06 BatselConfirmFails (R422). -/
abbrev OD.railBatselConfirmFails : Nat := 0x840006
/-- OD 0x8400.07 ReleaseHoldElapsed (R422). -/
abbrev OD.railReleaseHoldElapsed : Nat := 0x840007
/-- OD 0x1000.01 Vendor (R454). -/
abbrev OD.identityVendor : Nat := 0x100001
/-- OD 0x1000.02 Part (R454). -/
abbrev OD.identityPart : Nat := 0x100002
/-- OD 0x1000.03 Stepping (R454). -/
abbrev OD.identityStepping : Nat := 0x100003
/-- OD 0x1000.04 UnitId (R454). -/
abbrev OD.identityUnitId : Nat := 0x100004
/-- OD 0x1000.05 FirmwareVersions (R454). -/
abbrev OD.identityFirmwareVersions : Nat := 0x100005
/-- OD 0x1000.06 PciVendorId (R454). -/
abbrev OD.identityPciVendorId : Nat := 0x100006
/-- OD 0x1000.07 Family (R454). -/
abbrev OD.identityFamily : Nat := 0x100007
/-- OD 0x1000.08 Product (R454). -/
abbrev OD.identityProduct : Nat := 0x100008
/-- OD 0x1000.09 ManufactureTime (R454). -/
abbrev OD.identityManufactureTime : Nat := 0x100009
/-- OD 0x1000.0A DictionaryVersion (R454). -/
abbrev OD.identityDictionaryVersion : Nat := 0x10000A
/-- OD 0x1010.01 Now (R456). -/
abbrev OD.clockNow : Nat := 0x101001
/-- OD 0x1010.02 TimeValid (R456). -/
abbrev OD.clockTimeValid : Nat := 0x101002
/-- OD 0x1010.03 LastSet (R456). -/
abbrev OD.clockLastSet : Nat := 0x101003
/-- OD 0x1100.01 Mode (R457). -/
abbrev OD.modeMode : Nat := 0x110001
/-- OD 0x1100.02 Request (R457). -/
abbrev OD.modeRequest : Nat := 0x110002
/-- OD 0x1100.03 LastCause (R457). -/
abbrev OD.modeLastCause : Nat := 0x110003
/-- OD 0x1100.04 PreviousMode (R457). -/
abbrev OD.modePreviousMode : Nat := 0x110004
/-- OD 0x1100.05 LastTransition (R457). -/
abbrev OD.modeLastTransition : Nat := 0x110005
/-- OD 0x1100.06 BootFailures (R457). -/
abbrev OD.modeBootFailures : Nat := 0x110006
/-- OD 0x1100.07 BootFailStep (R457). -/
abbrev OD.modeBootFailStep : Nat := 0x110007
/-- OD 0x1200.01 VdmAccess (R459). -/
abbrev OD.accessVdmAccess : Nat := 0x120001
/-- OD 0x1200.02 SmbusAccess (R459). -/
abbrev OD.accessSmbusAccess : Nat := 0x120002
/-- OD 0x1200.03 ProxyAccess (R459). -/
abbrev OD.accessProxyAccess : Nat := 0x120003
/-- OD 0x1F00.01 Commit (R460). -/
abbrev OD.stagingCommit : Nat := 0x1F0001
/-- OD 0x1F00.02 PendingCount (R460). -/
abbrev OD.stagingPendingCount : Nat := 0x1F0002
/-- OD 0x1F00.03 ApplyPoint (R460). -/
abbrev OD.stagingApplyPoint : Nat := 0x1F0003
/-- OD 0x1F00.04 Discard (R460). -/
abbrev OD.stagingDiscard : Nat := 0x1F0004
/-- OD 0x1F00.05 CommittedCount (R460). -/
abbrev OD.stagingCommittedCount : Nat := 0x1F0005
/-- OD 0x1F00.06 Cursor (R460). -/
abbrev OD.stagingCursor : Nat := 0x1F0006
/-- OD 0x1F00.07 Entry (R460). -/
abbrev OD.stagingEntry : Nat := 0x1F0007
/-- OD 0x1F00.08 LastApplied (R460). -/
abbrev OD.stagingLastApplied : Nat := 0x1F0008
/-- OD 0x1F00.09 LastApplyResult (R460). -/
abbrev OD.stagingLastApplyResult : Nat := 0x1F0009
/-- OD 0x1F00.0A LastRejected (R460). -/
abbrev OD.stagingLastRejected : Nat := 0x1F000A
/-- OD 0x1F00.0B LastResult (R460). -/
abbrev OD.stagingLastResult : Nat := 0x1F000B
/-- OD 0xC000.01 Address (R488). -/
abbrev OD.twoWireAddress : Nat := 0xC00001
/-- OD 0xC000.02 BusSpeed (R488). -/
abbrev OD.twoWireBusSpeed : Nat := 0xC00002
/-- OD 0xC000.03 Slope (R488). -/
abbrev OD.twoWireSlope : Nat := 0xC00003
/-- OD 0xC000.04 SmbusTimeout (R488). -/
abbrev OD.twoWireSmbusTimeout : Nat := 0xC00004
/-- OD 0xC000.05 PecRequired (R488). -/
abbrev OD.twoWirePecRequired : Nat := 0xC00005
/-- OD 0xC000.06 WindowWrites (R488). -/
abbrev OD.twoWireWindowWrites : Nat := 0xC00006
/-- OD 0xC000.07 Transactions (R488). -/
abbrev OD.twoWireTransactions : Nat := 0xC00007
/-- OD 0xC000.08 NackedBytes (R488). -/
abbrev OD.twoWireNackedBytes : Nat := 0xC00008
/-- OD 0xC000.09 Timeouts (R488). -/
abbrev OD.twoWireTimeouts : Nat := 0xC00009
/-- OD 0xC000.0A StaleReads (R488). -/
abbrev OD.twoWireStaleReads : Nat := 0xC0000A
/-- OD 0xC000.0B PecFailures (R488). -/
abbrev OD.twoWirePecFailures : Nat := 0xC0000B
/-- OD 0xC000.0C DiscardedBytes (R488). -/
abbrev OD.twoWireDiscardedBytes : Nat := 0xC0000C
/-- OD 0xC100.01 Enable (R489). -/
abbrev OD.notifyEnable : Nat := 0xC10001
/-- OD 0xC100.02 MinSeverity (R489). -/
abbrev OD.notifyMinSeverity : Nat := 0xC10002
/-- OD 0xC100.03 Attempts (R489). -/
abbrev OD.notifyAttempts : Nat := 0xC10003
/-- OD 0xC100.04 Pending (R489). -/
abbrev OD.notifyPending : Nat := 0xC10004
/-- OD 0xC100.05 Sent (R489). -/
abbrev OD.notifySent : Nat := 0xC10005
/-- OD 0xC100.06 Dropped (R489). -/
abbrev OD.notifyDropped : Nat := 0xC10006
/-- OD 0xC100.07 ArbitrationLost (R489). -/
abbrev OD.notifyArbitrationLost : Nat := 0xC10007
/-- OD 0xC100.08 Nacked (R489). -/
abbrev OD.notifyNacked : Nat := 0xC10008
/-- OD 0xC100.09 LastCode (R489). -/
abbrev OD.notifyLastCode : Nat := 0xC10009
/-- OD 0xC100.0A LastResult (R489). -/
abbrev OD.notifyLastResult : Nat := 0xC1000A
/-- OD 0xC100.0B TestNotify (R489). -/
abbrev OD.notifyTestNotify : Nat := 0xC1000B
/-- OD 0xA000.01 UpdateState (R550). -/
abbrev OD.updateUpdateState : Nat := 0xA00001
/-- OD 0xA000.02 PartSelect (R550). -/
abbrev OD.updatePartSelect : Nat := 0xA00002
/-- OD 0xA000.03 BlockPart (R550). -/
abbrev OD.updateBlockPart : Nat := 0xA00003
/-- OD 0xA000.04 SubmitBlock (R550). -/
abbrev OD.updateSubmitBlock : Nat := 0xA00004
/-- OD 0xA000.05 Abort (R550). -/
abbrev OD.updateAbort : Nat := 0xA00005
/-- OD 0xA000.06 Apply (R550). -/
abbrev OD.updateApply : Nat := 0xA00006
/-- OD 0xA000.07 NextOffset (R550). -/
abbrev OD.updateNextOffset : Nat := 0xA00007
/-- OD 0xA000.08 PackageId (R550). -/
abbrev OD.updatePackageId : Nat := 0xA00008
/-- OD 0xA000.09 PackageLength (R550). -/
abbrev OD.updatePackageLength : Nat := 0xA00009
/-- OD 0xA000.0A ApplySector (R550). -/
abbrev OD.updateApplySector : Nat := 0xA0000A
/-- OD 0xA000.0B TargetVersions (R550). -/
abbrev OD.updateTargetVersions : Nat := 0xA0000B
/-- OD 0xA000.0C LastResult (R550). -/
abbrev OD.updateLastResult : Nat := 0xA0000C
/-- OD 0xA100.01 Schedule (R551). -/
abbrev OD.departureSchedule : Nat := 0xA10001
/-- OD 0xA100.02 Cancel (R551). -/
abbrev OD.departureCancel : Nat := 0xA10002
/-- OD 0xA100.03 DepartureTime (R551). -/
abbrev OD.departureDepartureTime : Nat := 0xA10003
/-- OD 0xA100.04 DepartureMode (R551). -/
abbrev OD.departureDepartureMode : Nat := 0xA10004
/-- OD 0xA100.05 Deferrals (R551). -/
abbrev OD.departureDeferrals : Nat := 0xA10005
/-- OD 0xA100.06 DeferCause (R551). -/
abbrev OD.departureDeferCause : Nat := 0xA10006
/-- OD 0xA100.07 LastResult (R551). -/
abbrev OD.departureLastResult : Nat := 0xA10007
/-- OD 0xA200.01 ActiveBank (R552). -/
abbrev OD.bankActiveBank : Nat := 0xA20001
/-- OD 0xA200.02 BankA (R552). -/
abbrev OD.bankBankA : Nat := 0xA20002
/-- OD 0xA200.03 BankB (R552). -/
abbrev OD.bankBankB : Nat := 0xA20003
/-- OD 0xA200.04 Rollback (R552). -/
abbrev OD.bankRollback : Nat := 0xA20004
/-- OD 0xA200.05 ConfirmPeriod (R552). -/
abbrev OD.bankConfirmPeriod : Nat := 0xA20005
/-- OD 0xA200.06 TrialRemaining (R552). -/
abbrev OD.bankTrialRemaining : Nat := 0xA20006
/-- OD 0xA200.07 Activations (R552). -/
abbrev OD.bankActivations : Nat := 0xA20007
/-- OD 0xA200.08 Rollbacks (R552). -/
abbrev OD.bankRollbacks : Nat := 0xA20008
/-- OD 0xA200.09 LastResult (R552). -/
abbrev OD.bankLastResult : Nat := 0xA20009
/-- OD 0x9000.01 Records (R583). -/
abbrev OD.logbookRecords : Nat := 0x900001
/-- OD 0x9000.02 Cursor (R583). -/
abbrev OD.logbookCursor : Nat := 0x900002
/-- OD 0x9000.03 Filter (R583). -/
abbrev OD.logbookFilter : Nat := 0x900003
/-- OD 0x9000.04 Window (R583). -/
abbrev OD.logbookWindow : Nat := 0x900004
/-- OD 0x9000.05 WindowCount (R583). -/
abbrev OD.logbookWindowCount : Nat := 0x900005
/-- OD 0x9000.06 Generation (R583). -/
abbrev OD.logbookGeneration : Nat := 0x900006
/-- OD 0x9000.07 NextSeq (R583). -/
abbrev OD.logbookNextSeq : Nat := 0x900007
/-- OD 0x9000.08 OldestSeq (R583). -/
abbrev OD.logbookOldestSeq : Nat := 0x900008
/-- OD 0x9000.09 DroppedNote (R583). -/
abbrev OD.logbookDroppedNote : Nat := 0x900009
/-- OD 0x9000.0A DroppedWarn (R583). -/
abbrev OD.logbookDroppedWarn : Nat := 0x90000A
/-- OD 0x9000.0B DroppedFault (R583). -/
abbrev OD.logbookDroppedFault : Nat := 0x90000B
/-- OD 0x9000.0C DroppedFatal (R583). -/
abbrev OD.logbookDroppedFatal : Nat := 0x90000C
/-- OD 0x9000.0D HostMinSeverity (R583). -/
abbrev OD.logbookHostMinSeverity : Nat := 0x90000D
/-- OD 0x9000.0E ClearFatal (R583). -/
abbrev OD.logbookClearFatal : Nat := 0x90000E
/-- OD 0x9000.0F FatalRecords (R583). -/
abbrev OD.logbookFatalRecords : Nat := 0x90000F
/-- OD 0x9000.10 HostLogSize (R583). -/
abbrev OD.logbookHostLogSize : Nat := 0x900010
/-- OD 0x9000.11 LastResult (R583). -/
abbrev OD.logbookLastResult : Nat := 0x900011
/-- OD 0x9000.12 RestoredFrom (R583). -/
abbrev OD.logbookRestoredFrom : Nat := 0x900012
/-- OD 0x9100.01 Cursor (R584). -/
abbrev OD.summaryCursor : Nat := 0x910001
/-- OD 0x9100.02 Window (R584). -/
abbrev OD.summaryWindow : Nat := 0x910002
/-- OD 0x9100.03 Copies (R584). -/
abbrev OD.summaryCopies : Nat := 0x910003
/-- OD 0x9100.04 FreeSectors (R584). -/
abbrev OD.summaryFreeSectors : Nat := 0x910004
/-- OD 0x9100.05 Dropped (R584). -/
abbrev OD.summaryDropped : Nat := 0x910005
/-- OD 0x9100.06 Generation (R584). -/
abbrev OD.summaryGeneration : Nat := 0x910006
/-- OD 0x9100.07 SeqMark (R584). -/
abbrev OD.summarySeqMark : Nat := 0x910007
/-- OD 0x9400.01 Select (R585). -/
abbrev OD.counterSelect : Nat := 0x940001
/-- OD 0x9400.02 Source (R585). -/
abbrev OD.counterSource : Nat := 0x940002
/-- OD 0x9400.03 Qualifier (R585). -/
abbrev OD.counterQualifier : Nat := 0x940003
/-- OD 0x9400.04 Value (R585). -/
abbrev OD.counterValue : Nat := 0x940004
/-- OD 0x9400.05 Preset (R585). -/
abbrev OD.counterPreset : Nat := 0x940005
/-- OD 0x9400.06 SampleEnable (R585). -/
abbrev OD.counterSampleEnable : Nat := 0x940006
/-- OD 0x9400.07 Snapshot (R585). -/
abbrev OD.counterSnapshot : Nat := 0x940007
/-- OD 0x9400.08 SnapshotTime (R585). -/
abbrev OD.counterSnapshotTime : Nat := 0x940008
/-- OD 0x9400.09 SnapshotBlock (R585). -/
abbrev OD.counterSnapshotBlock : Nat := 0x940009
/-- OD 0x9400.0A SnapshotData (R585). -/
abbrev OD.counterSnapshotData : Nat := 0x94000A
/-- OD 0x9400.0B SampleLd (R585). -/
abbrev OD.counterSampleLd : Nat := 0x94000B
/-- OD 0x9400.0C SampleCursor (R585). -/
abbrev OD.counterSampleCursor : Nat := 0x94000C
/-- OD 0x9400.0D SampleWindow (R585). -/
abbrev OD.counterSampleWindow : Nat := 0x94000D
/-- OD 0x9400.0E SamplesLost (R585). -/
abbrev OD.counterSamplesLost : Nat := 0x94000E
/-- OD 0x9400.0F LastResult (R585). -/
abbrev OD.counterLastResult : Nat := 0x94000F
/-- OD 0x9800.01 Enable (R586). -/
abbrev OD.ticketEnable : Nat := 0x980001
/-- OD 0x9800.02 Rate (R586). -/
abbrev OD.ticketRate : Nat := 0x980002
/-- OD 0x9800.03 Seed (R586). -/
abbrev OD.ticketSeed : Nat := 0x980003
/-- OD 0x9800.04 BufferMode (R586). -/
abbrev OD.ticketBufferMode : Nat := 0x980004
/-- OD 0x9800.05 Cursor (R586). -/
abbrev OD.ticketCursor : Nat := 0x980005
/-- OD 0x9800.06 Window (R586). -/
abbrev OD.ticketWindow : Nat := 0x980006
/-- OD 0x9800.07 Generation (R586). -/
abbrev OD.ticketGeneration : Nat := 0x980007
/-- OD 0x9800.08 Tickets (R586). -/
abbrev OD.ticketTickets : Nat := 0x980008
/-- OD 0x9800.09 Skipped (R586). -/
abbrev OD.ticketSkipped : Nat := 0x980009
/-- OD 0x9800.0A Clear (R586). -/
abbrev OD.ticketClear : Nat := 0x98000A
/-- OD 0x9800.0B NextTicket (R586). -/
abbrev OD.ticketNextTicket : Nat := 0x98000B
/-- OD 0xB000.01 Unlock (R587). -/
abbrev OD.perturbUnlock : Nat := 0xB00001
/-- OD 0xB000.02 Unlocked (R587). -/
abbrev OD.perturbUnlocked : Nat := 0xB00002
/-- OD 0xB000.03 Arm (R587). -/
abbrev OD.perturbArm : Nat := 0xB00003
/-- OD 0xB000.04 Disarm (R587). -/
abbrev OD.perturbDisarm : Nat := 0xB00004
/-- OD 0xB000.05 Armed (R587). -/
abbrev OD.perturbArmed : Nat := 0xB00005
/-- OD 0xB000.06 LastClearCause (R587). -/
abbrev OD.perturbLastClearCause : Nat := 0xB00006
/-- OD 0xB000.07 LastResult (R587). -/
abbrev OD.perturbLastResult : Nat := 0xB00007
/-- OD 0xB010+e.01 Kind (R587), member n. -/
def OD.perturbEntryKind (n : Nat) : Nat := (0xB010 + n) * 256 + 0x01
/-- OD 0xB010+e.02 Target (R587), member n. -/
def OD.perturbEntryTarget (n : Nat) : Nat := (0xB010 + n) * 256 + 0x02
/-- OD 0xB010+e.03 Param (R587), member n. -/
def OD.perturbEntryParam (n : Nat) : Nat := (0xB010 + n) * 256 + 0x03
/-- OD 0xB010+e.04 Duty (R587), member n. -/
def OD.perturbEntryDuty (n : Nat) : Nat := (0xB010 + n) * 256 + 0x04

end Sys2Proof.Machine
end

