-- ==== Sys2Proof/Machine/Memory.lean ====
section
/-! DEFINITION. The sparse maps in which the block's stores are held: reading, writing and the canonical form; and
the little-endian bytes of the fields of every record (R8). -/
namespace Sys2Proof.Machine

/-- What a map reads at a key: its entry, or the default of an unlisted key. -/
def mapGet {α : Type} (d : Nat → α) : SMap α → Nat → α
  | [], k => d k
  | (j, v) :: m, k => if j = k then v else mapGet d m k

/-- A map with a key removed. -/
def mapErase {α : Type} : SMap α → Nat → SMap α
  | [], _ => []
  | (j, v) :: m, k => if j = k then mapErase m k else (j, v) :: mapErase m k

/-- A map with an entry placed in key order, before any entry of the same or a higher key. -/
def mapInsert {α : Type} : SMap α → Nat → α → SMap α
  | [], k, v => [(k, v)]
  | (j, w) :: m, k, v => if k < j then (k, v) :: (j, w) :: m else (j, w) :: mapInsert m k v

/-- Writing a key: the value is listed, in key order, unless it is what the unlisted key reads as. -/
def mapSet {α : Type} [DecidableEq α] (d : Nat → α) (m : SMap α) (k : Nat) (v : α) : SMap α :=
  if v = d k then mapErase m k else mapInsert (mapErase m k) k v

/-- Every listed key lies above `k`. -/
def mapAbove {α : Type} (k : Nat) : SMap α → Bool
  | [] => true
  | (j, _) :: _ => k < j

/-- Keys strictly rising. -/
def mapRising {α : Type} : SMap α → Bool
  | [] => true
  | (j, _) :: m => mapAbove j m && mapRising m

/-- No entry equals what its key reads as when unlisted. -/
def mapProper {α : Type} [DecidableEq α] (d : Nat → α) : SMap α → Bool
  | [] => true
  | (j, v) :: m => decide (v ≠ d j) && mapProper d m

/-- The canonical form of a map. -/
def mapWf {α : Type} [DecidableEq α] (d : Nat → α) (m : SMap α) : Bool :=
  mapRising m && mapProper d m

/-- The default of an optional entry: absent. -/
def noEntry {α : Type} : Nat → Option α := fun _ => none

/-- The value of the little-endian bytes of a field (R8). -/
def ofBytes : List Byte → Nat
  | [] => 0
  | b :: bs => b.toNat + 256 * ofBytes bs

/-- The `n` little-endian bytes of a value (R8). -/
def toBytes : Nat → Nat → List Byte
  | 0, _ => []
  | n + 1, v => BitVec.ofNat 8 v :: toBytes n (v / 256)

/-- A list of bytes cut, or padded with zeros, to `n`. -/
def padTo (n : Nat) (bs : List Byte) : List Byte := (bs ++ List.replicate n 0#8).take n

/-- The bytes of a text of single-byte characters. -/
def strBytes (t : String) : List Byte := t.toList.map (fun c => BitVec.ofNat 8 c.toNat)

/-- `n` bytes of a list from an offset. -/
def slice (bs : List Byte) (off n : Nat) : List Byte := (bs.drop off).take n

/-- The little-endian field of `n` bytes at an offset. -/
def field (bs : List Byte) (off n : Nat) : Nat := ofBytes (slice bs off n)

/-- One reflected CRC step over the low bit of a register. -/
def crcBit (poly r : Nat) : Nat := if r % 2 = 1 then (r / 2) ^^^ poly else r / 2

/-- `n` reflected CRC steps. -/
def crcBits (poly : Nat) : Nat → Nat → Nat
  | 0, r => r
  | n + 1, r => crcBits poly n (crcBit poly r)

/-- A reflected CRC over bytes, from a register value. -/
def crcFold (poly : Nat) : List Byte → Nat → Nat
  | [], r => r
  | b :: bs, r => crcFold poly bs (crcBits poly 8 (r ^^^ b.toNat))

/-- CRC-32C (R440): polynomial 0x1EDC6F41 reflected, initial value and final XOR 0xFFFFFFFF. -/
def crc32c (bs : List Byte) : BitVec 32 :=
  BitVec.ofNat 32 (crcFold 0x82F63B78 bs 0xFFFFFFFF ^^^ 0xFFFFFFFF)

/-- CRC-64 of the page seal (R40): ECMA-182 reflected, initial value and final XOR all ones. -/
def crc64 (bs : List Byte) : BitVec 64 :=
  BitVec.ofNat 64 (crcFold 0xC96C5795D7870F42 bs 0xFFFFFFFFFFFFFFFF ^^^ 0xFFFFFFFFFFFFFFFF)

/-- One CRC-8 step, most significant bit first, polynomial x^8 + x^2 + x + 1. -/
def crc8Bits : Nat → Nat → Nat
  | 0, r => r
  | n + 1, r => crc8Bits n (if r ≥ 128 then ((2 * r) % 256) ^^^ 0x07 else 2 * r)

/-- The PEC of SMBus (R468). -/
def pec (bs : List Byte) : Byte := BitVec.ofNat 8 (bs.foldl (fun r b => crc8Bits 8 (r ^^^ b.toNat)) 0)

end Sys2Proof.Machine
end

