-- ==== Sys2Proof/Machine/State.lean ====
section
/-! DEFINITION. The state of the controller as plain data: every register, table, queue, store, mode and pin the
manual gives it, grouped by chapter, and the queue of the commands that wait. -/
namespace Sys2Proof.Machine

/-! ## Modes, boot and pins (02, 11, 17) -/

/-- The eight modes (R48), in the order of their codes 0 to 7. -/
inductive Mode where
  | off | boot | restore | service | save | vault | freeze | maintenance
  deriving DecidableEq, Repr

/-- A BOOT attempt (R62, R64). `reached` has bit n when step tn has ended in this attempt. -/
structure Boot where
  t0 : Nat
  reached : BitVec 8
  /-- Warn holds the sequence at the next step boundary (R55): the steps reached when it came. -/
  held : Option (BitVec 8)
  /-- The Main die is held in reset for 10 ms after a failed attempt (R55). -/
  retryHold : Bool
  /-- Stored training results are used (R63). -/
  storedTraining : Bool
  /-- Main die temperature at t1 in 0.1 degree (R63). -/
  temperature : Int
  /-- The start follows a power loss without a save, cause 0x0F (R90). -/
  afterLoss : Bool
  /-- A power-return event began the start: AdmissionTime is counted from it (R277). -/
  returned : Bool
  deriving DecidableEq, Repr

/-- Levels of the pins and supplies the block sees (R54, R55, R390, R591, R592, R599). `rail` is PFSENSE as rail
millivolts. -/
structure Pins where
  resetN : Bool
  perst0N : Bool
  perst1N : Bool
  mdPwrgd : Bool
  pwrfailN : Bool
  rail : Nat
  vsbEarly : Bool
  crystal : Bool
  deriving DecidableEq, Repr

/-- The mode with what depends on it directly: the pending reset, the drill flag and test perturbation (R55, R60, R61,
R581, R582). -/
structure Ctl where
  mode : Mode
  /-- Stationmaster halted by a mask-ROM check failure (R37, cause 0x10). -/
  romFailed : Bool
  /-- In the mask-ROM service loop: no verified image in either bank (R496). -/
  serviceLoop : Bool
  /-- BOOT starts when RESET_N returns high (R55). -/
  resetPending : Bool
  /-- The Signal Box has stopped below the power-on-reset level (R591). -/
  stopped : Bool
  /-- Test perturbation is unlocked (R581). -/
  unlocked : Bool
  /-- Test perturbation is armed (R582). -/
  armed : Bool
  deriving DecidableEq, Repr

/-! ## Sessions, staging and responses (12) -/

/-- What a ZOP response carries (R439, R443). -/
structure Reply where
  status : Nat
  payload : List Byte
  deriving DecidableEq, Repr

/-- A result held under a session and TAG (R444); `reply` is none while the command still executes. -/
structure PendingResult where
  tag : Nat
  key : Nat
  reply : Option Reply
  time : Nat
  deriving DecidableEq, Repr

/-- The last request and response of a session, for repeats (R445). -/
structure LastExchange where
  tag : Nat
  crc : Nat
  opcode : Nat
  reply : Reply
  time : Nat
  deriving DecidableEq, Repr

/-- A command that has not been answered (R444, R447). -/
structure Active where
  tag : Nat
  crc : Nat
  key : Nat
  deriving DecidableEq, Repr

/-- A session (R433, R444 to R448, R532). `sel` holds its copies of the selectors, an unlisted one at its default. -/
structure Session where
  src : Transport
  sel : SMap Nat
  results : List PendingResult
  last : Option LastExchange
  active : Option Active
  /-- The parts of the block buffer written by BlockPart (R532). -/
  block : SMap (List Byte)
  /-- Records returned by this session's last Window read (OD 0x9000.05). -/
  windowCount : Nat
  lastRequest : Nat
  deriving DecidableEq, Repr

/-- An object in the staging area (R435). -/
structure Staged where
  key : Nat
  value : List Byte
  deriving DecidableEq, Repr

/-- Sessions and the staging area. -/
structure Zop where
  sessions : List Session
  uncommitted : List Staged
  committed : List Staged
  /-- RWI values in their mixed-state window (R429): key, the value before it, and when the window ends. -/
  mixed : List (Nat × Nat × Nat)
  /-- MCTP endpoint IDs: of ports 0 and 1, and of the two-wire port as 2 (R450). -/
  eids : SMap Nat
  deriving DecidableEq, Repr

/-- How a host transaction completes (R86, R143, R146); `load` is the DevLoad of the message (R99). -/
inductive Completion where
  | data (ld : Nat) (dpa : Nat) (line : Line) (load : Nat)
  | poison (ld : Nat) (dpa : Nat) (load : Nat)
  | zeros (ld : Nat) (dpa : Nat) (load : Nat)
  | written (ld : Nat) (dpa : Nat) (load : Nat)
  | retryStatus (port : Nat)
  | config (port : Nat) (value : Nat)
  | refusedConfig (port : Nat)
  | gpfDone (port : Nat)
  deriving DecidableEq, Repr

/-- A response on the ZOP transports: the opcode answered, its TAG and the reply (R439). -/
structure ZopOut where
  dest : Transport
  opcode : Nat
  tag : Nat
  reply : Reply
  deriving DecidableEq, Repr

/-- A completed mailbox command: the LD, the CXL return code and the output payload (R108, R449). -/
structure MbxOut where
  ld : Nat
  code : Nat
  payload : List Byte
  deriving DecidableEq, Repr

/-- What the block last drove on each of its outward channels. -/
structure Outputs where
  zop : Option ZopOut
  mailbox : Option MbxOut
  host : List Completion
  mctp : Option (Transport × List Byte)
  /-- Bytes returned by the last two-wire read (R467). -/
  twoWire : List Byte
  /-- The last message sent as controller on the two-wire bus (R474). -/
  busSent : Option (List Byte)
  /-- LDs interrupted by an MSI-X message, newest first, with its reason: 1024 + n for log n (R571), a counter's number for its
overflow, which uses the vector of the Informational log (R574). -/
  msix : List (Nat × Nat)
  /-- The last FM API response (R93). -/
  fm : List Byte
  /-- CXL.mem IDE protects the responses of `host` on each port (R6, R106). -/
  ide : BitVec 2
  deriving DecidableEq, Repr

/-! ## Stationmaster, porters and embedded flash (14) -/

/-- The state of a mark word (R512). -/
inductive Mark where
  | erased | valid | weak | superseded | indeterminate
  deriving DecidableEq, Repr

/-- A record slot of a log region (R510, R513), and the place it lies in. -/
structure Rec where
  sector : Nat
  slot : Nat
  type : Nat
  key : Nat
  seq : Nat
  payload : List Byte
  mark : Mark
  /-- CRC matches and no data word is uncorrectable (R515). -/
  intact : Bool
  deriving DecidableEq, Repr

/-- A log region (R509 to R513): its ring of sectors, oldest first, of which the first `inUse` hold records and the
rest are formatted and free; the next slot of the head sector; the next SEQ and SECTSEQ; its records, newest first. -/
structure LogRegion where
  ring : List Nat
  inUse : Nat
  nextSlot : Nat
  seq : Nat
  sectSeq : Nat
  recs : List Rec
  deriving DecidableEq, Repr

/-- An entry of the erase log (R522). -/
structure EraseEntry where
  eseq : Nat
  sector : Nat
  complete : Bool
  deriving DecidableEq, Repr

/-- The kinds of embedded-flash operation in progress (R504). -/
inductive EOp where
  | program | erase (sector : Nat)
  deriving DecidableEq, Repr

/-- The embedded flash (R502 to R524). `erases` is the erase count of each sector. -/
structure EFlash where
  settings0 : LogRegion
  settings1 : LogRegion
  journal : LogRegion
  summary : LogRegion
  erases : SMap Nat
  /-- SECTSEQ and FORMATTIME of the sectors formatted since manufacture (R511). -/
  formats : SMap (Nat × Nat)
  eraseLog : List EraseEntry
  eseq : Nat
  spares : List Nat
  retired : List Nat
  /-- Sectors erased but not formatted, half-erased or damaged, with their class (R523): 1 half-erased, 2 erased and not
  formatted, 3 damaged. -/
  unformatted : List (Nat × Nat)
  busy : Option EOp
  /-- Records that wait while no operation may start (R505): region, TYPE, KEY, payload, oldest first. -/
  waiting : List (Nat × Nat × Nat × List Byte)
  deriving DecidableEq, Repr

/-- A porter (R498, R500, R70). `expiries` are the times of its watchdog expiries, newest first. -/
structure Porter where
  running : Bool
  reloading : Bool
  expiries : List Nat
  deriving DecidableEq, Repr

/-- The processors, and the retention register of R494 where no other field holds its part. -/
structure Cores where
  porters : SMap Porter
  /-- Porter manifest digests verified at t2 are kept (R499). -/
  digestsKept : Bool
  restarts : Nat
  /-- Times of the stationmaster's watchdog expiries, newest first (R546). -/
  smExpiries : List Nat
  restartCause : Nat
  /-- A reset or watchdog expiry waits for an embedded-flash operation to end (R71, R495): 1 RESET_N, 2 watchdog. -/
  deferredReset : Nat
  /-- Porters whose watchdog expiry waits for an embedded-flash operation to end (R71). -/
  deferredPorters : List Nat
  /-- Mask-ROM version (R455). -/
  romVer : Nat
  /-- The 128 KiB of ITCM (R491, R495): the bank it was copied from, and those of its sectors 2 to 33 that an apply has written. -/
  itcmBank : Nat
  itcm : SMap (Option (List Byte))
  /-- The 384 KiB of data SRAM in blocks of 4 KiB (R491); an unlisted block holds nothing that a rule gives. -/
  sram : SMap (List Byte)
  /-- The code word that last met an uncorrectable error, since the cold start (R507). -/
  codeFault : Option Nat
  deriving DecidableEq, Repr

/-! ## Logbook, counters, tickets and perturbation (16) -/

/-- The items that event tables name as given, by the widths of R556; port, LD and carriage decide the receivers (R570). -/
inductive ItemKind where
  | port | ld | carriage | u8 | u16 | u24 | u32 | u40 | u64
  deriving DecidableEq, Repr

/-- An occurrence of an event on its way to the logger (R559): its code, VALUE (R557), the items its table names (R556),
the time at its source, attached data (R558), and that the Signal Box ring takes it (R566). -/
structure Occurrence where
  code : Nat
  value : Nat
  items : List (ItemKind × Nat)
  time : Nat
  attach : List Byte
  ring : Bool
  deriving DecidableEq, Repr

/-- A logbook record (R554, R555). An attachment record has `part` above 0 and its 48 bytes in `data`. -/
structure LogRec where
  code : Nat
  severity : Nat
  attach : Nat
  part : Nat
  seq : Nat
  repeats : Nat
  first : Nat
  last : Nat
  hist : List Nat
  min : Nat
  max : Nat
  detail : List Byte
  data : List Byte
  sat : Bool
  trunc : Bool
  mirrored : Bool
  hostSent : Bool
  /-- When the record was last mirrored (R564); 0 when it has not been. -/
  mirrorTime : Nat
  /-- An occurrence has been merged into it since (R564). -/
  mergedSince : Bool
  deriving DecidableEq, Repr

/-- The CXL event logs of one LD (R571): Informational, Warning, Failure, Fatal, each a list of logbook records, oldest
first, with its overflow count; and the LD's interrupt policy and alert configuration (R108). -/
structure CxlLogs where
  info : List LogRec
  warn : List LogRec
  fail : List LogRec
  fatal : List LogRec
  overflow : List Nat
  deriving DecidableEq, Repr

/-- The logbook (R559 to R571). -/
structure Logbook where
  queue : List Occurrence
  records : List LogRec
  ring : List LogRec
  nextSeq : Nat
  /-- The next SEQ the Main die last reported at save step t7, kept while the Signal Box keeps its supply (R565). -/
  seqReport : Option Nat
  /-- The CXL event logs by LD (R571). -/
  cxl : SMap CxlLogs
  deriving DecidableEq, Repr

/-- A counter (R572 to R574). A value of 2^48 or more has overflowed and waits to load Preset. -/
structure Counter where
  value : Nat
  source : Nat
  qualifier : Nat
  preset : Nat
  sample : Bool
  overflows : Nat
  deriving DecidableEq, Repr

/-- A sample of the sample ring (R574). -/
structure Sample where
  time : Nat
  counter : Nat
  overflows : Nat
  deriving DecidableEq, Repr

/-- The counters, their snapshot and the sample ring. -/
structure Perf where
  counters : SMap Counter
  snapshot : SMap Nat
  samples : List Sample
  /-- When the last sample message was sent, plus 1 (R574). -/
  msixTime : Nat
  deriving DecidableEq, Repr

/-- A tracer ticket (R578); `tseq` is 0 while it is incomplete. -/
structure Ticket where
  ingress : Nat
  ld : Nat
  /-- The request's DPA, by which the port's tracker finds it; no part of the 128 bytes. -/
  dpa : Nat
  op : Nat
  cls : Nat
  flags : Nat
  carriage : Nat
  mc : Nat
  fc : Nat
  page : Nat
  line : Nat
  pipe : Nat
  stamps : List Nat
  tracker : Nat
  bankq : Nat
  tseq : Nat
  deriving DecidableEq, Repr

/-- Tracer tickets (R576 to R579): in flight, and stored, newest first. -/
structure Tickets where
  lfsr0 : BitVec 32
  lfsr1 : BitVec 32
  inFlight : List Ticket
  stored : List Ticket
  deriving DecidableEq, Repr

/-! ## The Loop Line and the die bridge (01) -/

/-- A Loop Line link (R25, R26): the sequence numbers its interfaces expect and send next, the sending interface's last
packets, newest first, replays in a row of one packet, and the times of its replays. -/
structure LinkState where
  rxSeq : BitVec 8
  txSeq : BitVec 8
  buffer : List Packet
  replays : Nat
  times : List Nat
  failed : Bool
  deriving DecidableEq, Repr

/-- The Loop Line and the die bridge. `delivered` are packets handed to their destination gateway, newest first;
`isolated` the stops whose regions R27 isolates. -/
structure Loop where
  links : SMap LinkState
  delivered : List Packet
  isolated : BitVec 8
  bridgeReplays : Nat
  bridgeFailed : Bool
  deriving DecidableEq, Repr

/-- Isolations the prefects have made (R16): bits of ports, translation-cache banks. DRAM channels, flash channels and
pipes carry theirs in their own state. -/
structure Isolation where
  ports : BitVec 2
  mapBanks : Nat
  deriving DecidableEq, Repr

/-! ## Entries that the translation metadata carries -/

/-- A coupling entry (R83): the carriage at a DPA offset of an LD, `length` in 2 MiB units. -/
structure Coupling where
  ld : Nat
  dpa : Nat
  cid : Nat
  length : Nat
  rdonly : Bool
  /-- The CLASS override, 0xF for none. -/
  cls : Nat
  deriving DecidableEq, Repr

/-- A depot entry (R159); `damaged` says that ECRC does not match (R161). -/
structure DepotEntry where
  valid : Bool
  fp : BitVec 64
  refs : Nat
  slot : Nat
  slotGen : Nat
  res : Bool
  flc : Bool
  pois : Bool
  busy : Bool
  acc : Bool
  frame : Nat
  gterm : Nat
  damaged : Bool
  deriving DecidableEq, Repr

/-- What a snapshot record keeps of a page (R182): a copy with its siding, its seal and that its page is poisoned (R154). A
`frame` record waits for the program of the old frame. -/
inductive SnapKind where
  | zero | copy (sided sealed pois : Bool) (pageSeal : BitVec 64) | frame (f : Nat) | depot (index : Nat)
  deriving DecidableEq, Repr

/-- A snapshot record (R182). -/
structure SnapRecord where
  page : Nat
  kind : SnapKind
  deriving DecidableEq, Repr

/-- The key under which content is encrypted (R353, R357): a carriage generation, a key-slot generation, or the vault
key. -/
inductive KeyRef where
  | carriage (cid keygen : Nat) | slot (slot gen : Nat) | vault
  deriving DecidableEq, Repr

/-- A page's plaintext: its 64 lines, an unlisted line zero, and the lines poisoned in it. -/
structure Image where
  lines : SMap Line
  bad : BitVec 64
  deriving DecidableEq, Repr

/-- A page as it lies in DRAM or flash: an image under a key and a tweak. -/
structure Cipher where
  key : KeyRef
  tweak : Nat
  image : Image
  deriving DecidableEq, Repr

/-- A siding directory, name type 0x4 (R341): the term T and the siding's stripes in order, each a group and its number. -/
structure Siding where
  term : Nat
  stripes : List (Nat × Nat)
  deriving DecidableEq, Repr

/-- A copy in the flash tier or a siding, and where it lies (R326, R328): block, and offset in the block. -/
structure FlashCopy where
  present : Bool
  /-- Garbage collection could not read the copy (POIS of R328). -/
  lost : Bool
  content : Cipher
  block : Nat
  offset : Nat
  deriving DecidableEq, Repr

/-! ## Carriages and translation (04) -/

/-- The carriage states (R122), in the order of their codes 0x0 to 0x6. -/
inductive CState where
  | free | active | parking | parked | recalling | shadow | deleting
  deriving DecidableEq, Repr

/-- A carriage descriptor (R121). SIDEDPG, DEPOTPG, DIRTYPG, RESPG and EXTENTS are counted from the entries when the
descriptor is read. `damaged` says that DCRC does not match (R129). -/
structure Carriage where
  state : CState
  label : BitVec 64
  term : Nat
  keygen : Nat
  root : Nat
  size : Nat
  reserve : Bool
  sealOn : Bool
  sealPend : Bool
  created : Nat
  termTime : Nat
  damaged : Bool
  deriving DecidableEq, Repr

/-- An interior entry of level 3, 2 or 1 (R131). DSUB and RSUB are derived from the leaves below (`State.dsub`,
`State.rsub`). -/
structure Interior where
  valid : Bool
  pair : Bool
  pois : Bool
  extent : Nat
  node : Nat
  deriving DecidableEq, Repr

/-- A leaf entry (R133) with the page seal its companion holds (R135). -/
structure Leaf where
  res : Bool
  dirty : Bool
  depot : Bool
  sided : Bool
  sealed : Bool
  pois : Bool
  flc : Bool
  busy : Bool
  fq : Bool
  acc : Bool
  ttag : Nat
  ptr : Nat
  pageSeal : BitVec 64
  deriving DecidableEq, Repr

/-- How a line is written: as it is, with the poison encoding (R296, R382), or with the poison encoding by Inject Poison, to
which no host waits (R298). -/
inductive WriteMark where
  | plain | poisoned | injected
  deriving DecidableEq, Repr

/-- A host request that the block holds (R142, R150, R151, R177). It has been accepted: its carriage and page are settled, and
its range may since have been uncoupled (R85). -/
structure Waiter where
  ld : Nat
  dpa : Nat
  cid : Nat
  page : Nat
  /-- The line written and how; none for a read. -/
  data : Option (Line × WriteMark)
  /-- When it first found no free frame; 0 when it waits for something else. -/
  since : Nat
  /-- Its number in the order of receipt (R150); 0 before it first waits. -/
  order : Nat
  /-- It came in the express class (R94, R95). -/
  express : Bool
  /-- A write that a term end holds from t0 to t2 (R177, R179). -/
  held : Bool
  /-- The link it came on has gone down since, or its fence has closed: it completes without a response (R78, R103). -/
  quiet : Bool
  deriving DecidableEq, Repr

/-- A carriage command that has been accepted and holds CommandBusy (R128): a resize and its new size. -/
structure ResizeRun where
  id : Nat
  size : Nat
  old : Nat
  deriving DecidableEq, Repr

/-- The translation tables and what the metadata flush, the save and the vault carry of them: everything the metadata
stream holds (R250). Leaf keys are cid × 2^28 + page index; interior keys are built by `interiorKey`. -/
structure MapTables where
  carriages : SMap Carriage
  interior : SMap Interior
  leaves : SMap Leaf
  /-- Coupling entries: LD, DPA offset, carriage, length in 2 MiB units, read-only (R83). -/
  couplings : List Coupling
  /-- Pass rows by carriage (R372). -/
  passes : SMap (BitVec 256)
  depot : SMap DepotEntry
  /-- Snapshot records by carriage (R182). -/
  snapshots : SMap (List SnapRecord)
  /-- Snapshot terms fixed by the last term end: carriages whose snapshot was dropped (R183). -/
  dropped : List Nat
  globalTerm : Nat
  /-- The flash map (R328). -/
  flash : SMap FlashCopy
  /-- The frames of the table nodes of the depot table, the snapshot records, the pass table and the flash map, by the node's
  number; a frame's number is kept increased by 1 (R130, R136). -/
  aux : SMap Nat
  /-- Siding directories by carriage (R341). -/
  sidings : SMap Siding
  /-- The flush-volume interval sums, newest first, and the host write payload of the same intervals; flush bytes and payload of
  the running interval of 15 min (R226). -/
  volumes : List Nat
  payloads : List Nat
  interval : Nat
  payload : Nat
  /-- Label storage areas by LD (R88). -/
  lsa : SMap (SMap Byte)
  deriving DecidableEq, Repr

/-- The Map region's working state. -/
structure MapWork where
  /-- Table lines with a metadata-significant change since their last checkpoint (R211), by line key. -/
  changed : List Nat
  waiters : List Waiter
  /-- The last number of the order of receipt given. -/
  orders : Nat
  resize : Option ResizeRun
  /-- Next frame the allocator tries, and the frames and nodes in use follow from the entries. -/
  nextFrame : Nat
  /-- Frames of the pool taken by no leaf entry: snapshot copies, moves in progress. -/
  held : List Nat
  /-- Translation-cache banks quarantined (R140) and the time of each bank's last uncorrectable error. -/
  badBanks : BitVec 64
  bankErrors : SMap Nat
  /-- SpaceWarn and SpaceCritical have been reported and not yet fallen 2 points below (R119). -/
  warned : Bool
  critical : Bool
  lowNodes : Bool
  /-- Nodes of the depot table that have been allocated: they are never freed while the controller runs (R159). -/
  depotNodes : List Nat
  /-- The eviction sweep's position, and that a sweep has begun and has not reached twice FreeLow (R141). -/
  sweep : Nat
  sweeping : Bool
  /-- The translation cache (R137): the lines of each set of each array, most recently used first, by `cacheSetKey`. -/
  cache : SMap (List Nat)
  /-- Leaf lines changed in the translation cache and not yet written back into their nodes, by leaf key / 8 (R139, R140). -/
  unwritten : List Nat
  /-- Writes discarded by rule, counted (R120, R147). -/
  discarded : Nat
  /-- Commands that wait: at Map ingress while MetaCeiling holds changes (R213), or for a porter that reloads (R70). -/
  delayed : List Instr
  /-- Key slots whose load or erase waits (R369), with the last number of the order of receipt when it began to. -/
  slotHolds : SMap Nat
  deriving DecidableEq, Repr

/-! ## Depot, sidings and terms (05) -/

/-- An admission in progress (R163, R164). -/
structure AdmitRun where
  id : Nat
  slot : Nat
  first : Nat
  count : Nat
  full : Bool
  deriving DecidableEq, Repr

/-- A park in progress (R172): its term T (none until the term end it begins with has committed), the pending copies by page, whether the release pass runs, the pages done and
the pages in all. -/
structure ParkRun where
  id : Nat
  term : Option Nat
  copies : SMap Cipher
  seals : SMap Nat
  release : Bool
  total : Nat
  deriving DecidableEq, Repr

/-- A recall in progress (R174): the pages to fetch, and the leaf keys of those it has filled frames for. -/
structure RecallRun where
  id : Nat
  total : Nat
  filled : List Nat
  deriving DecidableEq, Repr

/-- A park or recall that waits (R175, R176). -/
structure Queued where
  park : Bool
  id : Nat
  deriving DecidableEq, Repr

/-- An export in progress (R190). -/
structure ExportRun where
  source : Nat
  output : Nat
  unit : Nat
  key : List Byte
  exportId : Nat
  /-- The source's term has ended and the export reads its snapshot. -/
  begun : Bool
  deriving DecidableEq, Repr

/-- An import in progress (R191 to R193): its carriages, what the preamble states, the next record, and the unwrapped
transfer key. -/
structure ImportRun where
  input : Nat
  result : Nat
  exportId : Nat
  records : Nat
  next : Nat
  key : List Byte
  /-- The key slots that the manifest names, one bit each (R189). -/
  slots : BitVec 256
  deriving DecidableEq, Repr

/-- The session and TAG of a command that waits for something to end. -/
structure Asker where
  src : Transport
  tag : Nat
  deriving DecidableEq, Repr

/-- A carriage term end between t0 and t2 (R177), and the EndCarriageTerm command that waits for it. -/
structure TermRun where
  id : Nat
  cmd : Option Asker
  deriving DecidableEq, Repr

/-- The operations of chapter 05 in progress. -/
structure Terms where
  admission : Option AdmitRun
  parks : List ParkRun
  recalls : List RecallRun
  queue : List Queued
  exp : Option ExportRun
  imp : Option ImportRun
  runs : List TermRun
  /-- Carriages whose term end is deferred (R172, R179, R181), and the command that waits for it. -/
  deferred : List (Nat × Option Asker)
  /-- Carriages with a retag pass in progress (R181). -/
  retag : List Nat
  /-- Detached snapshots whose records are being released (R186). -/
  detached : List (Nat × List SnapRecord)
  /-- Reverts in progress (R185): the carriage, and the command that waits. -/
  reverts : List (Nat × Asker)
  /-- The coupling whose uncouple has not completed (R85), and the command that waits for it. -/
  uncoupling : List (Coupling × Asker)
  /-- A global term end waits for a term end or retag pass (R180): since when, and the commands that wait for it. -/
  globalDue : Option (Nat × List Asker)
  /-- The global term end has reached its t0: writes to every eligible carriage are held until its t2 (R179). -/
  globalHold : Bool
  /-- Pages left resident by the last release pass of a carriage (OD 0x3600.08). -/
  residuals : SMap Nat
  /-- When the period of R180 began, and the GlobalPeriod that it runs by. -/
  periodStart : Nat
  period : Nat
  deriving DecidableEq, Repr

/-! ## Residue, ceiling and flush (06) -/

/-- An entry of the age list (R204): a leaf key and its enqueue time; one set aside for BUSY keeps its place, with the time of the
next try (R206), which is 0 for the others. -/
structure AgeEntry where
  key : Nat
  time : Nat
  retry : Nat
  deriving DecidableEq, Repr

/-- A page claimed and unconfirmed (R149, R206): the content read and the seal generated for it (R42). -/
structure Claim where
  key : Nat
  time : Nat
  content : Cipher
  sealed : Bool
  pageSeal : BitVec 64
  deriving DecidableEq, Repr

/-- A drill in progress (R221): its start, the step reached (1 BATSEL, 2 stream, 3 seal) and whether an isolation, link
failure or chip-level decision has occurred since t0 (R223). -/
structure DrillRun where
  start : Nat
  step : Nat
  spoiled : Bool
  battery : Bool
  streamRate : Nat
  streamEnd : Nat
  /-- Save-region slots the drill area takes (R221). -/
  slots : Nat
  deriving DecidableEq, Repr

/-- The flush engine, the checkpoints, the planner and the drills. -/
structure Flush where
  age : List AgeEntry
  claims : List Claim
  /-- Confirmed bytes with their times, newest first, kept for 100 µs (R210). -/
  confirmed : List (Nat × Nat)
  /-- A checkpoint in progress: the table lines it appends and its start (R212). -/
  checkpoint : Option (List Nat × Nat)
  /-- The metadata that the checkpoint in progress will leave: the tables at its start. -/
  nextImage : MapTables
  lastCheckpoint : Nat
  /-- The translation metadata as the last completed flush checkpoint left it in the flash tier (R212, R266). -/
  image : MapTables
  /-- MetaCeiling is reached: metadata-significant changes are held (R213). -/
  metaHold : Bool
  /-- The planner has made its first computation in this run (R219). -/
  planned : Bool
  /-- C_plan fell below 1 GiB and has not reached 2 GiB since (R217). -/
  below : Bool
  /-- E_b at the last computation (R218). -/
  lastEnergy : Nat
  drill : Option DrillRun
  /-- Dies in service for which a drill was last accepted (R216, R220). -/
  drillPopulation : Option Nat
  /-- When the next automatic drill is due or the deferred one is retried (R220). -/
  drillRetry : Nat
  /-- The wear step k (R227), which the planner takes up at its next computation (R231); 0 at each start (DESIGN CHOICE, log 186). -/
  wearStep : Nat
  /-- The bound that the last computation found least, before the condition of R217 (OD 0x5010.06). -/
  bound : Nat
  /-- Garbage-collection bytes of the running interval and of past ones (OD 0x6400.0A). -/
  gcInterval : Nat
  gcVolumes : List Nat
  deriving DecidableEq, Repr

/-! ## Save and restore (07) -/

/-- Why a save runs (R241, R57). -/
inductive SaveKind where
  | commit | reset | requested | decision
  deriving DecidableEq, Repr

/-- A save in progress (R241): `step` is the number of the last event reached, 1 to 9. -/
structure SaveRun where
  kind : SaveKind
  freezeForm : Bool
  cause : Nat
  mode : Mode
  t0 : Nat
  step : Nat
  seq : Nat
  parent : Nat
  chain : Nat
  residue : Nat
  /-- The residue list: leaf keys in age-list order at t3 (R242, R243). -/
  list : List Nat
  metaBytes : Nat
  resetLatched : Bool
  /-- What was latched: a stationmaster watchdog expiry rather than RESET_N. -/
  watchdogLatched : Bool
  /-- A power-return event has occurred since Commit (R55). -/
  pwrret : Bool
  /-- A power-return event has occurred since t0, and a reset or watchdog expiry was latched: PWRRET and RESETLATCH (R253). -/
  returned : Bool
  latched : Bool
  decision : Bool
  energyOver : Bool
  salvage : Bool
  frozen : BitVec 16
  /-- Salvaged channels that event 0x2812 has named (R256). -/
  reported : BitVec 16
  /-- Event 0x2804 has been raised in this save (R236). -/
  noted : Bool
  /-- The seal is complete and the save-then-restore path is being taken (R59). -/
  restoring : Bool
  sealed : Bool
  /-- Power was present at the seal (R55). -/
  powered : Bool
  /-- Slots of the drill area that the commit fence found, released after the seal (R224). -/
  drillSlots : Nat
  deriving DecidableEq, Repr

/-- A streamed page (R249): its STATE, LINEMASK and content under the vault key. -/
structure VaultPage where
  state : Nat
  mask : BitVec 64
  content : Cipher
  sealed : Bool
  pageSeal : BitVec 64
  deriving DecidableEq, Repr

/-- A vault in the SLC save region (R247 to R255). -/
structure Vault where
  seq : Nat
  parent : Nat
  chain : Nat
  commitTime : Nat
  sealTime : Nat
  cause : Nat
  mode : Nat
  flags : Nat
  residue : Nat
  saved : Nat
  poisoned : Nat
  unsaved : Nat
  metaBytes : Nat
  segments : Nat
  frozen : BitVec 16
  flashOut : BitVec 64
  globalTerm : Nat
  energy : Nat
  header : Bool
  metaMark : Bool
  copy1 : Bool
  copy2 : Bool
  spare : Bool
  /-- The vault record and the completion record are valid in the journal (R255). -/
  recorded : Bool
  completed : Bool
  dirtyMap : List Nat
  plan : List Nat
  tables : MapTables
  /-- Table-region lines that the metadata stream carries (R243, R250). -/
  metaLines : Nat
  /-- Leaf keys, interior keys and carriages whose table line was streamed LOST (R258). -/
  lost : List Nat
  lostNodes : List Nat
  lostCarriages : List Nat
  /-- Such lines of the depot table, the snapshot records, the pass table and the flash map. -/
  lostLines : List Nat
  /-- The metadata records, in stream order (R250). -/
  records : List (List Byte)
  list : List Nat
  /-- The pages of the residue stream, in stream order (R242, R249). -/
  stream : List Nat
  pages : SMap VaultPage
  log : List LogRec
  /-- The vault-location map of a chained save: pages not yet restored and the vault that holds them (R267). -/
  locations : SMap Nat
  objects : SMap Nat
  /-- The seal record as programmed (R252); empty before the seal. -/
  sealPage : List Byte
  /-- The save-region slot of each segment, in segment order (R337). -/
  slots : List Nat
  /-- The places of the two seal copies and their spare, allocated at t2, and those of the copies that verified (R254, R255). -/
  seals : List Nat
  sealsUsed : List Nat
  deriving DecidableEq, Repr

/-- The restore (R266 to R276). -/
structure Restore where
  /-- The vault being restored; 0 for none. -/
  seq : Nat
  cls : Nat
  warm : Bool
  active : Bool
  metaDone : Bool
  admitted : Bool
  step : Nat
  position : Nat
  segment : Nat
  /-- Pages still to be fetched from the vault chain, and the vault that holds each (R267, R271). -/
  locations : SMap Nat
  /-- Carriage outcomes (R275). -/
  outcomes : SMap Nat
  /-- A parent-vault page was poisoned in this restore (R90). -/
  parentPoison : Bool
  /-- The power-return event, or BOOT t0 (OD 0x5300.0B). -/
  began : Nat
  /-- The restore has completed and its vault awaits the first flush checkpoint in SERVICE (R274). -/
  awaiting : Bool
  deriving DecidableEq, Repr

/-- Saves, vaults and restores. -/
structure Saves where
  run : Option SaveRun
  vaults : List Vault
  restore : Restore
  /-- The last SEALSEQ given (R252). -/
  lastSeq : Nat
  /-- The seating plan (R277): the carriage ID of each entry, an unlisted one 0xFFFF. -/
  plan : SMap Nat
  deriving DecidableEq, Repr

/-- The power state of R236. -/
inductive PowerState where
  | normal | armed | committed
  deriving DecidableEq, Repr

/-! ## DRAM channels (08) -/

/-- The channel states of OD 0x4000.01 (R309, R316), in the order of their codes 0 to 6. -/
inductive ChanState where
  | absent | inService | frozen | salvageInit | thawing | salvageSave | offline
  deriving DecidableEq, Repr

/-- An entry of an activate tally (R292). -/
structure TallyEntry where
  rank : Nat
  bank : Nat
  row : Nat
  count : Nat
  deriving DecidableEq, Repr

/-- A subchannel's tally, its fallback state with the rolling activate count of each bank (R294), and the neighbour
refreshes of this window. -/
structure Tally where
  entries : List TallyEntry
  fallback : Bool
  rolling : SMap Nat
  refreshes : Nat
  /-- The Threshold of this window (OD 0x4200.01 applies from the next window). -/
  threshold : Nat
  deriving DecidableEq, Repr

/-- The refresh of one bank (R288, R291): refreshes due and not issued, and the time of the last one. -/
structure BankRefresh where
  due : Nat
  last : Nat
  deriving DecidableEq, Repr

/-- An error entry (R314). -/
structure ErrorEntry where
  time : Nat
  kind : Nat
  source : Nat
  device : Nat
  frame : Nat
  line : Nat
  deriving DecidableEq, Repr

/-- A write held in its alert window (R301). -/
structure AlertWrite where
  frame : Nat
  line : Nat
  source : DramSource
  retries : Nat
  deriving DecidableEq, Repr

/-- A DRAM channel. -/
structure Chan where
  state : ChanState
  returnPending : Bool
  /-- Offline for this start only (R281, R304). -/
  thisStart : Bool
  /-- Salvage initialisation has completed (R308). -/
  initialised : Bool
  /-- Open row of each bank, plus 1; 0 when closed (R285). -/
  rows : SMap Nat
  banks : SMap BankRefresh
  mr4 : SMap Nat
  writes : List AlertWrite
  tallies : SMap Tally
  errors : List ErrorEntry
  errorCount : Nat
  /-- Corrections by device position (rank × 20 + subchannel × 10 + device): lines and times (R299). -/
  corrections : SMap (List (Nat × Nat))
  /-- Times of the corrections of the last second, by the bank queue that made them (R15). -/
  storms : SMap (List Nat)
  /-- Devices marked failed, by rank × 2 + subchannel (R299). -/
  failed : SMap Nat
  /-- The last uncorrectable lines: time and row key (R300). -/
  uncorrected : List (Nat × Nat)
  /-- Ranks every device of which reports DRFM (R280, R293). -/
  drfm : BitVec 4
  /-- When the channel entered service, and the first error entry since (R312, R313). -/
  since : Nat
  firstError : Option ErrorEntry
  /-- Lines that a salvage read has marked failed, as frame and line (R308). -/
  marked : List (Nat × Fin 64)
  /-- TIME64 and temperature, in 0.1 °C, of the last full training (R303, R312). -/
  trainTime : Nat
  trainTemp : Int
  /-- Write timing is adjusted at the next turn to write mode (R305). -/
  adjust : List Nat
  lastZq : Nat
  scrub : Nat
  scrubCorrections : Nat
  freezeCause : Nat
  freezeTime : Nat
  record : List Byte
  deriving DecidableEq, Repr

/-- Stored training results (R63, R303): the population, temperature and refresh plan recorded with them. -/
structure Training where
  population : List Byte
  temperature : Int
  plan : Nat
  deriving DecidableEq, Repr

/-- The Memory region: its channels, the contents of frames, and what the settings area keeps of it. -/
structure Dram where
  /-- The population record in force, of the last BOOT (R281; OD 0x4100.04). -/
  population : List Byte
  chans : SMap Chan
  frames : SMap Cipher
  training : Option Training
  /-- Refresh or timing plan in force, counted by re-plans that changed it (R63). -/
  planVersion : Nat
  /-- The union of the ports' panic states as the channels have received it (R287). -/
  panic : BitVec 2
  freezeSeq : Nat
  /-- ForceFullTraining has been executed: the next BOOT's full training clears the failed-device marks (R299). -/
  forced : Bool
  deriving DecidableEq, Repr

/-! ## Flash channels and the flash tier (09) -/

/-- A flash channel (R321 to R333). -/
structure FChan where
  /-- 0 in service, 1 out of service, 2 return pending (OD 0x6100.01). -/
  state : Nat
  cause : Nat
  /-- Dies in service, and dies retired for good (R332). -/
  dies : BitVec 16
  retired : BitVec 16
  rate : Nat
  /-- Times of the timeouts of each die, newest first (R332). -/
  timeouts : SMap (List Nat)
  /-- Stripe units of this channel, or of dies retired on it, are still to be rebuilt (R333). -/
  rebuilding : Bool
  /-- A LUN reset is running on these dies (R332). -/
  resetting : BitVec 16
  lastZq : Nat
  deriving DecidableEq, Repr

/-- A block of the media (R331, R334, R343). -/
structure FBlock where
  isOpen : Bool
  erased : Bool
  erases : Nat
  reads : Nat
  written : Nat
  retired : Bool
  /-- Queued for refresh relocation (R329). -/
  refresh : Bool
  /-- Read-retry level that last succeeded (R329). -/
  hint : Nat
  /-- When the block's oldest data was written (R329). -/
  oldest : Nat
  /-- The block carries the maker's bad-block mark (R331). -/
  factory : Bool
  deriving DecidableEq, Repr

/-- An open stripe of a group (R327): the time of its first program, the data units programmed and its number. -/
structure Stripe where
  openSince : Nat
  units : Nat
  number : Nat
  /-- Pad codewords written to close stripes. -/
  pads : Nat
  deriving DecidableEq, Repr

/-- The Flash region. -/
structure Flash where
  /-- The population record and the die profile in force, of the last BOOT (R324, R346). -/
  population : List Byte
  dieProfile : List Byte
  chans : SMap FChan
  blocks : SMap FBlock
  stripes : SMap Stripe
  /-- The next write sequence number (R325), and the next place of each write stream: 0 hot, 1 cold, 2 depot, 3 system (R341). -/
  wseq : Nat
  places : SMap Nat
  /-- Copies superseded since the last flush checkpoint, which it frees (R621): names and places. -/
  superseded : List FlashCopy
  /-- Save-region slots released and not erased, with the time of release (R337). -/
  released : List (Nat × Nat)
  /-- Slots withdrawn with retired blocks, and replacement slots left in the overhead (R339). -/
  slotsLost : Nat
  overhead : Nat
  /-- Slots in use by vaults and drills. -/
  slotsUsed : Nat
  /-- SaveCeilingMax in force, and the old size while blocks change store (R334). -/
  saveMax : Nat
  converting : Option Nat
  /-- The population for which the media was divided (R334). -/
  divided : Option (List Byte)
  /-- Spares used on each die, by channel × 16 + die (R331). -/
  sparesUsed : SMap Nat
  lifeReported : Nat
  /-- The block that wear levelling is to relocate (R345). -/
  leveling : Option Nat
  /-- Bytes of label storage areas, as LD × 131,072 + offset, whose codeword is unreadable (R330). -/
  lsaLost : List Nat
  deriving DecidableEq, Repr

/-! ## Cipher engine and keys (10) -/

/-- A key slot (R365 to R369). `type` is 0 empty, 1 publisher, 2 sealing; `root` is the root key. -/
structure Slot where
  type : Nat
  root : List Byte
  check : Nat
  gen : Nat
  counter : Nat
  mark : Nat
  exhausted : Bool
  /-- Event 0x5011 has been raised for this generation (R376). -/
  passed63 : Bool
  deriving DecidableEq, Repr

/-- A seal command that waits for its high-water record (R374). -/
structure SealWait where
  src : Transport
  tag : Nat
  slot : Nat
  aad : List Byte
  plain : List Byte
  since : Nat
  /-- What its pipes meet when it runs (R382). -/
  pairings : Pairings
  deriving DecidableEq, Repr

/-- The Crypt region. -/
structure Crypt where
  /-- The device-unique key in fuses (R360). -/
  duk : List Byte
  slots : SMap Slot
  vaultCounter : Nat
  vaultMark : Nat
  /-- The key-generation counter and its mark (R126, R519). -/
  keyGen : Nat
  keyMark : Nat
  /-- Pipes quarantined, those of them whose self-test runs, and those out until the next BOOT (R381). -/
  quarantined : BitVec 40
  testing : BitVec 40
  untilBoot : BitVec 40
  mismatches : SMap (List Nat)
  /-- The vault key has been derived since the Main die was last reset (R363). -/
  keyed : Bool
  /-- Carriages whose key the carriage-key table holds (R364), with their key generation. -/
  keyTable : SMap Nat
  sealWaits : List SealWait
  deriving DecidableEq, Repr

/-! ## Power sensing, gauge and ageing (11) -/

/-- The power path: the power state (R236), BATSEL (R393), the Release hold (R391), and when a Commit was last recognised
(R594), plus 1. -/
structure Power where
  state : PowerState
  /-- 0 released, 1 save, 2 drill (OD 0x8400.05). -/
  batsel : Nat
  batselSince : Nat
  /-- When the running Release hold count began; none while it does not run. -/
  holdSince : Option Nat
  /-- Discharge current has been seen since BATSEL was driven (R393). -/
  confirmed : Bool
  commitTime : Nat
  /-- PFSENSE is at or above the effective ReleaseLevel (R391). -/
  aboveRelease : Bool
  deriving DecidableEq, Repr

/-- What a rest point leaves for the next (R404): SOC_ocv in 1/100 %, and when. -/
structure RestMark where
  soc : Nat
  time : Nat
  deriving DecidableEq, Repr

/-- The battery gauge (R395 to R409). -/
structure Gauge where
  reading : Option GaugeReading
  /-- SOC_cc in 10^-6 % (R398). -/
  coulomb : Nat
  /-- Charge counted since the last rest point, in mC (R404). -/
  charge : Int
  /-- Counting has run without a break since the last rest point, and T has stayed at or above 10 °C (R404). -/
  unbroken : Bool
  warmEnough : Bool
  mark : Option RestMark
  /-- The pack is absent (R396). -/
  absent : Bool
  /-- The pack waits for its first rest point (R396). -/
  provisional : Bool
  /-- The first reading after the pack appeared anchors SOC_cc (R400). -/
  anchorDue : Bool
  /-- SOC_ocv while the pack is at rest, in 1/100 % (R399). -/
  ocvNow : Nat
  /-- When |I| last was 50 mA or more, or the spread 8 mV or more, and the pack voltages seen since (R399). -/
  quietSince : Nat
  quietLow : Nat
  quietHigh : Nat
  /-- A learning record is to be journalled (R408), its FLAGS, and the values that wait for its valid mark (R407). -/
  recordDue : Bool
  recordFlags : Nat
  waitingCapacity : Option Nat
  waitingR25 : Option Nat
  /-- When the last day of DaysSinceLearning was counted (R415). -/
  dayTime : Nat
  deriving DecidableEq, Repr

/-- One ageing monitor's report (R410). -/
structure Monitors where
  sensors : SMap MonitorReading
  deriving DecidableEq, Repr

/-- The margin plan (R411 to R417). -/
structure Margin where
  /-- Why a re-plan is due (R411): 1 period, 2 drift, 3 command; and since when it waits. -/
  due : Option Nat
  dueSince : Nat
  overdue : Bool
  /-- The VTRIM offset asked for, in mV, when OD 0x8300.07 has not reached it (R417). -/
  target : Nat
  lastStep : Nat
  /-- Corrected lines of the patrol passes of each rank since the last re-plan and its last three passes, newest first, by
  channel × 4 + rank (R414). -/
  passes : SMap (List Nat)
  /-- Reads recovered by each retry level since the last re-plan, by channel × 64 + level, and the trial order by channel
  (R414). -/
  recovered : SMap Nat
  /-- Patrol passes of each rank completed since the last re-plan (R414). -/
  fresh : SMap Nat
  /-- The devices' error-check-and-scrub counts of each rank, as read at its last patrol pass (R289). -/
  ecs : SMap Nat
  order : SMap (List Nat)
  deriving DecidableEq, Repr

/-! ## Host ports (03) -/

/-- A CXL.mem message that a port has received: LD, DPA, and the data of a write, with what it meets on its way (R37). -/
structure MemRequest where
  ld : Nat
  dpa : Nat
  data : Option Line
  fault : PathFault
  deriving DecidableEq, Repr

/-- A port controller, beside the objects of OD 0x2000 or 0x2100. -/
structure HostPort where
  /-- Link training has started, at the width and with the credits its objects held then (R65, R76, R98). -/
  training : Bool
  maxWidth : Nat
  reqCredits : Nat
  rwdCredits : Nat
  /-- RwD credits of freed buffers that the throttle has not returned (R100). -/
  withheld : Nat
  /-- Req credits used up when a save's fence came, and by the reads received since (R102). -/
  reqHeld : Nat
  /-- Express panic, and since when (R96). -/
  panic : Bool
  panicSince : Nat
  heldReported : Bool
  /-- IDE keys (R106). -/
  keyMem : Option (BitVec 256)
  keyIo : Option (BitVec 256)
  /-- CXL.mem IDE runs in skid mode, else in containment mode (R107). -/
  skid : Bool
  /-- A GPF Phase 2 request waits for the port's accepted writes (R89). -/
  gpf : Bool
  /-- CXL.mem messages received since the last verified MAC, oldest first (R107). -/
  unverified : List MemRequest
  /-- LDs that the fabric manager has bound behind a switch, by LD-ID (R79). -/
  bound : BitVec 16
  /-- Uncorrectable buffer error last contained, plus 1 (R105). -/
  bufferError : Nat
  deriving DecidableEq, Repr

/-- An HDM decoder (R82). -/
structure HdmDecoder where
  base : BitVec 64
  size : BitVec 64
  ways : Nat
  granularity : Nat
  deriving DecidableEq, Repr

/-- A LD's mailbox state (R108): interrupt policy, alert configuration, background command and scan. -/
structure MailboxState where
  policy : BitVec 32
  alerts : List Byte
  /-- Opcode, percentage, return code of the background command. -/
  background : Nat × Nat × Nat
  /-- Poisoned DPA pages that the last scan found. -/
  scan : List Nat
  scanned : Bool
  /-- The first entry of the next Get Poison List: the list goes on where the last answer stopped (2 KiB, R74). -/
  poisonNext : Nat
  deriving DecidableEq, Repr

/-- The Host region. -/
structure HostRegion where
  port0 : HostPort
  port1 : HostPort
  decoders : SMap HdmDecoder
  mail : SMap MailboxState
  /-- QoS control of each port's FM-owned LD (R93). -/
  qos : SMap (List Byte)
  /-- Couple and uncouple commands that wait for an uncouple to complete (R85), in order of arrival. -/
  queue : List Instr
  /-- What the Map region last sent: residue, effective ceiling and flush rate in bytes/s (R101). -/
  residue : Nat
  ceiling : Nat
  flushRate : Nat
  /-- The residue band of the last throttle evaluation (R100). -/
  band : Nat
  /-- Write payload that the Cut state may still admit, in 10^-6 bytes (R100, R101). -/
  cutCredit : Nat
  deriving DecidableEq, Repr

/-! ## Two-wire port (13) -/

/-- A message that waits to be sent as controller (R475): the event code and its severity. -/
structure Notice where
  code : Nat
  severity : Nat
  /-- Failed attempts to send it (R477). -/
  attempts : Nat
  /-- Its place in the order of arrival (R475). -/
  order : Nat
  deriving DecidableEq, Repr

/-- The proxy's states (R485), in the order of PXSTAT. -/
inductive ProxyState where
  | idle | loading | busy | ready | error
  deriving DecidableEq, Repr

/-- The proxy mailbox (R485, R486). -/
structure Proxy where
  state : ProxyState
  buffer : SMap Byte
  len : Nat
  off : Nat
  seq : BitVec 8
  /-- The response frame that ZOP has produced and the port has not placed yet. -/
  response : Option (List Byte)
  deriving DecidableEq, Repr

/-- The two-wire port. -/
structure Bus where
  pointer : Nat
  /-- The snapshots of ranges 0x0000 and 0x0100 and the ones before them, and when each was taken (R469, R471). -/
  snap0 : List Byte
  snap1 : List Byte
  old0 : List Byte
  old1 : List Byte
  time0 : Nat
  time1 : Nat
  oldTime0 : Nat
  oldTime1 : Nat
  /-- The next read of a range is served from its previous snapshot (R471). -/
  serveOld0 : Bool
  serveOld1 : Bool
  proxy : Proxy
  queue : List Notice
  /-- Messages that have arrived at the queue (R475). -/
  arrivals : Nat
  /-- The message at the head waits out its backoff (R477). -/
  waiting : Bool
  lastNack : Bool
  /-- MCTP packets that wait: destination address and bytes (R473). -/
  packets : List (Nat × List Byte)
  packetAttempts : Nat
  /-- Recovery (R471): the stretch limit is none until the settings are reloaded. -/
  recovery : Bool
  /-- BusSpeed and Slope in force since the last bus free (R478). -/
  speed : Nat
  slope : Nat
  deriving DecidableEq, Repr

/-! ## Firmware update (15) -/

/-- A bank record (R528). `state` is 0 empty, 1 applying, 2 verified, 3 activated, 4 rejected. -/
structure BankRecord where
  state : Nat
  trial : Bool
  actSeq : Nat
  smVer : Nat
  ptVer : Nat
  secVer : Nat
  packageId : Nat
  time : Nat
  digest : List Byte
  deriving DecidableEq, Repr

/-- A bank: its record, the sectors written since manufacture, and that its stationmaster image was found damaged. -/
structure Bank where
  record : BankRecord
  sectors : SMap (Option (List Byte))
  damaged : Bool
  deriving DecidableEq, Repr

/-- The update states (R535), in the order of OD 0xA000.01. -/
inductive UpdateState where
  | idle | receiving | received | applying | verifying | verified | scheduled | trial
  deriving DecidableEq, Repr

/-- The update progress record and what the controller holds of the package (R529 to R534). -/
structure Update where
  state : UpdateState
  bankA : Bank
  bankB : Bank
  /-- The package header's first 241 bytes (R530). -/
  header : List Byte
  contentKey : List Byte
  /-- The transfer area: blocks exactly as received, by number (R534). -/
  blocks : SMap (Option (List Byte))
  /-- Byte in the body of the sector record for ApplySector. -/
  applyOffset : Nat
  /-- Programs of the current sector that read back wrongly (R537). -/
  retries : Nat
  /-- The apply waits at a sector boundary (R538), or was interrupted (R549). -/
  paused : Bool
  resumed : Bool
  /-- Abort waits for the sector boundary (R535). -/
  aborting : Bool
  /-- SERVICE time counted in the trial, in ns, and since when SERVICE has run (R545). -/
  trialTime : Nat
  serviceSince : Option Nat
  deferred : Bool
  late : Bool
  /-- Consecutive BOOT failures, and those at step t2, for R546. -/
  bootFails : Nat
  t2Fails : Nat
  /-- Persistent objects that the newly active bank's format table did not list at the last activation (R548). -/
  removed : List Nat
  deriving DecidableEq, Repr

/-! ## JTAG (17) -/

/-- The TAP (R603): the instruction in force, that it drives the balls, and what IDCODE gave when it was last executed. -/
structure Tap where
  instruction : TapInstruction
  drives : Bool
  idcode : Option (BitVec 32)
  deriving DecidableEq, Repr

/-! ## The state -/

/-- The whole state of the block. `pending` is the queue of commands that wait, first in, first out. -/
structure State where
  pending : List Instr
  /-- TIME64 (R456) and the time since the Signal Box cold start, in ns. -/
  clock : Nat
  uptime : Nat
  /-- The MODEL's own counter of free values taken (see Config.lean); no register of the manual. -/
  free : Nat
  /-- Events that arrived in a state whose row does not list them (R12). -/
  unlisted : Nat
  ctl : Ctl
  boot : Boot
  pins : Pins
  /-- The value of every scalar object, by index × 256 + subindex, an unlisted one at its default (R424, R434). -/
  od : SMap Nat
  /-- The value of every BLOB and STR object that is written or held whole; an unlisted one at its default. -/
  blobs : SMap (Option (List Byte))
  /-- Keys of persistent objects accepted and not yet recorded in the settings area, oldest first (R432). -/
  unrecorded : List Nat
  zop : Zop
  out : Outputs
  eflash : EFlash
  cores : Cores
  log : Logbook
  perf : Perf
  tickets : Tickets
  loop : Loop
  iso : Isolation
  tables : MapTables
  work : MapWork
  terms : Terms
  flush : Flush
  saves : Saves
  power : Power
  gauge : Gauge
  monitors : Monitors
  margin : Margin
  dram : Dram
  flash : Flash
  crypt : Crypt
  host : HostRegion
  bus : Bus
  update : Update
  tap : Tap
  deriving DecidableEq, Repr

/-- Why a step stops. -/
inductive Fault where
  /-- DRAM_READ_DECODE names a frame beyond the DRAM population: there is no such memory to read (R280). Safe: the
  block never reads such a frame. -/
  | noSuchFrame (frame : Nat)
  deriving DecidableEq, Repr

/-- Why the model gives a command no meaning. -/
inductive Refusal where
  /-- A command whose meaning is not written; raised by the dispatch alone. Safe: nothing is claimed of it. -/
  | notModelled (mnemonic : String)
  deriving DecidableEq, Repr

/-! ## The state after reset -/

/-- The population record of the modelled sled: 16 channels of 4 ranks of 64 Gb (OD 0x4100.04; DESIGN CHOICE, log 6). -/
def dramPopulation0 : List Byte := [16#8, 4#8, 64#8, 0#8]

/-- The population record of the modelled sled: 16 dies a channel over 4 CE (OD 0x6000.01; DESIGN CHOICE, log 6). -/
def flashPopulation0 : List Byte := [16#8, 4#8, 0#8, 0#8]

/-- Bytes 0 to 251 of the die profile of the modelled sled (R324; DESIGN CHOICE, log 6): TLC, 4 planes, 1,024 pages a
block, 4,096 blocks a plane, 3,000 and 60,000 cycles, 1,000,000 reads, eight retry levels. -/
def dieProfileBody0 : List Byte :=
  toBytes 4 0x464C5052 ++ toBytes 2 1 ++ [3#8, 4#8] ++ toBytes 8 0 ++ toBytes 2 1024 ++ toBytes 2 4096 ++
  toBytes 4 3000 ++ toBytes 4 60000 ++ toBytes 4 1000000 ++ toBytes 8 0x0000000000A201 ++ toBytes 4 0x00D26184 ++
  toBytes 4 0x00000889 ++ toBytes 192 0 ++ toBytes 12 0

/-- The die profile of the modelled sled, with its PCRC (R324). -/
def dieProfile0 : List Byte := dieProfileBody0 ++ toBytes 4 (crc32c dieProfileBody0).toNat

/-- A settings record in the first sector of a copy (R520): slot, TYPE, KEY, SEQ, payload. -/
def settingsRec0 (sector slot type key seq : Nat) (payload : List Byte) : Rec :=
  { sector := sector, slot := slot, type := type, key := key, seq := seq, payload := payload, mark := .valid, intact := true }

/-- The settings written at sled build, in a copy whose first sector is given (newest first). -/
def settingsRecs0 (sector : Nat) : List Rec := [
  settingsRec0 sector 5 0x0101 0x0260000C 3 (slice dieProfile0 208 48),
  settingsRec0 sector 4 0x0101 0x0160000C 3 (slice dieProfile0 104 104),
  settingsRec0 sector 3 0x0101 0x0060000C 3 (slice dieProfile0 0 104),
  settingsRec0 sector 2 0x0100 0x600001 2 flashPopulation0,
  settingsRec0 sector 1 0x0100 0x410004 1 dramPopulation0]

/-- The bank record of the factory image in bank A (R528; versions and digest DESIGN CHOICE, log 7). -/
def bankRecordA0 : BankRecord :=
  { state := 3, trial := false, actSeq := 1, smVer := 0x01000000, ptVer := 0x01000000, secVer := 1, packageId := 0,
    time := 0, digest := List.replicate 48 0#8 }

/-- The record of a bank that has never held an image (R528). -/
def bankRecordB0 : BankRecord :=
  { state := 0, trial := false, actSeq := 0, smVer := 0, ptVer := 0, secVer := 0, packageId := 0, time := 0,
    digest := List.replicate 48 0#8 }

/-- The 84-byte payload of a bank record (R528). -/
def BankRecord.bytes (r : BankRecord) : List Byte :=
  [BitVec.ofNat 8 r.state, if r.trial then 1#8 else 0#8, 0#8, 0#8] ++ toBytes 4 r.actSeq ++ toBytes 4 r.smVer ++
  toBytes 4 r.ptVer ++ toBytes 4 r.secVer ++ toBytes 8 r.packageId ++ toBytes 8 r.time ++ padTo 48 r.digest

/-- A log region as written at manufacture: its first sector in use with records up to `slots`, the rest free. -/
def logRegion0 (first count slots seq : Nat) (recs : List Rec) : LogRegion :=
  { ring := (List.range count).map (· + first), inUse := 1, nextSlot := slots + 1, seq := seq + 1, sectSeq := count + 1,
    recs := recs }

/-- The embedded flash as written at manufacture and sled build. -/
def EFlash.initial : EFlash :=
  { settings0 := logRegion0 3072 128 5 3 (settingsRecs0 3072)
    settings1 := logRegion0 3200 128 5 3 (settingsRecs0 3200)
    journal := logRegion0 3328 256 1 1
      [{ sector := 3328, slot := 1, type := 0x0040, key := 0, seq := 1, payload := bankRecordA0.bytes, mark := .valid,
         intact := true }]
    summary := logRegion0 3584 256 0 0 []
    erases := []
    formats := []
    eraseLog := []
    eseq := 0
    spares := (List.range 240).map (· + 3856)
    retired := []
    unformatted := []
    busy := none
    waiting := [] }

/-- An unlisted porter: held in reset. -/
def Porter.initial : Porter := { running := false, reloading := false, expiries := [] }

/-- An unlisted counter (R572): stopped, with its object defaults. -/
def Counter.initial : Counter :=
  { value := 0, source := 0, qualifier := 0xFFFF, preset := 0, sample := false, overflows := 0 }

/-- An unlisted Loop Line link. -/
def LinkState.initial : LinkState := { rxSeq := 0, txSeq := 0, buffer := [], replays := 0, times := [], failed := false }

/-- A carriage slot that is Free: a zeroed descriptor (R121). -/
def Carriage.free : Carriage :=
  { state := .free, label := 0, term := 0, keygen := 0, root := 0, size := 0, reserve := false, sealOn := false,
    sealPend := false, created := 0, termTime := 0, damaged := false }

/-- An Empty interior entry (R131). -/
def Interior.empty : Interior := { valid := false, pair := false, pois := false, extent := 0, node := 0 }

/-- An Unallocated leaf entry (R133). -/
def Leaf.empty : Leaf :=
  { res := false, dirty := false, depot := false, sided := false, sealed := false, pois := false, flc := false,
    busy := false, fq := false, acc := false, ttag := 0, ptr := 0, pageSeal := 0 }

/-- A free depot entry (R159). -/
def DepotEntry.empty : DepotEntry :=
  { valid := false, fp := 0, refs := 0, slot := 0, slotGen := 0, res := false, flc := false, pois := false, busy := false,
    acc := false, frame := 0, gterm := 0, damaged := false }

/-- A page of zeros. -/
def Image.zero : Image := { lines := [], bad := 0 }

/-- A frame that nothing has written: zeros under the vault key's name with tweak 0 (DESIGN CHOICE, log 5). -/
def Cipher.zero : Cipher := { key := .vault, tweak := 0, image := Image.zero }

/-- A name without a flash location. -/
def FlashCopy.none : FlashCopy := { present := false, lost := false, content := Cipher.zero, block := 0, offset := 0 }

/-- Translation tables without a carriage. -/
def MapTables.empty : MapTables :=
  { carriages := [], interior := [], leaves := [], couplings := [], passes := [], depot := [], snapshots := [],
    dropped := [], globalTerm := 0, flash := [], aux := [], sidings := [], volumes := [], payloads := [], interval := 0, payload := 0, lsa := [] }

/-- The Map region's working state at reset. -/
def MapWork.initial : MapWork :=
  { changed := [], waiters := [], orders := 0, resize := none, nextFrame := 0, held := [], badBanks := 0, bankErrors := [],
    warned := false, critical := false, lowNodes := false, depotNodes := [], sweep := 0, sweeping := false, cache := [], unwritten := [],
    discarded := 0, delayed := [], slotHolds := [] }

/-- No operation of chapter 05 in progress. -/
def Terms.initial : Terms :=
  { admission := none, parks := [], recalls := [], queue := [], exp := none, imp := none, runs := [], deferred := [],
    retag := [], detached := [], reverts := [], uncoupling := [], globalDue := none, globalHold := false, residuals := [],
    periodStart := 0, period := 0 }

/-- The flush engine at reset. -/
def Flush.initial : Flush :=
  { age := [], claims := [], confirmed := [], checkpoint := none, nextImage := MapTables.empty, lastCheckpoint := 0,
    image := MapTables.empty, metaHold := false, planned := false, below := false, lastEnergy := 0, drill := none,
    drillPopulation := none, drillRetry := 0, wearStep := 0, bound := 0,
    gcInterval := 0, gcVolumes := [] }

/-- No restore. -/
def Restore.initial : Restore :=
  { seq := 0, cls := 0, warm := false, active := false, metaDone := false, admitted := false, step := 0, position := 0,
    segment := 0, locations := [], outcomes := [], parentPoison := false, began := 0, awaiting := false }

/-- No save and no vault. -/
def Saves.initial : Saves := { run := none, vaults := [], restore := Restore.initial, lastSeq := 0, plan := [] }

/-- The refresh of a bank at reset. -/
def BankRefresh.initial : BankRefresh := { due := 0, last := 0 }

/-- An empty activate tally (R292). -/
def Tally.initial : Tally := { entries := [], fallback := false, rolling := [], refreshes := 0, threshold := 1024 }

/-- A DRAM channel of a Main die that has not started. -/
def Chan.initial : Chan :=
  { state := .absent, returnPending := false, thisStart := false, initialised := false, rows := [], banks := [], mr4 := [], writes := [],
    tallies := [], errors := [], errorCount := 0, corrections := [], storms := [], failed := [], uncorrected := [], drfm := 0,
    since := 0, firstError := none, marked := [], trainTime := 0, trainTemp := 0, adjust := [], lastZq := 0, scrub := 0, scrubCorrections := 0, freezeCause := 0, freezeTime := 0, record := [] }

/-- The Memory region at reset. -/
def Dram.initial : Dram :=
  { population := dramPopulation0, chans := [], frames := [], training := none, planVersion := 0, panic := 0, freezeSeq := 0, forced := false }

/-- A flash channel of a Main die that has not started. -/
def FChan.initial : FChan :=
  { state := 0, cause := 0, dies := 0, retired := 0, rate := 0, timeouts := [], rebuilding := false, resetting := 0,
    lastZq := 0 }

/-- A block of new media: erased. -/
def FBlock.initial : FBlock :=
  { isOpen := false, erased := true, erases := 0, reads := 0, written := 0, retired := false, refresh := false, hint := 0,
    oldest := 0, factory := false }

/-- A group without an open stripe. -/
def Stripe.initial : Stripe := { openSince := 0, units := 0, number := 0, pads := 0 }

/-- The Flash region at reset. -/
def Flash.initial : Flash :=
  { population := flashPopulation0, dieProfile := dieProfile0, chans := [], blocks := [], stripes := [], wseq := 1, places := [], superseded := [], released := [], slotsLost := 0,
    overhead := 0, slotsUsed := 0, saveMax := 2 ^ 40, converting := none, divided := none, sparesUsed := [],
    lifeReported := 0, leveling := none, lsaLost := [] }

/-- An Empty key slot (R368). -/
def Slot.empty : Slot :=
  { type := 0, root := [], check := 0, gen := 0, counter := 0, mark := 0, exhausted := false, passed63 := false }

/-- The Crypt region at reset, with a fused key of zeros (DESIGN CHOICE, log 7). -/
def Crypt.initial : Crypt :=
  { duk := List.replicate 32 0#8, slots := [], vaultCounter := 0, vaultMark := 0, keyGen := 1, keyMark := 0,
    quarantined := 0, testing := 0, untilBoot := 0, mismatches := [], keyed := false, keyTable := [], sealWaits := [] }

/-- The power path after a cold start in OFF. The Release comparator has not seen PFSENSE above its level (DESIGN CHOICE, log 189). -/
def Power.initial : Power :=
  { state := .normal, batsel := 0, batselSince := 0, holdSince := none, confirmed := false, commitTime := 0,
    aboveRelease := false }

/-- The gauge after a cold start, before its first reading. -/
def Gauge.initial : Gauge :=
  { reading := none, coulomb := 0, charge := 0, unbroken := false, warmEnough := true, mark := none, absent := false,
    provisional := true, anchorDue := true, ocvNow := 0, quietSince := 0, quietLow := 0, quietHigh := 0,
    recordDue := false, recordFlags := 0, waitingCapacity := none,
    waitingR25 := none, dayTime := 0 }

/-- A monitor that has not been sampled (DESIGN CHOICE, log 8). -/
def MonitorReading.initial : MonitorReading := { driftBase := 0, driftReplan := 0, slack := 0, temp := 0 }

/-- The margin plan at reset. -/
def Margin.initial : Margin :=
  { due := none, dueSince := 0, overdue := false, target := 0, lastStep := 0, passes := [], recovered := [], fresh := [], ecs := [], order := [] }

/-- A port that has not started training. -/
def HostPort.initial : HostPort :=
  { training := false, maxWidth := 16, reqCredits := 2560, rwdCredits := 1536, withheld := 0, reqHeld := 0, panic := false, panicSince := 0,
    heldReported := false, keyMem := none, keyIo := none, skid := false, gpf := false, unverified := [], bound := 0, bufferError := 0 }

/-- A decoder that has not been programmed. -/
def HdmDecoder.initial : HdmDecoder := { base := 0, size := 0, ways := 1, granularity := 256 }

/-- A mailbox that has executed nothing. -/
def MailboxState.initial : MailboxState := { policy := 0, alerts := [], background := (0, 0, 0), scan := [], scanned := false, poisonNext := 0 }

/-- The Host region at reset. -/
def HostRegion.initial : HostRegion :=
  { port0 := HostPort.initial, port1 := HostPort.initial, decoders := [], mail := [], qos := [], queue := [],
    residue := 0, ceiling := 0, flushRate := 0, band := 0, cutCredit := 0 }

/-- An idle proxy (R485). -/
def Proxy.initial : Proxy := { state := .idle, buffer := [], len := 0, off := 0, seq := 0, response := none }

/-- The snapshots before the first refresh: WINVER is 1, UNBOUNDED 1, RESERVE 10 and PWRFAIL 1 (R482 to R484); fields of which the tables give
no reset value read 0 (DESIGN CHOICE, log 194). -/
def identityReset : List Byte := [1#8, 0#8, 0#8, 0#8, 1#8] ++ List.replicate 251 0#8
def batteryReset : List Byte := List.replicate 30 0#8 ++ [10#8, 1#8] ++ List.replicate 224 0#8

/-- The two-wire port after a cold start (R467). -/
def Bus.initial : Bus :=
  { pointer := 0, snap0 := identityReset, snap1 := batteryReset, old0 := identityReset, old1 := batteryReset, time0 := 0, time1 := 0, oldTime0 := 0, oldTime1 := 0, serveOld0 := false,
    serveOld1 := false, proxy := Proxy.initial, queue := [], arrivals := 0, waiting := false, lastNack := false,
    packets := [], packetAttempts := 0, recovery := false, speed := 1, slope := 1 }

/-- No package in hand, bank A active with the factory image. -/
def Update.initial : Update :=
  { state := .idle, bankA := { record := bankRecordA0, sectors := [], damaged := false },
    bankB := { record := bankRecordB0, sectors := [], damaged := false }, header := [],
    contentKey := [], blocks := [], applyOffset := 0, retries := 0, paused := false, resumed := false, aborting := false,
    trialTime := 0, serviceSince := none, deferred := false, late := false, bootFails := 0, t2Fails := 0, removed := [] }

/-- The logbook at reset. -/
def Logbook.initial : Logbook :=
  { queue := [], records := [], ring := [], nextSeq := 1, seqReport := none, cxl := [] }

/-- The state after reset: the unit after the Signal Box cold start of a factory-fresh unit, in OFF with cause 0x00
(R496, R434), the Main die unpowered, VSB and the crystal good, and nothing waiting. -/
def State.reset : State :=
  { pending := []
    clock := 0
    uptime := 0
    free := 0
    unlisted := 0
    ctl := { mode := .off, romFailed := false, serviceLoop := false, resetPending := false, stopped := false,
             unlocked := false, armed := false }
    boot := { t0 := 0, reached := 0, held := none, retryHold := false, storedTraining := false, temperature := 0,
              afterLoss := false, returned := false }
    pins := { resetN := true, perst0N := false, perst1N := false, mdPwrgd := false, pwrfailN := true, rail := 0,
              vsbEarly := false, crystal := true }
    od := [(0x100004, 1), (0xC00001, 0x48)]
    blobs := [(0x410004, some dramPopulation0), (0x600001, some flashPopulation0), (0x60000C, some dieProfile0)]
    unrecorded := []
    zop := { sessions := [], uncommitted := [], committed := [], mixed := [], eids := [] }
    out := { zop := none, mailbox := none, host := [], mctp := none, twoWire := [], busSent := none, msix := [], fm := [], ide := 0 }
    eflash := EFlash.initial
    cores := { porters := [], digestsKept := false, restarts := 0, smExpiries := [], restartCause := 0, deferredReset := 0, deferredPorters := [],
               romVer := 0x01000000, itcmBank := 0, itcm := [], sram := [], codeFault := none }
    log := Logbook.initial
    perf := { counters := [], snapshot := [], samples := [], msixTime := 0 }
    tickets := { lfsr0 := 0x1D2C3B4A, lfsr1 := ~~~0x1D2C3B4A, inFlight := [], stored := [] }
    loop := { links := [], delivered := [], isolated := 0, bridgeReplays := 0, bridgeFailed := false }
    iso := { ports := 0, mapBanks := 0 }
    tables := MapTables.empty
    work := MapWork.initial
    terms := Terms.initial
    flush := Flush.initial
    saves := Saves.initial
    power := Power.initial
    gauge := Gauge.initial
    monitors := { sensors := [] }
    margin := Margin.initial
    dram := Dram.initial
    flash := Flash.initial
    crypt := Crypt.initial
    host := HostRegion.initial
    bus := Bus.initial
    update := Update.initial
    tap := { instruction := .reset, drives := false, idcode := none } }

end Sys2Proof.Machine
end

