-- ==== Sys2Proof/Machine/Ops.lean ====
section
/-! DEFINITION. The named operations on the state that every chapter shares: reading and writing objects, counting,
raising an event, and the status outputs that the mode decides. -/
namespace Sys2Proof.Machine

/-! ## Objects -/

/-- The value of a scalar object. -/
def State.get (s : State) (k : Nat) : Nat := mapGet odDefault s.od k

/-- Writing a scalar object. -/
def State.put (s : State) (k v : Nat) : State := { s with od := mapSet odDefault s.od k v }

/-- A BOOL object. -/
def State.flag (s : State) (k : Nat) : Bool := s.get k != 0

/-- Writing a BOOL object. -/
def State.putFlag (s : State) (k : Nat) (b : Bool) : State := s.put k (if b then 1 else 0)

/-- The size in bits of a scalar object's type. -/
def bitsOfKey (k : Nat) : Nat :=
  match findObj (k / 256) (k % 256) with
  | some o => 8 * o.type.size
  | none => 0

/-- A counting object advances by `n`, modulo its width (DESIGN CHOICE, log 9). -/
def State.bump (s : State) (k n : Nat) : State := s.put k ((s.get k + n) % 2 ^ bitsOfKey k)

/-- A two's complement number of `w` bits. -/
def toSigned (w v : Nat) : Int := if 2 * v < 2 ^ w then (v : Int) else (v : Int) - (2 ^ w : Nat)

/-- The two's complement form in `w` bits, cut to the range of the type. -/
def ofSigned (w : Nat) (v : Int) : Nat :=
  let top : Int := (2 ^ (w - 1) : Nat)
  let c : Int := if v ≥ top then top - 1 else if v < -top then -top else v
  (c % (2 ^ w : Nat)).toNat

/-- Writing an object of a signed type. -/
def State.putInt (s : State) (k : Nat) (v : Int) : State := s.put k (ofSigned (bitsOfKey k) v)

/-- Reading an object of a signed type. -/
def State.getInt (s : State) (k : Nat) : Int := toSigned (bitsOfKey k) (s.get k)

/-- The default OCV curve's corner points: SOC in %, cell mV (R397). -/
def ocvPoints : List (Nat × Nat) :=
  [(0, 3300), (5, 3500), (10, 3580), (20, 3640), (30, 3680), (40, 3710), (50, 3760), (60, 3830), (70, 3920), (80, 4000),
   (90, 4090), (100, 4180)]

/-- Linear interpolation of the default OCV curve at x % (R397), rounded down (DESIGN CHOICE, log 10). -/
def ocvDefaultAt : List (Nat × Nat) → Nat → Nat
  | (x0, v0) :: (x1, v1) :: ps, x =>
    if x ≤ x1 then v0 + (v1 - v0) * (x - x0) / (x1 - x0) else ocvDefaultAt ((x1, v1) :: ps) x
  | [(_, v)], _ => v
  | [], _ => 0

/-- The default of a STR or BLOB object (R434, R397, R403, R421, R454); the others read as zero length. -/
def blobDefault (k : Nat) : List Byte :=
  if k = OD.identityVendor then strBytes "Igver Microsystems"
  else if k = OD.identityPart then strBytes "HX9640"
  else if k = OD.identityStepping then strBytes "B1"
  else if k = OD.identityFamily then strBytes "Staornat"
  else if k = OD.identityProduct then strBytes "Holtino"
  else if k = OD.gaugeOcvTable then ((List.range 101).map (fun x => toBytes 2 (ocvDefaultAt ocvPoints x))).flatten
  else if k = OD.gaugeRFactor then [600, 250, 160, 100, 80].flatMap (toBytes 2)
  else if k = OD.marginClockDerate then [0#8, 0#8, 0#8, 0#8]
  else []

/-- The value of a STR or BLOB object. -/
def State.blob (s : State) (k : Nat) : List Byte := (mapGet noEntry s.blobs k).getD (blobDefault k)

/-- Writing a STR or BLOB object. -/
def State.putBlob (s : State) (k : Nat) (v : List Byte) : State := { s with blobs := mapSet noEntry s.blobs k (some v) }

/-- The seating plan as the value of PlanEntry (R277): its entries up to the last one written; and a plan read from such a value. -/
def State.planBytes (s : State) : List Byte :=
  let n := (s.saves.plan.getLast?.map (·.1 + 1)).getD 1
  (List.range n).flatMap (fun i => toBytes 2 (mapGet (fun _ => 0xFFFF) s.saves.plan i))
def State.loadPlan (s : State) (v : List Byte) : State :=
  { s with saves := { s.saves with plan :=
    (List.range (v.length / 2)).foldl (fun m i => mapSet (fun _ => 0xFFFF) m i (ofBytes ((v.drop (2 * i)).take 2))) [] } }

/-- The value of a writable object as bytes: a scalar in the bytes of its type, a STR or BLOB as it is. -/
def State.valueBytes (s : State) (k : Nat) : List Byte :=
  match findObj (k / 256) (k % 256) with
  | some o => if k = OD.restorePlanEntry then s.planBytes else if o.type.size = 0 then s.blob k else toBytes o.type.size (s.get k)
  | none => []

/-- Storing the bytes of a value in a writable object. -/
def State.storeBytes (s : State) (k : Nat) (v : List Byte) : State :=
  match findObj (k / 256) (k % 256) with
  | some o => if k = OD.restorePlanEntry then s.loadPlan v else if o.type.size = 0 then s.putBlob k v else s.put k (ofBytes v)
  | none => s

/-- A value of a persistent object waits to be recorded in the settings area (R432). -/
def State.owe (s : State) (k : Nat) : State :=
  if s.unrecorded.contains k then s else { s with unrecorded := s.unrecorded ++ [k] }

/-- The object named by a key is persistent (R431). -/
def isPersistent (k : Nat) : Bool :=
  match findObj (k / 256) (k % 256) with
  | some o => o.persistent
  | none => false

/-- A result that the Signal Box keeps among the settings, such as the margin plan's (R421): stored and recorded. -/
def State.keep (s : State) (k v : Nat) : State := (s.put k v).owe k

/-- An event in a state whose row does not list it (R12). -/
def State.unlist (s : State) : State := { s with unlisted := s.unlisted + 1 }

/-- Takes the next number of the model's free values. -/
def State.draw (s : State) : State := { s with free := s.free + 1 }

/-! ## Modes and pins -/

/-- The codes of R48. -/
def Mode.code : Mode → Nat
  | .off => 0 | .boot => 1 | .restore => 2 | .service => 3 | .save => 4 | .vault => 5 | .freeze => 6 | .maintenance => 7

/-- The mode of a code. -/
def Mode.ofCode : Nat → Option Mode
  | 0 => some .off | 1 => some .boot | 2 => some .restore | 3 => some .service | 4 => some .save | 5 => some .vault
  | 6 => some .freeze | 7 => some .maintenance | _ => none

/-- Is the mode one of these? -/
def State.inMode (s : State) (ms : List Mode) : Bool := ms.contains s.ctl.mode

/-- The controller is armed (R225, R236). -/
def State.armedPower (s : State) : Bool := s.power.state == .armed

/-- The vault that is pending, if one is (OD 0x5400.01): a sealed vault whose pages have not all been restored. -/
def State.vaultPending (s : State) : Bool := s.flag OD.vaultVaultPending

/-- BOOT step tn has ended in this attempt. -/
def State.reachedStep (s : State) (n : Nat) : Bool := s.boot.reached.getLsbD n

/-- The Main die has been released from reset and runs. -/
def State.mainDieRuns (s : State) : Bool :=
  match s.ctl.mode with
  | .off => false
  | .vault => false
  | .boot => s.reachedStep 1
  | .restore => true
  | .service => true
  | .save => true
  | .freeze => true
  | .maintenance => true

/-! ## Counters (R572 to R574) -/

/-- The source of a counter: fixed for counters 0 to 17. -/
def counterSource (n : Nat) (c : Counter) : Nat := if n < 18 then 0 else c.source

/-- The instance that a counter selects agrees with an occurrence's. -/
def Counter.selects (c : Counter) (inst : Nat) : Bool := c.qualifier = 0xFFFF || c.qualifier = inst

/-- Counting `k` occurrences of a source in one instance; a value of 2^48 or more waits for COUNTER_OVERFLOW. -/
def countIn (source inst k : Nat) : SMap Counter → SMap Counter
  | [] => []
  | (n, c) :: m =>
    (n, if n ≥ 18 && c.source == source && source != 0 && c.selects inst then { c with value := c.value + k } else c)
      :: countIn source inst k m

/-- `k` occurrences of a counter source (R573). The counters run while the Main die is powered (R572). -/
def State.count (s : State) (source inst k : Nat) : State :=
  if s.mainDieRuns then { s with perf := { s.perf with counters := countIn source inst k s.perf.counters } } else s

/-- One of the fixed counters 0 to 17 advances (R572). -/
def State.countFixed (s : State) (n : Nat) : State :=
  let c := mapGet (fun _ => Counter.initial) s.perf.counters n
  { s with perf := { s.perf with
      counters := mapSet (fun _ => Counter.initial) s.perf.counters n { c with value := c.value + 1 } } }

/-! ## Events -/

/-- The drop counter of a severity (OD 0x9000.09 to .0C). -/
def dropKey (sev : Nat) : Nat := OD.logbookDroppedNote + sev

/-- The Signal Box ring takes the event because the Main die logger cannot (R566). -/
def State.ringTakes (s : State) : Bool :=
  s.inMode [.off, .vault] || (s.ctl.mode == .boot && !s.reachedStep 1) || s.loop.bridgeFailed
  || (s.ctl.mode == .save && match s.saves.run with | some r => 6 ≤ r.step | none => false)

/-- A value as VALUE records it (R557). -/
def valueWord (v : Nat) : Nat := if v < 2 ^ 32 then v else 0xFFFFFFFF

/-- An occurrence of an event with attached data (R558, R559): it is counted (R573) and waits in the 1,024-entry queue;
an occurrence that finds the queue full is dropped and counted against its severity. -/
def State.raiseWith (s : State) (code value : Nat) (items : List (ItemKind × Nat)) (attach : List Byte) : State :=
  let s := s.count code (match items with | (_, v) :: _ => v | [] => 0xFFFF) 1
  let o : Occurrence := { code := code, value := valueWord value, items := items, time := s.clock, attach := attach,
                          ring := s.ringTakes }
  if s.log.queue.length < 1024 then { s with log := { s.log with queue := s.log.queue ++ [o] } }
  else s.bump (dropKey (severityOf code)) 1

/-- An occurrence of an event: its code, its VALUE (0 where it names no quantity), the items its table names. -/
def State.raise (s : State) (code value : Nat) (items : List (ItemKind × Nat)) : State := s.raiseWith code value items []

/-- An occurrence of an event that names nothing. -/
def State.note (s : State) (code : Nat) : State := s.raise code 0 []

/-! ## The port controllers -/

/-- A port controller. -/
def State.hostPort (s : State) (p : Nat) : HostPort := if p = 0 then s.host.port0 else s.host.port1
def State.setHostPort (s : State) (p : Nat) (h : HostPort) : State :=
  if p = 0 then { s with host := { s.host with port0 := h } } else { s with host := { s.host with port1 := h } }

/-- The host's answers to an earlier command are gone: each command's answers stand alone. -/
def State.freshAnswers (s : State) : State := { s with out := { s.out with host := [], ide := 0 } }

/-! ## Free values -/

/-- The n-th free value as bytes. -/
def freeBytes (len n : Nat) : List Byte := toBytes len (Config.freeBits (8 * len) n).toNat

/-! ## Time -/

/-- Time passes: what the block does while no command waits (DESIGN CHOICE, log 1: one nanosecond a step), counted by source 0xF0FF (R573). -/
def State.idle (s : State) : State := { s with clock := s.clock + 1, uptime := s.uptime + 1 }.count 0xF0FF 0xFFFF 1

/-! ## The result of a command -/

/-- The outcome of a command's meaning. -/
abbrev Out := Host.Outcome State Fault Refusal

/-- Applies `f` when a condition holds. -/
def State.when (s : State) (c : Bool) (f : State → State) : State := if c then f s else s

end Sys2Proof.Machine
end

