-- ==== Sys2Proof/Machine/Tables.lean ====
section
/-! DEFINITION. The translation tables (04), the depot (05) and the flash map (09) as named operations: reading and
writing entries, counting, taking frames, nodes and extents, poison, and the snapshot records. -/
namespace Sys2Proof.Machine

/-! ## Names and keys -/

/-- The key of a page's leaf entry. -/
def leafKey (cid page : Nat) : Nat := cid * 2 ^ 28 + page
def leafCid (key : Nat) : Nat := key / 2 ^ 28
def leafPage (key : Nat) : Nat := key % 2 ^ 28

/-- The key of the entry of level 3, 2 or 1 above a page (R130). -/
def interiorKey (cid level page : Nat) : Nat :=
  cid * 2 ^ 20 + (if level = 3 then page / 2 ^ 27 else if level = 2 then 2 + page / 2 ^ 18 else 1026 + page / 2 ^ 9)

/-- The level of an interior key, and the first page and the page count of its range. -/
def interiorLevel (key : Nat) : Nat := let o := key % 2 ^ 20; if o < 2 then 3 else if o < 1026 then 2 else 1
def interiorSpan (key : Nat) : Nat := match interiorLevel key with | 3 => 2 ^ 27 | 2 => 2 ^ 18 | _ => 2 ^ 9
def interiorFirst (key : Nat) : Nat :=
  let o := key % 2 ^ 20
  match interiorLevel key with | 3 => o * 2 ^ 27 | 2 => (o - 2) * 2 ^ 18 | _ => (o - 1026) * 2 ^ 9

/-- Tweaks (R358): the domain above bit 64, the index below. -/
def tweakPage (lpn : Nat) : Nat := lpn
def tweakDepot (index : Nat) : Nat := 2 ^ 64 + index
def tweakFlash (name : Nat) : Nat := 2 * 2 ^ 64 + name
def tweakTransit (index : Nat) : Nat := 3 * 2 ^ 64 + index

/-- A flash name (R326): its type above bit 44. -/
def flashName (type name : Nat) : Nat := type * 2 ^ 44 + name

/-! ## Entries -/

def State.carriage (s : State) (cid : Nat) : Carriage := mapGet (fun _ => Carriage.free) s.tables.carriages cid
def State.leaf (s : State) (key : Nat) : Leaf := mapGet (fun _ => Leaf.empty) s.tables.leaves key
def State.interior (s : State) (key : Nat) : Interior := mapGet (fun _ => Interior.empty) s.tables.interior key
def State.depotEntry (s : State) (i : Nat) : DepotEntry := mapGet (fun _ => DepotEntry.empty) s.tables.depot i
def State.flashCopy (s : State) (name : Nat) : FlashCopy := mapGet (fun _ => FlashCopy.none) s.tables.flash name
def State.passRow (s : State) (cid : Nat) : BitVec 256 := mapGet (fun _ => 0) s.tables.passes cid
def State.snapRecords (s : State) (cid : Nat) : List SnapRecord := mapGet (fun _ => []) s.tables.snapshots cid
def State.slot (s : State) (n : Nat) : Slot := mapGet (fun _ => Slot.empty) s.crypt.slots n
def State.chan (s : State) (c : Nat) : Chan := mapGet (fun _ => Chan.initial) s.dram.chans c
def State.fchan (s : State) (c : Nat) : FChan := mapGet (fun _ => FChan.initial) s.flash.chans c

def State.setChan (s : State) (c : Nat) (x : Chan) : State :=
  { s with dram := { s.dram with chans := mapSet (fun _ => Chan.initial) s.dram.chans c x } }
def State.setFchan (s : State) (c : Nat) (x : FChan) : State :=
  { s with flash := { s.flash with chans := mapSet (fun _ => FChan.initial) s.flash.chans c x } }
def State.setSlot (s : State) (n : Nat) (x : Slot) : State :=
  { s with crypt := { s.crypt with slots := mapSet (fun _ => Slot.empty) s.crypt.slots n x } }

/-- Distinct values of a list in order. -/
def distinct : List Nat → List Nat
  | [] => []
  | x :: xs => if xs.contains x then distinct xs else x :: distinct xs

/-! ## Where things lie in DRAM (R280 to R282) -/

/-- Populated channels by the population record in force (R281). -/
def State.populated (s : State) : Nat := field s.dram.population 0 1

/-- Frames of one populated channel (R280): ranks × density × 16 data devices. -/
def State.framesPerChannel (s : State) : Nat :=
  field s.dram.population 1 1 * field s.dram.population 2 1 * 2 ^ 19

/-- Frames of the populated DRAM. -/
def State.framesPopulated (s : State) : Nat := s.populated * s.framesPerChannel

/-- The channel a frame lies on (R282). -/
def State.channelOf (s : State) (f : Nat) : Nat :=
  if s.populated = 16 then f % 16 else if s.populated = 8 then 2 * (f % 8) else 4 * (f % 4)

/-- A channel of the population. -/
def State.isPopulated (s : State) (c : Nat) : Bool :=
  if s.populated = 16 then c < 16 else if s.populated = 8 then c % 2 = 0 && c < 16 else c % 4 = 0 && c < 16

/-- The channel serves ordinary requests. -/
def State.chanServes (s : State) (c : Nat) : Bool := (s.chan c).state == .inService

/-- The pool lies below the carriage table (1,024 frames) and the table region, at the top of the DRAM. -/
def State.poolTop (s : State) : Nat := s.framesPopulated - s.get OD.spaceTableNodesTotal - 1024
def State.tableBase (s : State) : Nat := s.framesPopulated - s.get OD.spaceTableNodesTotal

/-- The frame of a page of the carriage table: its place in the area, or the one to which a thaw pass has moved it (R310). The pages are
numbered as the nodes of 64 lines are. -/
def State.tablePage (s : State) (i : Nat) : Nat :=
  match mapGet (fun _ => 0) s.tables.aux (7 * 2 ^ 42 + i) with
  | 0 => s.poolTop + i
  | f + 1 => f

/-- The first number at or after `f`, modulo `top`, that passes a test. -/
def pickFrom (test : Nat → Bool) (top : Nat) : Nat → Nat → Option Nat
  | 0, _ => none
  | n + 1, f => if test f then some f else pickFrom test top n ((f + 1) % top)

/-! ## Table nodes (R130, R135, R136) -/

/-- The frames of the table nodes of carriages (R130, R135). -/
def State.nodeFrames (s : State) : List Nat :=
  (s.tables.carriages.filterMap (fun e => if e.2.state = .free then none else some e.2.root))
  ++ (s.tables.interior.map (fun e => if e.2.valid then (if e.2.pair then [e.2.node, e.2.node + 1] else [e.2.node]) else [])).flatten

/-- TableNodesUsed: nodes of carriages, of the depot table and of the flash map (R136, R159, R328). -/
def State.nodesUsed (s : State) : Nat :=
  s.nodeFrames.length + (distinct (s.tables.depot.map (fun e => e.1 / 128) ++ s.work.depotNodes)).length
  + (distinct (s.tables.flash.map (fun e => e.1 / 512))).length

/-- The lines of 64 bytes of the depot table, the snapshot records, the pass table and the flash map, by their kind. Their nodes of 64
lines are numbered as the lines are. -/
def auxLine (line : Nat) : Bool :=
  let k := line / 2 ^ 48
  k = 2 || k = 3 || k = 5 || k = 6

/-- A node of those tables holds an entry, or is one of the depot table's, which are never freed (R159). -/
def State.auxLive (s : State) (n : Nat) : Bool :=
  let k := n / 2 ^ 42
  let i := n % 2 ^ 42
  if k = 2 then s.tables.depot.any (fun e => e.1 / 128 == i) || s.work.depotNodes.contains i
  else if k = 3 then s.tables.snapshots.any (fun e => e.2.any (fun r => (e.1 * 2 ^ 28 + r.page) / 512 == i))
  else if k = 5 then s.tables.passes.any (fun e => e.1 / 128 == i)
  else if k = 7 then true
  else s.tables.flash.any (fun e => e.1 / 512 == i)

/-- The frames of those nodes. -/
def State.auxFrames (s : State) : List Nat := (s.tables.aux.filter (fun e => s.auxLive e.1)).map (fun e => e.2 - 1)

/-- Nodes that may still be allocated. -/
def State.nodesFree (s : State) : Nat := s.get OD.spaceTableNodesTotal - s.nodesUsed

/-- Fewer than 1 % of the nodes free (R136). -/
def State.checkNodes (s : State) : State :=
  let low := s.nodesFree * 100 < s.get OD.spaceTableNodesTotal
  let s' := { s with work := { s.work with lowNodes := low } }
  if low && !s.work.lowNodes then s'.note 0x2051 else s'

/-- A frame of the table region that no node has, or an aligned pair of them, on channels that serve. -/
def State.pickNode (s : State) (n : Nat) : Option Nat :=
  let used := s.nodeFrames ++ s.auxFrames
  let base := s.tableBase
  let test := fun k =>
    let f := base + n * k
    s.chanServes (s.channelOf f) && !used.contains f && (n = 1 || !used.contains (f + 1))
  (pickFrom test (s.get OD.spaceTableNodesTotal / n) (16 * (used.length + 1)) 0).map (fun k => base + n * k)

/-- Takes a table node (R136); `n` = 2 takes an aligned pair (R135). -/
def State.takeNode (s : State) (n : Nat) : Option Nat := if s.nodesFree < n then none else s.pickNode n

/-- A node of the depot table, the snapshot records, the pass table or the flash map takes its frame with its first line (R130, R136;
DESIGN CHOICE, log 191). -/
def State.placeAux (s : State) (line : Nat) : State :=
  if !auxLine line || mapGet (fun _ => 0) s.tables.aux (line / 64) ≠ 0 then s
  else match s.pickNode 1 with
    | some f => State.checkNodes { s with tables := { s.tables with aux := mapSet (fun _ => 0) s.tables.aux (line / 64) (f + 1) } }
    | none => s

/-! ## Lines and the changes of them (R211) -/

/-- The changed lines: those of a checkpoint in progress count until it completes (R211, R212). -/
def State.pendingLines (s : State) : List Nat :=
  match s.flush.checkpoint with
  | some c => c.1 ++ s.work.changed.filter (fun l => !c.1.contains l)
  | none => s.work.changed

/-- D_m in bytes (R211). -/
def State.metaDirty (s : State) : Nat := 64 * s.pendingLines.length

/-- A metadata-significant change of a table-region line (R211); at MetaCeiling the hold begins (R213). -/
def State.touch (s : State) (line : Nat) : State :=
  if s.work.changed.contains line then s
  else
    let s := State.placeAux { s with work := { s.work with changed := s.work.changed ++ [line] } } line
    if !s.flush.metaHold && s.get OD.ceilingMetaCeiling ≤ s.metaDirty then
      { s with flush := { s.flush with metaHold := true } }.note 0x2503
    else s

/-- The state in which it is tried whether a command would make a metadata-significant change. -/
def State.probe (s : State) : State :=
  { s with work := { s.work with changed := [] }, flush := { s.flush with metaHold := false, checkpoint := none } }

/-- A command would make a metadata-significant change (R211). -/
def State.wouldTouch (s : State) (k : State → Out) : Bool :=
  match k s.probe with
  | .next t => !t.work.changed.isEmpty
  | .fault _ => false
  | .refused _ => false

/-- A command waits, and is tried again as time passes. -/
def State.delay (s : State) (c : Instr) : State := { s with work := { s.work with delayed := s.work.delayed ++ [c] } }

/-- A command of the Map region: while MetaCeiling holds changes it waits at Map ingress, if it would make one (R213). -/
def State.mapCommand (s : State) (c : Instr) (k : State → Out) : Out :=
  if s.flush.metaHold && s.wouldTouch k then .next (s.delay c) else k s

/-! ## Porters that reload (R70, R498) -/

def State.porter (s : State) (n : Nat) : Porter := mapGet (fun _ => Porter.initial) s.cores.porters n

/-- A porter is being reloaded; the save goes on without the porters (R70). -/
def State.reloads (s : State) (n : Nat) : Bool := (s.porter n).reloading && s.ctl.mode != .save

/-- An operation that a porter's firmware drives waits for the porter (R70). -/
def State.await (s : State) (p : Nat) (c : Instr) (k : State → Out) : Out := if s.reloads p then .next (s.delay c) else k s

/-- One that may change the map waits at Map ingress, too (R213). -/
def State.command (s : State) (p : Nat) (c : Instr) (k : State → Out) : Out := s.await p c (fun s => s.mapCommand c k)

/-- The porter that executes a command object (R498), where one is named; 8 stands for none. The flash channels are divided
between two. -/
def porterOf (key : Nat) (payload : List Byte) : Nat :=
  match key / 256 with
  | 0x2500 => 0
  | 0x3100 => 1 | 0x3400 => 1 | 0x7400 => 1
  | 0x3600 => 2 | 0x3700 => 2 | 0x3800 => 2
  | 0x5000 => 3 | 0x5010 => 3 | 0x5020 => 3 | 0x5200 => 3
  | 0x6000 => if 32 ≤ field payload 0 1 then 5 else 4
  | 0x4100 => 6 | 0x4400 => 6
  | 0x5300 => 7 | 0x5400 => 7 | 0x9000 => 7 | 0x9400 => 7 | 0x9800 => 7
  | _ => 8

/-- No porter is being reloaded, and no change waits at Map ingress: every command takes effect at once. -/
def State.prompt (s : State) : Bool := !s.flush.metaHold && s.cores.porters.all (fun e => !e.2.reloading)

/-- The table-region lines of 64 bytes: leaves, interior entries, depot entries of 32 bytes, snapshot records, coupling entries of
16 bytes, pass rows of 32, the flash map, descriptors and seal companions. The manual gives a snapshot record no size: the model
takes 8 bytes, as for a leaf entry (DESIGN CHOICE, log 154). -/
def lineLeaf (key : Nat) : Nat := key / 8
def lineInterior (key : Nat) : Nat := 2 ^ 48 + key / 2 ^ 20 * 2 ^ 20 + interiorLevel key * 2 ^ 18 + interiorFirst key / (8 * interiorSpan key)
def lineDepot (i : Nat) : Nat := 2 * 2 ^ 48 + i / 2
def lineSnapshot (key : Nat) : Nat := 3 * 2 ^ 48 + key / 8
def lineCoupling (ld n : Nat) : Nat := 4 * 2 ^ 48 + ld * 1024 + n
def linePass (cid : Nat) : Nat := 5 * 2 ^ 48 + cid / 2
def lineFlash (name : Nat) : Nat := 6 * 2 ^ 48 + name / 8
def lineCarriage (cid : Nat) : Nat := 7 * 2 ^ 48 + cid
def lineSeal (key : Nat) : Nat := 8 * 2 ^ 48 + key / 8

/-- What a metadata-significant change must change (R211). -/
def Leaf.significant (l : Leaf) : Leaf :=
  { l with res := false, dirty := false, busy := false, fq := false, acc := false, ptr := if l.res then 0 else l.ptr,
           pageSeal := 0 }

/-- A leaf lies below an interior entry. -/
def belowEntry (k key : Nat) : Bool :=
  leafCid key == k / 2 ^ 20 && interiorFirst k ≤ leafPage key && leafPage key < interiorFirst k + interiorSpan k

/-- DSUB: at least one leaf below is dirty; RSUB: at least one is resident (R131, R146). -/
def subOf (p : Leaf → Bool) (m : SMap Leaf) (k : Nat) : Bool := m.any (fun e => belowEntry k e.1 && p e.2)
def State.dsub (s : State) (k : Nat) : Bool := subOf (·.dirty) s.tables.leaves k
def State.rsub (s : State) (k : Nat) : Bool := subOf (·.res) s.tables.leaves k

/-- The interior entries above a page, from the top level down. -/
def above (key : Nat) : List Nat := [3, 2, 1].map (fun l => interiorKey (leafCid key) l (leafPage key))

/-- The interior lines above a page whose DSUB or RSUB a change of the leaves changes: they are no bits that R211 excepts. -/
def subLines (old new : SMap Leaf) (key : Nat) : List Nat :=
  ((above key).filter (fun k => subOf (·.dirty) old k != subOf (·.dirty) new k || subOf (·.res) old k != subOf (·.res) new k)).map
    lineInterior

/-- The line of a leaf in the translation cache, the only writer of the tables, differs from its node until it is written back (R139). -/
def State.cacheWrite (s : State) (key : Nat) : State :=
  if s.work.unwritten.contains (key / 8) then s else { s with work := { s.work with unwritten := key / 8 :: s.work.unwritten } }

/-- Writing a leaf entry, with the changed lines counted (R211). -/
def State.setLeaf (s : State) (key : Nat) (l : Leaf) : State :=
  let old := s.leaf key
  let s := if old = l then s else s.cacheWrite key
  let m := mapSet (fun _ => Leaf.empty) s.tables.leaves key l
  let subs := if old.dirty = l.dirty ∧ old.res = l.res then [] else subLines s.tables.leaves m key
  let s := { s with tables := { s.tables with leaves := m } }
  let s := if old.significant = l.significant then s else s.touch (lineLeaf key)
  let s := if old.pageSeal = l.pageSeal then s else s.touch (lineSeal key)
  subs.foldl State.touch s

/-- Writing an interior entry. -/
def State.setInterior (s : State) (key : Nat) (e : Interior) : State :=
  if s.interior key = e then s
  else State.touch { s with tables := { s.tables with interior := mapSet (fun _ => Interior.empty) s.tables.interior key e } }
    (lineInterior key)

/-- Writing a descriptor, a line of its own. -/
def State.setCarriage (s : State) (cid : Nat) (c : Carriage) : State :=
  if s.carriage cid = c then s
  else State.touch { s with tables := { s.tables with carriages := mapSet (fun _ => Carriage.free) s.tables.carriages cid c } }
    (lineCarriage cid)

/-- The coupling entries of an LD that one line of its table holds. -/
def couplingLine (cs : List Coupling) (ld n : Nat) : List Coupling := ((cs.filter (fun c => c.ld = ld)).drop (4 * n)).take 4

/-- Writing the coupling entries of one LD, with the changed lines counted. -/
def State.setCouplings (s : State) (ld : Nat) (cs : List Coupling) : State :=
  let lines := (List.range (cs.length / 4 + 2)).filter (fun n => couplingLine s.tables.couplings ld n ≠ couplingLine cs ld n)
  (lines.map (lineCoupling ld)).foldl State.touch { s with tables := { s.tables with couplings := cs } }

/-- What a metadata-significant change of a depot entry must change (R211): more than RES, FRAME, BUSY or ACC. -/
def DepotEntry.significant (e : DepotEntry) : DepotEntry := { e with res := false, frame := 0, busy := false, acc := false }

/-- Writing a depot entry. -/
def State.setDepot (s : State) (i : Nat) (e : DepotEntry) : State :=
  let old := s.depotEntry i
  let s := { s with tables := { s.tables with depot := mapSet (fun _ => DepotEntry.empty) s.tables.depot i e } }
  let s := if s.work.depotNodes.contains (i / 128) then s
           else { s with work := { s.work with depotNodes := i / 128 :: s.work.depotNodes } }
  if old.significant = e.significant then s else s.touch (lineDepot i)

/-- Writing a flash-map entry (R328). -/
def State.setFlashCopy (s : State) (name : Nat) (c : FlashCopy) : State :=
  if s.flashCopy name = c then s
  else
    let t := State.touch { s with tables := { s.tables with flash := mapSet (fun _ => FlashCopy.none) s.tables.flash name c } }
      (lineFlash name)
    if (s.flashCopy name).present then t else t.checkNodes

/-! ## The words of entries (R131, R133) -/

/-- A bit at a place. -/
def bitAt (n : Nat) (b : Bool) : Nat := if b then 2 ^ n else 0

/-- The 64-bit entry of level 3, 2 or 1 (R131). -/
def State.interiorWord (s : State) (k : Nat) : BitVec 64 :=
  let e := s.interior k
  BitVec.ofNat 64 (bitAt 63 e.valid + bitAt 62 (s.dsub k) + bitAt 61 (s.rsub k) + bitAt 60 e.pair + bitAt 59 e.pois
    + (e.extent - 1) * 2 ^ 32 + e.node)

/-- The 64-bit leaf entry (R133). -/
def Leaf.word (l : Leaf) : BitVec 64 :=
  BitVec.ofNat 64 (bitAt 63 l.res + bitAt 62 l.dirty + bitAt 61 l.depot + bitAt 60 l.sided + bitAt 59 l.sealed + bitAt 58 l.pois
    + bitAt 57 l.flc + bitAt 56 l.busy + bitAt 55 l.fq + bitAt 54 l.acc + l.ttag * 2 ^ 40 + l.ptr)

/-- The pages whose records two lists of records hold in different states. -/
def changedRecords (old new : List SnapRecord) : List Nat :=
  ((old.filter (fun r => !new.contains r)) ++ (new.filter (fun r => !old.contains r))).map (·.page)

/-- Writing a carriage's snapshot records, with the changed lines counted. -/
def State.setSnaps (s : State) (cid : Nat) (r : List SnapRecord) : State :=
  if s.snapRecords cid = r then s
  else ((changedRecords (s.snapRecords cid) r).map (fun p => lineSnapshot (leafKey cid p))).foldl State.touch
    { s with tables := { s.tables with snapshots := mapSet (fun _ => []) s.tables.snapshots cid r } }

/-- A carriage whose term can end (R179). -/
def CState.eligible : CState → Bool
  | .active => true | .parking => true | .parked => true | .recalling => true
  | .free => false | .shadow => false | .deleting => false

/-! ## What is counted -/

/-- Pages of a carriage that satisfy a test. -/
def State.countPages (s : State) (cid : Nat) (p : Leaf → Bool) : Nat :=
  s.tables.leaves.countP (fun e => leafCid e.1 == cid && p e.2)

/-- A page that counts in the residue (R201). -/
def Leaf.inResidue (l : Leaf) : Bool := l.dirty || l.fq

/-- A page that holds data of its own (R119). -/
def Leaf.allocated (l : Leaf) : Bool := !l.depot && (l.res || l.flc)

/-- A page that only a flash copy holds (R134). -/
def Leaf.flashOnly (l : Leaf) : Bool := !l.res && !l.depot && l.flc

/-- An Unallocated page (R134). -/
def Leaf.unallocated (l : Leaf) : Bool := !l.res && !l.depot && !l.flc

/-- Frames that wait for the program of a snapshot copy (R182). -/
def snapFrames (r : List SnapRecord) : List Nat :=
  r.filterMap (fun x => match x.kind with | .frame f => some f | _ => none)

/-- Every snapshot record, of present and of detached snapshots. -/
def State.allSnaps (s : State) : List SnapRecord :=
  (s.tables.snapshots.map (·.2)).flatten ++ (s.terms.detached.map (·.2)).flatten

/-- Pages outside the residue that writes held at Map ingress in FREEZE are to change (R620). -/
def State.heldPages (s : State) : Nat :=
  if s.ctl.mode != .freeze then 0
  else (distinct ((s.work.waiters.filter (·.data.isSome)).map (fun w => leafKey w.cid w.page))).countP (fun k => !(s.leaf k).inResidue)

/-- The residue pages (R201, R127). -/
def State.residuePages (s : State) : Nat :=
  s.tables.leaves.countP (fun e => e.2.inResidue && (s.carriage (leafCid e.1)).state != .deleting)
  + (snapFrames s.allSnaps).length + s.heldPages

/-- The residue R in bytes (R201). -/
def State.residue (s : State) : Nat := 4096 * s.residuePages

/-- BackingPagesUsed (R119). -/
def State.backingUsed (s : State) : Nat := s.tables.leaves.countP (fun e => e.2.allocated)

/-- Backing pages held by snapshot copies (R183, R186). -/
def State.snapshotPages (s : State) : Nat :=
  s.allSnaps.countP (fun r => match r.kind with | .copy _ _ _ _ => true | .frame _ => true | .zero => false | .depot _ => false)

/-- Valid depot entries. -/
def State.depotPages (s : State) : Nat := s.tables.depot.countP (fun e => e.2.valid)

/-- Pages of a range within a carriage's size (R155). -/
def pagesWithin (first span size : Nat) : Nat := min (first + span) (size * 512) - min first (size * 512)

/-- A poisoned interior entry of a level above `level` covers the page (R120). -/
def State.poisonedAbove (s : State) (cid level page : Nat) : Bool :=
  [1, 2, 3].any (fun l => level < l && (s.interior (interiorKey cid l page)).pois)

/-- PoisonedPages (R155): poisoned leaves, and poisoned ranges within SIZE, each page once. -/
def State.poisonedPages (s : State) : Nat :=
  s.tables.leaves.countP (fun e => e.2.pois && !s.poisonedAbove (leafCid e.1) 0 (leafPage e.1))
  + (s.tables.interior.map (fun e =>
      if e.2.pois && !s.poisonedAbove (e.1 / 2 ^ 20) (interiorLevel e.1) (interiorFirst e.1) then
        pagesWithin (interiorFirst e.1) (interiorSpan e.1) (s.carriage (e.1 / 2 ^ 20)).size else 0)).sum

/-- Extents in use: their numbers (R118). -/
def State.extentsInUse (s : State) : List Nat :=
  s.tables.interior.filterMap (fun e => if e.2.extent = 0 then none else some (e.2.extent - 1))

/-- Extents of one carriage. -/
def State.extentsOf (s : State) (cid : Nat) : Nat :=
  s.tables.interior.countP (fun e => e.1 / 2 ^ 20 == cid && e.2.extent != 0)

/-! ## DRAM frames (R132, R141, R282) -/

/-- Frames in use: pages, depot pages, snapshot frames and frames held for moves. -/
def State.framesInUse (s : State) : List Nat :=
  (s.tables.leaves.filterMap (fun e => if e.2.res then some e.2.ptr else none))
  ++ (s.tables.depot.filterMap (fun e => if e.2.res then some e.2.frame else none))
  ++ snapFrames s.allSnaps ++ s.work.held

/-- Fetches in progress, each of which holds a frame (R145). -/
def State.fetching (s : State) : Nat :=
  s.tables.leaves.countP (fun e => e.2.busy && e.2.flashOnly) + s.tables.depot.countP (fun e => e.2.busy && !e.2.res)

/-- Pool frames on the channels that serve. -/
def State.poolFrames (s : State) : Nat :=
  ((List.range s.populated).map (fun k =>
    if s.chanServes (s.channelOf k) then (s.poolTop + s.populated - 1 - k) / s.populated else 0)).sum

/-- FramesFree. -/
def State.framesFree (s : State) : Nat :=
  s.poolFrames - (s.framesInUse.filter (fun f => s.chanServes (s.channelOf f))).length - s.fetching

/-- The lowest free frame of the k-th populated channel, where it serves (DESIGN CHOICE, log 193). -/
def State.freeOn (s : State) (used : List Nat) (k : Nat) : Option Nat :=
  let n := s.populated
  if s.chanServes (s.channelOf k) then
    (pickFrom (fun r => r * n + k < s.poolTop && !used.contains (r * n + k)) (s.poolTop / n + 1) (used.length + 1) 0).map
      (fun r => r * n + k)
  else none

/-- Takes a free frame: the populated channels take turns, from that after the last one served (R282). -/
def State.takeFrame (s : State) : Option (Nat × State) :=
  if s.framesFree = 0 then none
  else
    let n := s.populated
    match ((List.range n).map (fun j => (s.work.nextFrame + j) % n)).findSome? (s.freeOn s.framesInUse) with
    | none => none
    | some f => some (f, { s with work := { s.work with nextFrame := (f + 1) % n } })

/-- The lowest extent not in use. -/
def State.takeExtent (s : State) : Option Nat :=
  let used := s.extentsInUse
  if used.length ≥ 4194304 then none
  else pickFrom (fun e => !used.contains e) 4194304 (used.length + 1) 0

/-! ## Content -/

/-- A number for a key, to name it in the model's free values. -/
def KeyRef.number : KeyRef → Nat
  | .carriage c g => 2 ^ 64 + c * 2 ^ 32 + g
  | .slot n g => 2 * 2 ^ 64 + n * 2 ^ 32 + g
  | .vault => 3 * 2 ^ 64

/-- A line of an image. -/
def Image.line (i : Image) (l : Nat) : Line := mapGet (fun _ => 0) i.lines l

/-- An image with a line written: the line is no longer poisoned. -/
def Image.write (i : Image) (l : Nat) (d : Line) : Image :=
  { lines := mapSet (fun _ => 0) i.lines l d, bad := i.bad &&& ~~~(1#64 <<< l) }

/-- An image with a line written with the poison encoding (R298). -/
def Image.poison (i : Image) (l : Nat) : Image := { i with bad := i.bad ||| (1#64 <<< l) }

/-- What decryption under the wrong key or tweak gives (R357): nothing the manual fixes. -/
def garbledImage (k : KeyRef) (t : Nat) (c : Cipher) : Image :=
  { lines := (List.range 64).foldl (fun m l =>
      mapSet (fun _ => 0) m l (Config.garbledLine k.number t (c.key.number + c.tweak) l)) [], bad := c.image.bad }

/-- Decryption of a page under a key and a tweak. -/
def Cipher.decrypt (c : Cipher) (k : KeyRef) (t : Nat) : Image :=
  if c.key = k ∧ c.tweak = t then c.image else garbledImage k t c

/-- The plaintext bytes of a page, in ascending address order. -/
def Image.bytes (i : Image) : List Byte := ((List.range 64).map (fun l => toBytes 64 (i.line l).toNat)).flatten

/-- A page of plaintext bytes. -/
def imageOf (bs : List Byte) : Image :=
  { lines := (List.range 64).foldl (fun m l => mapSet (fun _ => 0) m l (BitVec.ofNat 512 (field bs (64 * l) 64))) [], bad := 0 }

/-- The page seal of an image (R40). -/
def Image.pageSeal (i : Image) : BitVec 64 := crc64 i.bytes

/-- The content of a frame. -/
def State.frame (s : State) (f : Nat) : Cipher := mapGet (fun _ => Cipher.zero) s.dram.frames f

/-- Writing a frame. -/
def State.setFrame (s : State) (f : Nat) (c : Cipher) : State :=
  { s with dram := { s.dram with frames := mapSet (fun _ => Cipher.zero) s.dram.frames f c } }

/-- The LPN of a page (R116, R117). -/
def State.lpn (s : State) (cid page : Nat) : Nat :=
  ((s.interior (interiorKey cid 2 page)).extent - 1) * 2 ^ 18 + page % 2 ^ 18

/-- The XTS key of a carriage (R126). -/
def State.carriageKey (s : State) (cid : Nat) : KeyRef := .carriage cid (s.carriage cid).keygen

/-- The flash name of a page. -/
def State.pageName (s : State) (cid page : Nat) : Nat := flashName 0 (s.lpn cid page)
def State.snapName (s : State) (cid page : Nat) : Nat := flashName 10 (s.lpn cid page)

/-- The plaintext of a resident page. -/
def State.residentImage (s : State) (key : Nat) : Image :=
  (s.frame (s.leaf key).ptr).decrypt (s.carriageKey (leafCid key)) (tweakPage (s.lpn (leafCid key) (leafPage key)))

/-- A page image under a carriage's key (P1). -/
def State.pageCipher (s : State) (key : Nat) (i : Image) : Cipher :=
  { key := s.carriageKey (leafCid key), tweak := tweakPage (s.lpn (leafCid key) (leafPage key)), image := i }

/-- The flash copy of an image under a name (P3): the vault key and the flash tweak. Lines poisoned in DRAM are not data
in flash (R154). -/
def flashCipher (name : Nat) (i : Image) : Cipher := { key := .vault, tweak := tweakFlash name, image := i }

/-- The plaintext of a page's flash copy (P4). -/
def State.flashImage (s : State) (name tweakName : Nat) : Image :=
  (s.flashCopy name).content.decrypt .vault (tweakFlash tweakName)

/-- A depot page's plaintext in DRAM. -/
def State.depotImage (s : State) (i : Nat) : Image :=
  let e := s.depotEntry i
  (s.frame e.frame).decrypt (.slot e.slot e.slotGen) (tweakDepot i)

/-- A depot page under its slot's key. -/
def State.depotCipher (s : State) (i : Nat) (im : Image) : Cipher :=
  let e := s.depotEntry i
  { key := .slot e.slot e.slotGen, tweak := tweakDepot i, image := im }

/-! ## Space thresholds (R119) -/

/-- SpaceWarn and SpaceCritical: raised when reached, and again after a fall of 2 points. -/
def State.checkSpace (s : State) : State :=
  let used := s.backingUsed * 100
  let total := s.get OD.spaceBackingPagesTotal
  let reached := fun (k : Nat) => total ≠ 0 && s.get k * total ≤ used
  let fallen := fun (k : Nat) => used ≤ (s.get k - 2) * total
  let w := if s.work.warned then !fallen OD.spaceSpaceWarn else reached OD.spaceSpaceWarn
  let c := if s.work.critical then !fallen OD.spaceSpaceCritical else reached OD.spaceSpaceCritical
  let s' := { s with work := { s.work with warned := w, critical := c } }
  (s'.when (w && !s.work.warned) (·.note 0x2010)).when (c && !s.work.critical) (·.note 0x2011)

/-! ## Poison and release -/

/-- A leaf is poisoned (R153). -/
def State.poisonLeaf (s : State) (key : Nat) : State := s.setLeaf key { s.leaf key with pois := true }

/-- An interior entry above a page is poisoned, and which (R120). -/
def State.poisonAbove (s : State) (cid page : Nat) : Option Nat :=
  ([3, 2, 1].map (fun l => interiorKey cid l page)).find? (fun k => (s.interior k).pois)

/-- Marking an interior entry poisoned, with VALID = 0 (R131). -/
def State.poisonInterior (s : State) (k : Nat) : State := s.setInterior k { s.interior k with pois := true, valid := false, node := 0 }

/-- One reference less on a depot page; 0xFFFFFFFF saturates (R159). -/
def State.depotUnref (s : State) (i : Nat) : State :=
  let e := s.depotEntry i
  if e.refs = 0xFFFFFFFF then s else s.setDepot i { e with refs := e.refs - 1 }

/-- One reference more on a depot page. -/
def State.depotRef (s : State) (i : Nat) : State :=
  let e := s.depotEntry i
  s.setDepot i { e with refs := min (e.refs + 1) 0xFFFFFFFF }

/-- A name's flash copy is superseded by a later program: it stays valid until the next flush checkpoint (R621). -/
def State.supersede (s : State) (name : Nat) : State :=
  let c := s.flashCopy name
  if c.present then { s with flash := { s.flash with superseded := s.flash.superseded ++ [c] } } else s

/-- A name's flash copy is freed. -/
def State.freeCopy (s : State) (name : Nat) : State := s.setFlashCopy name FlashCopy.none

/-- A page leaves the vault-location map (R267). -/
def State.dropLocation (s : State) (key : Nat) : State :=
  { s with saves := { s.saves with restore := { s.saves.restore with locations := mapErase s.saves.restore.locations key } } }

/-- A page's flash copy is freed, be it a vault's (R267). -/
def State.freePageCopy (s : State) (key : Nat) : State :=
  (s.freeCopy (s.pageName (leafCid key) (leafPage key))).dropLocation key

/-- A page is released: its frame, its flash copy, its backing page and its entry (R125). -/
def State.releasePage (s : State) (key : Nat) : State :=
  let l := s.leaf key
  let s := if l.flc then s.freePageCopy key else s
  let s := if l.depot then s.depotUnref l.ptr else s
  s.setLeaf key Leaf.empty

/-- The keys of a carriage's listed leaves, in ascending page index. -/
def State.leavesOf (s : State) (cid : Nat) : List Nat :=
  (s.tables.leaves.filter (fun e => leafCid e.1 == cid)).map (·.1)

/-! ## Snapshot records (R182, R183, R186) -/

/-- A record's copy, frame or depot reference is released. -/
def State.releaseRecord (cid : Nat) (s : State) (r : SnapRecord) : State :=
  match r.kind with
  | .zero => s
  | .frame _ => s
  | .copy _ _ _ _ => s.freeCopy (s.snapName cid r.page)
  | .depot i => s.depotUnref i

/-- A record that keeps a snapshot copy. -/
def SnapKind.isCopy : SnapKind → Bool
  | .copy _ _ _ _ => true
  | .zero => false | .frame _ => false | .depot _ => false

/-- A record whose frame waits for its program. -/
def SnapKind.isFrame : SnapKind → Bool
  | .frame _ => true
  | .zero => false | .copy _ _ _ _ => false | .depot _ => false

/-- A record of a detached snapshot is released; a copy whose name the present snapshot has taken is gone already (R186). -/
def State.releaseDetached (cid : Nat) (s : State) (r : SnapRecord) : State :=
  if r.kind.isCopy && (s.snapRecords cid).any (fun x => x.page = r.page && x.kind.isCopy) then s
  else State.releaseRecord cid s r

/-- The detached records of a carriage that a test picks are released, and the others stay (R186). -/
def State.releaseDetachedOf (s : State) (cid : Nat) (test : SnapRecord → Bool) : State :=
  let rs := ((s.terms.detached.filter (fun d => d.1 = cid)).map (fun d => d.2.filter test)).flatten
  let left := (s.terms.detached.map (fun d => if d.1 = cid then (d.1, d.2.filter (fun r => !test r)) else d)).filter
    (fun d => !d.2.isEmpty)
  rs.foldl (State.releaseDetached cid) { s with terms := { s.terms with detached := left } }

/-- A carriage's snapshot is dropped: its records are released, it has none until its next term end, and event 0x2303 gives the
carriage and the cause (R183), by the numbers 1 no space for a record and 2 resize (DESIGN CHOICE, log 141). A carriage
without a snapshot has none to drop. -/
def State.dropSnapshot (s : State) (cid cause : Nat) : State :=
  if s.tables.dropped.contains cid then s
  else
    let s := ((s.snapRecords cid).foldl (State.releaseRecord cid) s).setSnaps cid []
    { s with tables := { s.tables with dropped := cid :: s.tables.dropped } }.raise 0x2303 0 [(.carriage, cid), (.u8, cause)]

/-- Space for one more snapshot copy under SnapshotReserve (R183). -/
def State.snapshotRoom (s : State) : Bool :=
  (s.snapshotPages + 1) * 100 ≤ s.get OD.termSnapshotReserve * s.get OD.spaceBackingPagesTotal

/-- The carriage keeps records in this term, and has none for the page yet. -/
def State.needsRecord (s : State) (cid page : Nat) : Bool :=
  !s.tables.dropped.contains cid && !(s.snapRecords cid).any (fun r => r.page = page)

/-- Adding a record. -/
def State.addRecord (s : State) (cid page : Nat) (k : SnapKind) : State :=
  s.setSnaps cid (s.snapRecords cid ++ [{ page := page, kind := k }])

/-- The plaintext of a snapshot frame (R182). -/
def State.snapImage (s : State) (cid page f : Nat) : Image :=
  (s.frame f).decrypt (s.carriageKey cid) (tweakPage (s.lpn cid page))

/-- The record of a snapshot frame once its content lies in flash: its seal is generated as for any move to flash (R42), and a
poisoned line makes the page poisoned (R38, R154). -/
def State.copyRecord (s : State) (cid : Nat) (r : SnapRecord) (im : Image) : SnapRecord :=
  let on := (s.carriage cid).sealOn
  { r with kind := .copy false on (im.bad != 0) (if on then im.pageSeal else 0) }

/-- The page's flash copy is retained as its snapshot copy: the pointer moves to the type-0xA name (R182). -/
def State.retainCopy (s : State) (key : Nat) : State :=
  let cid := leafCid key
  let page := leafPage key
  let l := s.leaf key
  if s.snapshotRoom then
    let c := s.flashCopy (s.pageName cid page)
    let s := (s.setFlashCopy (s.snapName cid page) c).freePageCopy key
    (s.addRecord cid page (.copy l.sided l.sealed l.pois l.pageSeal)).setLeaf key { l with flc := false, sided := false, sealed := false }
  else s.dropSnapshot cid 1

/-! ## The walk (R118, R136) -/

/-- What a walk that allocates finds missing. -/
inductive WalkEnd where
  | done | noExtent | noNode
  deriving DecidableEq, Repr

/-- The entry at one level is given its node, and at level 2 its extent; on want of either, the entry is poisoned. -/
def State.growEntry (s : State) (cid level page : Nat) : State × WalkEnd :=
  let k := interiorKey cid level page
  let e := s.interior k
  let needExtent := level = 2 && e.extent = 0
  match (if needExtent then s.takeExtent else some (e.extent - 1)) with
  | none => ((s.poisonInterior k).raise 0x2013 0 [(.carriage, cid)], .noExtent)
  | some x =>
    let e := if needExtent then { e with extent := x + 1 } else e
    if e.valid then (s.setInterior k e, .done)
    else match s.takeNode 1 with
    | none => (((s.setInterior k e).poisonInterior k).raise 0x2050 0 [(.carriage, cid)], .noNode)
    | some n => ((s.setInterior k { e with valid := true, node := n }).checkNodes, .done)

/-- The nodes and the extent of a page are allocated (R136). -/
def State.growPath (s : State) (cid page : Nat) : State × WalkEnd :=
  match s.growEntry cid 3 page with
  | (s, .done) =>
    match s.growEntry cid 2 page with
    | (s, .done) => s.growEntry cid 1 page
    | r => r
  | r => r

/-- The nodes of a page are allocated, without an extent (R165). -/
def State.growNodes (s : State) (cid page : Nat) : State × WalkEnd :=
  [3, 2, 1].foldl (fun r level =>
    match r.2 with
    | .done =>
      let k := interiorKey cid level page
      let e := r.1.interior k
      if e.valid then r
      else match r.1.takeNode 1 with
        | none => (r.1, .noNode)
        | some n => ((r.1.setInterior k { e with valid := true, node := n }).checkNodes, .done)
    | _ => r) (s, .done)

/-- The seal companion of a page's level-0 node is created when the first page of the node is sealed (R135). -/
def State.growPair (s : State) (cid page : Nat) : State :=
  let k := interiorKey cid 1 page
  let e := s.interior k
  if e.pair then s
  else match s.takeNode 2 with
    | some n => (s.setInterior k { e with pair := true, node := n }).checkNodes
    | none => s

/-! ## The residue -/

/-- A page enters the age list (R204): the enqueue time has a resolution of 10 ms, and is rounded up, so that no page is claimed
too young (R208; DESIGN CHOICE, log 182). A stale entry that the page has left behind (R206) goes. -/
def State.enqueue (s : State) (key : Nat) : State :=
  let others := s.flush.age.filter (fun e => e.key ≠ key)
  { s with flush := { s.flush with
      age := others ++ [{ key := key, time := (s.uptime + 9999999) / 10000000 * 10000000, retry := 0 }] } }

/-- DIRTY is set; the page joins the residue and the age list unless it is counted already (R146, R149, R201). -/
def State.markDirty (s : State) (key : Nat) : State :=
  let l := s.leaf key
  let s' := s.setLeaf key { l with dirty := true, acc := true, ttag := (s.carriage (leafCid key)).term % 256 }
  if l.inResidue then s' else s'.enqueue key

/-! ## Passes (R166, R167) -/

/-- How the checks of a Depot access end. -/
inductive DepotCheck where
  | ok | noPass | oldGeneration
  deriving DecidableEq, Repr

/-- The checks of R166; a slot that is empty or of sealing type fails as one of another generation does (R368). -/
def State.checkDepot (s : State) (cid i : Nat) : DepotCheck :=
  let e := s.depotEntry i
  if !(s.passRow cid).getLsbD e.slot then .noPass
  else if e.slotGen ≠ (s.slot e.slot).gen || (s.slot e.slot).type ≠ 1 then .oldGeneration
  else .ok

/-- The event of a refused Depot access. -/
def State.depotRefused (s : State) (cid i : Nat) : DepotCheck → State
  | .ok => s
  | .noPass => s.raise 0x2110 0 [(.carriage, cid)]
  | .oldGeneration => s.raise 0x2111 0 [(.u16, (s.depotEntry i).slot)]

/-! ## Couplings (R83) -/

/-- The coupling that covers a DPA of an LD. -/
def State.couplingAt (s : State) (ld dpa : Nat) : Option Coupling :=
  s.tables.couplings.find? (fun c => c.ld = ld && c.dpa ≤ dpa && dpa < c.dpa + c.length * 2 ^ 21)

/-- The coupling of a carriage. -/
def State.couplingOf (s : State) (cid : Nat) : Option Coupling := s.tables.couplings.find? (fun c => c.cid = cid)

/-- The carriage is coupled. -/
def State.isCoupled (s : State) (cid : Nat) : Bool := (s.couplingOf cid).isSome

/-! ## Bytes of table entries -/

/-- The code of a carriage state (R122). -/
def carriageCode : CState → Nat
  | .free => 0 | .active => 1 | .parking => 2 | .parked => 3 | .recalling => 4 | .shadow => 5 | .deleting => 6

/-- The leaves of a carriage. -/
def State.leafList (s : State) (cid : Nat) : List Leaf :=
  (s.tables.leaves.filter (fun e => leafCid e.1 == cid)).map (·.2)

/-- A check word that matches, or, for a damaged entry, a free value. -/
def checkWord (damaged : Bool) (n : Nat) (body : List Byte) : List Byte :=
  toBytes 4 (if damaged then (Config.freeBits 32 n).toNat else (crc32c body).toNat)

/-- The 64-byte descriptor of a carriage (R121). -/
def State.descriptorBytes (s : State) (cid : Nat) : List Byte :=
  let c := s.carriage cid
  let ls := s.leafList cid
  let n := fun (f : Leaf → Bool) => ls.countP f
  if c.state == .free && !c.damaged then List.replicate 64 0#8
  else
    let w := c.termTime + c.created * 2 ^ 64
      + ((if c.reserve then 2 ^ 9 else 0) + (if c.sealPend then 2 ^ 10 else 0) + (if c.sealOn then 2 ^ 11 else 0)
        + carriageCode c.state * 2 ^ 12 + cid * 2 ^ 16) * 2 ^ 128
      + (s.extentsOf cid * 2 ^ 9 + c.size * 2 ^ 20) * 2 ^ 160
      + c.root % 2 ^ 31 * 2 ^ 205 + c.keygen * 2 ^ 236 + c.term % 2 ^ 32 * 2 ^ 268
      + n (·.res) * 2 ^ 300 + n (·.dirty) * 2 ^ 329 + n (·.depot) * 2 ^ 358 + n (·.sided) * 2 ^ 387
      + c.label.toNat * 2 ^ 416
    let body := toBytes 60 w
    body ++ checkWord c.damaged cid body

/-- The 32-byte depot entry (R159); ECRC lies in its first four bytes. -/
def DepotEntry.words (e : DepotEntry) : List Byte :=
  let b := fun (x : Bool) (n : Nat) => if x then 2 ^ n else 0
  toBytes 4 (e.gterm % 2 ^ 32) ++
  toBytes 4 (e.frame % 2 ^ 31) ++
  toBytes 4 (b e.acc 10 + b e.busy 11 + b e.pois 12 + b e.flc 13 + b e.res 14 + b e.valid 15 + e.slot * 2 ^ 24) ++
  toBytes 4 e.slotGen ++ toBytes 4 e.refs ++ toBytes 8 e.fp.toNat

def State.depotEntryBytes (s : State) (i : Nat) : List Byte :=
  let e := s.depotEntry i
  if e = DepotEntry.empty then List.replicate 32 0#8 else checkWord e.damaged i e.words ++ e.words

end Sys2Proof.Machine
end

