-- ==== Sys2Proof/Machine/EFlash.lean ====
section
/-! DEFINITION. The embedded flash (14, R502 to R524): log regions, records and their currency, recording settings,
erasing sectors, and the rows of the embedded-flash writer. -/
namespace Sys2Proof.Machine

/-! ## Log regions -/

/-- Region 0 and 1 are the settings copies, 2 the journal, 3 the logbook summary (R509). -/
def EFlash.region (e : EFlash) (n : Nat) : LogRegion :=
  match n with | 0 => e.settings0 | 1 => e.settings1 | 2 => e.journal | _ => e.summary

def EFlash.setRegion (e : EFlash) (n : Nat) (r : LogRegion) : EFlash :=
  match n with
  | 0 => { e with settings0 := r } | 1 => { e with settings1 := r } | 2 => { e with journal := r } | _ => { e with summary := r }

def State.setRegion (s : State) (n : Nat) (r : LogRegion) : State := { s with eflash := s.eflash.setRegion n r }

/-- Formatted sectors that hold no record (R516). -/
def LogRegion.freeSectors (r : LogRegion) : Nat := r.ring.length - r.inUse

/-- The sector whose slots are being written. -/
def LogRegion.headSector (r : LogRegion) : Nat := r.ring.getD (r.inUse - 1) 0

/-- One slot is used up (R510): past slot 31 the next formatted sector is taken; none when no sector is left. -/
def LogRegion.advance (r : LogRegion) : Option LogRegion :=
  if r.nextSlot < 31 then some { r with nextSlot := r.nextSlot + 1 }
  else if r.inUse < r.ring.length then some { r with inUse := r.inUse + 1, nextSlot := 1 } else none

/-- Slots abandoned after a mismatched read-back (R514). -/
def LogRegion.skip : Nat → LogRegion → Option LogRegion
  | 0, r => some r
  | n + 1, r => (r.advance).bind (LogRegion.skip n)

/-- A place for a record is free at the head of the region. -/
def LogRegion.room (r : LogRegion) : Option LogRegion :=
  if r.nextSlot ≤ 31 then some r
  else if r.inUse < r.ring.length then some { r with inUse := r.inUse + 1, nextSlot := 1 } else none

/-- Valid records of an item that are no newer than `seq` are marked superseded (R512, R514). -/
def supersedeRecs (type key seq : Nat) : List Rec → List Rec
  | [] => []
  | r :: rs => (if r.type = type && r.key = key && r.seq ≤ seq && r.mark == .valid then { r with mark := .superseded } else r)
      :: supersedeRecs type key seq rs

/-- A record written and marked valid, with a given SEQ (R513, R514). -/
def LogRegion.placeRec (r : LogRegion) (mismatches type key seq : Nat) (payload : List Byte) : LogRegion :=
  match (r.room).bind (LogRegion.skip mismatches) with
  | none => r
  | some r =>
    let rec' : Rec := { sector := r.headSector, slot := r.nextSlot, type := type, key := key, seq := seq,
                        payload := payload.take 104, mark := .valid, intact := true }
    { r with nextSlot := r.nextSlot + 1, recs := rec' :: supersedeRecs type key seq r.recs }

/-- A new record, under the region's next SEQ. -/
def LogRegion.write (r : LogRegion) (mismatches type key : Nat) (payload : List Byte) : LogRegion :=
  { r.placeRec mismatches type key r.seq payload with seq := r.seq + 1 }

/-- A record that counts (R515). -/
def Rec.counts (r : Rec) : Bool := r.mark == .valid && r.intact

/-- The record with the highest SEQ. -/
def newest : List Rec → Option Rec
  | [] => none
  | r :: rs =>
    match newest rs with
    | none => some r
    | some b => some (if b.seq > r.seq then b else r)

/-- The current record of an item (R515). -/
def LogRegion.current (r : LogRegion) (type key : Nat) : Option Rec :=
  newest (r.recs.filter (fun x => x.type = type && x.key = key && x.counts))

/-- The sector is still needed: it holds a current record (R516). -/
def LogRegion.needs (r : LogRegion) (x : Rec) : Bool := r.current x.type x.key = some x

/-- No operation of the embedded flash starts below the early-warning level (R505). -/
def State.eflashReady (s : State) : Bool := !s.pins.vsbEarly

/-- A record is written to a region, or waits until the supply recovers (R505, R517). -/
def State.record (s : State) (region type key : Nat) (payload : List Byte) : State :=
  if s.eflashReady then s.setRegion region ((s.eflash.region region).write 0 type key payload)
  else { s with eflash := { s.eflash with waiting := s.eflash.waiting ++ [(region, type, key, payload)] } }

/-- A journal record is written (R517). -/
def State.journal (s : State) (type key : Nat) (payload : List Byte) : State := s.record 2 type key payload

/-- The place of a record in the writer's order (R505): vault, vault-completion and slot records, other journal records, settings,
logbook summary. -/
def writeClass (region type : Nat) : Nat :=
  if region = 2 then (if type = 0x0001 || type = 0x0002 || type = 0x0021 then 0 else 1) else if region ≤ 1 then 2 else 3

/-- The records that waited are written once the supply has recovered, in the writer's order. -/
def State.recordWaiting (s : State) : State :=
  let ws := (List.range 4).flatMap (fun c => s.eflash.waiting.filter (fun w => writeClass w.1 w.2.1 = c))
  ws.foldl (fun s w => s.record w.1 w.2.1 w.2.2.1 w.2.2.2) { s with eflash := { s.eflash with waiting := [] } }

/-- The current journal record's payload. -/
def State.journaled (s : State) (type key : Nat) : Option (List Byte) := (s.eflash.journal.current type key).map (·.payload)

/-! ## Settings (R520) -/

/-- The pieces of a value of more than 104 bytes. -/
def chunksOf : Nat → List Byte → List (List Byte)
  | 0, _ => []
  | n + 1, bs => bs.take 104 :: (if bs.length ≤ 104 then [] else chunksOf n (bs.drop 104))

/-- A value recorded in one copy: one record of TYPE 0x0100, or chunks of TYPE 0x0101 that share one SEQ. -/
def LogRegion.recordValue (r : LogRegion) (key : Nat) (v : List Byte) : LogRegion :=
  if v.length ≤ 104 then r.write 0 0x0100 key v
  else
    let cs := chunksOf 128 v
    let r' := (List.range cs.length).foldl (fun (r : LogRegion) i =>
      r.placeRec 0 0x0101 (i * 2 ^ 24 + key) r.seq (cs.getD i [])) r
    { r' with seq := r.seq + 1 }

/-- The value of a persistent object is recorded in copy 0 and then in copy 1. -/
def State.recordSetting (s : State) (key : Nat) : State :=
  if s.eflashReady then
    let v := s.valueBytes key
    (s.setRegion 0 (s.eflash.settings0.recordValue key v)).setRegion 1 (s.eflash.settings1.recordValue key v)
  else s

/-- The records of an object's value in both copies are superseded (R548). -/
def State.dropSetting (s : State) (key : Nat) : State :=
  let drop := fun (r : LogRegion) => { r with recs := r.recs.map (fun x =>
    if (x.type = 0x0100 || x.type = 0x0101) && x.key % 2 ^ 24 = key && x.mark == .valid then { x with mark := .superseded } else x) }
  if s.eflashReady then (s.setRegion 0 (drop s.eflash.settings0)).setRegion 1 (drop s.eflash.settings1) else s

/-- The chunk records of a value under one SEQ. -/
def LogRegion.chunks (r : LogRegion) (key seq : Nat) : List Rec :=
  r.recs.filter (fun x => x.type = 0x0101 && x.key % 2 ^ 24 = key && x.seq = seq)

/-- The value that they hold: current only when every chunk of the SEQ is valid (R520). -/
def chunkedValue (cs : List Rec) : Option (List Byte) :=
  let at' := fun (i : Nat) => cs.find? (fun x => x.counts && x.key / 2 ^ 24 = i)
  if cs.isEmpty || !(List.range cs.length).all (fun i => (at' i).isSome) then none
  else some ((List.range cs.length).flatMap (fun i => match at' i with | some x => x.payload | none => []))

/-- A record of another TYPE is written to both copies of the settings area, or waits until the supply recovers (R505, R520). The manual gives no layout for what it holds: free values;
the model keeps the content in the state of the unit that it is of (DESIGN CHOICE, log 180). -/
def State.recordState (s : State) (type key : Nat) : State :=
  let v := freeBytes 16 s.free
  (s.draw.record 0 type key v).record 1 type key v

/-- The KEY of a flash channel's state record; a DRAM channel's is its number (DESIGN CHOICE, log 180). -/
def flashStateKey (c : Nat) : Nat := 0x100 + c

/-- A copy of the settings area holds a current record of a TYPE and KEY (R515, R520). -/
def State.hasRecord (s : State) (type key : Nat) : Bool :=
  (s.eflash.settings0.current type key).isSome || (s.eflash.settings1.current type key).isSome

/-- The newest SEQ of a key whose chunks are all valid, and the value. -/
def LogRegion.chunked (r : LogRegion) (key : Nat) : Option (Nat × List Byte) :=
  let seqs := distinct ((r.recs.filter (fun x => x.type = 0x0101 && x.key % 2 ^ 24 = key)).map (·.seq))
  seqs.foldl (fun (best : Option (Nat × List Byte)) q =>
    match chunkedValue (r.chunks key q), best with
    | some v, some b => if b.1 < q then some (q, v) else best
    | some v, none => some (q, v)
    | none, _ => best) none

/-- The value a settings copy holds for an object, with its SEQ. -/
def LogRegion.setting (r : LogRegion) (key : Nat) : Option (Nat × List Byte) :=
  match r.current 0x0100 key, r.chunked key with
  | some a, some b => if b.1 > a.seq then some b else some (a.seq, a.payload)
  | some a, none => some (a.seq, a.payload)
  | none, b => b

/-- The current value of a persistent object across both copies (R520). -/
def State.setting (s : State) (key : Nat) : Option (List Byte) :=
  match s.eflash.settings0.setting key, s.eflash.settings1.setting key with
  | some a, some b => some (if b.1 > a.1 then b.2 else a.2)
  | some a, none => some a.2
  | none, some b => some b.2
  | none, none => none

/-- Every object key that a settings copy names. -/
def LogRegion.settingKeys (r : LogRegion) : List Nat :=
  distinct (r.recs.filterMap (fun x => if x.counts && (x.type = 0x0100 || x.type = 0x0101) then some (x.key % 2 ^ 24) else none))

/-! ## Bytes (R511 to R513, R522) -/

/-- The 128 bytes of a record slot (R513). -/
def Rec.bytes (r : Rec) : List Byte :=
  let b := toBytes 2 r.type ++ toBytes 2 r.payload.length ++ toBytes 4 r.key ++ toBytes 8 r.seq ++ padTo 104 r.payload ++ toBytes 4 0
  b ++ toBytes 4 (crc32c b).toNat

/-- A mark word as it reads normally (R512); none where any other value may stand. -/
def Mark.word : Mark → Option Nat
  | .erased => some 0xFFFFFFFFFFFFFFFF
  | .valid => some 0x5A5AA5A53C3CC3C3
  | .weak => some 0x5A5AA5A53C3CC3C3
  | .superseded => some 0
  | .indeterminate => none

/-- The 128 bytes of a sector header (R511). -/
def sectorHeader (region sectSeq erases time : Nat) : List Byte :=
  let b := padTo 124 (toBytes 4 0x53454354 ++ toBytes 1 region ++ toBytes 1 1 ++ toBytes 2 0 ++ toBytes 8 sectSeq ++ toBytes 4 erases
    ++ toBytes 8 time)
  b ++ toBytes 4 (crc32c b).toNat

/-- The two mark words of an erase-log entry: the intent word and the completion word, erased while it is not written (R522). -/
def EraseEntry.words (e : EraseEntry) : Nat × Nat :=
  (0xE7A5 * 2 ^ 48 + e.eseq % 65536 * 2 ^ 32 + (65535 - e.sector) * 2 ^ 16 + e.sector,
   if e.complete then 0x3C3C3C3C3C3C3C3C else 0xFFFFFFFFFFFFFFFF)

/-- Record types known for a region (R515, R517, R520, R564, R565). -/
def knownType (region type : Nat) : Bool :=
  if region ≤ 1 then ([0x0100, 0x0101, 0x0110, 0x0111, 0x0112, 0x0120] : List Nat).contains type
  else if region = 2 then ([0x0001, 0x0002, 0x0003, 0x0004, 0x0010, 0x0011, 0x0012, 0x0013, 0x0020, 0x0021, 0x0030, 0x0040, 0x0041,
    0x0050] : List Nat).contains type
  else type = 0x0200 || type = 0x0201

/-! ## Sectors (R521 to R523) -/

/-- The region a log sector belongs to (R509). -/
def State.regionOfSector (s : State) (sector : Nat) : Option Nat :=
  ([0, 1, 2, 3] : List Nat).find? (fun n => (s.eflash.region n).ring.contains sector)

/-- The bank a sector belongs to. -/
def bankOfSector (sector : Nat) : Option Nat := if sector < 1536 then some 0 else if sector < 3072 then some 1 else none

/-- The erase count of a sector. -/
def EFlash.eraseCount (e : EFlash) (sector : Nat) : Nat := mapGet (fun _ => 0) e.erases sector

/-- The erase log gets an entry, complete or not (R522). -/
def EFlash.logErase (e : EFlash) (sector : Nat) (done : Bool) : EFlash :=
  { e with eseq := (e.eseq + 1) % 65536,
           eraseLog := { eseq := e.eseq, sector := sector, complete := done } :: e.eraseLog.take 127 }

/-- `n` erases of a sector are counted; event 0x6207 when 16,000 is first reached (R508). -/
def State.countErases (s : State) (sector n : Nat) : State :=
  let old := s.eflash.eraseCount sector
  let s := { s with eflash := { s.eflash with erases := mapSet (fun _ => 0) s.eflash.erases sector (old + n) } }
  s.when (old < 16000 && 16000 ≤ old + n) (·.raise 0x6207 (old + n) [(.u16, sector)])

/-- A sector leaves the records and, formatted again, joins the free end of the ring (R510, R511). -/
def LogRegion.reformat (r : LogRegion) (sector : Nat) : LogRegion :=
  let i := r.ring.findIdx (· = sector)
  { r with ring := r.ring.filter (· ≠ sector) ++ [sector]
           inUse := if i < r.inUse then r.inUse - 1 else r.inUse
           sectSeq := r.sectSeq + 1
           recs := r.recs.filter (fun x => x.sector ≠ sector) }

/-- A sector of a ring is retired and a spare takes its place (R521). -/
def LogRegion.replaceSector (r : LogRegion) (sector spare : Nat) : LogRegion :=
  { r.reformat sector with ring := r.ring.filter (· ≠ sector) ++ [spare] }

/-- A sector of a region is formatted under the region's next SECTSEQ (R511). -/
def State.noteFormat (s : State) (n sector : Nat) : State :=
  { s with eflash := { s.eflash with
    formats := mapSet (fun _ => (0, 0)) s.eflash.formats sector ((s.eflash.region n).sectSeq, s.clock) } }

/-- A sector that fails its erase and verification three times is retired (R521). -/
def State.retireSector (s : State) (sector : Nat) : State :=
  let s := { s with eflash := { s.eflash with retired := sector :: s.eflash.retired } }
  let s := match s.regionOfSector sector, s.eflash.spares with
    | some n, sp :: rest =>
      let s := s.noteFormat n sp
      { s with eflash := { (s.eflash.setRegion n ((s.eflash.region n).replaceSector sector sp)) with spares := rest } }
    | some n, [] =>
      s.setRegion n { (s.eflash.region n).reformat sector with ring := (s.eflash.region n).ring.filter (· ≠ sector) }
    | none, _ => s
  (s.journal 0x0050 sector [2#8]).raise 0x6208 0 [(.u16, sector)]

/-- A sector erase that has started runs to its end (R521): verified on attempt `passAt`, or retired. -/
def State.eraseSector (s : State) (sector : Nat) (passAt : Option (Fin 3)) : State :=
  match passAt with
  | some k =>
    let s := { s with eflash := s.eflash.logErase sector true }.countErases sector (k.val + 1)
    let s := { s with eflash := { s.eflash with unformatted := s.eflash.unformatted.filter (fun e => e.1 ≠ sector) } }
    match s.regionOfSector sector with
    | some n => (s.noteFormat n sector).setRegion n ((s.eflash.region n).reformat sector)
    | none => s
  | none => ({ s with eflash := s.eflash.logErase sector true }.countErases sector 3).retireSector sector

/-- The conditions under which no erase starts (R505). -/
def State.eraseBarred (s : State) : Bool :=
  (s.ctl.mode == .boot && s.reachedStep 1 && !s.reachedStep 3) || s.armedPower || s.ctl.mode == .save
  || (s.ctl.mode == .vault && 2 ≤ s.eflash.journal.freeSectors) || !s.eflashReady || s.eflash.busy.isSome

/-- The active bank (R526). -/
def State.activeBank (s : State) : Nat :=
  let a := s.update.bankA.record
  let b := s.update.bankB.record
  if b.state = 3 && (a.state ≠ 3 || b.actSeq > a.actSeq) then 1 else 0

/-- A sector may be erased: no current record lies in it, it is not the head of its ring, not factory area, and not in
the active bank (R516, R521, R524). -/
def State.sectorFree (s : State) (sector : Nat) : Bool :=
  match s.regionOfSector sector with
  | some n =>
    let r := s.eflash.region n
    r.headSector ≠ sector && !r.recs.any (fun x => x.sector = sector && x.counts && r.needs x)
  | none =>
    match bankOfSector sector with
    | some b => b ≠ s.activeBank
    | none => !(3848 ≤ sector && sector ≤ 3855) && !s.eflash.retired.contains sector

/-! ## Compaction (R516) -/

/-- The current records of the oldest sector rewritten at the head, with their SEQ kept. -/
def LogRegion.rewrite (r : LogRegion) : List Rec → LogRegion
  | [] => r
  | x :: xs => LogRegion.rewrite (r.placeRec 0 x.type x.key x.seq x.payload) xs

/-- The oldest sector of a region is compacted and erased, once an erase may start (R505). -/
def State.compactRegion (s : State) (n : Nat) : State :=
  let r := s.eflash.region n
  match r.ring with
  | [] => s
  | oldest :: _ =>
    if r.inUse ≤ 1 || s.eraseBarred then s
    else
      let keep := r.recs.filter (fun x => x.sector = oldest && knownType n x.type && x.counts && r.needs x)
      let s := s.setRegion n (r.rewrite keep)
      (s.eraseSector oldest (some 0)).note 0x6206

/-- A settings copy with fewer than 8 formatted free sectors is compacted, one copy at a time (R516, R520). -/
def State.compactSettings (s : State) : State :=
  if s.eflash.settings0.freeSectors < 8 then s.compactRegion 0
  else if s.eflash.settings1.freeSectors < 8 then s.compactRegion 1 else s

/-! ## The rows -/

/-- EFLASH_RECORD_WRITE (R514): programmed, read back, marked valid; `mismatches` slots are abandoned on the way. -/
def execEflashRecordWrite (region : Fin 4) (type : BitVec 16) (key : BitVec 32) (payload : List Byte) (mismatches : Nat)
    (s : State) : Out :=
  if s.eflashReady then
    let r := (s.eflash.region region.val).write mismatches type.toNat key.toNat payload
    let s := s.setRegion region.val r
    .next { s with eflash := { s.eflash with busy := some (s.eflash.busy.getD .program) } }
  else .next s

/-- EFLASH_SECTOR_ERASE (R521): started only when R505 and R516 allow it. -/
def execEflashSectorErase (sector : Fin 4096) (passAt : Option (Fin 3)) (s : State) : Out :=
  if s.eraseBarred || !s.sectorFree sector.val then .next s
  else
    let s := s.eraseSector sector.val passAt
    .next { s with eflash := { s.eflash with busy := some (.erase sector.val) } }

/-- JOURNAL_COMPACTION (R516): when fewer than 8 formatted free sectors remain; not below the early-warning level (R505). -/
def execJournalCompaction (s : State) : Out :=
  if s.eflashReady && s.eflash.journal.freeSectors < 8 then .next (s.compactRegion 2) else .next s

/-- A weak record is rewritten into a new slot of its region (R508, R512). -/
def State.rewriteWeak (s : State) (w : Nat × Nat) : State :=
  ([0, 1, 2] : List Nat).foldl (fun s n =>
    let r := s.eflash.region n
    match r.recs.find? (fun x => x.sector = w.1 && x.slot = w.2 && x.counts) with
    | some x => s.setRegion n (r.placeRec 0 x.type x.key x.seq x.payload)
    | none => s) s

/-- A word of a record is uncorrectable: the record is invalid (R507, R515). -/
def State.spoilRec (s : State) (w : Nat × Nat) : State :=
  ([0, 1, 2] : List Nat).foldl (fun s n =>
    let r := s.eflash.region n
    s.setRegion n { r with recs := r.recs.map (fun x => if x.sector = w.1 && x.slot = w.2 then { x with intact := false } else x) }) s

/-- What the reads of a scan correct, and what they cannot (R507): a record with a corrected word is rewritten into a new slot. -/
def State.readErrors (s : State) (corrected bad : List (Nat × Nat)) : State :=
  let s := corrected.foldl (fun s w => (s.rewriteWeak w).raise 0x6201 0 [(.u16, w.1)]) s
  bad.foldl State.spoilRec s

/-- MARGIN_READ_DUE (R508): the records whose marks are weak are rewritten; not below the early-warning level (R505). -/
def execMarginReadDue (weak : List (Nat × Nat)) (s : State) : Out :=
  if s.eflashReady then .next (weak.foldl State.rewriteWeak s) else .next s

/-- PERSISTENT_WRITE_RECORD (R432): the oldest accepted value is recorded. -/
def execPersistentWriteRecord (s : State) : Out :=
  match s.unrecorded with
  | [] => .next s
  | k :: ks => if s.eflashReady then .next (State.compactSettings { s.recordSetting k with unrecorded := ks }) else .next s

end Sys2Proof.Machine
end

