-- ==== Sys2Proof/Machine/Cache.lean ====
section
/-! DEFINITION. The translation cache (04, R137 to R140): its banks, sets and ways, what a lookup finds and fills, and what a
quarantined bank loses. The tables of the model always hold the newest entries, of cache and nodes together: the cache is the nodes'
only writer (R137). Which leaf lines the nodes do not hold yet is kept beside them (R139). -/
namespace Sys2Proof.Machine

/-- The number of the walk-array line of an interior entry, eight of one node, and of a descriptor (R137). -/
def walkLine (key : Nat) : Nat := 2 ^ 50 + lineInterior key
def descriptorLine (cid : Nat) : Nat := 2 ^ 51 + cid

/-- The bank of a line; the lines of a quarantined bank go to the remaining ones (R140). -/
def State.cacheBank (s : State) (line : Nat) : Nat :=
  let b := Config.cacheBank line % 64
  if s.work.badBanks.getLsbD b then
    let good := (List.range 64).filter (fun i => !s.work.badBanks.getLsbD i)
    good.getD (Config.cacheRemap line % good.length) 0
  else b

/-- The key of a line's set in the leaf array, 1,408 sets a bank, and in the walk array, 256 sets a bank (R137). -/
def State.leafSet (s : State) (line : Nat) : Nat := s.cacheBank line * 1408 + Config.cacheSet line % 1408
def State.walkSet (s : State) (line : Nat) : Nat := 2 ^ 20 + s.cacheBank line * 256 + Config.cacheSet line % 256

/-- A leaf line holds an entry with BUSY or FQ and is not replaced (R137). -/
def State.linePinned (s : State) (line : Nat) : Bool :=
  (List.range 8).any (fun i => let l := s.leaf (8 * line + i); l.busy || l.fq)

/-- A set after a use of a line: the line comes first. In a full set an unpinned line other than the one last used gives way,
which one pseudo-LRU leaves free (DESIGN CHOICE, log 140); where every line is pinned the new one is not kept. -/
def useLine (ways line pick : Nat) (pinned : Nat → Bool) (ls : List Nat) : List Nat :=
  if ls.contains line then line :: ls.filter (· ≠ line)
  else if ls.length < ways then line :: ls
  else
    let out := ls.tail.filter (fun l => !pinned l)
    if out.isEmpty then ls else line :: ls.filter (· ≠ out.getD (pick % out.length) 0)

/-- The cache after a use of a line of a set. -/
def State.cacheUse (s : State) (ways set line pick : Nat) (c : SMap (List Nat)) : SMap (List Nat) :=
  mapSet (fun _ => []) c set (useLine ways line pick (fun l => l < 2 ^ 50 && s.linePinned l) (mapGet (fun _ => []) c set))

/-- A leaf line is in the cache. -/
def State.leafCached (s : State) (key : Nat) : Bool :=
  (mapGet (fun _ => []) s.work.cache (s.leafSet (key / 8))).contains (key / 8)

/-- A leaf lookup (R137, R573): a hit uses the leaf's line; a miss is a walk, which uses the lines of the descriptor and of the
interior entries above the page, and fills the leaf's line where its node exists; a changed line that it replaces is written back
(R139). -/
def State.lookup (s : State) (cid page : Nat) : State :=
  let key := leafKey cid page
  let pick := (Config.freeBits 16 s.free).toNat
  let miss := if s.leafCached key then 0 else 1
  let above := [3, 2, 1].map (fun l => interiorKey cid l page)
  let walked := ((descriptorLine cid) :: above.map walkLine).foldl
    (fun c l => s.cacheUse 8 (s.walkSet l) l pick c) s.work.cache
  let c := if s.leafCached key then s.work.cache else walked
  let c := if (s.interior (interiorKey cid 1 page)).valid then s.cacheUse 16 (s.leafSet (key / 8)) (key / 8) pick c else c
  let s := ((s.draw.count 0xF010 0xFFFF 1).count 0xF011 0xFFFF miss).count 0xF012 0xFFFF miss
  let set := fun (m : SMap (List Nat)) => mapGet (fun _ => []) m (s.leafSet (key / 8))
  let replaced := fun (l : Nat) => (set s.work.cache).contains l && !(set c).contains l
  { s with work := { s.work with cache := c, unwritten := s.work.unwritten.filter (fun l => !replaced l) } }

/-- A bank is quarantined (R140): its lines are written back, and its sets are remapped to the remaining banks. -/
def State.quarantineBank (s : State) (bank : Nat) : State :=
  let b := s.work.badBanks ||| (1#64 <<< bank)
  let keep := fun (e : Nat × List Nat) => (if e.1 < 2 ^ 20 then e.1 / 1408 else (e.1 - 2 ^ 20) / 256) ≠ bank
  let kept := s.work.unwritten.filter (fun l => s.cacheBank l ≠ bank)
  { s with work := { s.work with badBanks := b, cache := s.work.cache.filter keep, unwritten := kept } }.raise 0x2032
    (64 - (List.range 64).countP b.getLsbD) []

end Sys2Proof.Machine
end

