-- ==== Sys2Proof/Machine/Planner.lean ====
section
/-! DEFINITION. The residue planner and the write throttle (06, R200 to R229; 03, R99 to R101): what the remaining
capacity allows, the ceiling that follows, and how the ports let writes in under it. -/
namespace Sys2Proof.Machine

/-! ## Remaining capacity -/

/-- Bits set in a vector. -/
def popcount (n v : Nat) : Nat := (List.range n).countP (fun i => v.testBit i)

/-- Populated dies (OD 0x6000.05): channels × dies a channel by the population record. -/
def State.diesPopulated (s : State) : Nat := 64 * field s.flash.population 0 1

/-- A flash channel in service. -/
def State.fchanServes (s : State) (c : Nat) : Bool := (s.fchan c).state = 0 && (s.fchan c).dies != 0

/-- N_c (R214). -/
def State.channelsInService (s : State) : Nat := (List.range 64).countP s.fchanServes

/-- N_d (R214). -/
def State.diesInService (s : State) : Nat :=
  ((List.range 64).map (fun c => if s.fchanServes c then popcount 16 (s.fchan c).dies.toNat else 0)).sum

/-- Pipes usable (R355). -/
def State.pipesUsable (s : State) : Nat := 40 - popcount 40 (s.crypt.quarantined).toNat

/-- Dies whose slots count: those in service, and retired ones of channels in service, whose slots the overhead replaces
(R332, R337). -/
def State.diesWithSlots (s : State) : Nat :=
  ((List.range 64).map (fun c =>
    if s.fchanServes c then popcount 16 ((s.fchan c).dies ||| (s.fchan c).retired).toNat else 0)).sum

/-- Slots of the save region that may be used (R334, R337, R339): 2 × SaveCeilingMax over the populated dies, without the
slots that the overhead could not replace. -/
def State.slotsUsable (s : State) : Nat :=
  if s.diesPopulated = 0 then 0
  else 2 * s.flash.saveMax / 2 ^ 20 * s.diesWithSlots / s.diesPopulated - s.flash.slotsLost

/-- F_slc (R338): the erased slots from the pointer on. -/
def State.saveFree (s : State) : Nat :=
  (s.slotsUsable - s.flash.slotsUsed - (s.flash.released.map (·.1)).sum) * 2 ^ 20

/-- A Loop Line link has failed (R26). -/
def State.linkFailed (s : State) : Bool := s.loop.links.any (fun l => l.2.failed)

/-! ## The four bounds (R215) -/

/-- V(x) (R215), rounded up. -/
def saveVolume (x d : Nat) : Nat := (x * 100593 + 113000 * d + 100000 * 2 ^ 23 + 99999) / 100000

/-- The drill's figures stand for the present flash population (R216). -/
def State.drillValid (s : State) : Bool := s.flush.drillPopulation = some s.diesPopulated

/-- S_s in bytes/s (R215, R216), times 10. -/
def State.saveRate10 (s : State) : Nat :=
  let nd := s.diesInService
  let nc := s.channelsInService
  let cap := if nd ≥ 512 then 220000000000 else 3600000000 * nc
  let rd := if s.drillValid then s.get OD.drillLastDieRate * 1000 else 430000000
  let r := min (min cap (3600000000 * nc)) (min (nd * rd) (s.pipesUsable * 6000000000))
  if s.drillValid then 10 * r else 8 * r

/-- P_s in W (R216). -/
def State.planPower (s : State) : Nat := if s.drillValid then s.get OD.drillLastPower else s.get OD.ceilingSavePowerAssumed

/-- T_0 in µs (R216). -/
def State.planFixed (s : State) : Nat := if s.drillValid then s.get OD.drillLastFixedTime else 100000

/-- How often the margin applies: twice while a Loop Line link is failed (R215). -/
def State.marginPower (s : State) : Nat := if s.linkFailed then 2 else 1

/-- S_plan in bytes/s, rounded down. -/
def State.planRate (s : State) : Nat :=
  s.saveRate10 * (100 - s.get OD.ceilingRateMargin) ^ s.marginPower / (10 * 100 ^ s.marginPower)

/-- C_energy (R215), rounded down; a negative bound counts as 0. -/
def State.energyBound (s : State) : Nat :=
  let j := s.marginPower
  let den : Nat := 10 * 100 ^ j * 100 * s.planPower * 1000000
  let num : Int := (s.saveRate10 * (100 - s.get OD.ceilingRateMargin) ^ j : Nat) *
    (((s.get OD.gaugeUsableEnergy * (100 - s.get OD.marginReserveShare) * 1000000 : Nat) : Int)
      - (s.planFixed * 100 * s.planPower : Nat))
  let x : Int := (100 * num - ((113 * s.get OD.ceilingMetaCeiling + 100 * 2 ^ 23) * den : Nat)) * 1000
  if den = 0 then 0 else (x / ((den * 100593 : Nat) : Int)).toNat

/-- C_slc (R215). -/
def State.slcBound (s : State) : Nat :=
  ((100 * s.saveFree - 113 * s.get OD.ceilingMetaCeiling - 100 * 2 ^ 23) * 1000) / 100593

/-- C_pool (R215): the frames of channels that have frozen are counted out of N_f (R311). -/
def State.poolBound (s : State) : Nat := 4096 * (s.poolFrames - 2 * s.get OD.spaceFreeLow)

/-- C_t (R228). -/
def State.targetCeiling (s : State) : Nat :=
  let k := s.flush.wearStep
  min (s.get OD.ceilingCeilingConfigured * 5 ^ k / 4 ^ k) (2 ^ 40)

/-- H_eff in ms (R228). -/
def State.horizon (s : State) : Nat := min (s.get OD.ceilingFlushHorizon * 2 ^ s.flush.wearStep) 30000

/-- The first of the bounds that equals the least (R215): 0 target, 1 energy, 2 SLC, 3 pool. -/
def bindingOf (t e l p : Nat) : Nat :=
  let m := min (min t e) (min l p)
  if t = m then 0 else if e = m then 1 else if l = m then 2 else 3

/-! ## The throttle (R99 to R101) -/

/-- F < n / 100, where a ceiling of 0 makes F infinite (R217). -/
def State.fBelow (s : State) (n : Nat) : Bool := s.host.ceiling ≠ 0 && s.host.residue * 100 < n * s.host.ceiling

/-- The credit limit is removed: every withheld RwD credit is returned (R100). -/
def State.returnAll (s : State) : State :=
  (s.setHostPort 0 { s.hostPort 0 with withheld := 0 }).setHostPort 1 { s.hostPort 1 with withheld := 0 }

/-- The Cut state returns RwD credits for no more payload than the flush rate of the last 1 µs lets in, divided between the ports
in proportion to their waiting RwD requests (R100, R101); with none waiting, to the credits withheld (DESIGN CHOICE, log 143). -/
def State.returnCut (s : State) : State :=
  let h0 := (s.hostPort 0).withheld
  let h1 := (s.hostPort 1).withheld
  let waits := fun (p : Nat) => s.work.waiters.countP (fun w => decide (w.ld / 16 = p) && w.data.isSome)
  let (a, b) := if waits 0 + waits 1 = 0 then (h0, h1) else (waits 0, waits 1)
  let credit := s.host.cutCredit + s.host.flushRate
  let n := credit / 64000000
  let r0 := if a + b = 0 then 0 else min h0 (n * a / (a + b))
  let r1 := if a + b = 0 then 0 else min h1 (n * b / (a + b))
  let left := if h0 + h1 ≤ r0 + r1 then 0 else credit - 64000000 * (r0 + r1)
  let s := (s.setHostPort 0 { s.hostPort 0 with withheld := h0 - r0 }).setHostPort 1 { s.hostPort 1 with withheld := h1 - r1 }
  { s with host := { s.host with cutCredit := left } }

/-- CXL.mem has been admitted in this mode (R77). -/
def State.memAdmission (s : State) : Bool :=
  s.flush.planned && (s.inMode [.service, .maintenance] || (s.ctl.mode == .restore && s.saves.restore.admitted))

/-- One evaluation of the throttle's state table (R100): 0 Open, 1 Cut, 2 Stall. Until CXL.mem is admitted the state reads Stall (R77), and behind a
fence no credit is returned (R102, R104, R219). -/
def State.evaluateThrottle (s : State) : State :=
  let band := fun (s : State) (b : Nat) => { s with host := { s.host with band := b } }
  if !s.memAdmission then s
  else match s.get OD.qosThrottleState with
  | 0 =>
    if s.fBelow 75 then band s 0
    else if s.fBelow 90 then band s 2
    else if s.fBelow 100 then ((band s 3).note 0x1030).put OD.qosThrottleState 1
    else (((band s 3).note 0x1030).note 0x1031).put OD.qosThrottleState 2
  | 1 =>
    if !s.fBelow 100 then ((band s 3).note 0x1031).put OD.qosThrottleState 2
    else if s.fBelow 88 then ((s.note 0x1032).returnAll).put OD.qosThrottleState 0
    else band s 3
  | _ => if s.fBelow 98 then (band s 3).put OD.qosThrottleState 1 else s

/-- Bytes confirmed in the last 100 µs, as a rate in bytes/s (R210). -/
def State.flushRate (s : State) : Nat :=
  ((s.flush.confirmed.filter (fun e => s.uptime ≤ e.2 + 100000)).map (·.1)).sum * 10000

/-- The Map region's message to the Host region (R101), on which the throttle acts. -/
def State.sendResidue (s : State) : State :=
  ({ s with host := { s.host with residue := s.residue, ceiling := s.get OD.plannerEffectiveCeiling,
                                  flushRate := s.flushRate } }).evaluateThrottle

/-! ## The computation (R215 to R219) -/

/-- C_eff of a C_plan (R217). -/
def State.effectiveOf (s : State) (plan : Nat) : Nat :=
  if s.flush.below then 0
  else if s.armedPower then plan * s.get OD.ceilingArmedShare / 100
  else plan

/-- A value in MiB, as VALUE and DETAIL record it. -/
def mib (v : Nat) : Nat := v / 2 ^ 20

/-- C_eff follows C_plan; leaving and entering the condition below 1 GiB is reported (R217). -/
def State.applyCeiling (s : State) : State :=
  let plan := s.get OD.plannerPlannedCeiling
  let below := if s.flush.below then plan < 2 ^ 31 else plan < 2 ^ 30
  let s' := { s with flush := { s.flush with below := below } }
  let s' := if below && !s.flush.below then s'.note 0x2603
            else if !below && s.flush.below then s'.note 0x2604 else s'
  let s' := if below then s'.put OD.plannerBinding 4 else s'
  (s'.put OD.plannerEffectiveCeiling (s'.effectiveOf plan)).sendResidue

/-- V24 (R226). -/
def State.volume24 (s : State) : Nat := s.tables.volumes.sum

/-- FlushAmplification in hundredths (R226): V24 over the host write payload of the same intervals. Without a payload, and above
655.35, the manual names no value: the model gives 0 and 0xFFFF (DESIGN CHOICE, log 155). -/
def State.amplification (s : State) : Nat :=
  if s.tables.payloads.sum = 0 then 0 else min (100 * s.volume24 / s.tables.payloads.sum) 0xFFFF

/-- The planner's computation: the bounds, C_plan, C_eff and what the Host region does with it. Binding names the least bound of this computation,
also where R218 keeps the lower C_plan of an earlier one (DESIGN CHOICE, log 181). -/
def State.planCompute (s : State) : State :=
  let t := s.targetCeiling
  let e := s.energyBound
  let l := s.slcBound
  let p := s.poolBound
  let old := s.get OD.plannerPlannedCeiling
  let new := min (min t e) (min l p) / 2 ^ 20 * 2 ^ 20
  let plan := if !s.flush.planned || new < old || (new - old) * 100 ≥ old then new else old
  let bind := bindingOf t e l p
  let wasEnergy := s.flush.planned && s.flush.bound = 1
  let s := [(OD.plannerPlannedCeiling, plan), (OD.plannerEnergyBound, e), (OD.plannerSlcBound, l),
    (OD.plannerPoolBound, p), (OD.plannerTargetCeiling, t), (OD.plannerBinding, bind),
    (OD.plannerUsableEnergy, s.get OD.gaugeUsableEnergy), (OD.plannerReserveShare, s.get OD.marginReserveShare),
    (OD.plannerPlanRate, s.planRate / 1000000), (OD.plannerPlanPower, s.planPower), (OD.plannerPlanFixedTime, s.planFixed),
    (OD.plannerLastPlanTime, s.clock), (OD.plannerHorizonEffective, s.horizon), (OD.plannerDiesInService, s.diesInService),
    (OD.plannerSaveFree, s.saveFree), (OD.plannerWearStep, s.flush.wearStep), (OD.plannerFlushVolume24h, s.volume24),
    (OD.plannerFlushAmplification, s.amplification), (OD.plannerArmed, if s.armedPower then 1 else 0)].foldl (fun s e => s.put e.1 e.2) s
  let changed := s.flush.planned && (max plan old - min plan old) * 20 > old
  let s := s.when changed (·.raise 0x2601 (mib old) [(.u32, mib plan), (.u8, bind)])
  let s := s.when (bind = 1 && !wasEnergy) (·.note 0x2602)
  let s := s.when (e < s.residue) (·.raise 0x2605 (mib s.residue) [(.u32, mib e)])
  let s := { s with flush := { s.flush with planned := true, bound := bind, lastEnergy := s.get OD.gaugeUsableEnergy } }
  s.applyCeiling

/-- The planner runs (R219): in FREEZE from its entry on; in the other modes from the first computation, which entry into SERVICE
and the metadata phase of a restore make. -/
def State.plannerRuns (s : State) : Bool :=
  s.ctl.mode == .freeze || (s.inMode [.restore, .service, .maintenance] && s.flush.planned)

/-- A trigger of R218: the planner recomputes at once. -/
def State.replan (s : State) : State := if s.plannerRuns then s.planCompute else s

end Sys2Proof.Machine
end

