-- ==== Sys2Proof/Machine/Sessions.lean ====
section
/-! DEFINITION. Sessions, frames and the order in which a request is checked (12, R424 to R452): what every ZOP request
goes through before and after its own effect. -/
namespace Sys2Proof.Machine

/-! ## Frames (R439) -/

/-- Opcodes of R441. -/
def opRead : Nat := 1
def opWrite : Nat := 2
def opExecute : Nat := 3
def opFetch : Nat := 4
def opDescribe : Nat := 5
def opReadStaged : Nat := 6
def opCompareWrite : Nat := 7

/-- Bytes 0 to 7 + LENGTH of a frame. -/
def frameHead (opcode tag index sub status : Nat) (payload : List Byte) : List Byte :=
  toBytes 1 opcode ++ toBytes 1 tag ++ toBytes 2 index ++ toBytes 1 sub ++ toBytes 1 status ++
  toBytes 2 payload.length ++ payload

/-- The CRC of a frame (R440). -/
def frameCrc (opcode tag index sub status : Nat) (payload : List Byte) : BitVec 32 :=
  crc32c (frameHead opcode tag index sub status payload)

/-- A whole frame. -/
def frameBytes (opcode tag index sub status : Nat) (payload : List Byte) : List Byte :=
  frameHead opcode tag index sub status payload ++ toBytes 4 (frameCrc opcode tag index sub status payload).toNat

/-- The request a command stands for: its opcode, object and payload. -/
structure ReqFrame where
  opcode : Nat
  index : Nat
  sub : Nat
  payload : List Byte
  deriving DecidableEq, Repr

/-- A request frame read from bytes: its TAG and CRC as received, and the rest; none when it is shorter than 12 bytes. -/
def parseFrame (bs : List Byte) : Option (Nat × BitVec 32 × ReqFrame) :=
  if bs.length < 12 then none
  else some (field bs 1 1, BitVec.ofNat 32 (field bs (bs.length - 4) 4),
    { opcode := field bs 0 1, index := field bs 2 2, sub := field bs 4 1, payload := (bs.drop 8).take (bs.length - 12) })

/-- LENGTH agrees with the transport's length and is at most 1,024 (R443). -/
def frameLengthOk (bs : List Byte) : Bool := 12 ≤ bs.length && field bs 6 2 ≤ 1024 && bs.length == 12 + field bs 6 2

/-! ## Status codes (R443) -/

def stOk : Nat := 0x00
def stPending : Nat := 0x01
def stNoObject : Nat := 0x02
def stNoSubindex : Nat := 0x03
def stAccess : Nat := 0x04
def stLength : Nat := 0x05
def stRange : Nat := 0x06
def stState : Nat := 0x07
def stBusyLoad : Nat := 0x08
def stRefused : Nat := 0x09
def stFrame : Nat := 0x0A
def stOpcode : Nat := 0x0B
def stBusy : Nat := 0x0C
def stUnknownTag : Nat := 0x0D
def stUnavailable : Nat := 0x0E
def stMismatch : Nat := 0x0F
def stNoData : Nat := 0x10
def stTagInUse : Nat := 0x11
def stInternal : Nat := 0x12

/-- How a command answers: at once, or when an event named by its chapter completes it (R444); `key` names the command. -/
inductive Answer where
  | reply (r : Reply)
  | later (key : Nat)
  deriving DecidableEq, Repr

/-- The effect of a request once it has passed its checks. -/
abbrev Act := State → State × Answer

def ok (s : State) : State × Answer := (s, .reply { status := stOk, payload := [] })
def okWith (s : State) (p : List Byte) : State × Answer := (s, .reply { status := stOk, payload := p })
def fail (s : State) (status : Nat) : State × Answer := (s, .reply { status := status, payload := [] })

/-- Refused by the command's own rules with result n, also written to LastResult (R443). -/
def refuse (s : State) (lastResult n : Nat) : State × Answer :=
  (s.put lastResult n, .reply { status := stRefused, payload := toBytes 1 n })

/-- Accepted: LastResult becomes 0. -/
def okResult (s : State) (lastResult : Nat) : State × Answer := ok (s.put lastResult 0)

/-! ## Sessions (R448) -/

/-- A session as it opens. -/
def Session.fresh (src : Transport) (now : Nat) : Session :=
  { src := src, sel := [], results := [], last := none, active := none, block := [], windowCount := 0, lastRequest := now }

/-- The session of a source. -/
def findSession (src : Transport) : List Session → Option Session
  | [] => none
  | x :: xs => if x.src = src then some x else findSession src xs

/-- Replaces the session of its source, or opens it. -/
def setSession (x : Session) : List Session → List Session
  | [] => [x]
  | y :: ys => if y.src = x.src then x :: ys else y :: setSession x ys

/-- The session of a source, as it opens when it does not exist. -/
def State.session (s : State) (src : Transport) : Session := (findSession src s.zop.sessions).getD (Session.fresh src s.uptime)

/-- Storing a session. -/
def State.setSession (s : State) (x : Session) : State :=
  { s with zop := { s.zop with sessions := Machine.setSession x s.zop.sessions } }

/-- Is the transport served by the porters (R448)? -/
def byPorters : Transport → Bool
  | .mailbox _ => true
  | .vdm _ _ => true
  | .smbus _ => false
  | .proxy => false

/-- A number that names a session in records (R556: U16): bits [15:12] the transport, then port, LD or EID. -/
def sessionNumber : Transport → Nat
  | .mailbox ld => ld.val
  | .vdm p e => 0x1000 + p.val * 256 + e.toNat
  | .smbus e => 0x2000 + e.toNat
  | .proxy => 0x3000

/-- A selector of a session (R433). -/
def Session.selGet (x : Session) (k : Nat) : Nat := mapGet odDefault x.sel k

/-- A selector of the session of a source. -/
def State.sel (s : State) (src : Transport) (k : Nat) : Nat := (s.session src).selGet k

/-- Writing a selector of a session. -/
def State.setSel (s : State) (src : Transport) (k v : Nat) : State :=
  let x := s.session src
  s.setSession { x with sel := mapSet odDefault x.sel k v }

/-- The access level of a session (R110, R452); a level 2 session without an LD acts as level 1. -/
def State.level (s : State) : Transport → Nat
  | .mailbox ld => s.get (OD.ldMgmtAccess ld.val)
  | .vdm _ _ => let l := s.get OD.accessVdmAccess; if l = 2 then 1 else l
  | .smbus _ => let l := s.get OD.accessSmbusAccess; if l = 2 then 1 else l
  | .proxy => let l := s.get OD.accessProxyAccess; if l = 2 then 1 else l

/-- The access object of a transport without an LD. -/
def accessKeyOf : Transport → Nat
  | .mailbox _ => 0
  | .vdm _ _ => OD.accessVdmAccess
  | .smbus _ => OD.accessSmbusAccess
  | .proxy => OD.accessProxyAccess

/-! ## The transports' links -/

/-- The port of an LD (R80). -/
def portOfLd (ld : Nat) : Nat := ld / 16

/-- The port's link is up: with CXL.io at least, or held up by a FREEZE fence (R104). -/
def State.linkUp (s : State) (p : Nat) : Bool :=
  let l := s.get (OD.hpLinkState p)
  l = 2 || l = 3 || (l = 4 && s.get (OD.hpFenceCause p) = 2)

/-- CXL.io and the mailbox operate in this mode (R49, R64). -/
def State.ioMode (s : State) : Bool :=
  s.inMode [.restore, .service, .maintenance] || (s.ctl.mode == .freeze && s.reachedStep 2)

/-- The LD is visible to its host: enabled, and the only one of its port on a root port (R79, R112). -/
def State.ldVisible (s : State) (ld : Nat) : Bool :=
  s.flag (OD.ldEnabled ld) &&
    (if s.get (OD.hpTopology (portOfLd ld)) = 1 then (s.hostPort (portOfLd ld)).bound.getLsbD (ld % 16) else ld % 16 = 0)

/-- The LD's mailbox operates. -/
def State.mailboxUp (s : State) (ld : Nat) : Bool := s.ioMode && s.linkUp (portOfLd ld) && s.ldVisible ld

/-- The transport carries requests at present (R49, R450). -/
def State.transportUp (s : State) : Transport → Bool
  | .mailbox ld => s.mailboxUp ld.val
  | .vdm p _ => s.ioMode && s.linkUp p.val
  | .smbus _ => !s.ctl.stopped && !s.ctl.romFailed
  | .proxy => !s.ctl.stopped && !s.ctl.romFailed

/-! ## Checks (R443, R451, R452) -/

/-- Reachability of an object in the mode: the status with which a request ends, if it ends (R451, R496). -/
def State.reach (s : State) (src : Transport) (opcode index sub : Nat) : Option Nat :=
  let sb := heldInSignalBox index sub
  let reading := opcode = opRead || opcode = opDescribe || opcode = opReadStaged
  if s.ctl.serviceLoop then
    if opcode = opRead && (index = 0x1000 || index = 0x1100) then none else some stUnavailable
  else match s.ctl.mode with
  | .off => if sb && !byPorters src then none else some stUnavailable
  | .vault => if sb && !byPorters src then none else some stUnavailable
  | .boot =>
    if !sb && !s.reachedStep 2 then some stUnavailable
    else if reading then none else some stState
  | .save =>
    if !sb then some stUnavailable else if reading then none else some stState
  | .freeze =>
    if reading || (index = 0x1100 && sub = 2) || (0x9000 ≤ index && index ≤ 0x9FFF) then none else some stState
  | .restore => none
  | .service => none
  | .maintenance => none

/-- The opcode is permitted by the object's access code (R427); COMPARE_WRITE is for objects of one length (R441). -/
def accessPermits (o : ObjRow) (opcode : Nat) : Bool :=
  if opcode = opRead then o.access != .wo && o.access != .cmd
  else if opcode = opWrite then o.access == .rw || o.access == .wo || o.access == .rws || o.access == .rwi
  else if opcode = opExecute then o.access == .cmd
  else if opcode = opCompareWrite then o.minLen = o.maxLen && (o.access == .rw || o.access == .rws || o.access == .rwi)
  else true

/-- A carriage is coupled to an LD. -/
def State.coupledTo (s : State) (cid ld : Nat) : Bool :=
  s.tables.couplings.any (fun c => c.cid = cid && c.ld = ld)

/-- The carriages that are the object of a carriage command, by its object and payload (R110); none where the command's
object is not a carriage. -/
def commandCarriages (index sub : Nat) (p : List Byte) : List Nat :=
  if index = 0x3100 && (sub = 5 || sub = 6 || sub = 7 || sub = 8 || sub = 9) then [field p 0 2]
  else if index = 0x3400 && (sub = 4 || sub = 5) then [field p 0 2]
  else if index = 0x3600 && (sub = 1 || sub = 2) then [field p 0 2]
  else if index = 0x3700 && sub = 4 then [field p 0 2, field p 2 2]
  else if index = 0x3800 && (sub = 3 || sub = 6) then [field p 0 2]
  else if index = 0x7400 && (sub = 3 || sub = 4) then [field p 0 2]
  else []

/-- The session's level permits the request (R110, R452). -/
def State.levelPermits (s : State) (src : Transport) (o : ObjRow) (opcode index : Nat) (p : List Byte) : Bool :=
  let l := s.level src
  let writing := opcode = opWrite || opcode = opExecute || opcode = opCompareWrite
  if l ≥ 3 then true
  else if l = 0 then false
  else if !writing then true
  else if o.type == .key then false
  else if o.selector then true
  else match src with
    | .mailbox ld =>
      let cs := commandCarriages index o.sub p
      l = 2 && !cs.isEmpty && cs.all (fun c => s.coupledTo c ld.val)
    | .vdm _ _ => false
    | .smbus _ => false
    | .proxy => false

/-- The payload length suits the object (R426). -/
def lengthOk (o : ObjRow) (opcode : Nat) (p : List Byte) : Bool :=
  if opcode = opWrite || opcode = opExecute then o.minLen ≤ p.length && p.length ≤ o.maxLen
  else if opcode = opCompareWrite then p.length = 2 * o.maxLen
  else p.isEmpty

/-- The value of a numeric type lies in the object's own range (R425, R430). -/
def rangeOk (o : ObjRow) (v : List Byte) : Bool :=
  if o.type == .str then !v.contains 0#8
  else if o.type.size = 0 then true
  else
    let n : Int := if o.type.signed then toSigned (8 * o.type.size) (ofBytes v) else ofBytes v
    o.lo ≤ n && n ≤ o.hi

/-- Objects whose chapter refuses a write in the present state (R81, R233, R334, R389, R581). -/
def State.writeBarred (s : State) (k : Nat) : Bool :=
  if 0x240003 ≤ k && k ≤ 0x241F03 && k % 256 = 3 then s.tables.couplings.any (fun c => c.ld = k / 256 - 0x2400)
  else if k = OD.thresholdWarnLevel || k = OD.thresholdCommitLevel || k = OD.thresholdReleaseLevel
    || k = OD.railDividerRatio then s.armedPower
  else if k = OD.flashSaveCeilingMax then s.vaultPending
  else if 0xB01000 ≤ k && k ≤ 0xB01FFF then !s.ctl.unlocked || s.ctl.armed
  else false

/-- The checks of R443 from UNAVAILABLE to RANGE, by the object's own row; the first failure gives the status. -/
def State.checkObject (s : State) (src : Transport) (f : ReqFrame) : Option Nat :=
  let writing := f.opcode = opWrite || f.opcode = opExecute || f.opcode = opCompareWrite
  match findIndex f.index with
  | none => some stNoObject
  | some _ =>
    let reach := s.reach src f.opcode f.index f.sub
    if reach = some stUnavailable then some stUnavailable
    else match findObj f.index f.sub with
    | none => some stNoSubindex
    | some o =>
      if !accessPermits o f.opcode then some stAccess
      else if writing && keyOf f.index f.sub = accessKeyOf src then some stAccess
      else if !s.levelPermits src o f.opcode f.index f.payload then some stAccess
      else if !lengthOk o f.opcode f.payload then some stLength
      else if reach.isSome then reach
      else if writing && o.maintOnly && s.ctl.mode != .maintenance then some stState
      else if writing && s.writeBarred (keyOf f.index f.sub) then some stState
      else if (f.opcode = opWrite && !rangeOk o f.payload)
        || (f.opcode = opCompareWrite && !rangeOk o (f.payload.drop o.maxLen)) then some stRange
      else none

/-! ## Answering -/

/-- The MCTP message that carries a frame (R450): its type, the vendor ID, the message code and the frame. -/
def mctpBody (s : State) (frame : List Byte) : List Byte :=
  0x7E#8 :: (toBytes 2 (s.get OD.identityPciVendorId)).reverse ++ [0x5A#8] ++ frame

/-- A message in packets of the 64-byte baseline transmission unit (R450): each the packet's flags (bit 7 the first, bit 6 the
last, bits [5:4] the sequence number, Tag Owner 0) and its part of the message. -/
def mctpPackets : Nat → Nat → List Byte → List (List Byte)
  | 0, _, _ => []
  | n + 1, seq, bs =>
    let last := bs.length ≤ 64
    let flags := (if seq = 0 then 128 else 0) + (if last then 64 else 0) + 16 * (seq % 4)
    (BitVec.ofNat 8 flags :: bs.take 64) :: (if last then [] else mctpPackets n (seq + 1) (bs.drop 64))

/-- A message leaves over MCTP: at once over PCIe VDM, in packets that wait for the bus over SMBus (R450, R473). -/
def State.sendMctp (s : State) (src : Transport) (msg : List Byte) : State :=
  let s := { s with out := { s.out with mctp := some (src, msg) } }
  match src with
  | .smbus e =>
    { s with bus := { s.bus with packets := s.bus.packets ++ (mctpPackets (msg.length + 1) 0 msg).map (fun p => (e.toNat, p)) } }
  | .mailbox _ => s
  | .vdm _ _ => s
  | .proxy => s

/-- Puts a response frame on the transport of its session. -/
def State.transmit (s : State) (src : Transport) (opcode tag index sub : Nat) (r : Reply) : State :=
  let frame := frameBytes (opcode + 128) tag index sub r.status r.payload
  let s := { s with out := { s.out with zop := some { dest := src, opcode := opcode, tag := tag, reply := r } } }
  match src with
  | .mailbox ld => { s with out := { s.out with mailbox := some { ld := ld.val, code := 0, payload := frame } } }
  | .vdm _ _ => s.sendMctp src (mctpBody s frame)
  | .smbus _ => s.sendMctp src (mctpBody s frame)
  | .proxy =>
    if s.bus.proxy.state == .busy then
      { s with bus := { s.bus with proxy := { s.bus.proxy with response := some frame } } }
    else s

/-- The response to a request, stored for its repeats (R445). -/
def State.respond (s : State) (src : Transport) (tag : Nat) (crc : Nat) (f : ReqFrame) (r : Reply) : State :=
  let x := s.session src
  let s := s.setSession { x with
    last := some { tag := tag, crc := crc, opcode := f.opcode, reply := r, time := s.uptime } }
  s.transmit src f.opcode tag f.index f.sub r

/-- The session's command that has not been answered is answered PENDING, and its result is held (R444). -/
def State.answerPending (s : State) (src : Transport) : State :=
  let x := s.session src
  match x.active with
  | none => s
  | some a =>
    let r : Reply := { status := stPending, payload := [] }
    let s := s.setSession { x with active := none
                                   results := x.results ++ [{ tag := a.tag, key := a.key, reply := none, time := s.uptime }]
                                   last := some { tag := a.tag, crc := a.crc, opcode := opExecute, reply := r, time := s.uptime } }
    s.transmit src opExecute a.tag (a.key / 256) (a.key % 256) r

/-- The command of a key among a session's results completes with a reply. -/
def fillResult (key now : Nat) (r : Reply) : List PendingResult → List PendingResult
  | [] => []
  | p :: ps => if p.key = key ∧ p.reply = none then { p with reply := some r, time := now } :: ps
               else p :: fillResult key now r ps

/-- A mailbox background command of an LD ends (R449). -/
def endBackground (src : Transport) (s : State) : State :=
  match src with
  | .mailbox ld =>
    let d := fun _ => MailboxState.initial
    let m := mapGet d s.host.mail ld.val
    if m.background.1 = 0xC001 && m.background.2.1 < 100 then
      { s with host := { s.host with mail := mapSet d s.host.mail ld.val { m with background := (0xC001, 100, 0) } } }
    else s
  | .vdm _ _ => s
  | .smbus _ => s
  | .proxy => s

/-- The completion of a command of a key in one session. -/
def State.finishIn (s : State) (key : Nat) (r : Reply) (x : Session) : State :=
  match x.active with
  | some a =>
    if a.key = key then
      let s := s.setSession { x with active := none,
                                     last := some { tag := a.tag, crc := a.crc, opcode := opExecute, reply := r, time := s.uptime } }
      s.transmit x.src opExecute a.tag (key / 256) (key % 256) r
    else endBackground x.src (s.setSession { x with results := fillResult key s.uptime r x.results })
  | none => endBackground x.src (s.setSession { x with results := fillResult key s.uptime r x.results })

/-- The session has a command of this key that has not completed. -/
def Session.waitsFor (key : Nat) (x : Session) : Bool :=
  (match x.active with | some a => a.key = key | none => false) || x.results.any (fun p => p.key = key && p.reply.isNone)

/-- A command that answers later completes: its session gets the response, or the result is held for FETCH (R444). -/
def State.finish (s : State) (key : Nat) (r : Reply) : State :=
  match s.zop.sessions.find? (Session.waitsFor key) with
  | some x => s.finishIn key r x
  | none => s

/-- The result held under a TAG is filled. -/
def fillTag (tag key now : Nat) (r : Reply) : List PendingResult → List PendingResult
  | [] => []
  | p :: ps => if p.tag = tag ∧ p.key = key ∧ p.reply = none then { p with reply := some r, time := now } :: ps
               else p :: fillTag tag key now r ps

/-- A command that waited has ended: it is answered under its own session and TAG (R444). -/
def State.finishFor (s : State) (a : Asker) (key : Nat) (r : Reply) : State :=
  match findSession a.src s.zop.sessions with
  | none => s
  | some x =>
    if x.active.any (fun c => c.tag = a.tag && c.key = key) then s.finishIn key r x
    else endBackground x.src (s.setSession { x with results := fillTag a.tag key s.uptime r x.results })

/-- The reply of a command that has ended well, for those that wait. -/
def okReplyOf : Reply := { status := stOk, payload := [] }

/-- Every command that waits for something is answered. -/
def State.finishAll (s : State) (key : Nat) (as : List Asker) : State :=
  as.foldl (fun s a => s.finishFor a key okReplyOf) s

/-- Every command that waits for an operation that a reset has abandoned completes with INTERNAL (R443). -/
def State.giveUp (s : State) (key : Nat) (as : List Asker) : State :=
  as.foldl (fun s a => s.finishFor a key { status := stInternal, payload := [] }) s

/-- The command of a request. -/
def askerOf (q : Req) : Asker := { src := q.src, tag := q.tag.toNat }

/-- The reply of a finished command. -/
def finishOk (s : State) (key : Nat) : State := s.finish key { status := stOk, payload := [] }

/-- The results of one session whose commands the porters were executing complete with INTERNAL (R500). -/
def internalResults (byPorter : Nat → Bool) (now : Nat) : List PendingResult → List PendingResult
  | [] => []
  | p :: ps =>
    (if p.reply = none && byPorter p.key then { p with reply := some { status := stInternal, payload := [] }, time := now }
     else p) :: internalResults byPorter now ps

/-- Each session's commands that the named processors were executing complete with INTERNAL (R443, R500). -/
def State.interrupt (s : State) (mine : Nat → Bool) : State :=
  s.zop.sessions.foldl (fun s x =>
    let x := { x with results := internalResults mine s.uptime x.results }
    let s := s.setSession x
    match x.active with
    | some a => if mine a.key then s.finishIn a.key { status := stInternal, payload := [] } x else s
    | none => s) s

/-! ## Serving a request -/

/-- The pending result under a TAG. -/
def findResult (tag : Nat) : List PendingResult → Option PendingResult
  | [] => none
  | p :: ps => if p.tag = tag then some p else findResult tag ps

/-- Removes the results under a TAG. -/
def dropResult (tag : Nat) : List PendingResult → List PendingResult
  | [] => []
  | p :: ps => if p.tag = tag then dropResult tag ps else p :: dropResult tag ps

/-- FETCH (R444): the result is returned and released, PENDING while the command executes. -/
def fetchAct (src : Transport) (tag : Nat) : Act := fun s =>
  let x := s.session src
  match findResult tag x.results with
  | none => fail s stUnknownTag
  | some p =>
    match p.reply with
    | none => fail s stPending
    | some r => (s.setSession { x with results := dropResult tag x.results }, .reply r)

/-- The state of a request that fails its checks: frames and access refusals are reported (R443, R452). -/
def State.reportStatus (s : State) (src : Transport) (f : ReqFrame) (st : Nat) : State :=
  if st = stFrame then s.raise 0x7010 1 [(.u16, sessionNumber src)]
  else if st = stAccess then
    (s.raise 0x7011 0 [(.u16, sessionNumber src), (.u24, keyOf f.index f.sub)]).when
      (keyOf f.index f.sub = OD.perturbUnlock) (·.raise 0x8223 0 [(.u8, stAccess)])
  else if st = stState && keyOf f.index f.sub = OD.modeRequest then
    s.raise 0x8004 0 [(.u8, field f.payload 0 1), (.u8, s.ctl.mode.code)]
  else if st = stState && keyOf f.index f.sub = OD.flashSaveCeilingMax then
    s.put OD.flashLastResult (if s.ctl.mode == .maintenance then 4 else 3)
  else s

/-- A request that has passed its checks is executed (R427, R444). -/
def State.execute (s : State) (src : Transport) (tag crc : Nat) (f : ReqFrame) (act : Act) : State :=
  if f.opcode = opExecute && (s.session src).results.length ≥ 16 then
    s.respond src tag crc f { status := stBusy, payload := [] }
  else match act s with
  | (t, .reply r) => t.respond src tag crc f r
  | (t, .later key) =>
    let x := t.session src
    t.setSession { x with active := some { tag := tag, crc := crc, key := key } }

/-- A request that is not a repeat. -/
def State.serveNew (s : State) (src : Transport) (tag crc : Nat) (f : ReqFrame) (act : Act) : State :=
  if f.opcode = 0 || f.opcode > 7 then s.respond src tag crc f { status := stOpcode, payload := [] }
  else if f.opcode = opFetch then s.execute src tag crc f (fetchAct src tag)
  else if (findResult tag (s.session src).results).isSome then
    s.respond src tag crc f { status := stTagInUse, payload := [] }
  else match s.checkObject src f with
  | some st => (s.reportStatus src f st).respond src tag crc f { status := st, payload := [] }
  | none => s.execute src tag crc f act

/-- A request of a session (R443, R444, R445, R447, R448): the repeat of the last request gets the stored response; an
unanswered command of the session is answered PENDING first; then the checks in their order, and the effect. -/
def State.serve (s : State) (src : Transport) (tag : Nat) (crc : BitVec 32) (lengthOk : Bool) (f : ReqFrame) (act : Act) :
    State :=
  if !s.transportUp src then s
  else if (findSession src s.zop.sessions).isNone && s.zop.sessions.length ≥ 64 then
    s.transmit src f.opcode tag f.index f.sub { status := stBusy, payload := [] }
  else
    let s := s.answerPending src
    let x := { s.session src with lastRequest := s.uptime }
    let s := s.setSession x
    let bad := crc != frameCrc f.opcode tag f.index f.sub 0 f.payload || !lengthOk
    if bad then
      (s.reportStatus src f stFrame).transmit src f.opcode tag f.index f.sub { status := stFrame, payload := [] }
    else match x.last with
    | some l =>
      if l.tag = tag && l.crc = crc.toNat && s.uptime ≤ l.time + 1000000000 then
        s.transmit src l.opcode tag f.index f.sub l.reply
      else s.serveNew src tag crc.toNat f act
    | none => s.serveNew src tag crc.toNat f act
/-- A request that its session takes at once. -/
def runNow (q : Req) (opcode index sub : Nat) (payload : List Byte) (act : Act) (s : State) : Out :=
  .next (s.serve q.src q.tag.toNat q.crc true { opcode := opcode, index := index, sub := sub, payload := payload } act)

/-- A request whose parts the command carries (every ZOP row but the carrying ones). It waits while the porter of its session, or
the one that executes it, is being reloaded (R70, R498), and at Map ingress while MetaCeiling holds changes (R213). -/
def runReq (c : Instr) (q : Req) (opcode index sub : Nat) (payload : List Byte) (act : Act) (s : State) : Out :=
  if byPorters q.src && s.reloads 0 then .next (s.delay c)
  else s.command (if opcode = opExecute then porterOf (keyOf index sub) payload else 8) c (runNow q opcode index sub payload act)

/-- A command object is executed with a payload. -/
def runCmd (c : Instr) (q : Req) (key : Nat) (payload : List Byte) (act : Act) (s : State) : Out :=
  runReq c q opExecute (key / 256) (key % 256) payload act s

end Sys2Proof.Machine
end

