-- ==== Sys2Proof/Machine/HostPath.lean ====
section
/-! DEFINITION. The paths of a host read and a host write (03, R82 to R105; 04, R116 to R155; 05, R166 to R171; 10,
R381, R382): coupling, translation, allocation, copy-on-write, snapshot records, waiting and completion. -/
namespace Sys2Proof.Machine

/-! ## Trackers and credits (R98, R99, R151) -/

/-- The line of a request within its page (R117). -/
def Waiter.line (w : Waiter) : Nat := w.dpa / 64 % 64

/-- A request of this port waits. -/
def Waiter.onPort (p : Nat) (w : Waiter) : Bool := portOfLd w.ld = p

/-- Transactions that a port tracks (R98), and those of them that are writes. -/
def State.tracked (s : State) (p : Nat) : Nat := s.work.waiters.countP (Waiter.onPort p) + (s.hostPort p).unverified.length
def State.writesTracked (s : State) (p : Nat) : Nat :=
  s.work.waiters.countP (fun w => w.onPort p && w.data.isSome) + (s.hostPort p).unverified.countP (·.data.isSome)

/-- M2S Req and RwD credits that the host holds at a port: those advertised at the last link training, without those of tracked
transactions and those withheld (R98, R100); a save's fence returns none (R102). -/
def State.reqCredits (s : State) (p : Nat) : Nat :=
  (s.hostPort p).reqCredits - (if s.ctl.mode == .save then (s.hostPort p).reqHeld else s.tracked p - s.writesTracked p)
def State.rwdCredits (s : State) (p : Nat) : Nat := (s.hostPort p).rwdCredits - s.writesTracked p - (s.hostPort p).withheld

/-- Express requests of a port in its express buffer of 512 entries (R95); the others wait in the normal queue. -/
def State.expressHeld (s : State) (p : Nat) : Nat := min 512 (s.work.waiters.countP (fun w => w.onPort p && w.express))

/-- The queue band of a port (R99): the transactions it tracks, with the one that completes, against its 4,096 entries. -/
def State.queueBand (s : State) (p : Nat) : Nat :=
  let occ := (s.tracked p + 1) * 100
  if occ < s.get OD.qosLoadOptimal * 4096 then 0
  else if occ < s.get OD.qosLoadModerate * 4096 then 1
  else if occ < s.get OD.qosLoadSevere * 4096 then 2 else 3

/-- Internal operations in progress (R151): tracked transactions, claims, and fetches. -/
def State.internalOps (s : State) : Nat := s.work.waiters.length + s.flush.claims.length + s.fetching

/-- A further fetch may start: at most 2,048 are in progress (R145), within the 12,288 internal operations (R151). -/
def State.fetchRoom (s : State) : Bool := s.fetching < 2048 && s.internalOps < 12288

/-! ## Completions (R86, R99) -/

/-- DevLoad of a read response and of a write completion (R99). -/
def State.readLoad (s : State) (ld : Nat) : Nat := s.queueBand (ld / 16)
def State.writeLoad (s : State) (ld : Nat) : Nat := max (s.queueBand (ld / 16)) s.host.band

/-- The port's link carries CXL.mem responses: it is up with CXL.mem, or behind a fence that has not closed it (R78, R103, R104,
R105). -/
def State.carries (s : State) (p : Nat) : Bool :=
  let l := s.get (OD.hpLinkState p)
  l = 3 || (l = 4 && s.get (OD.hpFenceCause p) ≠ 3)

/-- The bit of a port whose CXL.mem stream has a key (R6, R106). -/
def State.ideBit (s : State) (p : Nat) : BitVec 2 := if (s.hostPort p).keyMem.isSome then 1#2 <<< p else 0

/-- A completion leaves the port while its link carries CXL.mem, protected by IDE when IDE is enabled (R6). -/
def State.complete (s : State) (ld : Nat) (c : Completion) : State :=
  if s.carries (ld / 16) then { s with out := { s.out with host := c :: s.out.host, ide := s.out.ide ||| s.ideBit (ld / 16) } } else s

/-- RwD credits are returned as buffers free: in Open; in Cut and Stall, in FREEZE and in SAVE, they are withheld (R100, R102, R104). -/
def State.freeBuffer (s : State) (p : Nat) : State :=
  if s.get OD.qosThrottleState = 0 && s.ctl.mode != .freeze && s.ctl.mode != .save then s
  else s.setHostPort p { s.hostPort p with withheld := (s.hostPort p).withheld + 1 }

def State.completeWrite (s : State) (ld dpa : Nat) : State :=
  (s.complete ld (.written ld dpa (s.writeLoad ld))).freeBuffer (ld / 16)
def State.completePoison (s : State) (ld dpa : Nat) : State := s.complete ld (.poison ld dpa (s.readLoad ld))
def State.completeZeros (s : State) (ld dpa : Nat) : State := s.complete ld (.zeros ld dpa (s.readLoad ld))
def State.completeData (s : State) (ld dpa : Nat) (d : Line) : State := s.complete ld (.data ld dpa d (s.readLoad ld))

/-- The port admits CXL.mem requests to this LD: CXL.mem is admitted and the link carries it, or the FREEZE fence answers
reads, or the receive window of a save's fence is still open (R77, R103, R104). -/
def State.memOpen (s : State) (ld : Nat) : Bool :=
  let p := ld / 16
  let l := s.get (OD.hpLinkState p)
  s.ldVisible ld && s.flag (OD.hpMemAdmitted p) &&
  match s.ctl.mode with
  | .restore => l = 3 | .service => l = 3 | .maintenance => l = 3
  | .freeze => l = 4 && s.get (OD.hpFenceCause p) = 2
  | .save => l = 4 && s.get (OD.hpFenceCause p) = 1 && match s.saves.run with | some r => r.step < 3 | none => false
  | .off => false | .boot => false | .vault => false

/-! ## Ends that need no translation (R86, R87) -/

/-- DPA as 40 bits of 64-byte units (R556). A DPA of more bits is cut to these, and an address that no HDM decoder covers, whose DPA lies
beyond them all, is given as 0 (DESIGN CHOICE, log 184). -/
def dpaItem (dpa : Nat) : ItemKind × Nat := (.u40, dpa / 64)

/-- An uncoupled access: a read completes with poison, a write completes and is discarded (R86). -/
def State.uncoupledAccess (s : State) (ld dpa : Nat) (isWrite : Bool) : State :=
  let s := (s.bump (OD.ldRefusedAccesses ld) 1).raise 0x1040 0 [(.ld, ld), dpaItem dpa]
  if isWrite then s.completeWrite ld dpa else s.completePoison ld dpa

/-- A write through a read-only coupling (R87). -/
def State.readOnlyWrite (s : State) (ld dpa : Nat) : State :=
  ((s.bump (OD.ldRefusedAccesses ld) 1).raise 0x1041 0 [(.ld, ld)]).completeWrite ld dpa

/-- A write is discarded by rule and counted (R120, R147, R167). -/
def State.discardWrite (s : State) (ld dpa : Nat) : State :=
  { s with work := { s.work with discarded := s.work.discarded + 1 } }.completeWrite ld dpa

/-- The same for a held or new write of either kind: nobody waits for an injected one. -/
def State.discardAs (s : State) (w : Waiter) : State :=
  match w.data with
  | some (_, .injected) => { s with work := { s.work with discarded := s.work.discarded + 1 } }
  | _ => s.discardWrite w.ld w.dpa

/-! ## Cipher pipes (R381, R382) -/

/-- The bit of a pipe. -/
def pipeBit (p : Nat) : BitVec 40 := 1#40 <<< p

/-- A counter that selects the second unit of an occurrence and not the first counts it too, so that one occurrence counts once in each
counter (R573). -/
def countSecond (source a b : Nat) : SMap Counter → SMap Counter
  | [] => []
  | (n, c) :: m =>
    (n, if n ≥ 18 && c.source == source && c.selects b && !c.selects a then { c with value := c.value + 1 } else c)
      :: countSecond source a b m

/-- A compare mismatch of a pairing: both pipes are quarantined and tested (R381), and the counters of either count it (R573). -/
def State.pipeMismatch (s : State) (a b : Nat) : State :=
  if s.crypt.quarantined.getLsbD a || s.crypt.quarantined.getLsbD b then s
  else
    let m := fun (p : Nat) (m : SMap (List Nat)) => mapSet (fun _ => []) m p ((s.uptime :: mapGet (fun _ => []) m p).take 2)
    let s := { s with crypt := { s.crypt with
      quarantined := s.crypt.quarantined ||| pipeBit a ||| pipeBit b
      testing := s.crypt.testing ||| pipeBit a ||| pipeBit b
      mismatches := m a (m b s.crypt.mismatches) } }
    let n := (s.count 0xF061 a 1).perf.counters
    let s := { s with perf := { s.perf with counters := if s.mainDieRuns then countSecond 0xF061 a b n else n } }
    (s.bump OD.pipesMismatches 1).raise 0x5020 0 [(.u8, a), (.u8, b)]

/-- Mismatches in turn on the pairings a block is tried on; the third in a row fails the block (R382). -/
def State.pipeFaults (s : State) (ps : List (Pipe × Pipe)) : State × Bool :=
  let s := (ps.take 3).foldl (fun s p => s.pipeMismatch p.1.val p.2.val) s
  if 3 ≤ ps.length then ((s.bump OD.pipesBlocksFailed 1).note 0x5023, true) else (s, false)

/-! ## Errors on the way (R37, R105, R140) -/

/-- Link training starts (R65, R76, R98): the width and the credit limits are the objects' values now. -/
def State.startTraining (s : State) (p : Nat) : State :=
  let h := s.hostPort p
  let s := s.setHostPort p { h with training := true, maxWidth := s.get (OD.hpMaxWidth p), reqCredits := s.get (OD.hpReqCredits p)
                                    rwdCredits := s.get (OD.hpRwDCredits p), withheld := 0, reqHeld := 0 }
  ((s.put (OD.hpLinkState p) 1).put (OD.hpRate p) 0).put (OD.hpWidth p) 0

/-- A port's panic state changes and is counted (R97). -/
def State.changePanic (s : State) (p : Nat) (on : Bool) : State :=
  let h := s.hostPort p
  if h.panic = on then s
  else
    let s := s.bump (if p = 0 then OD.qosPanicCountHp0 else OD.qosPanicCountHp1) 1
    s.setHostPort p { h with panic := on, panicSince := s.uptime, heldReported := false }

/-- An uncorrectable translation-cache entry (R37, R140): a clean one is read again, one of a changed line (R139) poisons its page; the
bank is quarantined when errors recur in it within 1 s. -/
def State.cacheFault (s : State) (key : Nat) : State :=
  let bank := s.cacheBank (key / 8)
  let s := if s.work.unwritten.contains (key / 8) then (s.poisonLeaf key).raise 0x2031 0 [(.carriage, leafCid key), (.u32, leafPage key)] else s
  let last := mapGet (fun _ => 0) s.work.bankErrors bank
  let again := last ≠ 0 && s.uptime + 1 ≤ last + 1000000000
  let s := { s with work := { s.work with bankErrors := mapSet (fun _ => 0) s.work.bankErrors bank (s.uptime + 1) } }
  if again && !s.work.badBanks.getLsbD bank then s.quarantineBank bank else s

/-! ## Waiting (R142, R151) -/

/-- A request waits in the Map region; one that waits for the first time takes the next number of the order of receipt. -/
def State.wait (s : State) (w : Waiter) : State :=
  let w := if w.order = 0 then { w with order := s.work.orders + 1 } else w
  { s with work := { s.work with waiters := s.work.waiters ++ [w], orders := max s.work.orders w.order } }

/-- A request waits for a frame, since the moment it first found none (R142). -/
def State.waitFrame (s : State) (w : Waiter) : State := s.wait { w with since := if w.since = 0 then s.uptime + 1 else w.since }

/-- A request waits for its page, or for a limit of R151. -/
def State.waitPage (s : State) (w : Waiter) : State := s.wait { w with since := 0 }

/-- The outcome of a carriage: a worse one stays (R275). -/
def State.setOutcome (s : State) (cid n : Nat) : State :=
  let r := s.saves.restore
  if n ≤ mapGet (fun _ => 0) r.outcomes cid then s
  else { s with saves := { s.saves with restore := { r with outcomes := mapSet (fun _ => 0) r.outcomes cid n } } }

/-- A page is poisoned by the restore. -/
def State.poisonRestored (s : State) (key : Nat) : State :=
  let l := s.leaf key
  (s.setLeaf key { l with pois := true, res := false, dirty := false, ptr := if l.depot then l.ptr else 0 }).setOutcome (leafCid key) 1

/-- A vault page of which no vault of the chain holds a readable entry (R267). -/
def State.vaultUnreadable (s : State) (key : Nat) : State :=
  (s.poisonRestored key).raise 0x2829 0 [(.carriage, leafCid key), (.u32, leafPage key)]

/-- A page whose place in the parent chain holds nothing readable counts as a dirty shutdown, once in a restore (R90, R267). -/
def State.parentUnreadable (s : State) (key : Nat) : State :=
  let s := s.vaultUnreadable key
  if s.saves.restore.parentPoison then s
  else
    let s := { s with saves := { s.saves with restore := { s.saves.restore with parentPoison := true } } }
    let s := s.bump OD.vaultDirtyShutdowns 1
    s.journal 0x0011 0 (toBytes 4 (s.get OD.vaultDirtyShutdowns))

/-- The move of a flash-copy-only page into DRAM fails (R145, R328, R382): the page is poisoned, one that a vault holds as R267
states. -/
def State.fetchFails (s : State) (key : Nat) : State :=
  let s := s.setLeaf key { s.leaf key with busy := false }
  match s.saves.restore.locations.find? (fun e => e.1 = key) with
  | some e => (if e.2 = s.saves.restore.seq then s.vaultUnreadable key else s.parentUnreadable key).dropLocation key
  | none => (s.poisonLeaf key).raise 0x2020 0 [(.carriage, leafCid key), (.u32, leafPage key)]

/-- A non-resident fetch begins: BUSY is set and a frame is taken (R145). -/
def State.startFetch (s : State) (key : Nat) : State := (s.setLeaf key { s.leaf key with busy := true }).count 0xF020 0xFFFF 1

/-- A non-resident fetch of a depot page begins (R168). -/
def State.startDepotFetch (s : State) (i : Nat) : State :=
  (s.setDepot i { s.depotEntry i with busy := true }).count 0xF020 0xFFFF 1

/-- A request needs a fetch: it waits for a frame, for one of the 2,048 fetches, or for the fetch it starts (R142, R145, R151). -/
def State.fetchFor (s : State) (w : Waiter) (start : State → State) : State :=
  if s.framesFree = 0 then s.waitFrame w
  else if !s.fetchRoom then s.waitPage w
  else (start s).waitPage w

/-! ## Reads (R143, R144) -/

/-- The channel of a frame carries ordinary requests (R311, R620). -/
def State.frameServes (s : State) (f : Nat) : Bool := s.chanServes (s.channelOf f)

/-- Lines of a subchannel's write pool, of a frame's two: what an alert window can hold at most (R283). -/
def heldWrites : Nat := 256

/-- Writes are issued on a channel; with write CRC they join those that may stand in an alert window, newest first (R283, R301). The
write timing of the ranks that have drifted is adjusted at the turn to write mode before them (R305). -/
def State.issueWrites (s : State) (f : Nat) (lines : List Nat) (source : DramSource) : State :=
  let c := s.channelOf f
  let s := s.count 0xF032 c lines.length
  let x := s.chan c
  let new := lines.reverse.map (fun l => AlertWrite.mk f l source 0)
  let held := if s.flag OD.dramWriteCrc then (new ++ x.writes).take heldWrites else x.writes
  if x.writes = held && x.adjust.isEmpty then s else s.setChan c { x with writes := held, adjust := [] }

/-- A host write of one line is issued. -/
def State.issueWrite (s : State) (f line : Nat) : State := s.issueWrites f [line] .host

/-- A whole frame is written: a page that moves or is filled. -/
def State.placeFrame (s : State) (f : Nat) (c : Cipher) : State := (s.setFrame f c).issueWrites f (List.range 64) .bulk

/-- A line of a page, depot page or snapshot frame is written with the poison encoding (R298). -/
def State.poisonLine (s : State) (f line : Nat) : State :=
  let c := s.frame f
  (s.setFrame f { c with image := c.image.poison line }).bump (OD.mcPoisonedLines (s.channelOf f)) 1

/-- Lines that failed while a page was copied are poisoned at its new place (R310). -/
def State.failLines (s : State) (old new : Nat) (failed : List (Nat × Fin 64)) : State :=
  (failed.filter (fun e => e.1 = old)).foldl (fun s e =>
    (s.poisonLine new e.2.val).raise 0x3044 0 [(.u8, s.channelOf old)]) s

/-- A page is copied off a thawing channel into another frame, ahead of the pass's order (R310, R311). -/
def State.copyOff (s : State) (old new : Nat) : State :=
  ((s.placeFrame new (s.frame old)).failLines old new (s.chan (s.channelOf old)).marked).bump OD.freezeThawDone 1

/-- A page on a thawing channel that a request needs is moved ahead of the pass's order (R311). -/
def State.thawPage (s : State) (key : Nat) : State :=
  let l := s.leaf key
  if l.res && (s.chan (s.channelOf l.ptr)).state == .thawing then
    match s.takeFrame with
    | some (f, s) => (s.copyOff l.ptr f).setLeaf key { l with ptr := f }
    | none => s
  else s

/-- A node takes frames elsewhere; where there are none its entry is poisoned (DESIGN CHOICE, log 164). -/
def State.moveNode (s : State) (k : Nat) : State :=
  let x := s.interior k
  if !x.valid then s
  else match s.takeNode (if x.pair then 2 else 1) with
    | some n => s.setInterior k { x with node := n }
    | none => s.poisonInterior k

/-- The node above the entries of a page at a level lies on a channel in a state (R311). -/
def State.nodeIn (s : State) (p : ChanState → Bool) (k : Nat) : Bool :=
  let x := s.interior k
  x.valid && p (s.chan (s.channelOf x.node)).state

/-- A table walk that needs a node on a channel that is frozen or in salvage initialisation waits (R311, R620); a leaf line in the
translation cache needs none. -/
def State.walkWaits (s : State) (cid page : Nat) : Bool :=
  let waits := fun (st : ChanState) => st == .frozen || st == .salvageInit
  (waits (s.chan (s.channelOf (s.carriage cid).root)).state || ([3, 2, 1].any (fun l => s.nodeIn waits (interiorKey cid l page))))
    && !s.leafCached (leafKey cid page)

/-- On a thawing channel the nodes that a walk needs are moved ahead of the pass's order (R311). -/
def State.thawWalk (s : State) (cid page : Nat) : State :=
  let s := if (s.chan (s.channelOf (s.carriage cid).root)).state == .thawing then
      match s.takeNode 1 with
      | some n => s.setCarriage cid { s.carriage cid with root := n }
      | none => s
    else s
  ([3, 2, 1].map (fun l => interiorKey cid l page)).foldl (fun s k => s.when (s.nodeIn (· == .thawing) k) (·.moveNode k)) s

/-- A depot page on a thawing channel, likewise. -/
def State.thawDepot (s : State) (i : Nat) : State :=
  let e := s.depotEntry i
  if e.res && (s.chan (s.channelOf e.frame)).state == .thawing then
    match s.takeFrame with
    | some (f, s) => (s.copyOff e.frame f).setDepot i { e with frame := f }
    | none => s
  else s

/-- The four cipher blocks of a line are computed (R573), on a pipe that software cannot see: a free value. -/
def State.cipherLine (s : State) : State :=
  let pipe := (Config.freeBits 6 s.free).toNat % 40
  s.draw.count 0xF060 pipe 4

/-- A line of a resident page is returned, or poison (R154). -/
def State.readResident (s : State) (ld dpa key line : Nat) (blockFails : Bool) : State :=
  let im := s.residentImage key
  let s := (s.setLeaf key { s.leaf key with acc := true }).cipherLine
  if blockFails || im.bad.getLsbD line then s.completePoison ld dpa else s.completeData ld dpa (im.line line)

/-- A depot entry whose check fails is treated as poisoned, and event 0x2106 is raised (R161). -/
def State.checkEntry (s : State) (i : Nat) : State :=
  let e := s.depotEntry i
  if e.damaged && !e.pois then (s.setDepot i { e with pois := true }).raise 0x2106 0 [(.u32, i)] else s

/-- The command loads or erases a key slot. -/
def loadsSlot (n : Nat) : Instr → Bool
  | .keyLoad _ k _ => k.toNat = n
  | .keySlotErase _ k => k.toNat = n
  | _ => false

/-- The access waits while a load or an erase of the key slot does (R369), unless it was received before that. -/
def State.slotHolds (s : State) (w : Waiter) (n : Nat) : Bool :=
  s.work.slotHolds.any (fun e => e.1 = n && (w.order = 0 || e.2 ≤ w.order)) && s.work.delayed.any (loadsSlot n)

/-- A read of a Depot leaf (R166 to R168). -/
def State.readDepot (s : State) (w : Waiter) (i : Nat) (blockFails : Bool) : State :=
  let s := (s.thawDepot i).checkEntry i
  match s.checkDepot w.cid i with
  | .ok =>
    let e := s.depotEntry i
    if s.slotHolds w e.slot then s.waitPage w
    else if e.pois then s.completePoison w.ld w.dpa
    else if e.res then
      if !s.frameServes e.frame then s.waitPage w
      else
        let im := s.depotImage i
        let s := (s.setDepot i { e with acc := true }).cipherLine
        if blockFails || im.bad.getLsbD w.line then s.completePoison w.ld w.dpa
        else s.completeData w.ld w.dpa (im.line w.line)
    else if e.busy then s.waitPage w
    else s.fetchFor w (·.startDepotFetch i)
  | r => (s.depotRefused w.cid i r).completePoison w.ld w.dpa

/-- A read inside a coupling, from the leaf on (R144). -/
def State.readPage (s : State) (w : Waiter) (blockFails : Bool) : State :=
  let key := leafKey w.cid w.page
  let s := s.thawWalk w.cid w.page
  if s.walkWaits w.cid w.page then s.waitPage w
  else
  let s := (s.lookup w.cid w.page).thawPage key
  let l := s.leaf key
  if (s.poisonAbove w.cid w.page).isSome || l.pois then s.completePoison w.ld w.dpa
  else if l.busy then s.waitPage w
  else if l.depot then s.readDepot w l.ptr blockFails
  else if l.res then
    if !s.frameServes l.ptr then s.waitPage w else s.readResident w.ld w.dpa key w.line blockFails
  else if l.flc then
    if (s.flashCopy (s.pageName w.cid w.page)).lost then (s.fetchFails key).completePoison w.ld w.dpa
    else s.fetchFor w (·.startFetch key)
  else s.completeZeros w.ld w.dpa

/-- An earlier request to the same line, received on the same port, is still held: the request waits behind it (R150), unless both are
reads. -/
def State.behindOther (s : State) (w : Waiter) : Bool :=
  s.work.waiters.any (fun x =>
    x.ld = w.ld && x.dpa / 64 = w.dpa / 64 && (x.data.isSome || w.data.isSome) && (w.order = 0 || x.order < w.order))

/-- An accepted read takes effect: in FREEZE it completes with poison (R104), a damaged descriptor gives poison (R129). -/
def State.serveRead (s : State) (w : Waiter) (blockFails : Bool) : State :=
  if s.ctl.mode == .freeze || (s.carriage w.cid).damaged then s.completePoison w.ld w.dpa
  else if s.behindOther w then s.waitPage w
  else s.readPage w blockFails

/-- The class of a request (R93): the coupling's override, or the LD's class. -/
def State.classIn (s : State) (c : Coupling) : Nat := if c.cls = 15 then s.get (OD.ldClass c.ld) else c.cls

/-- A request as it is accepted: its carriage and page follow from its coupling (R117). -/
def State.accepted (s : State) (c : Coupling) (dpa : Nat) (data : Option (Line × WriteMark)) : Waiter :=
  { ld := c.ld, dpa := dpa, cid := c.cid, page := (dpa - c.dpa) / 4096, data := data, since := 0, order := 0
    express := s.classIn c = 0, held := false, quiet := false }

/-- The coupling under which a request is accepted: inside the LD's window and the carriage's size (R86). -/
def State.reaching (s : State) (ld dpa : Nat) : Option Coupling :=
  (s.couplingAt ld dpa).filter (fun c =>
    dpa < s.get (OD.ldWindowSize ld) && dpa - c.dpa < (s.carriage c.cid).size * 2 ^ 21)

/-- A CXL.mem read (R143): in FREEZE it completes with poison (R104). -/
def State.hostRead (s : State) (ld dpa : Nat) (blockFails : Bool) : State :=
  if s.ctl.mode == .freeze then s.completePoison ld dpa
  else match s.reaching ld dpa with
  | none => s.uncoupledAccess ld dpa false
  | some c => s.serveRead (s.accepted c dpa none) blockFails

/-! ## Writes (R146 to R149, R169) -/

/-- The line is written: DIRTY, the residue, the frame and the completion (R146); a failed block or a transport error is
written with the poison encoding (R296, R382). -/
def State.storeLine (s : State) (ld dpa key line : Nat) (d : Line) (bad : WriteMark) : State :=
  let s := s.markDirty key
  let im := s.residentImage key
  let im := if bad = .plain then im.write line d else im.poison line
  let f := (s.leaf key).ptr
  let s := s.when (bad != .plain) (·.bump (OD.mcPoisonedLines (s.channelOf f)) 1)
  let s := ((s.setFrame f (s.pageCipher key im)).issueWrite f line).cipherLine
  let s := { s with tables := { s.tables with payload := s.tables.payload + 64 } }
  if bad = .injected then s else s.completeWrite ld dpa

/-- A held or new write stores its line. -/
def State.storeFor (s : State) (w : Waiter) : State :=
  match w.data with
  | some d => s.storeLine w.ld w.dpa (leafKey w.cid w.page) w.line d.1 d.2
  | none => s

/-- A change that is significant for the metadata waits while the hold of R213 lasts. -/
def State.metaWaits (s : State) : Bool := s.flush.metaHold

/-- The snapshot record of a resident page before its first change in the term (R182); none when no frame is free. -/
def State.snapshotBefore (s : State) (key : Nat) : Option State :=
  let cid := leafCid key
  let page := leafPage key
  let l := s.leaf key
  if l.ttag = (s.carriage cid).term % 256 || !s.needsRecord cid page then some s
  else if l.inResidue || !l.flc then
    if s.snapshotRoom then
      match s.takeFrame with
      | none => none
      | some (f, s) =>
        let s := (s.placeFrame f (s.frame l.ptr)).addRecord cid page (.frame l.ptr)
        some (s.setLeaf key { l with ptr := f })
    else some (s.dropSnapshot cid 1)
  else some (s.retainCopy key)

/-- The line of a resident page is stored, its snapshot record made first; none when a record finds no frame. -/
def State.changeResident (s : State) (w : Waiter) : Option State :=
  (s.snapshotBefore (leafKey w.cid w.page)).map (·.storeFor w)

/-- A write to a resident page would change a table-region line significantly (R211): TTAG, a snapshot record, DSUB above. -/
def State.wouldChange (s : State) (w : Waiter) : Bool :=
  match s.probe.changeResident w with
  | some t => !t.work.changed.isEmpty
  | none => false

/-- A write to a resident page. One that would make a metadata-significant change waits for the end of a hold (R213). -/
def State.writeResident (s : State) (w : Waiter) : State :=
  if !s.frameServes (s.leaf (leafKey w.cid w.page)).ptr then s.waitPage w
  else if s.metaWaits && s.wouldChange w then s.waitPage w
  else match s.changeResident w with
  | none => s.waitFrame w
  | some s => s

/-- A page takes a frame that holds an image, as Resident, dirty (R147, R169). -/
def State.fillPage (s : State) (key f : Nat) (im : Image) : State :=
  let s := s.setLeaf key { Leaf.empty with res := true, ptr := f }
  let s := s.placeFrame f (s.pageCipher key im)
  s.markDirty key

/-- A new page is refused for want of backing pages: its leaf is poisoned and the write discarded (R120). The leaf entry is
marked whether or not its nodes exist, and no node is allocated for it (DESIGN CHOICE, log 142). -/
def State.refusePage (s : State) (w : Waiter) : State :=
  ((s.poisonLeaf (leafKey w.cid w.page)).raise 0x2012 0 [(.carriage, w.cid)]).discardAs w

/-- A write that allocates an Unallocated page (R119, R120, R147). -/
def State.writeUnallocated (s : State) (w : Waiter) : State :=
  if s.get OD.spaceBackingPagesTotal ≤ s.backingUsed then s.refusePage w
  else match s.growPath w.cid w.page with
  | (s, .done) =>
    match s.takeFrame with
    | none => s.waitFrame w
    | some (f, s) =>
      let s := if s.needsRecord w.cid w.page then s.addRecord w.cid w.page .zero else s
      ((s.fillPage (leafKey w.cid w.page) f Image.zero).checkSpace).storeFor w
  | (s, _) => s.discardAs w

/-- A write to a Depot leaf: copy-on-write, then the write (R169). -/
def State.writeDepot (s : State) (w : Waiter) : State :=
  let key := leafKey w.cid w.page
  let i := (s.leaf key).ptr
  let s := (s.thawDepot i).checkEntry i
  let e := s.depotEntry i
  match s.checkDepot w.cid i with
  | .ok =>
    if s.slotHolds w e.slot then s.waitPage w
    else if e.pois then ((s.poisonLeaf key).raise 0x2040 0 [(.carriage, w.cid)]).discardAs w
    else if s.get OD.spaceBackingPagesTotal ≤ s.backingUsed then s.refusePage w
    else match s.growPath w.cid w.page with
    | (s, .done) =>
      if !e.res then
        if e.busy then s.waitPage w else s.fetchFor w (·.startDepotFetch i)
      else if !s.frameServes e.frame then s.waitPage w
      else match s.takeFrame with
      | none => s.waitFrame w
      | some (f, s) =>
        let im := s.depotImage i
        let keep := s.needsRecord w.cid w.page
        let s := (if keep then s.addRecord w.cid w.page (.depot i) else s.depotUnref i).count 0xF021 0xFFFF 1
        ((s.fillPage key f im).checkSpace).storeFor w
    | (s, _) => s.discardAs w
  | r => (s.depotRefused w.cid i r).discardAs w

/-- A write inside a coupling, from the leaf on (R147): the POIS row comes first. -/
def State.writePage (s : State) (w : Waiter) : State :=
  let key := leafKey w.cid w.page
  let s := s.thawWalk w.cid w.page
  if s.walkWaits w.cid w.page then s.waitPage w
  else
  let s := (s.lookup w.cid w.page).thawPage key
  let l := s.leaf key
  if (s.poisonAbove w.cid w.page).isSome || l.pois then (s.raise 0x2040 0 [(.carriage, w.cid)]).discardAs w
  else if l.busy then s.waitPage w
  else if l.res then s.writeResident w
  else if s.metaWaits then s.waitPage w
  else if l.depot then s.writeDepot w
  else if l.flc then
    if (s.flashCopy (s.pageName w.cid w.page)).lost then
      ((s.fetchFails key).raise 0x2040 0 [(.carriage, w.cid)]).discardAs w
    else s.fetchFor w (·.startFetch key)
  else s.writeUnallocated w

/-- A term end holds new writes of the carriage: its own, from t0 to t2, or the global one (R177, R179). -/
def State.termHolds (s : State) (cid : Nat) : Bool :=
  s.terms.runs.any (fun r => r.id = cid)
  || (s.terms.globalHold && (s.carriage cid).state.eligible && !s.terms.exp.any (fun x => x.source = cid))

/-- An accepted write takes effect: a damaged descriptor discards it (R129), an earlier write to the line goes first (R150). -/
def State.serveWrite (s : State) (w : Waiter) : State :=
  if (s.carriage w.cid).damaged then s.discardAs w
  else if s.behindOther w then s.waitPage w
  else s.writePage w

/-- A write received between t0 and t2 of a term end is held (R177, R179); the others take effect. -/
def State.takeWrite (s : State) (w : Waiter) : State :=
  if s.termHolds w.cid then s.wait { w with held := true } else s.serveWrite w

/-- A CXL.mem write (R146): coupling, read-only rule, the hold of a term end, and the page. -/
def State.hostWrite (s : State) (ld dpa : Nat) (d : Line) (bad : WriteMark) : State :=
  match s.reaching ld dpa with
  | none => s.uncoupledAccess ld dpa true
  | some c =>
    if c.rdonly && bad != .injected then s.readOnlyWrite ld dpa
    else s.takeWrite (s.accepted c dpa (some (d, bad)))

/-! ## Resuming (R145, R151) -/

/-- A held request takes effect as far as it can: one that no term end holds any longer. -/
def State.serveHeld (s : State) (w : Waiter) : State :=
  if w.held && s.termHolds w.cid then s.wait w
  else if w.data.isSome then s.serveWrite { w with held := false } else s.serveRead w false

/-- A held request is tried again; one whose link has gone down since completes without a response (R78). -/
def State.resumeOne (s : State) (w : Waiter) : State :=
  let t := s.serveHeld w
  if w.quiet then { t with out := { t.out with host := s.out.host, ide := s.out.ide } } else t

/-! ## Tickets (R576 to R579) -/

/-- The request of a ticket is still held. -/
def State.ticketWaits (s : State) (t : Ticket) : Bool :=
  let same := fun (w : Waiter) => w.ld = t.ld && w.dpa = t.dpa && w.data.isSome == (t.op == 1)
  s.work.waiters.any same

/-- FLAGS bit 4 and the poison returned with a completion of this request. -/
def Completion.poisons (ld dpa : Nat) : Completion → Bool
  | .poison l d _ => l = ld && d = dpa
  | .data _ _ _ _ => false | .zeros _ _ _ => false | .written _ _ _ => false | .retryStatus _ => false
  | .config _ _ => false | .refusedConfig _ => false | .gpfDone _ => false

/-- In BufferMode 1 a full buffer takes no more tickets (R579). -/
def State.ticketsFull (s : State) : Bool := s.get OD.ticketBufferMode = 1 && 32768 ≤ s.tickets.stored.length

/-- The DRAM channel that holds the page of a ticket: 0xFF if none. -/
def State.ticketChannel (s : State) (t : Ticket) : Nat :=
  if t.carriage = 0xFFFF || t.stamps.getD 4 0 = 0xFFFFFFFF then 0xFF
  else
    let l := s.leaf (leafKey t.carriage t.page)
    let e := s.depotEntry l.ptr
    if l.res then s.channelOf l.ptr else if l.depot && e.res then s.channelOf e.frame else 0xFF

/-- A ticket whose request has passed its last station is stored (R579); one still in flight when the buffer is full in stop mode
finds no room (DESIGN CHOICE, log 170). -/
def State.storeTicket (s : State) (t : Ticket) : State :=
  let n := s.get OD.ticketNextTicket
  let poison := t.op = 0 && s.out.host.any (Completion.poisons t.ld t.dpa)
  let t := { t with tseq := n, mc := s.ticketChannel t, flags := if poison then t.flags ||| 16 else t.flags }
  if s.ticketsFull then s
  else
    let st := (t :: s.tickets.stored).take 32768
    let s := { s with tickets := { s.tickets with stored := st } }.put OD.ticketNextTicket ((n + 1) % 2 ^ 32)
    (s.bump OD.ticketGeneration 1).when s.ticketsFull (·.note 0x8210)

/-- Tickets in flight whose request is no longer held: stored, or dropped with a read whose completion is discarded. -/
def State.settleTickets (s : State) (store : Bool) : State :=
  let done := s.tickets.inFlight.filter (fun t => !s.ticketWaits t)
  let s := { s with tickets := { s.tickets with inFlight := s.tickets.inFlight.filter s.ticketWaits } }
  if store then done.foldl State.storeTicket s else s

/-- The first held request is tried again; one that goes on waiting goes to the end of the list, with its number. -/
def State.resumeHead (s : State) : State :=
  match s.work.waiters with
  | [] => s
  | w :: ws => State.resumeOne { s with work := { s.work with waiters := ws } } w

/-- So many held requests are tried again; those still to come count as tracked (R99). -/
def State.resumeAll : Nat → State → State
  | 0, s => s
  | n + 1, s => State.resumeAll n s.resumeHead

/-- Once a port's accepted writes have completed, a GPF Phase 2 request that came before any fence is answered (R89). -/
def State.signalGpf (s : State) (p : Nat) : State :=
  let h := s.hostPort p
  if !h.gpf || s.work.waiters.any (fun w => w.onPort p && w.data.isSome) then s
  else
    let s := s.setHostPort p { h with gpf := false }
    { s with out := { s.out with host := .gpfDone p :: s.out.host } }

/-- Every held request is tried again, in order of receipt. -/
def State.resume (s : State) : State :=
  (((State.resumeAll s.work.waiters.length s).settleTickets true).signalGpf 0).signalGpf 1

/-- Read completions of a port are discarded; its held writes complete without a response (R69, R78). -/
def State.dropReads (s : State) (p : Nat) : State :=
  State.settleTickets { s with work := { s.work with
    waiters := (s.work.waiters.filter (fun w => w.data.isSome || w.ld / 16 ≠ p)).map
      (fun w => if w.ld / 16 = p then { w with quiet := true } else w) } } false

/-! ## The fence of one port (R105) -/

/-- A port is fenced by the Host prefect: the FREEZE form on that port, then its link goes down (R105). -/
def State.fencePort (s : State) (p : Nat) : State :=
  let s := (((s.changePanic p false).dropReads p).put (OD.hpFenceCause p) 3).put (OD.hpLinkState p) 4
  let s := { s with iso := { s.iso with ports := s.iso.ports ||| (1#2 <<< p) } }
  let s := s.setHostPort p { s.hostPort p with unverified := [], gpf := false }
  (s.putFlag (OD.hpMemAdmitted p) false).raise 0x1070 0 [(.port, p)]

/-- A double-bit error in a port's buffers poisons the transaction; a second within 1 s fences the port (R105). -/
def State.bufferFault (s : State) (p : Nat) : State :=
  let h := s.hostPort p
  let again := h.bufferError ≠ 0 && s.uptime + 1 ≤ h.bufferError + 1000000000
  let s := (s.setHostPort p { h with bufferError := s.uptime + 1 }).raise 0x1080 0 [(.port, p)]
  if again then s.fencePort p else s

end Sys2Proof.Machine
end

