-- ==== Sys2Proof/Machine/Rings.lean ====
section
/-! DEFINITION. The rings of the Loop Line (01, R22 to R27): links, the stops they join, and what reachability means. -/
namespace Sys2Proof.Machine

/-- The stop at which a link ends, and the one at which it begins (R22, R572). -/
def linkEnd (n : Nat) : Nat := if n < 8 then (n + 1) % 8 else (n - 8 + 7) % 8
def linkStart (n : Nat) : Nat := if n < 8 then n else n - 8

/-- The link of the same ring that leaves a stop, and of the other ring. -/
def nextLink (ringE : Bool) (stop : Nat) : Nat := if ringE then stop else stop + 8

def State.link (s : State) (n : Nat) : LinkState := mapGet (fun _ => LinkState.initial) s.loop.links n
def State.setLink (s : State) (n : Nat) (l : LinkState) : State :=
  { s with loop := { s.loop with links := mapSet (fun _ => LinkState.initial) s.loop.links n l } }

/-- A ring leads from one stop to another over links that have not failed; the number counts the links left to try (R27). -/
def State.ringLeads (s : State) (ringE : Bool) : Nat → Nat → Nat → Bool
  | 0, a, b => a = b
  | n + 1, a, b =>
    a = b || (let l := nextLink ringE a
              !(s.link l).failed && s.ringLeads ringE n (linkEnd l) b)

/-- Two stops are joined in one direction. -/
def State.joined (s : State) (a b : Nat) : Bool := s.ringLeads true 7 a b || s.ringLeads false 7 a b

/-- The Crypt, Memory, Flash and Map stops. -/
def neededStops : List Nat := [1, 2, 3, 4, 5, 7]

/-- A stop has lost a path to or from one of them. -/
def State.stopLost (s : State) (x : Nat) : Bool := neededStops.any (fun y => !s.joined x y || !s.joined y x)

/-- The region whose prefect answers for a stop. -/
def regionOfStop (n : Nat) : Region :=
  match n with
  | 0 => .host | 1 => .crypt | 2 => .memory | 3 => .memory | 4 => .flash | 5 => .flash | 7 => .map | _ => .signalBox

end Sys2Proof.Machine
end

