-- ==== Sys2Proof/Machine/Modes.lean ====
section
/-! DEFINITION. The mode machine (02) and what every transition brings with it: fences, the start of a save, the start
of BOOT, chip-level decisions and isolation (01), and the end of operations that a reset interrupts (R72). -/
namespace Sys2Proof.Machine

/-! ## Test perturbation (R60, R582) -/

/-- What perturbation adds returns to zero; `cause` is OD 0xB000.06. The entries OD 0xB010 + e keep what was written (DESIGN CHOICE,
log 172). -/
def State.clearPerturbation (s : State) (cause : Nat) : State :=
  if s.ctl.armed then
    ({ s with ctl := { s.ctl with armed := false } }.put OD.perturbLastClearCause cause).raise 0x8222 0 [(.u8, cause)]
  else s

/-- The unlock is revoked (R60). -/
def State.revokeUnlock (s : State) : State := { s with ctl := { s.ctl with unlocked := false } }

/-! ## Drills (R61, R224) -/

/-- Save-region slots are released for erase (R337). -/
def State.releaseSlots (s : State) (n : Nat) : State :=
  if n = 0 then s
  else { s with flash := { s.flash with slotsUsed := s.flash.slotsUsed - n, released := s.flash.released ++ [(n, s.uptime)] } }

/-- BATSEL is released (R244, R393). -/
def State.releaseBatsel (s : State) : State := { s with power := { s.power with batsel := 0 } }

/-- The slots of the drill area in use. -/
def State.drillArea (s : State) : Nat := match s.flush.drill with | some d => d.slots | none => 0

/-- The slots of the save region, in cyclic order, and the die of one: channel first, then die 1 of each channel (R337). -/
def State.slotCount (s : State) : Nat := Nat.max 1 (2 * s.flash.saveMax / 2 ^ 20)
def State.slotUsable (s : State) (p : Nat) : Bool :=
  let dies := Nat.max 1 (field s.flash.population 0 1)
  s.fchanServes (p % 64) && (s.fchan (p % 64)).dies.getLsbD (p / 64 % dies)

/-- The next `n` usable slots from a pointer on: those on dies and channels out of service are skipped (R337). The first number bounds
the slots looked at. -/
def State.slotsFrom (s : State) : Nat → Nat → Nat → List Nat
  | 0, _, _ => []
  | fuel + 1, p, n =>
    if n = 0 then []
    else if s.slotUsable p then p :: s.slotsFrom fuel ((p + 1) % s.slotCount) (n - 1)
    else s.slotsFrom fuel ((p + 1) % s.slotCount) n

/-- The next `n` usable slots from `p`; a turn of all dies without a usable one ends the search. -/
def State.nextSlots (s : State) (p n : Nat) : List Nat := s.slotsFrom ((n + 1) * 1024) (p % s.slotCount) n

/-- The rotation pointer advances past the slots used, over the slots in cyclic order, and is journalled (R337). -/
def State.advancePointer (s : State) (n : Nat) : State :=
  if n = 0 then s
  else
    let p := (((s.nextSlots (s.get OD.flashRotationPointer) n).getLast?.map (· + 1)).getD (s.get OD.flashRotationPointer)) % s.slotCount
    (s.put OD.flashRotationPointer p).journal 0x0013 0 (toBytes 4 p)

/-- A running drill is aborted or discarded, its area kept (R61, R223). -/
def State.stopDrill (s : State) (result : Nat) (keepBatsel : Bool) : State :=
  if s.flush.drill.isNone then s
  else
    let s := { s with flush := { s.flush with drill := none } }.put OD.drillDrillState 0
    let s := if s.power.batsel = 2 && !keepBatsel then s.releaseBatsel else s
    (s.keep OD.drillLastResult result).raise 0x2702 0 [(.u8, result)]

/-- A drill that no save ends: its area is released with it (R223, R224). -/
def State.abortDrill (s : State) (result : Nat) (keepBatsel : Bool) : State :=
  ((s.releaseSlots s.drillArea).advancePointer s.drillArea).stopDrill result keepBatsel

/-! ## Fences (R102, R104) -/

/-- Link training stops: a save's fence takes the links to electrical idle (R102). -/
def State.stopTraining (s : State) (p : Nat) : State :=
  (s.setHostPort p { s.hostPort p with training := false }).put (OD.hpLinkState p) 0

/-- A fence of both ports: form 1 begins a save, form 2 is FREEZE's, which leaves links up, and training ones in training. A port
that its prefect fenced stays so (R105). Event 0x1060 gives the form by these numbers, and the trigger as the cause code of R52 that
the transition carries (DESIGN CHOICE, log 156). -/
def State.fence (s : State) (form trigger : Nat) : State :=
  let one := fun (s : State) (p : Nat) =>
    if s.get (OD.hpFenceCause p) = 3 then s
    else
      let s := (s.put (OD.hpFenceCause p) form).setHostPort p { s.hostPort p with reqHeld := s.tracked p - s.writesTracked p }
      let l := s.get (OD.hpLinkState p)
      let s := if 2 ≤ l then s.put (OD.hpLinkState p) 4 else if l = 1 && form = 1 then s.stopTraining p else s
      s.changePanic p false
  ((one (one s 0) 1).raise 0x1060 0 [(.u8, form), (.u8, trigger)])

/-- The flush engine stops: a page claimed and not confirmed is dirty again, at the head of the age list (R202, R242). -/
def State.stopFlush (s : State) : State :=
  let back := fun (s : State) (c : Claim) =>
    let l := s.leaf c.key
    if l.fq then s.setLeaf c.key { l with fq := false, dirty := true } else s
  let cs := s.flush.claims
  let s := cs.foldl back s
  let kept := cs.filter (fun c => !s.flush.age.any (fun a => a.key = c.key) && (s.leaf c.key).dirty)
  { s with flush := { s.flush with
      age := kept.map (fun c => { key := c.key, time := c.time, retry := 0 }) ++ s.flush.age
      claims := [], checkpoint := none, nextImage := MapTables.empty }
           work := { s.work with changed := s.pendingLines } }

/-! ## Operations that a reset interrupts (R72) -/

/-- Event 0x8030 names the operation by its row of R72 and its carriage, slot or bank. -/
def State.abandoned (s : State) (row : Nat) (object : List (ItemKind × Nat)) : State :=
  s.raise 0x8030 0 ((.u8, row) :: object)

/-- A clean resident page that a recall filled is returned to the pool (R174). -/
def State.dropClean (cid : Nat) (s : State) (key : Nat) : State :=
  let l := s.leaf key
  if leafCid key = cid && l.res && !l.inResidue && l.flc then s.setLeaf key { l with res := false, ptr := 0 } else s

/-- The state of a carriage is changed. -/
def State.setCState (s : State) (cid : Nat) (c : CState) : State := s.setCarriage cid { s.carriage cid with state := c }

/-- A park, recall, term end or other operation of chapter 05 that a reset finds in progress (R72, R173 to R176, R193). -/
def State.abandonTerms (s : State) : State :=
  let t := s.terms
  let copying := t.parks.filter (fun p => !p.release)
  let s := copying.foldl (fun s p => (s.setCState p.id .active).abandoned 7 [(.carriage, p.id)]) s
  let s := t.recalls.foldl (fun s r =>
    let s := r.filled.foldl (State.dropClean r.id) s
    (s.setCState r.id .parked).abandoned 8 [(.carriage, r.id)]) s
  let s := t.queue.foldl (fun s q => s.abandoned (if q.park then 7 else 8) [(.carriage, q.id)]) s
  let ended := fun (s : State) (e : Nat × List Asker) =>
    (s.abandoned 9 [(.carriage, e.1)]).giveUp OD.termEndCarriageTerm e.2
  let s := (t.runs.map (fun r => (r.id, r.cmd.toList))).foldl ended s
  let s := (t.deferred.map (fun d => (d.1, d.2.toList))).foldl ended s
  let s := match t.globalDue with
    | some g => (s.abandoned 9 []).giveUp OD.termEndGlobalTerm g.2
    | none => s
  let s := t.reverts.foldl (fun s c => (s.abandoned 9 [(.carriage, c.1)]).giveUp OD.termRevert [c.2]) s
  let s := match t.admission with
    | some a => (s.putFlag OD.depotAdmitBusy false).abandoned 10 [(.carriage, a.id)]
    | none => s
  let s := match t.exp with
    | some e => s.abandoned 11 [(.carriage, e.source)]
    | none => s
  let s := match t.imp with
    | some i =>
      let s := ((s.setCState i.result .deleting).put OD.transferFailedRecord i.next).raise 0x2403 0 [(.u32, i.next), (.u8, 0)]
      s.abandoned 12 [(.carriage, i.result)]
    | none => s
  { s with
    terms := { t with admission := none, parks := t.parks.filter (fun p => p.release), recalls := [], queue := [], exp := none,
                      imp := none, runs := [], deferred := [], reverts := [], globalDue := none, globalHold := false }
    work := { s.work with resize := none } }

/-- A transfer that is interrupted goes on from the offset of the current progress record (R534, R549). -/
def State.rewindTransfer (s : State) : State :=
  if s.update.state == .receiving then
    match s.journaled 0x0041 0 with
    | some p => s.put OD.updateNextOffset (field p 4 4)
    | none => s
  else s

/-- What a reset does to the long operations in progress, whichever mode it leaves (R72). -/
def State.abandonAll (s : State) : State :=
  let s := s.abandonTerms.rewindTransfer
  if s.update.state == .applying then { s with update := { s.update with resumed := true } } else s

/-! ## Entering a mode (R52, R55) -/

/-- Leaving RESTORE, SERVICE or MAINTENANCE for SAVE, FREEZE, BOOT or VAULT is a reset of what runs there (R72). -/
def leavesWork (old new : Mode) : Bool :=
  (old == .restore || old == .service || old == .maintenance)
  && (new == .save || new == .freeze || new == .boot || new == .vault || new == .off)

/-- An interrupted apply goes on in SERVICE and MAINTENANCE (R549). -/
def State.resumeApply (s : State) : State :=
  if s.update.resumed && s.inMode [.service, .maintenance] then
    { s with update := { s.update with resumed := false, paused := false } }.raise 0x7111 0
      [(.u16, s.get OD.updateApplySector)]
  else s

/-- A frozen channel goes on to salvage initialisation in the modes that thaw it (R309). -/
def State.beginSalvage (s : State) (c : Nat) : State :=
  if s.inMode [.restore, .service, .maintenance] && (s.chan c).state == .frozen then
    s.setChan c { s.chan c with state := .salvageInit }
  else s

/-- After each start, the first period of R180 is measured from the entry into RESTORE or SERVICE, whichever comes first. -/
def State.startPeriod (s : State) (old m : Mode) : State :=
  if (m == .restore || m == .service) && (old == .boot || old == .save) then
    { s with terms := { s.terms with periodStart := s.uptime, period := s.get OD.termGlobalPeriod } }
  else s

/-- A transition: its record in OD 0x1100, event 0x8001, and what R60, R61, R72 and R545 attach to it. -/
def State.enterMode (s : State) (m : Mode) (cause : Nat) : State :=
  let old := s.ctl.mode
  let s := if m == .service then s else if m == .save then s.stopDrill 1 false else s.abortDrill 1 false
  let s := if old == .maintenance && m != .maintenance then
      ((s.clearPerturbation 2).revokeUnlock).put OD.pipesPlainKeyLoad 0 else s
  let s := if leavesWork old m then s.abandonAll else s
  let s := match s.update.serviceSince with
    | some t => { s with update := { s.update with trialTime := s.update.trialTime + (s.uptime - t), serviceSince := none } }
    | none => s
  let s := if m == .service then { s with update := { s.update with serviceSince := some s.uptime } } else s
  let s := { s with ctl := { s.ctl with mode := m } }
  let s := ((List.range 16).foldl State.beginSalvage s.resumeApply).startPeriod old m
  let s := ((s.put OD.modePreviousMode old.code).put OD.modeLastCause cause).put OD.modeLastTransition s.clock
  s.raise 0x8001 0 [(.u8, old.code), (.u8, m.code), (.u8, cause)]

/-! ## The Main die's reset -/

/-- Objects that keep their value across a start: persistent ones, those of the Signal Box, and those that their chapter
keeps since manufacture or across starts (R90, R91, R232, R278, R289, R316, R347, R348; OD 0x3700.02, OD 0x2000.0A and .0B). -/
def keptAcrossStart (k : Nat) : Bool :=
  let i := k / 256
  let sub := k % 256
  isPersistent k || heldInSignalBox i sub || i = 0x5200 || i = 0x5400 || i = 0x6400 || i = 0x1F00
  || k = OD.transferNextExportId || ((i = 0x2000 || i = 0x2100) && (sub = 0x0A || sub = 0x0B))
  || (0x4000 ≤ i && i ≤ 0x40F0 && (sub = 6 || sub = 0x0A || sub = 0x0E)) || (0x2400 ≤ i && i ≤ 0x241F && sub = 8) || (0x6100 ≤ i && i ≤ 0x613F && sub = 9) || (0xA000 ≤ i && i ≤ 0xA200)

/-- A DRAM channel after the Main die's reset: a frozen one is offline, its marks, corrections and state are kept in the
settings area (R299, R309). -/
def Chan.restart (c : Chan) : Chan :=
  let st := match c.state with
    | .absent => ChanState.absent | .inService => .absent | .offline => if c.thisStart then .absent else .offline
    | .frozen => .offline | .salvageInit => .offline | .thawing => .offline | .salvageSave => .offline
  { Chan.initial with state := st, returnPending := c.returnPending, failed := c.failed, corrections := c.corrections,
                      trainTime := c.trainTime, trainTemp := c.trainTemp, errors := c.errors, errorCount := c.errorCount, freezeCause := c.freezeCause,
                      freezeTime := c.freezeTime, record := c.record }

/-- A page as the flash tier's metadata gives it: only flash copies remain. -/
def Leaf.fromFlash (l : Leaf) : Leaf :=
  if l.depot || l.flc || l.pois then
    { l with res := false, dirty := false, busy := false, fq := false, acc := false, ptr := if l.depot then l.ptr else 0 }
  else Leaf.empty

/-- A depot entry as the flash tier's metadata gives it. -/
def DepotEntry.fromFlash (e : DepotEntry) : DepotEntry := { e with res := false, frame := 0, busy := false, acc := false }

/-- A map rewritten entry by entry, in canonical form. -/
def mapMap {α : Type} [DecidableEq α] (d : Nat → α) (f : Nat → α → α) (m : SMap α) : SMap α :=
  m.foldr (fun e r => if f e.1 e.2 = d e.1 then r else (e.1, f e.1 e.2) :: r) []

/-- The tables as loaded from the flash tier (R266, R268). -/
def MapTables.fromFlash (t : MapTables) : MapTables :=
  { t with
    leaves := mapMap (fun _ => Leaf.empty) (fun _ l => l.fromFlash) t.leaves
    depot := mapMap (fun _ => DepotEntry.empty) (fun _ e => e.fromFlash) t.depot
    snapshots := mapMap (fun _ => []) (fun _ rs => rs.filter (fun r => match r.kind with | .frame _ => false | _ => true)) t.snapshots }

/-! ## The residue stream (R38, R57, R242, R246, R257, R259) -/

/-- A page whose content the stream cannot give (R38, R257). -/
def State.failedPage (s : State) (key : Nat) : VaultPage :=
  let name := s.pageName (leafCid key) (leafPage key)
  { state := 2, mask := ~~~0#64, content := flashCipher name Image.zero, sealed := false, pageSeal := 0 }

/-- What the residue stream holds of a page. -/
def State.vaultPage (s : State) (key : Nat) : VaultPage :=
  let l := s.leaf key
  let name := s.pageName (leafCid key) (leafPage key)
  let x := s.chan (s.channelOf l.ptr)
  let im := s.residentImage key
  if l.pois || !l.res || (x.state == .salvageSave && !x.initialised) || im.bad = ~~~0#64 then
    s.failedPage key
  else
    let on := (s.carriage (leafCid key)).sealOn
    { state := if im.bad = 0 then 0 else 1, mask := im.bad, content := flashCipher name im, sealed := on,
      pageSeal := if on then im.pageSeal else 0 }

/-- The remaining paths reach a page (R57): from its Memory stop to the Crypt stop, through a pipe, and on to a Flash stop. A page that they
do not reach is left out of the stream, and counts as unsaved (DEDUCED, log 177). -/
def State.streams (s : State) (key : Nat) : Bool :=
  let l := s.leaf key
  !l.res || l.pois
    || (s.joined (if s.channelOf l.ptr < 8 then 2 else 3) 1 && 0 < s.pipesUsable && (s.joined 1 4 || s.joined 1 5))

/-- A vault by its SEALSEQ. -/
def findVault (seq : Nat) : List Vault → Option Vault
  | [] => none
  | v :: vs => if v.seq = seq then some v else findVault seq vs

/-- A vault changed. -/
def updateVault (seq : Nat) (f : Vault → Vault) : List Vault → List Vault
  | [] => []
  | v :: vs => if v.seq = seq then f v :: vs else v :: updateVault seq f vs

/-- The vault of the save in progress changes. -/
def State.changeVault (s : State) (seq : Nat) (f : Vault → Vault) : State :=
  { s with saves := { s.saves with vaults := updateVault seq f s.saves.vaults } }

/-- Segments of a save are programmed into the next usable slots, past a drill area that the commit fence found (R337). From then on the slots
hold a part of a vault (R247). -/
def State.programSegments (s : State) (r : SaveRun) (n : Nat) : State :=
  match findVault r.seq s.saves.vaults with
  | none => s
  | some v =>
    let new := (s.nextSlots (s.get OD.flashRotationPointer) (r.drillSlots + v.segments + n)).drop (r.drillSlots + v.segments)
    State.changeVault { s with flash := { s.flash with slotsUsed := s.flash.slotsUsed + n } } r.seq
      (fun v => { v with segments := v.segments + n, slots := v.slots ++ new })

/-- Pages are streamed: their entries and contents lie in the vault, in page segments of 252. -/
def State.streamPages (s : State) (r : SaveRun) (page : Nat → VaultPage) (keys : List Nat) : State :=
  let pages := keys.foldl (fun m k => mapSet noEntry m k (some (page k))) ([] : SMap (Option VaultPage))
  let pages : SMap VaultPage := pages.filterMap (fun e => e.2.map (fun p => (e.1, p)))
  (s.programSegments r ((keys.length + 251) / 252)).changeVault r.seq (fun v => { v with
    stream := keys, pages := pages, saved := pages.countP (fun e => e.2.state = 0), poisoned := pages.countP (fun e => e.2.state ≠ 0)
    unsaved := r.list.length - keys.length })

/-- A save that is cut while its residue stream runs has programmed the first segments of it (R245, R266): how many, the spec does not
say, a free value (log 177). -/
def State.cutStream (s : State) : State :=
  match s.saves.run with
  | none => s
  | some r =>
    if r.step ≠ 5 then s
    else
      let keys := r.list.filter s.streams
      let n := (Config.freeBits 32 s.free).toNat % ((keys.length + 251) / 252 + 1)
      s.draw.streamPages r s.vaultPage (keys.take (252 * n))

/-- The Main die is reset or loses its supply: what it holds outside flash is gone. -/
def State.mainDieReset (s : State) : State :=
  let s := s.cutStream
  let s := s.releaseSlots (match s.saves.run with | some r => r.drillSlots | none => 0)
  let s := s.interrupt (fun k => porterOf k [] < 8)
  { s with
    od := s.od.filter (fun e => keptAcrossStart e.1)
    zop := { s.zop with sessions := s.zop.sessions.filter (fun x => !byPorters x.src), mixed := [],
                           eids := mapErase (mapErase s.zop.eids 0) 1 }
    out := { s.out with mailbox := none, host := [], msix := [], fm := [], ide := 0 }
    cores := { s.cores with porters := [], digestsKept := false, deferredPorters := [] }
    log := { s.log with queue := s.log.queue.filter (·.ring), records := [], cxl := [] }
    perf := { counters := [], snapshot := [], samples := [], msixTime := 0 }
    tickets := { s.tickets with inFlight := [], stored := [] }
    loop := { links := [], delivered := [], isolated := 0, bridgeReplays := 0, bridgeFailed := false }
    iso := { ports := 0, mapBanks := 0 }
    tables := MapTables.empty
    work := MapWork.initial
    terms := { Terms.initial with parks := s.terms.parks, retag := s.terms.retag,
                                  detached := s.terms.detached.map (fun d => (d.1, d.2.filter (fun r => !r.kind.isFrame))),
                                  residuals := s.terms.residuals }
    flush := { Flush.initial with image := s.flush.image, drillPopulation := s.flush.drillPopulation,
                                  drillRetry := s.flush.drillRetry }
    saves := { s.saves with run := none, restore := { Restore.initial with outcomes := s.saves.restore.outcomes, began := s.saves.restore.began } }
    dram := { s.dram with chans := mapMap (fun _ => Chan.initial) (fun _ c => c.restart) s.dram.chans, frames := [], panic := 0 }
    flash := { s.flash with stripes := [], superseded := [] }
    crypt := { s.crypt with keyed := false, keyTable := [], sealWaits := [], testing := 0 }
    host := HostRegion.initial }

/-! ## Starting BOOT (R55, R62) -/

/-- The report of save step t7 no longer stands for the last run (R565). -/
def State.dropReport (s : State) : State := { s with log := { s.log with seqReport := none } }

/-- BOOT t0: the Main die is released when RESET_N is high; held while it is low (R55). -/
def State.enterBoot (s : State) (cause : Nat) : State :=
  let loss := (s.ctl.mode == .off && s.get OD.modeLastCause = 0x0F) || (s.ctl.mode == .boot && s.boot.afterLoss)
  let s := s.when (s.ctl.mode == .boot) State.dropReport
  let s := (s.enterMode .boot cause).mainDieReset
  let s := s.put OD.qosThrottleState 2
  let low := !s.pins.resetN
  { s with
    boot := { t0 := s.uptime, reached := if low then 0 else 1, held := if s.armedPower then some 1 else none, retryHold := false,
              storedTraining := false, temperature := 0, afterLoss := loss, returned := cause = 0x02 }
    ctl := { s.ctl with resetPending := low }
    dram := { s.dram with population := s.blob OD.dramPopulation }
    flash := { s.flash with population := s.blob OD.flashPopulation, dieProfile := s.blob OD.flashDieProfile }
    saves := { s.saves with restore := { s.saves.restore with began := s.uptime } } }

/-- VAULT: the Main die is held in reset or unpowered; BATSEL is released (R244), and a RESET_N that waited is past. -/
def State.enterVault (s : State) (cause : Nat) : State :=
  let s := (s.enterMode .vault cause).mainDieReset.releaseBatsel
  { s with ctl := { s.ctl with resetPending := false } }

/-- OFF. -/
def State.enterOff (s : State) (cause : Nat) : State := (s.enterMode .off cause).mainDieReset.releaseBatsel

/-! ## Starting a save (R241, R255) -/

/-- A vault that has been begun: nothing of it is in flash. -/
def Vault.begun (seq parent chain commitTime cause mode : Nat) : Vault :=
  { seq := seq, parent := parent, chain := chain, commitTime := commitTime, sealTime := 0, cause := cause, mode := mode,
    flags := 0, residue := 0, saved := 0, poisoned := 0, unsaved := 0, metaBytes := 0, segments := 0, frozen := 0,
    flashOut := 0, globalTerm := 0, energy := 0, header := false, metaMark := false, copy1 := false, copy2 := false,
    spare := false, recorded := false, completed := false, dirtyMap := [], plan := [], tables := MapTables.empty,
    metaLines := 0, lost := [], lostNodes := [], lostCarriages := [], lostLines := [], records := [], list := [], stream := [], pages := [],
    log := [], locations := [], objects := [], sealPage := [], slots := [], seals := [], sealsUsed := [] }

/-- The three seal pages of a save (R254), as flash-map entries with VALID and VAULT (R328): on channels in service that take turns with
the saves, in die 0's first block of the save region's overhead, at pages that take turns with the saves, too: the spec names the overhead
alone (DESIGN CHOICE, log 167). -/
def State.sealPlaces (s : State) (seq : Nat) : List Nat :=
  let chans := (List.range 64).filter s.fchanServes
  let planes := Nat.max 1 (field s.flash.dieProfile 7 1)
  let pages := Nat.max 1 (field s.flash.dieProfile 16 2 / Nat.max 1 (field s.flash.dieProfile 6 1))
  let block := field s.flash.dieProfile 18 2 - 1
  [0, 1, 2].map (fun i =>
    2 ^ 63 + 2 ^ 62 + chans.getD ((3 * seq + i) % Nat.max 1 chans.length) 0 * 2 ^ 52 + (planes - 1) % 8 * 2 ^ 45
      + block % 2 ^ 14 * 2 ^ 31 + seq % pages % 2 ^ 13 * 2 ^ 18)

/-- The vault record (R255, R518). -/
def State.vaultRecordBytes (s : State) (seq parent : Nat) (seals : List Nat) : List Byte :=
  toBytes 8 seq ++ toBytes 8 parent ++ seals.flatMap (toBytes 8) ++ toBytes 4 (s.get OD.flashRotationPointer)

/-- The translation tables are in DRAM: BOOT, or the translation-metadata phase of a restore, has loaded them. -/
def State.tablesLoaded (s : State) : Bool :=
  let r := s.saves.restore
  if r.active then r.metaDone || r.warm else s.flush.planned

/-- The vault a save chains to: the one whose restore has not completed (R267, R274), or not begun (R67; DEDUCED, log 177). -/
def State.parentVault (s : State) : Nat :=
  if s.saves.restore.active then s.saves.restore.seq
  else if s.tablesLoaded || !s.vaultPending then 0
  else match s.saves.vaults with | v :: _ => v.seq | [] => 0

/-- A save begins (R102, R241 t0 to t2): the fence, the flush engine stopped, the vault record journalled, and BATSEL
driven when Commit started it (R57). -/
def State.startSave (s : State) (kind : SaveKind) (cause : Nat) : State :=
  let old := s.ctl.mode
  let parent := s.parentVault
  let chain := match findVault parent s.saves.vaults with | some v => v.chain + 1 | none => 1
  let tooMuch := s.get OD.plannerEnergyBound < s.residue
  let restore := s.saves.restore
  let area := s.drillArea
  let s := (s.clearPerturbation 4).fence 1 cause
  let s := s.stopFlush.enterMode .save cause
  let seq := s.saves.lastSeq + 1
  let run : SaveRun :=
    { kind := kind, freezeForm := old == .freeze, cause := cause, mode := old, t0 := s.clock, step := 2, seq := seq,
      parent := parent, chain := chain, residue := 0, list := [], metaBytes := 0, resetLatched := false,
      watchdogLatched := false, pwrret := false, returned := false, latched := false, decision := false, energyOver := tooMuch,
      salvage := false, frozen := 0, reported := 0,
      noted := false, restoring := false, sealed := false, powered := false, drillSlots := area }
  let seals := s.sealPlaces seq
  let v := { Vault.begun seq parent chain s.clock cause old.code with recorded := s.eflashReady, seals := seals }
  let s := s.journal 0x0001 0 (s.vaultRecordBytes seq parent seals)
  let s := { s with saves := { s.saves with run := some run, vaults := v :: s.saves.vaults, lastSeq := seq, restore := restore } }
  if kind == .commit then
    { s with power := { s.power with batsel := 1, batselSince := s.uptime, confirmed := false } }
  else s

/-- FREEZE (R104): the fence in FREEZE's form; writes already received complete. -/
def State.enterFreeze (s : State) (cause : Nat) : State :=
  let s := if s.inMode [.restore, .service, .maintenance] then s.fence 2 cause else s
  (s.stopFlush.enterMode .freeze cause).resume

/-! ## Isolation and chip-level decisions (R15 to R18) -/

/-- A channel frozen and not yet offline, in whichever step of its salvage (R309). -/
def ChanState.countsFrozen : ChanState → Bool
  | .frozen | .salvageInit | .thawing | .salvageSave => true
  | .absent | .inService | .offline => false

/-- The save path is usable (R18). -/
def State.savePathUsable (s : State) : Bool :=
  neededStops.all (fun n => !s.stopLost n)
  && 24 ≤ s.pipesUsable
  && s.tables.leaves.all (fun e => !e.2.inResidue || !e.2.res ||
      (let c := s.chan (s.channelOf e.2.ptr); c.state == .inService || (c.state.countsFrozen && !c.record.isEmpty)))
  && 32 ≤ s.channelsInService
  && s.residue ≤ s.saveFree

/-- A chip-level decision (R17); in a mode whose row lists none the event is counted (R12). Event 0x8122 gives the decision as 0 (no change)
or as the number of the mode decided on (DESIGN CHOICE, log 176). -/
def State.decide (s : State) : State :=
  let taken := fun (s : State) (d : Nat) => s.raise 0x8122 0 [(.u8, d), (.u8, s.ctl.mode.code)]
  let s := match s.flush.drill with
    | some d => { s with flush := { s.flush with drill := some { d with spoiled := true } } }
    | none => s
  match s.ctl.mode with
  | .save =>
    let s := taken s 0
    match s.saves.run with
    | some r => { s with saves := { s.saves with run := some { r with decision := true } } }
    | none => s
  | .boot => (taken s 6).enterFreeze 0x0A
  | .restore => (taken s 6).enterFreeze 0x0A
  | .service => if s.savePathUsable then (taken s 4).startSave .decision 0x0A else (taken s 6).enterFreeze 0x0A
  | .maintenance => if s.savePathUsable then (taken s 4).startSave .decision 0x0A else (taken s 6).enterFreeze 0x0A
  | .off => s.unlist
  | .vault => s.unlist
  | .freeze => s.unlist

/-- A prefect's request for a decision, reported (R16) with the number of the region in the order of R16's table (DESIGN CHOICE, log 176). -/
def State.requestDecision (s : State) (r : Region) : State :=
  let n := match r with | .host => 1 | .map => 2 | .memory => 3 | .flash => 4 | .crypt => 5 | .signalBox => 6
  (s.raise 0x8121 0 [(.u8, n)]).decide

/-- DRAM channels of the population that are frozen or offline. -/
def State.chansOut (s : State) : Nat :=
  (List.range 16).countP (fun c => s.isPopulated c && !(s.chan c).state == .inService && !(s.chan c).state == .absent)

/-- Flash channels out of service. -/
def State.fchansOut (s : State) : Nat := (List.range 64).countP (fun c => (s.fchan c).state != 0)

/-- The isolations of a region exceed its budget (R16). -/
def State.overBudget (s : State) (r : Region) : Bool :=
  match r with
  | .host => popcount 2 s.iso.ports.toNat > 1
  | .map => popcount 64 s.work.badBanks.toNat > 8
  | .memory => 4 * s.chansOut > s.populated
  | .flash => s.fchansOut > 8
  | .crypt => s.pipesUsable < 24
  | .signalBox => true

/-- A prefect has isolated a block (R15, R16): beyond the budget a decision is asked for, and the planner recomputes in any case (R218).
`block` names the block, `remaining` is the capacity left. -/
def State.isolated (s : State) (r : Region) (block remaining : Nat) : State :=
  let s := match s.flush.drill with
    | some d => { s with flush := { s.flush with drill := some { d with spoiled := true } } }
    | none => s
  (if s.overBudget r then s.requestDecision r else s.raise 0x8120 remaining [(.u8, block)]).replan

/-- The blocks of a region that are isolated now and were not before, by their numbers in the region. -/
def newBits {w : Nat} (now old : BitVec w) : List Nat := (List.range w).filter (fun i => now.getLsbD i && !old.getLsbD i)

/-- Isolations that a host path or a pipe check has made since `old` are reported by their prefects, each with its block: a port, a bank
of the translation cache, a pipe. -/
def State.reportSince (s old : State) : State :=
  let s := (newBits s.iso.ports old.iso.ports).foldl (fun s b => s.isolated .host b (2 - popcount 2 s.iso.ports.toNat)) s
  let s := (newBits s.work.badBanks old.work.badBanks).foldl
    (fun s b => s.isolated .map b (64 - popcount 64 s.work.badBanks.toNat)) s
  (newBits s.crypt.quarantined old.crypt.quarantined).foldl (fun s b => s.isolated .crypt b s.pipesUsable) s

/-- The mode permits a flush (R49). -/
def State.flushMode (s : State) : Bool := s.inMode [.restore, .service, .maintenance]

end Sys2Proof.Machine
end

