-- ==== Sys2Proof/Machine/Counters.lean ====
section
/-! DEFINITION. Counters, tracer tickets and test perturbation as commands act on them (16, R572 to R587). -/
namespace Sys2Proof.Machine

/-- A counter by number. -/
def State.counter (s : State) (n : Nat) : Counter := mapGet (fun _ => Counter.initial) s.perf.counters n
def State.setCounter (s : State) (n : Nat) (c : Counter) : State :=
  { s with perf := { s.perf with counters := mapSet (fun _ => Counter.initial) s.perf.counters n c } }

/-- The instances of a source (R573): none for a source that does not exist; 0 where there is no qualifier; event codes take
any. -/
def sourceInstances (src : Nat) : Option Nat :=
  if src = 0 then some 0
  else if 0x1000 ≤ src && src ≤ 0x8FFF then some 0xFFFF
  else if src = 0xF001 || src = 0xF002 || src = 0xF003 || src = 0xF090 || src = 0xF091 then some 2
  else if src = 0xF010 || src = 0xF011 || src = 0xF012 || src = 0xF020 || src = 0xF021 || src = 0xF050 || src = 0xF051
    || src = 0xF080 || src = 0xF0FF then some 0
  else if 0xF030 ≤ src && src ≤ 0xF033 then some 16
  else if 0xF040 ≤ src && src ≤ 0xF043 then some 64
  else if src = 0xF060 || src = 0xF061 then some 40
  else if src = 0xF070 then some 8
  else none

/-- A source with a qualifier may be counted. -/
def sourceOk (src qual : Nat) : Bool :=
  match sourceInstances src with
  | none => false
  | some n => qual = 0xFFFF || src = 0 || qual < n

/-- COUNTER_SOURCE_WRITE (R573): the counter at the session's Select; sub 2 is Source, 3 Qualifier. -/
def counterSourceAct (q : Req) (sub value : Nat) : Act := fun s =>
  let n := s.sel q.src OD.counterSelect
  let c := s.counter n
  let new := if sub = 2 then { c with source := value, value := 0 } else { c with qualifier := value, value := 0 }
  if n < 18 then refuse s OD.counterLastResult 1
  else if sourceOk new.source new.qualifier then okResult (s.setCounter n new) OD.counterLastResult
  else fail s stRange

def execCounterSourceWrite (q : Req) (sub : BitVec 8) (value : BitVec 16) (s : State) : Out :=
  runReq (.counterSourceWrite q sub value) q opWrite 0x9400 (if sub = 3#8 then 3 else 2) (toBytes 2 value.toNat)
    (counterSourceAct q (if sub = 3#8 then 3 else 2) value.toNat) s

/-- The sample of an overflow, and its message (R574). One within 10 µs of the last message is coalesced into it (DEDUCED, log 195). -/
def State.sampleOverflow (s : State) (n overflows : Nat) : State :=
  let x : Sample := { time := s.clock, counter := n, overflows := overflows }
  let lost := 256 ≤ s.perf.samples.length
  let s := { s with perf := { s.perf with samples := (if lost then s.perf.samples.drop 1 else s.perf.samples) ++ [x] } }
  let s := s.when lost (·.bump OD.counterSamplesLost 1)
  let ld := s.get OD.counterSampleLd
  if ld = 0xFF || (s.perf.msixTime ≠ 0 && s.uptime + 1 < s.perf.msixTime + 10000) then s
  else { s with out := { s.out with msix := (ld, n) :: s.out.msix }, perf := { s.perf with msixTime := s.uptime + 1 } }

/-- COUNTER_OVERFLOW (R574): a counter past 2^48 - 1 loads Preset. -/
def execCounterOverflow (n : Fin 1024) (s : State) : Out :=
  let c := s.counter n.val
  if c.value < 2 ^ 48 then .next s
  else
    let c := { c with value := c.preset, overflows := (c.overflows + 1) % 2 ^ 32 }
    let s := s.setCounter n.val c
    if c.sample then .next (s.sampleOverflow n.val c.overflows) else .next s

/-- COUNTER_SNAPSHOT (R575). -/
def execCounterSnapshot (q : Req) (s : State) : Out :=
  runCmd (.counterSnapshot q) q OD.counterSnapshot [] (fun s =>
    let vals := (s.perf.counters.map (fun e => (e.1, e.2.value % 2 ^ 48))).filter (fun e => e.2 ≠ 0)
    okResult ({ s with perf := { s.perf with snapshot := vals } }.put OD.counterSnapshotTime s.clock) OD.counterLastResult) s

/-- The seeds of both ports' LFSRs (R576). -/
def State.loadSeeds (s : State) : State :=
  let x := BitVec.ofNat 32 (s.get OD.ticketSeed)
  { s with tickets := { s.tickets with lfsr0 := x, lfsr1 := ~~~x } }

/-- TICKET_SEED_WRITE (R576). -/
def execTicketSeedWrite (q : Req) (seed : BitVec 32) (s : State) : Out :=
  runReq (.ticketSeedWrite q seed) q opWrite 0x9800 3 (toBytes 4 seed.toNat) (fun s =>
    if seed = 0 || seed = 0xFFFFFFFF#32 then fail s stRange
    else ok (s.keep OD.ticketSeed seed.toNat).loadSeeds) s

/-- The ticket buffer is cleared; TSEQ restarts from 1 (R579). -/
def State.clearTickets (s : State) : State :=
  ({ s with tickets := { s.tickets with stored := [] } }.put OD.ticketNextTicket 1).bump OD.ticketGeneration 1

/-- TICKET_CLEAR (R579). -/
def execTicketClear (q : Req) (s : State) : Out := runCmd (.ticketClear q) q OD.ticketClear [] (fun s => ok s.clearTickets) s

/-! ## Test perturbation (R581, R582) -/

/-- A refused Unlock. -/
def refuseUnlock (s : State) (r : Nat) : State × Answer := refuse (s.raise 0x8223 0 [(.u8, r)]) OD.perturbLastResult r

/-- PERTURBATION_UNLOCK (R581). -/
def execPerturbationUnlock (q : Req) (unit : BitVec 64) (word : BitVec 32) (s : State) : Out :=
  runCmd (.perturbationUnlock q unit word) q OD.perturbUnlock (toBytes 8 unit.toNat ++ toBytes 4 word.toNat) (fun s =>
    if s.level q.src < 3 then fail (s.raise 0x8223 0 [(.u8, stAccess)]) stAccess
    else if s.ctl.mode != .maintenance then refuseUnlock s 1
    else if unit.toNat ≠ s.get OD.identityUnitId || word ≠ 0x54455354#32 then refuseUnlock s 2
    else okResult ({ s with ctl := { s.ctl with unlocked := true } }.note 0x8220) OD.perturbLastResult) s

/-- The entries that Arm applies, as a mask. -/
def State.armedEntries (s : State) : Nat :=
  ((List.range 16).map (fun e => if s.get (OD.perturbEntryKind e) = 0 then 0 else 2 ^ e)).sum

/-- PERTURBATION_ARM (R582). -/
def execPerturbationArm (q : Req) (s : State) : Out :=
  runCmd (.perturbationArm q) q OD.perturbArm [] (fun s =>
    if s.ctl.unlocked && s.ctl.mode == .maintenance then
      okResult ({ s with ctl := { s.ctl with armed := true } }.raise 0x8221 0 [(.u16, s.armedEntries)]) OD.perturbLastResult
    else refuse s OD.perturbLastResult 3) s

/-- PERTURBATION_DISARM (R582). -/
def execPerturbationDisarm (q : Req) (s : State) : Out :=
  runCmd (.perturbationDisarm q) q OD.perturbDisarm [] (fun s =>
    if s.ctl.unlocked then okResult (s.clearPerturbation 1) OD.perturbLastResult
    else refuse s OD.perturbLastResult 3) s

end Sys2Proof.Machine
end

