-- ==== Sys2Proof/Machine/Notices.lean ====
section
/-! DEFINITION. The Host Notify queue of the two-wire port (13, R475): which events are queued, and how. -/
namespace Sys2Proof.Machine

/-- The most messages that wait (R475). -/
def noticeLimit : Nat := 16

/-- Events queued whatever MinSeverity is, as soon as they are raised (R475). -/
def noticeAlways (code : Nat) : Bool := code = 0x2801 || code = 0x2802 || code = 0x2803

/-- Events placed at the head of the queue (R475). -/
def noticeFirst (code : Nat) : Bool := code = 0x2801 || code = 0x2803

/-- Events never queued (R475). -/
def noticeNever (code : Nat) : Bool := 0x6101 ≤ code && code ≤ 0x6106

/-- The queue without the oldest message of strictly lower severity, by its arrival; none when there is no such message. -/
def dropLower (sev : Nat) (q : List Notice) : Option (List Notice) :=
  match q.filter (fun n => n.severity < sev) with
  | [] => none
  | n :: ns =>
    let first := (ns.map (·.order)).foldl min n.order
    some (q.filter (fun m => m.order ≠ first))

/-- A message joins the queue: at its head or at its end. -/
def State.placeNotice (s : State) (n : Notice) (atHead : Bool) (q : List Notice) : State :=
  if atHead then { s with bus := { s.bus with queue := n :: q, arrivals := n.order + 1, waiting := false } }
  else { s with bus := { s.bus with queue := q ++ [n], arrivals := n.order + 1 } }

/-- A message is dropped: LastResult and event 0x6102 give the cause (R475, R477). -/
def State.noticeLost (s : State) (code cause : Nat) : State :=
  (((s.put OD.notifyLastResult cause).put OD.notifyLastCode code).bump OD.notifyDropped 1).raise 0x6102 0
    [(.u16, code), (.u8, cause)]

/-- A message is queued by the rules of R475. -/
def State.queueMessage (s : State) (code severity : Nat) (atHead : Bool) : State :=
  let n : Notice := { code := code, severity := severity, attempts := 0, order := s.bus.arrivals }
  if s.bus.queue.any (fun m => m.code = code) then s
  else if s.bus.queue.length < noticeLimit then s.placeNotice n atHead s.bus.queue
  else match dropLower severity s.bus.queue with
  | some q => s.placeNotice n atHead q
  | none => s.noticeLost code 4

/-- One of the events that are queued at once (R237, R475). -/
def State.notifyNow (s : State) (code : Nat) : State :=
  if s.flag OD.notifyEnable then s.queueMessage code (severityOf code) (noticeFirst code) else s

/-- Every other event, when its occurrence is recorded (R475). -/
def State.notifyRecorded (s : State) (code : Nat) : State :=
  if s.flag OD.notifyEnable && !noticeAlways code && !noticeNever code && s.get OD.notifyMinSeverity ≤ severityOf code then
    s.queueMessage code (severityOf code) false
  else s

end Sys2Proof.Machine
end

