-- ==== Sys2Proof/Machine/Power.lean ====
section
/-! DEFINITION. Power sensing (07, R235 to R240; 11, R387 to R394; 17, R591 to R599): Warn, Commit, Release, the power-return
event, BATSEL, and the supplies of the Signal Box and of the Main die. -/
namespace Sys2Proof.Machine

/-! ## Thresholds (R387) -/

/-- The DAC code of a threshold (R387): half rounds up. -/
def dacCode (level ratio : Nat) : Nat :=
  if ratio = 0 then 0 else (2 * level * 1000 * 1024 + ratio * 1500) / (2 * ratio * 1500)

/-- The effective level of a code in mV, rounded to the nearest (R387). -/
def effectiveLevel (level ratio : Nat) : Nat := (2 * dacCode level ratio * 1500 * ratio + 1024 * 1000) / (2 * 1024 * 1000)

/-- A rail reading is at or above the effective level (R388), without rounding it. -/
def railReaches (rail level ratio : Nat) : Bool := dacCode level ratio * 1500 * ratio ≤ rail * 1024 * 1000

/-- The Release comparator's output (R388): after a trip it returns only 5 mV above its threshold at the pin. -/
def State.releaseOutput (s : State) (rail : Nat) : Bool :=
  let code := dacCode (s.get OD.thresholdReleaseLevel) (s.get OD.railDividerRatio)
  (code * 1500 + if s.power.aboveRelease then 0 else 5 * 1024) * s.get OD.railDividerRatio ≤ rail * 1024 * 1000

/-! ## What power is present (R55) -/

/-- Power is present: PFSENSE at or above ReleaseLevel, PWRFAIL_N high, the Main die supplies in regulation. -/
def State.powerPresent (s : State) : Bool := s.power.aboveRelease && s.pins.pwrfailN && s.pins.mdPwrgd

/-- The power state changes. -/
def State.setPower (s : State) (p : PowerState) : State := { s with power := { s.power with state := p } }

/-- The Release hold stops; its count restarts from 0 (R391). -/
def State.stopHold (s : State) : State := { s with power := { s.power with holdSince := none } }

/-- PFSENSE is below the effective ReleaseLevel (R391). -/
def State.railFell (s : State) : State := { s.stopHold with power := { s.stopHold.power with aboveRelease := false } }

/-- The Signal Box evaluates the comparators and PWRFAIL_N (R235). -/
def State.watchesPower (s : State) : Bool := !s.ctl.stopped && !s.inMode [.off, .vault]

/-! ## Warn (R236, R237) -/

/-- The Warn comparator output clears test perturbation and revokes the unlock (R55, R60). -/
def State.warnMaintenance (s : State) : State :=
  if s.ctl.mode == .maintenance then (s.clearPerturbation 3).revokeUnlock else s

/-- The arming actions of R237. -/
def State.arm (s : State) : State :=
  let s := ((s.setPower .armed).note 0x2801).notifyNow 0x2801
  let s := s.abortDrill 2 true
  let s := s.warnMaintenance
  let s := if s.ctl.mode == .boot then { s with boot := { s.boot with held := some s.boot.reached } } else s
  (s.note 0x2606).replan

/-- A signal change in the Committed state (R236): counted, with event 0x2804 once in a save. -/
def State.countSignal (s : State) : State :=
  let s := s.bump OD.vaultSignalsInSave 1
  match s.saves.run with
  | some r => if r.noted then s else { s with saves := { s.saves with run := some { r with noted := true } } }.note 0x2804
  | none => s

/-- WARN (R237). -/
def execWarn (s : State) : Out :=
  if !s.watchesPower then .next s
  else
    let s := s.railFell
    match s.power.state with
    | .normal => .next s.arm
    | .armed => .next (s.warnMaintenance.note 0x2805)
    | .committed => .next s.countSignal

/-! ## Commit (R236, R239, R240) -/

/-- The cause of a Commit (R53). -/
def commitCause : CommitSource → Nat
  | .pfsense => 0x07
  | .both => 0x07
  | .pwrfail => 0x08

/-- The pins as a Commit leaves them. -/
def State.commitPins (s : State) (c : CommitSource) : State :=
  match c with
  | .pfsense => s.railFell
  | .pwrfail => { s.stopHold with pins := { s.pins with pwrfailN := false } }
  | .both => { s.railFell with pins := { s.pins with pwrfailN := false } }

/-- Power is lost again on the save-then-restore path: VAULT with the seal intact (R59), once the completion record has ended
(DEDUCED, log 175). -/
def State.leaveRestoring (s : State) (r : SaveRun) : State :=
  if r.step = 9 then (s.enterVault 0x0B).setPower .normal
  else { s with saves := { s.saves with run := some { r with restoring := false, powered := false } } }

/-- Commit during a save that it did not start (R55, R57, R244): BATSEL is driven, a latched reset discarded. -/
def State.commitInSave (s : State) (r : SaveRun) : State :=
  if r.restoring then s.leaveRestoring r
  else
    let r := { r with kind := .commit, pwrret := false, resetLatched := false, watchdogLatched := false }
    { s with saves := { s.saves with run := some r }
             power := { s.power with batsel := 1, batselSince := s.uptime, confirmed := false } }

/-- A Commit that a mode without host data ends with: VAULT when a sealed vault is pending, else OFF (R55). -/
def State.commitInBoot (s : State) (cause : Nat) : State :=
  (if s.vaultPending then s.enterVault cause else s.enterOff 0x0F).setPower .normal

/-- The save-then-restore path is being taken. -/
def State.restoringPath (s : State) : Bool :=
  s.ctl.mode == .save && match s.saves.run with | some r => r.restoring | none => false

/-- What Commit does in each mode (R55). -/
def State.commitByMode (s : State) (cause : Nat) : State :=
  match s.ctl.mode with
  | .off => s
  | .vault => s
  | .boot => s.commitInBoot cause
  | .restore => if s.saves.restore.admitted then s.startSave .commit cause else (s.enterVault cause).setPower .normal
  | .service => s.startSave .commit cause
  | .maintenance => s.startSave .commit cause
  | .freeze => s.startSave .commit cause
  | .save => match s.saves.run with
    | some r => s.commitInSave r
    | none => s

/-- COMMIT (R236): in the Committed state it is one more signal change; on the save-then-restore path power is lost again (R59). -/
def execCommit (source : CommitSource) (s : State) : Out :=
  if !s.watchesPower then .next (s.commitPins source)
  else
    let s := s.commitPins source
    if s.restoringPath then .next (s.commitByMode (commitCause source))
    else if s.power.state == .committed then .next s.countSignal
    else
      let cause := commitCause source
      let s := (s.raise 0x2803 (mib s.residue) [(.u8, cause)]).notifyNow 0x2803
      let s := { s with power := { s.power with state := .committed, commitTime := s.uptime + 1 } }
      .next (s.commitByMode cause)

/-! ## Release (R236, R238, R391) -/

/-- The disarm actions of R238; a BOOT that Warn held goes on (R55), and a paused apply may resume (R538). -/
def State.disarm (s : State) : State :=
  let s := ((s.setPower .normal).note 0x2802).notifyNow 0x2802
  let s := if s.power.batsel = 2 && s.flush.drill.isNone then s.releaseBatsel else s
  let s := { s with boot := { s.boot with held := none }, update := { s.update with paused := false } }
  (s.note 0x2606).replan

/-- DISARM (R238). -/
def execDisarm (s : State) : Out := if s.watchesPower && s.armedPower then .next s.disarm else .next s.unlist

/-- The conditions of a power-return event hold now (R54). -/
def State.powerReturned (s : State) : State :=
  { s with pins := { s.pins with mdPwrgd := true, pwrfailN := true }, power := { s.power with aboveRelease := true } }

/-- What a power-return event does (R54, R55, R263). -/
def State.powerReturn (s : State) : State :=
  match s.ctl.mode with
  | .vault => s.enterBoot 0x02
  | .save => match s.saves.run with
    | some r => { s with saves := { s.saves with run := some { r with pwrret := true, returned := r.returned || !r.sealed }
                                                 restore := { s.saves.restore with began := s.uptime } } }
    | none => s
  | .off => s.unlist | .boot => s.unlist | .restore => s.unlist | .service => s.unlist | .freeze => s.unlist
  | .maintenance => s.unlist

/-- POWER_RETURN_EVENT (R54). -/
def execPowerReturnEvent (s : State) : Out := if s.ctl.stopped then .next s else .next s.powerReturned.powerReturn

/-- POWER_SIGNAL_CHANGE_IN_SAVE (R236). -/
def execPowerSignalChangeInSave (s : State) : Out :=
  if s.power.state == .committed then .next s.countSignal else .next s.unlist

/-- BATSEL stays driven on the save-then-restore path until PFSENSE is at or above ReleaseLevel (R244). -/
def State.releaseAfterSave (s : State) : State :=
  if s.power.batsel = 1 && s.power.aboveRelease && s.inMode [.restore, .service, .maintenance] then s.releaseBatsel else s

/-- RELEASE_COMPARATOR_CROSSING (R391): the hold count starts from 0 when both conditions hold, and stops otherwise. In the Committed
state a crossing or a change of PWRFAIL_N is one more signal change (R236). -/
def execReleaseComparatorCrossing (rail : Nat) (pwrfailHigh : Bool) (s : State) : Out :=
  let above := s.releaseOutput rail
  let t := { s with
    pins := { s.pins with rail := rail, pwrfailN := pwrfailHigh }
    power := { s.power with aboveRelease := above,
                            holdSince := if above && pwrfailHigh then some s.uptime else none } }
  let changed := s.power.aboveRelease != above || s.pins.pwrfailN != pwrfailHigh
  .next (if s.watchesPower && s.power.state == .committed && changed then t.countSignal else t.releaseAfterSave)

/-! ## BATSEL (R393) -/

/-- BATSEL_NO_CURRENT (R393). -/
def execBatselNoCurrent (s : State) : Out :=
  if s.power.batsel = 0 || s.power.confirmed then .next s
  else
    let s := (s.note 0x6001).bump OD.railBatselConfirmFails 1
    if s.power.batsel = 2 then .next (s.abortDrill 3 false) else .next s

/-! ## Supplies (R591 to R599) -/

/-- The Release hold has been counted in full (R391). -/
def State.holdDone (s : State) : Bool :=
  match s.power.holdSince with
  | some t => t + s.get OD.thresholdReleaseHold * 1000000 ≤ s.uptime
  | none => false

/-- MAIN_DIE_POWER_GOOD (R592): BOOT starts from OFF with RESET_N high, or in VAULT when the Release hold is complete, so
that the power-return event occurs now (R54, R391). -/
def execMainDiePowerGood (s : State) : Out :=
  if s.ctl.stopped then .next { s with pins := { s.pins with mdPwrgd := true } }
  else
    let s := { s with pins := { s.pins with mdPwrgd := true } }
    match s.ctl.mode with
    | .off =>
      if s.pins.resetN && !s.ctl.romFailed && !s.ctl.serviceLoop then .next (s.enterBoot 0x01) else .next s.unlist
    | .vault => if s.holdDone && s.pins.pwrfailN then .next (s.enterBoot 0x02) else .next s.unlist
    | .save => if s.holdDone && s.pins.pwrfailN then .next s.powerReturn else .next s.unlist
    | .boot => .next s.unlist | .restore => .next s.unlist | .service => .next s.unlist | .freeze => .next s.unlist
    | .maintenance => .next s.unlist

/-- A Commit was recognised in the previous 100 µs (R594). -/
def State.recentCommit (s : State) : Bool :=
  s.power.commitTime ≠ 0 && s.uptime + 1 ≤ s.power.commitTime + 100000

/-- MD_PWRGD_LOST (R594, R391): the event, and the hold restarts; on the save-then-restore path power is lost again (R59). -/
def execMdPwrgdLost (s : State) : Out :=
  let hold := if s.power.aboveRelease && s.pins.pwrfailN then some s.uptime else none
  let s := { s with pins := { s.pins with mdPwrgd := false }, power := { s.power with holdSince := hold } }
  let s := s.when (s.mainDieRuns && !s.recentCommit && !s.ctl.stopped) (·.note 0x6301)
  .next (match s.saves.run with
    | some r => if s.restoringPath then s.leaveRestoring r else s
    | none => s)

/-- CRYSTAL_FAIL (R599): the Signal Box runs from its internal oscillator; TimeValid stays. -/
def execCrystalFail (s : State) : Out :=
  if s.ctl.stopped then .next s else .next ({ s with pins := { s.pins with crystal := false } }.note 0x6320)

/-- VSB_EARLY_WARNING (R591, R505): while the supply is below the level no program or erase starts; a crossing that ends in
recovery is recorded. -/
def execVsbEarlyWarning (recovered : Bool) (s : State) : Out :=
  let s := { s with pins := { s.pins with vsbEarly := !recovered } }
  if recovered then .next (s.note 0x6302).recordWaiting else .next s

/-- A sector erase that loses its supply leaves the sector half-erased, its intent word without a completion (R522, R523). -/
def State.interruptErase (s : State) : State :=
  match s.eflash.busy with
  | some (.erase n) =>
    let log := match s.eflash.eraseLog with | e :: es => { e with complete := false } :: es | [] => []
    { s with eflash := { s.eflash with eraseLog := log, unformatted := (n, 1) :: s.eflash.unformatted, busy := none } }
  | some .program => { s with eflash := { s.eflash with busy := none } }
  | none => s

/-- POWER_ON_RESET (R591): the Signal Box stops, and every output reads low (R601). The Main die has no supply then (R593). -/
def execPowerOnReset (s : State) : Out :=
  let s := s.mainDieReset.interruptErase
  .next { s with
    ctl := { s.ctl with mode := .off, stopped := true, unlocked := false, armed := false,
                        resetPending := false, romFailed := false, serviceLoop := false }
    power := Power.initial
    eflash := { s.eflash with waiting := [] }
    tap := { instruction := .reset, drives := false, idcode := none } }

end Sys2Proof.Machine
end

