-- ==== Sys2Proof/Machine/Crypto.lean ====
section
/-! DEFINITION. The cryptographic functions the Crypt region's pipes and hash unit compute (10): AES-256, its CMAC and
the counter-mode KDF of R361, GCM (R373), AES key wrap (R366), SHA-256 and HMAC (R162), SHA-384 and HKDF (R366). -/
namespace Sys2Proof.Machine

/-- Exclusive or of two byte strings, cut to the shorter. -/
def xorBytes (a b : List Byte) : List Byte := List.zipWith (fun x y => x ^^^ y) a b

/-- Multiplication by x in the AES field. -/
def xtime (a : Byte) : Byte := if a.msb then (a <<< 1) ^^^ 0x1B#8 else a <<< 1

/-- Multiplication in the AES field, over `n` bits of the second factor. -/
def gmulAux : Nat → Byte → Byte → Byte → Byte
  | 0, _, _, r => r
  | n + 1, a, b, r => gmulAux n (xtime a) (b >>> 1) (if b.getLsbD 0 then r ^^^ a else r)

/-- Multiplication in the AES field. -/
def gmul (a b : Byte) : Byte := gmulAux 8 a b 0#8

/-- The 256 bytes of the S-box, the first lowest. -/
def sboxBytes : Nat :=
  0x16bb54b00f2d99416842e6bf0d89a18cdf2855cee9871e9b948ed9691198f8e19e1dc186b95735610ef6034866b53e708a8bbd4b1f74dde8c6b4a61c2e2578ba08ae7a65eaf4566ca94ed58d6d37c8e779e4959162acd3c25c2406490a3a32e0db0b5ede14b8ee4688902a22dc4f816073195d643d7ea7c41744975fec130ccdd2f3ff1021dab6bcf5389d928f40a351a89f3c507f02f94585334d43fbaaefd0cf584c4a39becb6a5bb1fc20ed00d153842fe329b3d63b52a05a6e1b1a2c830975b227ebe28012079a059618c323c7041531d871f1e5a534ccf73f362693fdb7c072a49cafa2d4adf04759fa7dc982ca76abd7fe2b670130c56f6bf27b777c63

/-- The AES S-box of FIPS 197, the affine map of the inverse in the field, by table; a test shows that it is that map. -/
def sbox (a : Byte) : Byte := BitVec.ofNat 8 (sboxBytes >>> (8 * a.toNat))

/-- The 256 bytes of the inverse S-box, the first lowest. -/
def invSboxBytes : Nat :=
  0x7d0c2155631469e126d677ba7e042b17619953833cbbebc8b0f52aae4d3be0a0ef9cc9939f7ae52d0d4ab519a97f51605fec8027591012b131c7078833a8dd1ff45acd78fec0db9a2079d2c64b3e56fc1bbe18aa0e62b76f89c5291d711af1476edf751ce837f9e28535ade72274ac9673e6b4f0cecff297eadc674f4111913a6b8a130103bdafc1020f3fca8f1e2cd00645b3b80558e4f70ad3bc8c00abd890849d8da75746155edab9edfd5048706c92b6655dcc5ca4d41698688664f6f87225d18b6d49a25b76b224d92866a12e084ec3fa420b954cee3d23c2a632947b54cbe9dec444438e3487ff2f9b8239e37cfbd7f3819ea340bf38a53630d56a0952

/-- The inverse S-box: the value whose S-box byte this is. -/
def invSbox (a : Byte) : Byte := BitVec.ofNat 8 (invSboxBytes >>> (8 * a.toNat))

/-- A word of four bytes rotated left by one byte. -/
def rotWord (w : List Byte) : List Byte := w.drop 1 ++ w.take 1

/-- The words of an AES-256 key schedule, newest first, extended to `n` more words from word `i`. -/
def expandAux : Nat → Nat → Byte → List (List Byte) → List (List Byte)
  | 0, _, _, ws => ws
  | n + 1, i, rc, ws =>
    let prev := ws.headD []
    let back := (ws.drop 7).headD []
    if i % 8 = 0 then
      let t := xorBytes ((rotWord prev).map sbox) [rc, 0#8, 0#8, 0#8]
      expandAux n (i + 1) (xtime rc) (xorBytes back t :: ws)
    else if i % 8 = 4 then expandAux n (i + 1) rc (xorBytes back (prev.map sbox) :: ws)
    else expandAux n (i + 1) rc (xorBytes back prev :: ws)

/-- A list of bytes cut into pieces of `k`, at most `n` of them. -/
def pieces (k : Nat) : Nat → List Byte → List (List Byte)
  | 0, _ => []
  | n + 1, bs => if bs.isEmpty then [] else bs.take k :: pieces k n (bs.drop k)

/-- The 15 round keys of AES-256, first round first. -/
def roundKeys (key : List Byte) : List (List Byte) :=
  let ws := (expandAux 52 8 1#8 (pieces 4 8 key).reverse).reverse
  (List.range 15).map (fun r => ((ws.drop (4 * r)).take 4).flatten)

/-- Byte `i` of a block. -/
def byteAt (b : List Byte) (i : Nat) : Byte := (b.drop i).headD 0#8

/-- ShiftRows. -/
def shiftRows (b : List Byte) : List Byte := (List.range 16).map (fun i => byteAt b ((i + 4 * (i % 4)) % 16))

/-- The inverse of ShiftRows. -/
def invShiftRows (b : List Byte) : List Byte := (List.range 16).map (fun i => byteAt b ((i + 16 - 4 * (i % 4)) % 16))

/-- A column multiplied by the circulant matrix of four factors. -/
def mixColumn (f0 f1 f2 f3 : Byte) (c : List Byte) : List Byte :=
  (List.range 4).map (fun r =>
    gmul f0 (byteAt c r) ^^^ gmul f1 (byteAt c ((r + 1) % 4)) ^^^ gmul f2 (byteAt c ((r + 2) % 4))
      ^^^ gmul f3 (byteAt c ((r + 3) % 4)))

/-- MixColumns with the four factors of a direction. -/
def mixColumns (f0 f1 f2 f3 : Byte) (b : List Byte) : List Byte := ((pieces 4 4 b).map (mixColumn f0 f1 f2 f3)).flatten

/-- The middle and last rounds of AES encryption. -/
def encRounds : List (List Byte) → List Byte → List Byte
  | [], b => b
  | [k], b => xorBytes (shiftRows (b.map sbox)) k
  | k :: ks, b => encRounds ks (xorBytes (mixColumns 2#8 3#8 1#8 1#8 (shiftRows (b.map sbox))) k)

/-- AES-256 encryption of one block. -/
def aesEncrypt (key block : List Byte) : List Byte :=
  match roundKeys key with
  | [] => block
  | k :: ks => encRounds ks (xorBytes block k)

/-- The rounds of AES decryption, last round key first. -/
def decRounds : List (List Byte) → List Byte → List Byte
  | [], b => b
  | [k], b => xorBytes ((invShiftRows b).map invSbox) k
  | k :: ks, b => decRounds ks (mixColumns 14#8 11#8 13#8 9#8 (xorBytes ((invShiftRows b).map invSbox) k))

/-- AES-256 decryption of one block. -/
def aesDecrypt (key block : List Byte) : List Byte :=
  match (roundKeys key).reverse with
  | [] => block
  | k :: ks => decRounds ks (xorBytes block k)

/-- The check value of a key (R367). -/
def checkValue (key : List Byte) : Nat :=
  let e := aesEncrypt key
    [0x00#8, 0x11#8, 0x22#8, 0x33#8, 0x44#8, 0x55#8, 0x66#8, 0x77#8,
     0x88#8, 0x99#8, 0xAA#8, 0xBB#8, 0xCC#8, 0xDD#8, 0xEE#8, 0xFF#8]
  (byteAt e 0).toNat * 65536 + (byteAt e 1).toNat * 256 + (byteAt e 2).toNat

/-- The value of big-endian bytes. -/
def ofBytesBE (bs : List Byte) : Nat := bs.foldl (fun r b => r * 256 + b.toNat) 0

/-- The `n` big-endian bytes of a value. -/
def toBytesBE (n v : Nat) : List Byte := (toBytes n v).reverse

/-- Doubling in the field of CMAC. -/
def cmacDouble (b : List Byte) : List Byte :=
  let v := ofBytesBE b * 2
  toBytesBE 16 (if v ≥ 2 ^ 128 then (v % 2 ^ 128) ^^^ 0x87 else v)

/-- AES-256-CMAC. -/
def cmac (key msg : List Byte) : List Byte :=
  let k1 := cmacDouble (aesEncrypt key (List.replicate 16 0#8))
  let k2 := cmacDouble k1
  let n := if msg.isEmpty then 1 else (msg.length + 15) / 16
  let full := msg.length = 16 * n
  let last := msg.drop (16 * (n - 1))
  let lastBlock := if full then xorBytes last k1 else xorBytes (padTo 16 (last ++ [0x80#8])) k2
  let state := (pieces 16 (n - 1) (msg.take (16 * (n - 1)))).foldl
    (fun x b => aesEncrypt key (xorBytes x b)) (List.replicate 16 0#8)
  aesEncrypt key (xorBytes state lastBlock)

/-- The counter-mode KDF of R361: an 8-bit counter, the label, a zero byte, the context and the 16-bit output length
in bits. `len` is in bytes. -/
def kdf (key : List Byte) (label : String) (context : List Byte) (len : Nat) : List Byte :=
  let blocks := (List.range ((len + 15) / 16)).map (fun i =>
    cmac key ([BitVec.ofNat 8 (i + 1)] ++ strBytes label ++ [0#8] ++ context ++ toBytesBE 2 (8 * len)))
  blocks.flatten.take len

/-- The next block's tweak in XTS: multiplication by alpha of a little-endian block. -/
def xtsNext (t : List Byte) : List Byte :=
  let v := 2 * ofBytes t
  toBytes 16 ((v % 2 ^ 128) ^^^ (if 2 ^ 128 ≤ v then 0x87 else 0))

/-- The blocks of a data unit in turn. -/
def xtsBlocks (op : List Byte → List Byte) : List (List Byte) → List Byte → List Byte
  | [], _ => []
  | b :: bs, t => xorBytes (op (xorBytes b t)) t ++ xtsBlocks op bs (xtsNext t)

/-- XTS-AES-256 over whole blocks (R357): a 64-byte key, the tweak as a little-endian data-unit number. -/
def xtsEncrypt (key : List Byte) (tweak : Nat) (text : List Byte) : List Byte :=
  xtsBlocks (aesEncrypt (key.take 32)) (pieces 16 (text.length / 16) text) (aesEncrypt (key.drop 32) (toBytes 16 tweak))

/-- Its inverse. -/
def xtsDecrypt (key : List Byte) (tweak : Nat) (text : List Byte) : List Byte :=
  xtsBlocks (aesDecrypt (key.take 32)) (pieces 16 (text.length / 16) text) (aesEncrypt (key.drop 32) (toBytes 16 tweak))

/-- Multiplication in the field of GCM, over `n` bits. -/
def ghashMulAux : Nat → Nat → Nat → Nat → Nat
  | 0, _, _, z => z
  | n + 1, x, v, z =>
    ghashMulAux n x (if v % 2 = 1 then (v / 2) ^^^ (0xE1 * 2 ^ 120) else v / 2)
      (if x.testBit n then z ^^^ v else z)

/-- Multiplication in the field of GCM. -/
def ghashMul (x h : Nat) : Nat := ghashMulAux 128 x h 0

/-- GHASH of the padded blocks of additional data and ciphertext, with their lengths. -/
def ghash (h : Nat) (aad ct : List Byte) : Nat :=
  let pad (b : List Byte) := b ++ List.replicate ((16 - b.length % 16) % 16) 0#8
  let data := pad aad ++ pad ct ++ toBytesBE 8 (8 * aad.length) ++ toBytesBE 8 (8 * ct.length)
  (pieces 16 (data.length / 16) data).foldl (fun y b => ghashMul (y ^^^ ofBytesBE b) h) 0

/-- The counter-mode stream of GCM from counter value `c`. -/
def gcmStream (key nonce : List Byte) (c n : Nat) : List Byte :=
  ((List.range ((n + 15) / 16)).map (fun i => aesEncrypt key (nonce ++ toBytesBE 4 (c + i)))).flatten.take n

/-- The tag of GCM over additional data and ciphertext. -/
def gcmTag (key nonce aad ct : List Byte) : List Byte :=
  let h := ofBytesBE (aesEncrypt key (List.replicate 16 0#8))
  xorBytes (toBytesBE 16 (ghash h aad ct)) (aesEncrypt key (nonce ++ toBytesBE 4 1))

/-- GCM encryption: the ciphertext (decryption is the same operation). -/
def gcmCrypt (key nonce text : List Byte) : List Byte := xorBytes text (gcmStream key nonce 2 text.length)

/-- The nonce of R373: a U32 generation and a U64 invocation counter. -/
def gcmNonce (gen counter : Nat) : List Byte := toBytes 4 gen ++ toBytes 8 counter

/-- One inner step of AES key unwrap (RFC 3394): `t` is the step counter, `r` the 64-bit blocks. -/
def unwrapStep (kek : List Byte) (n : Nat) (t : Nat) (a : List Byte) (r : List (List Byte)) :
    List Byte × List (List Byte) :=
  let i := (t - 1) % n
  let b := aesDecrypt kek (xorBytes a (toBytesBE 8 t) ++ (r.drop i).headD [])
  (b.take 8, r.take i ++ [b.drop 8] ++ r.drop (i + 1))

/-- The steps of AES key unwrap, counting down. -/
def unwrapAux (kek : List Byte) (n : Nat) : Nat → List Byte → List (List Byte) → List Byte × List (List Byte)
  | 0, a, r => (a, r)
  | t + 1, a, r =>
    let p := unwrapStep kek n (t + 1) a r
    unwrapAux kek n t p.1 p.2

/-- AES key unwrap with the default IV: none when the integrity check fails (R366, R378). -/
def keyUnwrap (kek wrapped : List Byte) : Option (List Byte) :=
  let n := wrapped.length / 8 - 1
  let p := unwrapAux kek n (6 * n) (wrapped.take 8) (pieces 8 n (wrapped.drop 8))
  if p.1 = List.replicate 8 0xA6#8 then some p.2.flatten else none

/-- The steps of AES key wrap, counting up to `m`. -/
def wrapAux (kek : List Byte) (n : Nat) : Nat → Nat → List Byte → List (List Byte) → List Byte
  | 0, _, a, r => a ++ r.flatten
  | m + 1, t, a, r =>
    let i := (t - 1) % n
    let b := aesEncrypt kek (a ++ (r.drop i).headD [])
    wrapAux kek n m (t + 1) (xorBytes (b.take 8) (toBytesBE 8 t)) (r.take i ++ [b.drop 8] ++ r.drop (i + 1))

/-- AES key wrap with the default IV (R369, R378). -/
def keyWrap (kek key : List Byte) : List Byte :=
  let n := key.length / 8
  wrapAux kek n (6 * n) 1 (List.replicate 8 0xA6#8) (pieces 8 n key)

/-- The first `n` primes from `k`, trying at most `fuel` numbers. -/
def primesFrom : Nat → Nat → Nat → List Nat
  | 0, _, _ => []
  | fuel + 1, n, k =>
    if n = 0 then []
    else if (List.range k).all (fun d => d < 2 || k % d != 0) then k :: primesFrom fuel (n - 1) (k + 1)
    else primesFrom fuel n (k + 1)

/-- The integer root of degree `e` of `v`, bit by bit from bit `n` down. -/
def rootBits (e v : Nat) : Nat → Nat → Nat
  | 0, r => r
  | n + 1, r => if (r + 2 ^ n) ^ e ≤ v then rootBits e v n (r + 2 ^ n) else rootBits e v n r

/-- The first `bits` bits of the fraction of the root of degree `e` of `p`. -/
def rootFraction (e p bits : Nat) : Nat := rootBits e (p * 2 ^ (e * bits)) (bits + 8) 0 % 2 ^ bits

/-- Right rotation of a word of `w` bits. -/
def rotr (w n x : Nat) : Nat := (x / 2 ^ n) ||| ((x * 2 ^ (w - n)) % 2 ^ w)

/-- The rotation amounts of a SHA-2 function of word size 32 or 64: three for each of the four functions. -/
def shaRots (w : Nat) : List Nat :=
  if w = 32 then [2, 13, 22, 6, 11, 25, 7, 18, 3, 17, 19, 10] else [28, 34, 39, 14, 18, 41, 1, 8, 7, 19, 61, 6]

/-- The message schedule of SHA-2, newest word first. -/
def shaSchedule (w : Nat) : Nat → List Nat → List Nat
  | 0, ws => ws
  | n + 1, ws =>
    let r := shaRots w
    let at' (i : Nat) := (ws.drop (i - 1)).headD 0
    let g (i : Nat) := (r.drop i).headD 0
    let x := at' 15
    let y := at' 2
    let s0 := rotr w (g 6) x ^^^ rotr w (g 7) x ^^^ (x / 2 ^ (g 8))
    let s1 := rotr w (g 9) y ^^^ rotr w (g 10) y ^^^ (y / 2 ^ (g 11))
    shaSchedule w n ((at' 16 + s0 + at' 7 + s1) % 2 ^ w :: ws)

/-- The rounds of SHA-2 over the schedule and the round constants. -/
def shaRounds (w : Nat) : List (Nat × Nat) → List Nat → List Nat
  | (m, k) :: rest, [a, b, c, d, e, f, g, h] =>
    let r := shaRots w
    let q (i : Nat) := (r.drop i).headD 0
    let s1 := rotr w (q 3) e ^^^ rotr w (q 4) e ^^^ rotr w (q 5) e
    let ch := (e &&& f) ^^^ ((2 ^ w - 1 - e) &&& g)
    let t1 := h + s1 + ch + k + m
    let s0 := rotr w (q 0) a ^^^ rotr w (q 1) a ^^^ rotr w (q 2) a
    let mj := (a &&& b) ^^^ (a &&& c) ^^^ (b &&& c)
    shaRounds w rest [(t1 + s0 + mj) % 2 ^ w, a, b, c, (d + t1) % 2 ^ w, e, f, g]
  | _, st => st

/-- SHA-2 with word size `w`, `rounds` rounds and the given initial words. -/
def sha2 (w rounds : Nat) (init : List Nat) (msg : List Byte) : List Nat :=
  let bytes := w / 8
  let block := 16 * bytes
  let lenBytes := 2 * bytes
  let zeros := (2 * block - 1 - lenBytes - msg.length % block) % block
  let data := msg ++ [0x80#8] ++ List.replicate zeros 0#8 ++ toBytesBE lenBytes (8 * msg.length)
  let ks := (primesFrom 420 rounds 2).map (fun p => rootFraction 3 p w)
  (pieces block (data.length / block) data).foldl (fun st b =>
    let ws := (shaSchedule w (rounds - 16) ((pieces bytes 16 b).map ofBytesBE).reverse).reverse
    List.zipWith (fun x y => (x + y) % 2 ^ w) st (shaRounds w (List.zip ws ks) st)) init

/-- SHA-256. -/
def sha256 (msg : List Byte) : List Byte :=
  ((sha2 32 64 ((primesFrom 20 8 2).map (fun p => rootFraction 2 p 32)) msg).map (toBytesBE 4)).flatten

/-- SHA-384. -/
def sha384 (msg : List Byte) : List Byte :=
  (((sha2 64 80 (((primesFrom 54 16 2).drop 8).map (fun p => rootFraction 2 p 64)) msg).take 6).map (toBytesBE 8)).flatten

/-- HMAC over a hash of the given block size. -/
def hmac (hash : List Byte → List Byte) (block : Nat) (key msg : List Byte) : List Byte :=
  let k := padTo block (if key.length > block then hash key else key)
  hash (k.map (fun b => b ^^^ 0x5C#8) ++ hash (k.map (fun b => b ^^^ 0x36#8) ++ msg))

/-- HMAC-SHA-256, the fingerprint function (R162). -/
def hmacSha256 (key msg : List Byte) : List Byte := hmac sha256 64 key msg

/-- HKDF-SHA-384 with an output of at most 48 bytes (R366, R378). -/
def hkdfSha384 (salt ikm info : List Byte) (len : Nat) : List Byte :=
  let prk := hmac sha384 128 salt ikm
  (hmac sha384 128 prk (info ++ [1#8])).take len

/-! ## P-384 (R362, R378, R531) -/

/-- The field prime of P-384. -/
def p384Prime : Nat := 2 ^ 384 - 2 ^ 128 - 2 ^ 96 + 2 ^ 32 - 1
/-- The order of its base point. -/
def p384Order : Nat := 0xFFFFFFFFFFFFFFFFFFFFFFFFFFFFFFFFFFFFFFFFFFFFFFFFC7634D81F4372DDF581A0DB248B0A77AECEC196ACCC52973
/-- The curve's coefficient b; a is -3. -/
def p384B : Nat := 0xB3312FA7E23EE7E4988E056BE3F82D19181D9C6EFE8141120314088F5013875AC656398D8A2ED19D2A85C8EDD3EC2AEF
/-- The base point. -/
def p384Base : Nat × Nat :=
  (0xAA87CA22BE8B05378EB1C71EF320AD746E1D3B628BA79B9859F741E082542A385502F25DBF55296C3A545E3872760AB7,
   0x3617DE4A96262C6F5D9E98BF9292DC29F8F41DBD289A147CE9DA3113B5F0B8C00A60B1CE1D7E819D7A431D7C90EA0E5F)

/-- Powers modulo a number, over the low `n` bits of the exponent. -/
def powMod (m : Nat) : Nat → Nat → Nat → Nat → Nat
  | 0, _, _, r => r
  | n + 1, b, e, r => powMod m n (b * b % m) (e / 2) (if e % 2 = 1 then r * b % m else r)

/-- The inverse in the field. -/
def p384Inv (a : Nat) : Nat := powMod p384Prime 384 (a % p384Prime) (p384Prime - 2) 1

/-- Subtraction in the field. -/
def p384Sub (a b : Nat) : Nat := (a % p384Prime + p384Prime - b % p384Prime) % p384Prime

/-- Addition of points; none is the point at infinity. -/
def ecAdd (p q : Option (Nat × Nat)) : Option (Nat × Nat) :=
  match p, q with
  | none, q => q
  | some p, none => some p
  | some p, some q =>
    if p.1 = q.1 && (p.2 + q.2) % p384Prime = 0 then none
    else
      let l := (if p.1 = q.1 then p384Sub (3 * p.1 * p.1) 3 * p384Inv (2 * p.2)
        else p384Sub q.2 p.2 * p384Inv (p384Sub q.1 p.1)) % p384Prime
      let x := p384Sub (l * l) (p.1 + q.1)
      some (x, p384Sub (l * p384Sub p.1 x) p.2)

/-- Multiplication of a point by the low `n` bits of a number. -/
def ecMul : Nat → Nat → Option (Nat × Nat) → Option (Nat × Nat) → Option (Nat × Nat)
  | 0, _, _, r => r
  | n + 1, k, p, r => ecMul n (k / 2) (ecAdd p p) (if k % 2 = 1 then ecAdd r p else r)

/-- An uncompressed public key read as a point of the curve; none when it is not one. -/
def ecPoint (bs : List Byte) : Option (Nat × Nat) :=
  let x := ofBytesBE (slice bs 1 48)
  let y := ofBytesBE (slice bs 49 48)
  if bs.length = 97 ∧ byteAt bs 0 = 4#8 ∧ x < p384Prime ∧ y < p384Prime
    ∧ (y * y) % p384Prime = p384Sub (x * x % p384Prime * x + p384B) (3 * x) then some (x, y) else none

/-- A point as an uncompressed public key. -/
def ecBytes (p : Option (Nat × Nat)) : List Byte :=
  match p with
  | some p => 4#8 :: toBytesBE 48 p.1 ++ toBytesBE 48 p.2
  | none => [0#8]

/-- The ECDH shared secret of a private scalar and a public key: the x coordinate. -/
def ecdh (k : Nat) (pub : List Byte) : Option (List Byte) :=
  (ecPoint pub).bind (fun p => (ecMul 384 k (some p) none).map (fun q => toBytesBE 48 q.1))

/-- A private scalar of a 64-byte seed (R362), taken as a big-endian number (PRESUMED, log 11). -/
def scalarOf (seed : List Byte) : Nat := ofBytesBE seed % (p384Order - 1) + 1

end Sys2Proof.Machine
end

