-- ==== Sys2Proof/Machine/Update.lean ====
section
/-! DEFINITION. Firmware update (15): banks and their records, packages and their transfer, the apply, verification,
activation, trial and rollback; and the restart of the stationmaster (14, R495). -/
namespace Sys2Proof.Machine

/-! ## Keys of the unit (R361, R362) -/

/-- A key derived from the device-unique key with the unit ID as context (R361). -/
def State.unitKey (s : State) (label : String) (len : Nat) : List Byte :=
  kdf s.crypt.duk label (toBytes 8 (s.get OD.identityUnitId)) len

/-- The import private scalar (R362). -/
def State.importScalar (s : State) : Nat := scalarOf (s.unitKey "IMP-384" 64)

/-! ## Banks (R526 to R528) -/

/-- A bank: 0 is A, 1 is B. -/
def State.bank (s : State) (b : Nat) : Bank := if b = 0 then s.update.bankA else s.update.bankB

def State.setBank (s : State) (b : Nat) (x : Bank) : State :=
  if b = 0 then { s with update := { s.update with bankA := x } } else { s with update := { s.update with bankB := x } }

/-- The bank that is not active. -/
def State.inactiveBank (s : State) : Nat := 1 - s.activeBank

/-- A bank other than the active one holds a verified image (R528). -/
def State.holdsImage (s : State) (b : Nat) : Bool :=
  b ≠ s.activeBank && !(s.bank b).damaged && ((s.bank b).record.state = 2 || (s.bank b).record.state = 3)

/-- A bank record is journalled (R528). -/
def State.journalBank (s : State) (b : Nat) (r : BankRecord) : State :=
  (s.setBank b { s.bank b with record := r }).journal 0x0040 b r.bytes

/-- A byte of a bank: as written, or of the factory image. -/
def State.bankByte (s : State) (b n : Nat) : Byte :=
  match mapGet noEntry (s.bank b).sectors (n / 4096) with
  | some bs => bs.getD (n % 4096) 0xFF#8
  | none => Config.factoryByte b (n / 4096) (n % 4096)

/-- Bytes of a bank. -/
def State.bankBytes (s : State) (b off n : Nat) : List Byte := (List.range n).map (fun i => s.bankByte b (off + i))

/-- The entries of a bank's FMTTABLE (R527): object key and format number. -/
def State.formats (s : State) (b : Nat) : List (Nat × Nat) :=
  let n := min (ofBytes (s.bankBytes b 464 4)) 512
  (List.range n).map (fun i =>
    let e := s.bankBytes b (468 + 4 * i) 4
    (field e 0 2 * 256 + field e 2 1, field e 3 1))

/-- The format number a bank gives an object. -/
def formatOf (fs : List (Nat × Nat)) (k : Nat) : Option Nat := (fs.find? (fun e => e.1 = k)).map (·.2)

/-! ## The progress record (R534) -/

/-- The state codes of OD 0xA000.01. -/
def UpdateState.code : UpdateState → Nat
  | .idle => 0 | .receiving => 1 | .received => 2 | .applying => 3 | .verifying => 4 | .verified => 5 | .scheduled => 6
  | .trial => 7

/-- A content key sealed for the record of a SEQ (R531): ciphertext and tag; zeros without a key. -/
def State.sealedKey (s : State) (seq : Nat) : List Byte :=
  if s.update.contentKey.isEmpty then List.replicate 48 0#8
  else
    let k := s.unitKey "UPD-GCM" 32
    let n := gcmNonce 0xFFFFFFFD seq
    let c := gcmCrypt k n s.update.contentKey
    c ++ gcmTag k n [] c

/-- The payload of the update progress record. -/
def State.progressBytes (s : State) : List Byte :=
  [BitVec.ofNat 8 s.update.state.code, 0#8] ++ toBytes 2 (s.get OD.updateApplySector) ++
  toBytes 4 (s.get OD.updateNextOffset) ++ toBytes 4 s.update.applyOffset ++ toBytes 8 (s.get OD.updatePackageId) ++
  s.sealedKey s.eflash.journal.seq ++ toBytes 8 (s.get OD.departureDepartureTime) ++
  toBytes 1 (s.get OD.departureDepartureMode) ++ [0#8, 0#8, 0#8] ++ toBytes 4 (s.get OD.updatePackageLength)

def State.journalProgress (s : State) : State := s.journal 0x0041 0 s.progressBytes

/-- The update state changes, and the progress record with it (R534). -/
def State.setUpdate (s : State) (u : UpdateState) : State :=
  State.journalProgress { s with update := { s.update with state := u } }

/-- The package in hand and the transfer area are released, and the state is Idle (R535). -/
def State.endPackage (s : State) : State :=
  let s := { s with update := { s.update with header := [], contentKey := [], blocks := [], applyOffset := 0, retries := 0,
                                              paused := false, resumed := false, aborting := false } }
  let s := [OD.updateNextOffset, OD.updatePackageId, OD.updatePackageLength, OD.updateApplySector,
    OD.departureDepartureTime, OD.departureDepartureMode].foldl (fun s k => s.put k 0) s
  s.setUpdate .idle

/-! ## The restart of the stationmaster (R448, R450, R486, R495) -/

/-- Sessions of the transports that the stationmaster serves are closed. -/
def State.closeSignalBoxSessions (s : State) : State :=
  { s with zop := { s.zop with sessions := s.zop.sessions.filter (fun x => byPorters x.src),
                               eids := mapErase s.zop.eids 2 } }

/-- A proxy request that was being served is answered INTERNAL (R486). -/
def State.proxyInternal (s : State) : State :=
  if s.bus.proxy.state == .busy && s.bus.proxy.response.isNone then
    let b := (List.range 12).map (fun i => mapGet (fun _ => 0#8) s.bus.proxy.buffer i)
    let frame := frameBytes (field b 0 1 % 128 + 128) (field b 1 1) (field b 2 2) (field b 4 1) stInternal []
    { s with bus := { s.bus with proxy := { s.bus.proxy with response := some frame } } }
  else s

/-- The mask ROM copies the ITCM part of the active bank's stationmaster image, sectors 2 to 33 of the bank (R495, R526). -/
def State.loadItcm (s : State) : State :=
  let b := s.activeBank
  { s with cores := { s.cores with itcmBank := b, itcm := (s.bank b).sectors.filter (fun e => 2 ≤ e.1 && e.1 < 34) } }

/-- Waiting results that only the closed sessions held are gone with them; the count and the cause of the restart stand in
the retention register (R494). Causes: 1 watchdog, 2 RESET_N, 3 memory error, 4 activation, 5 code word. -/
def State.smRestart (s : State) (cause : Nat) : State :=
  let s := s.proxyInternal.closeSignalBoxSessions
  { s with cores := { s.cores with restarts := s.cores.restarts + 1, restartCause := cause }
           bus := { s.bus with recovery := false } }

/-! ## Activation (R542, R548) -/

/-- An object takes its default. PlanEntry is the whole seating plan (R277). -/
def State.toDefault (s : State) (k : Nat) : State :=
  let s := { s with od := mapErase s.od k, blobs := mapErase s.blobs k }
  if k = OD.restorePlanEntry then { s with saves := { s.saves with plan := [] } } else s

/-- One object at an activation (R548); one not listed reads its default from then on (DEDUCED, log 196). -/
def State.migrateOne (old new : List (Nat × Nat)) (s : State) (k : Nat) : State :=
  match formatOf new k with
  | none =>
    let s := (s.toDefault k).dropSetting k
    { s with unrecorded := s.unrecorded.filter (· ≠ k), update := { s.update with removed := k :: s.update.removed } }
  | some f => if formatOf old k = some f then s else ((s.toDefault k).recordSetting k).raise 0x7130 0 [(.u24, k)]

/-- The settings are migrated from the formats of one bank to those of the other: every persistent object that the new table lists, that
has a value of its own, that a record names, or that a staged set names. -/
def State.migrate (s : State) (old new : Nat) : State :=
  let recorded := s.eflash.settings0.settingKeys ++ s.eflash.settings1.settingKeys
  let staged := (s.zop.committed ++ s.zop.uncommitted).map (·.key)
  let keys := distinct (((s.formats new).map (·.1) ++ s.od.map (·.1) ++ s.blobs.map (·.1) ++ recorded ++ staged ++ [OD.restorePlanEntry]).filter
    isPersistent)
  keys.foldl (State.migrateOne (s.formats old) (s.formats new)) { s with update := { s.update with removed := [] } }

/-- Requests that the porters serve complete with INTERNAL, and their sessions are closed (R542). -/
def State.closePorterSessions (s : State) : State :=
  let r : Reply := { status := stInternal, payload := [] }
  let s := s.zop.sessions.foldl (fun s x =>
    if byPorters x.src then
      match x.active with
      | some a => s.transmit x.src opExecute a.tag (a.key / 256) (a.key % 256) r
      | none => s
    else s) s
  { s with zop := { s.zop with sessions := s.zop.sessions.filter (fun x => !byPorters x.src) } }

/-- The image of another bank is taken into use (R542 t2 to t5): the stationmaster restarts from it, the settings are
migrated and the porters are loaded. -/
def State.runBank (s : State) (old new : Nat) : State :=
  let vo := (s.bank old).record.smVer
  let vn := (s.bank new).record.smVer
  (((((s.bump OD.bankActivations 1).smRestart 4).loadItcm).migrate old new).closePorterSessions).raise 0x7122 0
    [(.u32, vo), (.u32, vn)]

/-- A bank is journalled as activated (R542 t1). -/
def State.journalActive (s : State) (b : Nat) (trial : Bool) : State :=
  let top := max s.update.bankA.record.actSeq s.update.bankB.record.actSeq
  s.journalBank b { (s.bank b).record with state := 3, trial := trial, actSeq := top + 1, time := s.clock }

/-- The activation of the inactive bank: the update enters Trial (R535, R545). -/
def State.activate (s : State) : State :=
  let old := s.activeBank
  let new := 1 - old
  let s := s.journalActive new true
  let since := if s.ctl.mode == .service then some s.uptime else none
  let s := { s with update := { s.update with trialTime := 0, serviceSince := since } }
  (s.setUpdate .trial).runBank old new

/-- The departure time has been reached (R540, R541). -/
def State.departureReached (s : State) : Bool :=
  let t := s.get OD.departureDepartureTime
  t = 0 || (s.flag OD.clockTimeValid && t ≤ s.clock)

/-- The first condition of R541 that fails: 0 none, 1 not SERVICE, 2 armed, 3 drill, 4 time not valid. -/
def State.deferCause (s : State) : Nat :=
  if s.ctl.mode != .service then 1
  else if s.armedPower then 2
  else if s.flush.drill.isSome then 3
  else if !s.flag OD.clockTimeValid && s.get OD.departureDepartureTime ≠ 0 then 4
  else 0

/-- An activation is deferred to the next boundary (R541). -/
def State.deferActivation (s : State) (cause : Nat) : State :=
  let s := (s.bump OD.departureDeferrals 1).put OD.departureDeferCause cause
  let first := !s.update.deferred
  let t := s.get OD.departureDepartureTime
  let late := t ≠ 0 && t + 3600000000000 < s.clock && !s.update.late
  let s := { s with update := { s.update with deferred := true, late := s.update.late || late } }
  (s.when first (·.raise 0x7121 0 [(.u8, cause)])).when late (·.raise 0x7131 0 [(.u8, cause)])

/-- What a scheduled update does at a global term boundary (R541). -/
def State.activateAtBoundary (s : State) : State :=
  if s.update.state == .scheduled && s.get OD.departureDepartureMode = 0 then
    let t := s.get OD.departureDepartureTime
    if t = 0 || t ≤ s.clock then
      if s.deferCause = 0 then s.activate else s.deferActivation s.deferCause
    else s
  else s

/-- What a scheduled update does as BOOT begins (R543). -/
def State.activateAtBoot (s : State) : State :=
  if s.update.state == .scheduled && s.get OD.departureDepartureMode = 1 && s.departureReached then s.activate else s

/-- The old bank is journalled active again (R546). The image runs at once when SERVICE goes on. Causes: 1 image check, 2 two
BOOT failures, 3 stationmaster watchdog, 4 a porter's third expiry, 5 two failures at BOOT step t2. -/
def State.rollBack (s : State) (cause : Nat) : State :=
  let bad := s.activeBank
  let good := 1 - bad
  let trial := s.update.state == .trial
  let s := s.journalActive good false
  let s := s.journalBank bad { (s.bank bad).record with state := 4, trial := false, time := s.clock }
  let s := (s.bump OD.bankRollbacks 1).raise 0x7124 0 [(.u8, cause)]
  let s := if trial then s.endPackage else s
  if s.ctl.mode == .service then s.runBank bad good
  else (s.bump OD.bankActivations 1).migrate bad good

/-- The trial ends when a cause of R546 arises. -/
def State.trialFails (s : State) (cause : Nat) : State := if s.update.state == .trial then s.rollBack cause else s

/-! ## Packages (R529 to R533) -/

/-- The block number of an offset, its kind, length and package. -/
def blockOffset (b : List Byte) : Nat := field b 0 4
def blockLength (b : List Byte) : Nat := field b 4 2
def blockKind (b : List Byte) : Nat := field b 6 1
def blockPackage (b : List Byte) : Nat := field b 8 8
def blockPayload (b : List Byte) : List Byte := slice b 16 (blockLength b)

/-- The header's fields (R530). -/
def hdrUnits (h : List Byte) : Nat := field h 40 4
def hdrBodyLen (h : List Byte) : Nat := field h 44 4
def hdrListBlocks (h : List Byte) : Nat := (hdrUnits h + 83) / 84
def hdrLength (h : List Byte) : Nat := 4032 * (1 + hdrListBlocks h) + hdrBodyLen h

/-- A stored block of the transfer area. -/
def State.packageBlock (s : State) (n : Nat) : List Byte := (mapGet noEntry s.update.blocks n).getD []

/-- The header and unit-list payloads, over which HDRDIGEST is taken. -/
def State.packageClear (s : State) : List Byte :=
  ((List.range (1 + hdrListBlocks s.update.header)).map (fun n => blockPayload (s.packageBlock n))).flatten

/-- The header checks of R533; 0 when all hold. -/
def State.checkHeader (s : State) (b : List Byte) : Nat :=
  let h := blockPayload b
  let active := (s.bank s.activeBank).record
  if field h 16 8 ≠ blockPackage b then 4
  else if field h 0 4 ≠ 0x4B505A48 || field h 4 2 ≠ 1 || slice h 8 8 ≠ padTo 8 (strBytes "HX9640") || blockKind b ≠ 0
    || hdrUnits h = 0 || 4096 < hdrUnits h then 5
  else if s.cores.romVer < field h 36 4 then 10
  else if field h 32 4 < active.secVer then 11
  else if slice h 48 48 ≠ List.replicate 48 0#8 && slice h 48 48 ≠ padTo 48 active.digest then 9
  else if hdrBodyLen h = 0 || 16777216 < hdrBodyLen h || blockLength b ≠ 4032 then 12
  else 0

/-- The WRAPKEY of this unit in the unit list (R531). -/
def State.wrapKeyIn (s : State) (clear : List Byte) (units : Nat) : Option (List Byte) :=
  ((List.range units).map (fun i => slice clear (4032 + 48 * i) 48)).findSome? (fun e =>
    if field e 0 8 = s.get OD.identityUnitId then some (slice e 8 40) else none)

/-- The content key of the package (R531). -/
def State.contentKeyOf (s : State) (wrap : List Byte) : Option (List Byte) :=
  let h := s.update.header
  match ecdh s.importScalar (slice h 144 97) with
  | none => none
  | some z =>
    let kek := hkdfSha384 (toBytes 8 (s.get OD.identityUnitId)) z (strBytes "UPDATE" ++ slice h 16 8) 32
    keyUnwrap kek wrap

/-- A body block's plaintext, when its tag verifies (R529). -/
def State.openBlock (s : State) (b : List Byte) : Option (List Byte) :=
  let n := gcmNonce 0 (blockOffset b / 4032)
  let aad := b.take 16 ++ sha384 s.packageClear
  let c := blockPayload b
  if gcmTag s.update.contentKey n aad c = slice b 4048 16 then some (gcmCrypt s.update.contentKey n c) else none

/-- The checks of R533 on a block after the header, in order; 0 when all hold, with the content key when it is found. -/
def State.checkBlock (s : State) (b : List Byte) : Nat × Option (List Byte) :=
  let h := s.update.header
  let off := blockOffset b
  let next := s.get OD.updateNextOffset
  let n := off / 4032
  let kind := if n ≤ hdrListBlocks h then 1 else 2
  let last := off + 4032 ≥ hdrLength h
  if next < off || off % 4032 ≠ 0 || hdrLength h ≤ off || blockKind b ≠ kind
    || (off < next && blockPackage b ≠ field h 16 8) then (3, none)
  else if blockPackage b ≠ field h 16 8 then (4, none)
  else if blockLength b ≠ (if last then hdrLength h - off else 4032) then (12, none)
  else if kind = 1 then
    if n = hdrListBlocks h then
      let s' := { s with update := { s.update with blocks := mapSet noEntry s.update.blocks n (some b) } }
      match s.wrapKeyIn s'.packageClear (hdrUnits h) with
      | none => (6, none)
      | some w => match s.contentKeyOf w with
        | none => (7, none)
        | some k => (0, some k)
    else (0, none)
  else if (s.openBlock b).isNone then (8, none) else (0, none)

/-- A refused block: LastResult and event 0x7102; what the header or the unit list fails on ends the transfer (R533). -/
def State.refuseBlock (s : State) (b : List Byte) (r : Nat) (ends : Bool) : State × Answer :=
  let s := s.raise 0x7102 0 [(.u32, blockOffset b), (.u8, r)]
  refuse (if ends then s.endPackage else s) OD.updateLastResult r

/-- An accepted block is stored, and the transfer advances (R534, R535). -/
def State.takeBlock (s : State) (b : List Byte) : State :=
  let off := blockOffset b
  let s := { s with update := { s.update with blocks := mapSet noEntry s.update.blocks (off / 4032) (some b) } }
  if off < s.get OD.updateNextOffset then s
  else
    let next := off + blockLength b
    let s := s.put OD.updateNextOffset next
    if s.update.state == .receiving && next = s.get OD.updatePackageLength then (s.setUpdate .received).note 0x7103
    else if (off / 4032 + 1) % 64 = 0 then s.journalProgress else s

/-- A header block begins a transfer. -/
def State.takeHeader (s : State) (b : List Byte) : State :=
  let h := blockPayload b
  let s := { s with update := { s.update with header := h.take 241, blocks := [], contentKey := [] } }
  let s := ((s.put OD.updatePackageId (blockPackage b)).put OD.updatePackageLength (hdrLength h)).put OD.updateNextOffset 0
  let s := { s with update := { s.update with state := .receiving } }
  ((s.takeBlock b).journalProgress).raise 0x7101 0 [(.u32, field h 24 4), (.u32, field h 28 4)]

/-- SubmitBlock (R533). -/
def submitAct (src : Transport) : Act := fun s =>
  let parts := (s.session src).block
  let b := ((List.range 4).map (fun i => padTo 1024 (mapGet (fun _ => []) parts i))).flatten
  if !s.inMode [.restore, .service, .maintenance] then fail s stState
  else if (crc32c (b.take 4092)).toNat ≠ field b 4092 4 then s.refuseBlock b 2 false
  else if s.update.state == .idle then
    if blockOffset b ≠ 0 then s.refuseBlock b 3 false
    else
      let r := s.checkHeader b
      if r = 0 then okResult (s.takeHeader b) OD.updateLastResult else s.refuseBlock b r true
  else if s.update.state != .receiving || blockOffset b = 0 then s.refuseBlock b 1 false
  else match s.checkBlock b with
  | (0, k) =>
    let s := match k with | some key => { s with update := { s.update with contentKey := key } } | none => s
    okResult (s.takeBlock b) OD.updateLastResult
  | (r, _) => s.refuseBlock b r (r = 6 || r = 7)

/-- BLOCK_PART (R532). -/
def execBlockPart (q : Req) (bytes : List Byte) (s : State) : Out :=
  runReq (.blockPart q bytes) q opWrite 0xA000 3 bytes (fun s =>
    let x := s.session q.src
    let i := x.selGet OD.updatePartSelect
    ok (s.setSession { x with block := mapSet (fun _ => []) x.block i bytes })) s

/-- SUBMIT_BLOCK (R533). -/
def execSubmitBlock (q : Req) (s : State) : Out := runCmd (.submitBlock q) q OD.updateSubmitBlock [] (submitAct q.src) s

/-- UPDATE_ABORT (R535): an apply stops at the next sector boundary, where a paused one already is. -/
def abortAct : Act := fun s =>
  match s.update.state with
  | .receiving => okResult (s.endPackage.note 0x7104) OD.updateLastResult
  | .received => okResult (s.endPackage.note 0x7104) OD.updateLastResult
  | .applying =>
    if s.update.paused || !s.inMode [.service, .maintenance] then okResult s.endPackage OD.updateLastResult
    else okResult { s with update := { s.update with aborting := true } } OD.updateLastResult
  | .verified => okResult s.endPackage OD.updateLastResult
  | .idle => refuse s OD.updateLastResult 1
  | .verifying => refuse s OD.updateLastResult 1
  | .scheduled => refuse s OD.updateLastResult 1
  | .trial => refuse s OD.updateLastResult 1

def execUpdateAbort (q : Req) (s : State) : Out := runCmd (.updateAbort q) q OD.updateAbort [] abortAct s

/-! ## Apply (R536 to R539) -/

/-- Apply (R535): the inactive bank is journalled as applying. -/
def applyAct : Act := fun s =>
  if s.update.state == .received && s.inMode [.service, .maintenance] then
    let b := s.inactiveBank
    let h := s.update.header
    let r : BankRecord :=
      { state := 1, trial := false, actSeq := 0, smVer := field h 24 4, ptVer := field h 28 4, secVer := field h 32 4,
        packageId := field h 16 8, time := s.clock, digest := List.replicate 48 0#8 }
    let s := (s.journalBank b r).put OD.updateApplySector 0
    let s := { s with update := { s.update with applyOffset := 0, retries := 0, paused := false, resumed := false } }
    okResult ((s.setUpdate .applying).raise 0x7110 0 [(.u8, b)]) OD.updateLastResult
  else refuse s OD.updateLastResult 1

/-- APPLY (R535). -/
def execApplyPackage (q : Req) (s : State) : Out := runCmd (.applyPackage q) q OD.updateApply [] applyAct s

/-- `n` bytes of the body from an offset, decrypted block by block (R537). -/
def State.bodyBytes (s : State) (off n : Nat) : List Byte :=
  let first := 1 + hdrListBlocks s.update.header
  let lo := off / 4032
  let cnt := (off + n + 4031) / 4032 - lo
  slice ((List.range cnt).map (fun i => (s.openBlock (s.packageBlock (first + lo + i))).getD [])).flatten (off % 4032) n

/-- The operations of a sector record (R536), from its bytes after the header: none when a rule is broken. -/
def State.assemble (s : State) (self : Bool) : Nat → List Byte → List Byte → Option (List Byte)
  | 0, rest, out => if rest.isEmpty && out.length = 4096 then some out else none
  | n + 1, rest, out =>
    let kind := field rest 0 1
    let len := field rest 2 2
    let arg := field rest 4 4
    if rest.length < 8 || field rest 1 1 ≠ 0 || len = 0 || 4096 < out.length + len then none
    else if kind = 1 then
      if self || 6291456 < arg + len then none
      else s.assemble self n (rest.drop 8) (out ++ s.bankBytes s.activeBank arg len)
    else if kind = 2 then
      if arg ≠ 0 || rest.length < 8 + len then none
      else s.assemble self n (rest.drop (8 + len)) (out ++ slice rest 8 len)
    else if kind = 3 then s.assemble self n (rest.drop 8) (out ++ List.replicate len (BitVec.ofNat 8 arg))
    else none

/-- The next sector record: its length and the sector's bytes; none when it breaks a rule of R536. -/
def State.nextSector (s : State) : Option (Nat × List Byte) :=
  let head := s.bodyBytes s.update.applyOffset 8
  let len := field head 4 4
  let self := slice s.update.header 48 48 = List.replicate 48 0#8
  if field head 0 2 ≠ s.get OD.updateApplySector || len < 8 || hdrBodyLen s.update.header < s.update.applyOffset + len then none
  else
    let rest := (s.bodyBytes s.update.applyOffset len).drop 8
    (s.assemble self (field head 2 2) rest []).map (fun b => (len, b))

/-- The apply or the verification fails: the bank is rejected (R535). -/
def State.rejectBank (s : State) (result : Nat) : State :=
  let b := s.inactiveBank
  let s := s.journalBank b { (s.bank b).record with state := 4, time := s.clock }
  (s.endPackage.put OD.updateLastResult result).raise 0x7113 0 [(.u8, result)]

/-- The apply holds at a sector boundary (R538). -/
def State.applyHeld (s : State) : Bool := s.armedPower || s.flush.drill.isSome || s.eraseBarred

/-- A sector has been written: the progress record stands, and the apply goes on, pauses, stops or ends (R535, R537). -/
def State.sectorApplied (s : State) (sector len : Nat) : State :=
  let s := s.put OD.updateApplySector (sector + 1)
  let s := { s with update := { s.update with applyOffset := s.update.applyOffset + len, retries := 0 } }
  if s.update.aborting then s.endPackage
  else if sector + 1 = 1536 then s.setUpdate .verifying
  else State.journalProgress { s with update := { s.update with paused := s.applyHeld } }

/-- One sector of the bank: assembled in data SRAM, at its base (DESIGN CHOICE, log 169: the spec names no place), erased and
programmed, once more after a mismatch (R537). -/
def State.writeSector (s : State) (len : Nat) (bytes : List Byte) (readBacks : List Bool) : State :=
  let b := s.inactiveBank
  let sector := s.get OD.updateApplySector
  let phys := b * 1536 + sector
  let tries := if readBacks.headD true then 1 else 2
  let good := readBacks.headD true || (readBacks.drop 1).headD true
  let s := (State.countErases { s with eflash := s.eflash.logErase phys true } phys tries)
  let s := { s with cores := { s.cores with sram := mapSet (fun _ => []) s.cores.sram 0 bytes } }
  if good then
    let x := s.bank b
    (s.setBank b { x with sectors := mapSet noEntry x.sectors sector (some bytes), damaged := false }).sectorApplied sector len
  else s.rejectBank 13

/-- APPLY_SECTOR_COMPLETE (R537). `readBacks` says whether each programming read back as written. -/
def execApplySectorComplete (readBacks : List Bool) (s : State) : Out :=
  if s.update.state != .applying || !s.inMode [.service, .maintenance] then .next s
  else if s.update.paused && s.applyHeld then .next s
  else match s.nextSector with
  | none => .next (s.rejectBank 13)
  | some (len, bytes) => .next (s.writeSector len bytes readBacks)

/-- BANK_VERIFICATION_COMPLETE (R539). -/
def execBankVerificationComplete (digestOk signatureOk regionsOk : Bool) (s : State) : Out :=
  if s.update.state != .verifying || !s.inMode [.service, .maintenance] then .next s.unlist
  else if !digestOk then .next (s.rejectBank 14)
  else if !signatureOk then .next (s.rejectBank 15)
  else if !regionsOk then .next (s.rejectBank 16)
  else
    let b := s.inactiveBank
    let r := { (s.bank b).record with state := 2, time := s.clock, digest := slice s.update.header 96 48 }
    .next ((((s.journalBank b r).put OD.updateLastResult 0).setUpdate .verified).note 0x7112)

/-! ## Departure (R540, R547) -/

/-- The update waits for its departure. -/
def State.setDeparture (s : State) (time mode : Nat) : State :=
  let s := [(OD.departureDepartureTime, time), (OD.departureDepartureMode, mode), (OD.departureDeferrals, 0),
    (OD.departureDeferCause, 0)].foldl (fun s e => s.put e.1 e.2) s
  { s with update := { s.update with deferred := false, late := false } }.setUpdate .scheduled

/-- SCHEDULE (R540). -/
def execSchedule (q : Req) (time : BitVec 64) (mode : BitVec 8) (s : State) : Out :=
  runCmd (.schedule q time mode) q OD.departureSchedule (toBytes 8 time.toNat ++ toBytes 1 mode.toNat) (fun s =>
    if s.update.state != .verified then refuse s OD.departureLastResult 1
    else if 1 < mode.toNat then refuse s OD.departureLastResult 17
    else if time.toNat ≠ 0 && !s.flag OD.clockTimeValid then refuse s OD.departureLastResult 18
    else okResult ((s.setDeparture time.toNat mode.toNat).raise 0x7120 (time.toNat / 1000) [(.u8, mode.toNat)])
      OD.departureLastResult) s

/-- SCHEDULE_CANCEL (R535). -/
def execScheduleCancel (q : Req) (s : State) : Out :=
  runCmd (.scheduleCancel q) q OD.departureCancel [] (fun s =>
    if s.update.state == .scheduled then okResult (s.setUpdate .verified) OD.departureLastResult
    else refuse s OD.departureLastResult 1) s

/-- ROLLBACK (R547). -/
def execRollback (q : Req) (s : State) : Out :=
  runCmd (.rollback q) q OD.bankRollback [] (fun s =>
    let b := s.inactiveBank
    if !s.holdsImage b then refuse s OD.bankLastResult 1
    else if (s.bank b).record.secVer < (s.bank s.activeBank).record.secVer then refuse s OD.bankLastResult 2
    else if s.update.state != .idle && s.update.state != .verified then refuse s OD.bankLastResult 3
    else okResult (((s.setDeparture 0 0).bump OD.bankRollbacks 1).note 0x7125) OD.bankLastResult) s

/-- TRIAL_CONFIRMATION (R545). -/
def execTrialConfirmation (s : State) : Out :=
  if s.update.state == .trial then
    let b := s.activeBank
    let s := s.journalBank b { (s.bank b).record with trial := false }
    .next (s.endPackage.note 0x7123)
  else .next s

end Sys2Proof.Machine
end

