-- ==== Sys2Proof/Machine/Objects.lean ====
section
/-! DEFINITION. Writing objects (12, R424 to R438): the constraints between objects, what a write applies, and the staging
area. -/
namespace Sys2Proof.Machine

/-! ## Constraints between objects (R430) -/

/-- A key belongs to one of the members of an index range: the member. -/
def memberOf (base count sub k : Nat) : Option Nat :=
  if k % 256 = sub && base ≤ k / 256 && k / 256 < base + count then some (k / 256 - base) else none

/-- The value an object has, or has after a write of `v` to `k`. -/
def State.afterWrite (s : State) (k v : Nat) (j : Nat) : Nat := if j = k then v else s.get j

/-- The credit limits of a port (R98). -/
def State.creditsOk (s : State) (k v : Nat) (p : Nat) : Bool :=
  s.afterWrite k v (OD.hpReqCredits p) + s.afterWrite k v (OD.hpRwDCredits p) ≤ 4096

/-- The orders of OD 0x2600 (R114). -/
def State.qosOk (s : State) (k v : Nat) : Bool :=
  let a := s.afterWrite k v
  a OD.qosPanicLow < a OD.qosPanicHigh && a OD.qosPanicHigh ≤ 512 && a OD.qosPanicAgeLow < a OD.qosPanicAgeHigh
  && a OD.qosLoadOptimal < a OD.qosLoadModerate && a OD.qosLoadModerate < a OD.qosLoadSevere

/-- The orders of OD 0x6600 (R349). -/
def State.gcOk (s : State) (k v : Nat) : Bool :=
  let a := s.afterWrite k v
  a OD.gcGcStop < a OD.gcGcLow && a OD.gcGcLow < a OD.gcGcHigh && a OD.gcGcHigh ≤ 30

/-- The distance of the thresholds (R233). -/
def State.thresholdOk (s : State) (k v : Nat) : Bool :=
  let a := s.afterWrite k v
  a OD.thresholdCommitLevel + 300 ≤ a OD.thresholdWarnLevel && a OD.thresholdWarnLevel + 200 ≤ a OD.thresholdReleaseLevel

/-- An effective level lies at least 300 mV below the rail reading, both by the ratio after the write (R389). -/
def State.belowRail (s : State) (level ratio : Nat) : Bool :=
  let old := s.get OD.railDividerRatio
  dacCode level ratio * 1500 * ratio * old + 300 * 1024 * 1000 * old ≤ s.pins.rail * ratio * 1024 * 1000

/-- WarnLevel and CommitLevel keep their distance to the rail reading after a write (R389). -/
def State.railOk (s : State) (k v : Nat) : Bool :=
  let a := s.afterWrite k v
  let ratio := a OD.railDividerRatio
  s.belowRail (a OD.thresholdWarnLevel) ratio && s.belowRail (a OD.thresholdCommitLevel) ratio

/-- The three pin thresholds lie in 300 to 1,450 mV (R389). -/
def State.pinsOk (s : State) (ratio : Nat) : Bool :=
  [OD.thresholdWarnLevel, OD.thresholdCommitLevel, OD.thresholdReleaseLevel].all (fun k =>
    ratio ≠ 0 && 300 * ratio ≤ s.get k * 1000 && s.get k * 1000 ≤ 1450 * ratio)

/-- The rates of R280 and R321. -/
def dramRates : List Nat := [5600, 6400, 7200, 8000, 8800]
def flashRates : List Nat := [800, 1200, 1600, 2400, 3200, 3600]

/-- A DRAM population that R280 and R281 support. The last byte must be 0 (R317 gives it as 0; DESIGN CHOICE, log 144). -/
def dramPopulationOk (v : List Byte) : Bool :=
  [4, 8, 16].contains (field v 0 1) && [1, 2, 4].contains (field v 1 1) && [16, 32, 64].contains (field v 2 1)
  && field v 3 1 = 0

/-- A flash population that R324 supports: dies spread evenly over the CE, at most 4 LUNs on each (R321). The last
two bytes must be 0 (R346 gives them as 0; DESIGN CHOICE, log 144). -/
def flashPopulationOk (v : List Byte) : Bool :=
  let d := field v 0 1
  let ce := field v 1 1
  [1, 2, 4, 8, 12, 16].contains d && 1 ≤ ce && ce ≤ 4 && d % ce = 0 && d / ce ≤ 4 && field v 2 2 = 0

/-- The OCV table (R397): every entry in 2,500 to 4,400 mV and none below its predecessor. -/
def ocvOk (v : List Byte) : Bool :=
  (List.range 101).all (fun i => 2500 ≤ field v (2 * i) 2 && field v (2 * i) 2 ≤ 4400
    && (i = 0 || field v (2 * (i - 1)) 2 ≤ field v (2 * i) 2))

/-- The save region's raw cost against a quarter of the raw capacity (R334), both in bytes times the SLC factor. -/
def State.saveRegionOk (s : State) (size : Nat) : Bool :=
  let p := s.flash.dieProfile
  let raw := s.diesPopulated * field p 7 1 * field p 18 2 * field p 16 2 * 16384
  2 * size * 102 * field p 6 1 * 100 ≤ 25 * raw * 100

/-- A field of a perturbation entry against the ranges of the entry's Kind (R580, R582); a Kind is not checked against
the fields that stand (DESIGN CHOICE, log 27). -/
def State.perturbOk (s : State) (k v : Nat) : Bool :=
  let base := k / 256 * 256
  let kind := s.get (base + 1)
  match k % 256 with
  | 2 =>
    if kind = 3 then
      match v / 4096 with
      | 1 => v % 4096 < 512
      | 2 => v % 4096 < 2
      | 3 => true
      | 4 => v % 4096 < 8
      | _ => false
    else if kind = 1 || kind = 2 then v ≤ 293 && !(264 ≤ v && v ≤ 269)
    else true
  | 3 =>
    match kind with
    | 1 => v ≤ 255
    | 2 => 16 ≤ v && v ≤ 4096
    | 3 => 1 ≤ v && v ≤ 1023
    | 4 => v ≤ 15
    | _ => true
  | 4 => if kind = 2 || kind = 3 then v ≤ 15 else true
  | _ => true

/-- The constraints of a scalar object's chapter (R430). -/
def State.scalarOk (s : State) (k v : Nat) : Bool :=
  if k = OD.hpMaxWidth 0 || k = OD.hpMaxWidth 1 then v = 8 || v = 16
  else if k = OD.hpReqCredits 0 || k = OD.hpRwDCredits 0 then s.creditsOk k v 0
  else if k = OD.hpReqCredits 1 || k = OD.hpRwDCredits 1 then s.creditsOk k v 1
  else if (memberOf 0x2400 32 3 k).isSome then v % 2 ^ 28 = 0 && v ≤ 2 ^ 46
  else if 0x260001 ≤ k && k ≤ 0x26000C then s.qosOk k v
  else if k = OD.spaceSpaceWarn || k = OD.spaceSpaceCritical then
    s.afterWrite k v OD.spaceSpaceWarn < s.afterWrite k v OD.spaceSpaceCritical
  else if k = OD.termGlobalPeriod then v = 0 || 100 ≤ v
  else if k = OD.ceilingCeilingConfigured then v % 2 ^ 30 = 0
  else if k = OD.ceilingMetaCeiling then v % 2 ^ 20 = 0
  else if k = OD.drillDrillPeriod then v = 0 || 24 ≤ v
  else if k = OD.dramSpeedLimit then dramRates.contains v
  else if k = OD.flashSpeedLimit then flashRates.contains v
  else if k = OD.flashSaveCeilingMax then v % 2 ^ 34 = 0 && s.saveRegionOk v
  else if 0x660001 ≤ k && k ≤ 0x660003 then s.gcOk k v
  else if k = OD.gaugeDesignCapacity then v = 0 || 100 ≤ v
  else if k = OD.marginVtrimMax then v % 5 = 0
  else if k = OD.marginRetentionHigh || k = OD.marginRetentionLow then
    s.afterWrite k v OD.marginRetentionLow < s.afterWrite k v OD.marginRetentionHigh
  else if k = OD.counterSampleLd then v ≤ 31 || v = 0xFF
  else if k = OD.twoWireBusSpeed || k = OD.twoWireSlope then
    !(s.afterWrite k v OD.twoWireBusSpeed = 2 && s.afterWrite k v OD.twoWireSlope = 0)
  else if 0x510001 ≤ k && k ≤ 0x510003 then s.thresholdOk k v && s.railOk k v
  else if k = OD.railDividerRatio then s.pinsOk v && s.railOk k v
  else if 0xB01000 ≤ k && k ≤ 0xB01FFF then s.perturbOk k v
  else true

/-- The constraints of any writable object. -/
def State.constraintOk (s : State) (k : Nat) (v : List Byte) : Bool :=
  if k = OD.dramPopulation then dramPopulationOk v
  else if k = OD.flashPopulation then flashPopulationOk v
  else if k = OD.flashDieProfile then field v 252 4 = (crc32c (v.take 252)).toNat
  else if k = OD.gaugeOcvTable then ocvOk v
  else match findObj (k / 256) (k % 256) with
  | some o => o.type.size = 0 || s.scalarOk k (ofBytes v)
  | none => false

/-! ## Applying a write (R428, R429) -/

/-- The mixed-state window of an RWI object in ns (R114, R156, R349; R429 where the chapter states none). -/
def mixedWindow (k : Nat) : Nat := if k / 256 = 0x2600 then 2000 else if k = OD.spaceFreeLow then 10000 else 1000000

/-- The seating plan as its objects give it (R277): entries beyond PlanLength are 0xFFFF. -/
def State.seatingPlan (s : State) : List Nat :=
  (List.range (s.get OD.restorePlanLength)).map (fun i => mapGet (fun _ => 0xFFFF) s.saves.plan i)

/-- The copy of the plan in the newest vault's header follows the plan (R273). -/
def State.planChanged (s : State) : State :=
  match s.saves.vaults with
  | [] => s
  | v :: vs => { s with saves := { s.saves with vaults := { v with plan := s.seatingPlan } :: vs } }

/-- An entry of the plan is written. -/
def State.setPlanEntry (s : State) (i cid : Nat) : State :=
  { s with saves := { s.saves with plan := mapSet (fun _ => 0xFFFF) s.saves.plan i cid } }

/-- K_r (R415): ReserveMin and 5 points for each condition, at most 40 %. -/
def State.reserveShare (s : State) : Nat :=
  let one := fun (b : Bool) => if b then 5 else 0
  let r0 := s.get OD.learningInitialR25
  min 40 (s.get OD.marginReserveMin + one (90 < s.get OD.learningDaysSinceLearning)
    + one (s.flag OD.gaugeDisagreement || s.flag OD.learningDerated)
    + one (r0 ≠ 0 && 3 * r0 < 2 * s.get OD.learningLearnedR25)
    + one (10 * s.get OD.learningLearnedCapacity < 8 * s.get OD.gaugeDesignCapacity))

/-- K_r is recomputed when one of its conditions changes; a change raises event 0x6034 and a planner computation (R415). -/
def State.updateReserve (s : State) : State :=
  let k := s.reserveShare
  if s.get OD.marginReserveShare = k then s
  else ((s.keep OD.marginReserveShare k).raise 0x6034 k []).replan

/-- What the owning chapter attaches to the write of an object (R218, R230, R273, R405, R406, R415). -/
def State.written (s : State) (k v : Nat) : State :=
  if k / 256 = 0x5000 then s.replan
  else if k = OD.restorePlanLength then s.planChanged
  else if k = OD.gaugeDesignCapacity then
    let s := { s with gauge := { s.gauge with waitingCapacity := none, dayTime := s.uptime, recordDue := true } }
    ((s.put OD.learningLearnedCapacity v).keep OD.learningDaysSinceLearning 0).updateReserve
  else if k = OD.gaugeDesignR25 then
    let s := { s with gauge := { s.gauge with waitingR25 := none, recordDue := true } }
    ((s.put OD.learningLearnedR25 v).put OD.learningInitialR25 0).updateReserve
  else if k = OD.marginReserveMin then s.updateReserve
  else s

/-- The clock is set (R456). -/
def State.setClock (s : State) (t : Nat) : State :=
  let old := s.clock
  let s := ({ s with clock := t }.put OD.clockTimeValid 1).put OD.clockLastSet t
  s.raise 0x7014 (valueWord (old / 1000)) [(.u40, t / 1000)]

/-- A scalar object is stored, with its persistence and its effects. -/
def State.storeScalar (s : State) (o : ObjRow) (k v : Nat) : State :=
  let old := s.get k
  let s := s.put k v
  let s := if o.access == .rwi then
    { s with zop := { s.zop with mixed :=
        (k, old, s.uptime + mixedWindow k) :: s.zop.mixed.filter (fun m => m.1 ≠ k && s.uptime ≤ m.2.2) } } else s
  (if o.persistent then s.owe k else s).written k v

/-- A counter's own objects, at the session's Select (R574, R585). -/
def writeCounter (src : Transport) (sub v : Nat) : Act := fun s =>
  let n := s.sel src OD.counterSelect
  let c := s.counter n
  let c := if sub = 4 then { c with value := v } else if sub = 5 then { c with preset := v } else { c with sample := v = 1 }
  ok (s.setCounter n c)

/-- A staged value joins the uncommitted set (R435). -/
def stageIn (k : Nat) (v : List Byte) : List Staged → List Staged
  | [] => [{ key := k, value := v }]
  | x :: xs => if x.key = k then { key := k, value := v } :: xs else x :: stageIn k v xs

/-- The staging area holds at most 256 objects and 16 KiB of values (R435). -/
def stagingFits (a b : List Staged) : Bool :=
  a.length + b.length ≤ 256 && ((a ++ b).map (fun x => x.value.length)).sum ≤ 16384

/-- The state with the values of staged objects in force, against which constraints are checked (R430). -/
def State.withStaged (s : State) (xs : List Staged) : State := xs.foldl (fun s x => s.storeBytes x.key x.value) s

/-- A write to an RWS object (R430, R435). -/
def stageAct (k : Nat) (v : List Byte) : Act := fun s =>
  let set := stageIn k v s.zop.uncommitted
  if !((s.withStaged s.zop.committed).withStaged s.zop.uncommitted).constraintOk k v then fail s stRange
  else if !stagingFits set s.zop.committed then fail s stBusy
  else ok { s with zop := { s.zop with uncommitted := set } }

/-- The divider ratio changes: the rail reading is the same measurement at the pin (R389). -/
def State.setRatio (s : State) (o : ObjRow) (v : Nat) : State :=
  let old := s.get OD.railDividerRatio
  let s := s.storeScalar o OD.railDividerRatio v
  { s with pins := { s.pins with rail := s.pins.rail * v / old } }

/-- The effect of an accepted write to any object but a staged one. -/
def applyWrite (src : Transport) (o : ObjRow) (k : Nat) (v : List Byte) : Act := fun s =>
  let n := ofBytes v
  if o.selector then ok (s.setSel src k n)
  else if k = OD.clockNow then ok (s.setClock n)
  else if k = OD.counterSource || k = OD.counterQualifier then counterSourceAct { src := src, tag := 0, crc := 0 } (k % 256) n s
  else if k = OD.counterValue || k = OD.counterPreset || k = OD.counterSampleEnable then writeCounter src (k % 256) n s
  else if !s.constraintOk k v then
    fail (if k = OD.flashSaveCeilingMax then s.put OD.flashLastResult 5 else s) stRange
  else if k = OD.restorePlanEntry then
    ok ((s.setPlanEntry (s.sel src OD.restorePlanCursor) n).owe k).planChanged
  else if k = OD.ticketSeed then ok (s.storeScalar o k n).loadSeeds
  else if k = OD.ticketBufferMode then
    let t := s.storeScalar o k n
    ok (t.when (!s.ticketsFull && t.ticketsFull) (·.note 0x8210))
  else if k = OD.flashSaveCeilingMax then ok ((s.storeScalar o k n).put OD.flashLastResult 0)
  else if k = OD.railDividerRatio then ok (s.setRatio o n)
  else if o.type.size = 0 then ok ((s.putBlob k v).owe k)
  else ok (s.storeScalar o k n)

/-- A WRITE that has passed its checks (R427): staged or applied. -/
def writeAct (src : Transport) (k : Nat) (v : List Byte) : Act := fun s =>
  match findObj (k / 256) (k % 256) with
  | none => fail s stNoSubindex
  | some o => if o.access == .rws then stageAct k v s else applyWrite src o k v s

/-- OBJECT_WRITE (R428, R429). -/
def execObjectWrite (q : Req) (index : BitVec 16) (sub : BitVec 8) (value : List Byte) (s : State) : Out :=
  runReq (.objectWrite q index sub value) q opWrite index.toNat sub.toNat value (writeAct q.src (keyOf index.toNat sub.toNat) value) s

/-- STAGED_OBJECT_WRITE (R435). -/
def execStagedObjectWrite (q : Req) (index : BitVec 16) (sub : BitVec 8) (value : List Byte) (s : State) : Out :=
  runReq (.stagedObjectWrite q index sub value) q opWrite index.toNat sub.toNat value (writeAct q.src (keyOf index.toNat sub.toNat) value) s

/-- TIME_SET (R456). -/
def execTimeSet (q : Req) (time : BitVec 64) (s : State) : Out :=
  runReq (.timeSet q time) q opWrite 0x1010 0x01 (toBytes 8 time.toNat) (fun s => ok (s.setClock time.toNat)) s

/-- THRESHOLD_WRITE (R233, R389). -/
def execThresholdWrite (q : Req) (sub : BitVec 8) (level : BitVec 16) (s : State) : Out :=
  runReq (.thresholdWrite q sub level) q opWrite 0x5100 sub.toNat (toBytes 2 level.toNat)
    (writeAct q.src (keyOf 0x5100 sub.toNat) (toBytes 2 level.toNat)) s

/-- DIVIDER_RATIO_WRITE (R389). -/
def execDividerRatioWrite (q : Req) (ratio : BitVec 16) (s : State) : Out :=
  runReq (.dividerRatioWrite q ratio) q opWrite 0x8400 0x01 (toBytes 2 ratio.toNat) (writeAct q.src OD.railDividerRatio (toBytes 2 ratio.toNat)) s

/-- SAVE_CEILING_MAX_WRITE (R334). -/
def execSaveCeilingMaxWrite (q : Req) (size : BitVec 64) (s : State) : Out :=
  runReq (.saveCeilingMaxWrite q size) q opWrite 0x6000 0x03 (toBytes 8 size.toNat) (writeAct q.src OD.flashSaveCeilingMax (toBytes 8 size.toNat)) s

/-! ## COMPARE_WRITE (R441) -/

/-- The staged value of an object: of the uncommitted set, failing that of the committed set (R435). -/
def State.stagedValue (s : State) (k : Nat) : Option (List Byte) :=
  match s.zop.uncommitted.find? (fun x => x.key = k) with
  | some x => some x.value
  | none => (s.zop.committed.find? (fun x => x.key = k)).map (·.value)

/-- The last value written to an object, as the session sees it. -/
def State.lastWritten (s : State) (src : Transport) (o : ObjRow) (k : Nat) : List Byte :=
  let n := if o.selector then s.sel src k
    else if k = OD.clockNow then s.clock
    else if k = OD.restorePlanEntry then mapGet (fun _ => 0xFFFF) s.saves.plan (s.sel src OD.restorePlanCursor)
    else
      let c := s.counter (s.sel src OD.counterSelect)
      if k = OD.counterSource then counterSource (s.sel src OD.counterSelect) c
      else if k = OD.counterQualifier then c.qualifier
      else if k = OD.counterValue then c.value % 2 ^ 48
      else if k = OD.counterPreset then c.preset
      else if k = OD.counterSampleEnable then (if c.sample then 1 else 0)
      else s.get k
  if o.type.size = 0 then s.blob k else toBytes o.type.size n

/-- The value with which COMPARE_WRITE compares. -/
def State.comparedValue (s : State) (src : Transport) (o : ObjRow) (k : Nat) : List Byte :=
  if o.access == .rws then (s.stagedValue k).getD (s.lastWritten src o k) else s.lastWritten src o k

/-- The effect of a COMPARE_WRITE. -/
def compareAct (src : Transport) (k : Nat) (payload : List Byte) : Act := fun s =>
  match findObj (k / 256) (k % 256) with
  | none => fail s stNoSubindex
  | some o =>
    let now := s.comparedValue src o k
    if now = payload.take o.maxLen then writeAct src k (payload.drop o.maxLen) s
    else (s, .reply { status := stMismatch, payload := now })

/-- COMPARE_WRITE (R441). -/
def execCompareWrite (q : Req) (index : BitVec 16) (sub : BitVec 8) (payload : List Byte) (s : State) : Out :=
  runReq (.compareWrite q index sub payload) q opCompareWrite index.toNat sub.toNat payload (compareAct q.src (keyOf index.toNat sub.toNat) payload) s

/-- READ_STAGED (R435). -/
def execReadStaged (q : Req) (index : BitVec 16) (sub : BitVec 8) (s : State) : Out :=
  runReq (.readStaged q index sub) q opReadStaged index.toNat sub.toNat [] (fun s =>
    match s.stagedValue (keyOf index.toNat sub.toNat) with
    | some v => okWith s v
    | none => fail s stNoData) s

/-! ## Applying the committed set (R437) -/

/-- Why a staged object fails at its apply point: 0 it does not, 1 its range, 2 a constraint, 3 it exists no longer. -/
def State.stagedFails (s : State) (x : Staged) : Nat :=
  match findObj (x.key / 256) (x.key % 256) with
  | none => 3
  | some o =>
    if s.update.removed.contains x.key then 3
    else if (o.type.size ≠ 0 && x.value.length ≠ o.type.size) || !rangeOk o x.value then 1
    else if !s.constraintOk x.key x.value then 2 else 0

/-- The first object of a set that fails. -/
def State.firstFailing (s : State) (xs : List Staged) : Option Staged := xs.find? (fun x => s.stagedFails x ≠ 0)

/-- The committed set is dropped or done. -/
def State.endCommitted (s : State) : State := State.put { s with zop := { s.zop with committed := [] } } OD.stagingApplyPoint 0xFF

/-- The committed set is applied in full or not at all (R437); at a BOOT its values are written to the settings area. -/
def State.applyCommitted (s : State) (atBoot : Bool) : State :=
  let xs := s.zop.committed
  let t := s.withStaged xs
  match t.firstFailing xs with
  | some x =>
    let r := t.stagedFails x
    ((s.endCommitted.put OD.stagingLastApplyResult r).put OD.stagingLastRejected x.key).raise 0x7003 0
      [(.u24, x.key), (.u8, r)]
  | none =>
    let t := xs.foldl (fun s x => if atBoot then s.recordSetting x.key else s.owe x.key) t
    let t := ((t.endCommitted.put OD.stagingLastApplyResult 0).put OD.stagingLastRejected 0).put OD.stagingLastApplied s.clock
    t.raise 0x7002 xs.length [(.u32, s.tables.globalTerm)]

/-- The committed set at a global term boundary (R437). -/
def State.applyAtBoundary (s : State) : State :=
  if s.zop.committed.isEmpty || s.get OD.stagingApplyPoint = 1 then s else s.applyCommitted false

/-- The committed set as BOOT begins (R437). -/
def State.applyAtBoot (s : State) : State :=
  if s.zop.committed.isEmpty || s.get OD.stagingApplyPoint ≠ 1 then s else s.applyCommitted true

/-- DISCARD_STAGED (R436). -/
def execDiscardStaged (q : Req) (s : State) : Out :=
  runCmd (.discardStaged q) q OD.stagingDiscard [] (fun s =>
    if s.zop.uncommitted.isEmpty then refuse s OD.stagingLastResult 2
    else okResult ({ s with zop := { s.zop with uncommitted := [] } }.note 0x7005) OD.stagingLastResult) s

end Sys2Proof.Machine
end

