-- ==== Sys2Proof/Machine/Flash.lean ====
section
/-! DEFINITION. Flash channels and the flash tier (09): media, stripes, bad blocks, dies and channels, backing pages, garbage
collection and the save region's slots. -/
namespace Sys2Proof.Machine

/-! ## Geometry (R324) -/

/-- The fields of the die profile that the tier uses. -/
def State.profile (s : State) (off n : Nat) : Nat := field s.flash.dieProfile off n
def State.cellBits (s : State) : Nat := s.profile 6 1
def State.planes (s : State) : Nat := s.profile 7 1
def State.pagesPerBlock (s : State) : Nat := s.profile 16 2
def State.blocksPerDie (s : State) : Nat := s.planes * s.profile 18 2
def State.endurance (s : State) : Nat := s.profile 20 4
def State.disturbLimit (s : State) : Nat := s.profile 28 4

/-- The key of a block: its die (channel × 16 + die) and its number on the die. -/
def blockKey (c die block : Nat) : Nat := (c * 16 + die) * 2 ^ 20 + block

/-- The die of a block. -/
def dieOfBlock (k : Nat) : Nat := k / 2 ^ 20

def State.block (s : State) (k : Nat) : FBlock := mapGet (fun _ => FBlock.initial) s.flash.blocks k
def State.setBlock (s : State) (k : Nat) (b : FBlock) : State :=
  { s with flash := { s.flash with blocks := mapSet (fun _ => FBlock.initial) s.flash.blocks k b } }

/-- 4 KiB pages of one die in native mode (R325). -/
def State.pagesPerDie (s : State) : Nat := s.blocksPerDie * s.pagesPerBlock * 4

/-- Data bytes of a block in native mode and in SLC mode, of whose pages one holds a bit per cell (R324, R325). -/
def State.blockBytes (s : State) : Nat := s.pagesPerBlock * 16384
def State.slcBlockBytes (s : State) : Nat := if s.cellBits = 0 then 0 else s.pagesPerBlock / s.cellBits * 16384

/-! ## Division of the media (R334) -/

/-- Save-region blocks of each die for a SaveCeilingMax: twice it and 2 %, spread equally over all dies (R334). -/
def State.saveBlocks (s : State) (size : Nat) : Nat :=
  let perDie := if s.diesPopulated = 0 then 0 else 2 * size * 102 / 100 / s.diesPopulated
  if s.slcBlockBytes = 0 then 0 else (perDie + s.slcBlockBytes - 1) / s.slcBlockBytes

/-- The save region takes the highest-numbered blocks of each die, and the system area blocks 0 to 3 of die 0 of each channel:
the spec gives their numbers, not their places (DESIGN CHOICE, log 167). -/
def State.isSave (s : State) (size k : Nat) : Bool :=
  let b := k % 2 ^ 20
  let n := s.saveBlocks size
  n ≠ 0 && b < s.blocksPerDie && s.blocksPerDie ≤ b + n
def isSystem (k : Nat) : Bool := k % 2 ^ 20 < 4 && dieOfBlock k % 16 = 0

/-- The block works in SLC mode: the save region, of the smaller of two sizes while blocks change store, and the system area. -/
def State.isSlc (s : State) (k : Nat) : Bool := s.isSave s.flash.saveMax k || isSystem k

/-- The block is to change store (R334). -/
def State.changesStore (s : State) (k : Nat) : Bool :=
  match s.flash.converting with
  | none => false
  | some size => s.isSave size k && !s.isSave s.flash.saveMax k

/-! ## The stored form (R325, R326, R328) -/

/-- A codeword under its name and write sequence number, up to CCRC; the LDPC parity that follows is the code's, which the spec
does not give (R325). -/
def codeword (data : List Byte) (name wseq : Nat) : List Byte :=
  let body := data.take 4096 ++ toBytes 6 name ++ toBytes 6 wseq
  body ++ toBytes 4 (crc32c body).toNat

/-- A codeword is stored under this type: the types of the table, of which 0xA is a type of flash-map entries only (R326). -/
def storedType (type : Nat) : Bool := type < 10 || type = 15

/-- The 8-byte flash-map entry of a name (R328). The block's number on its die is its plane and its place in the plane in turn, and
page and codeword are those of the program's number: the model's places (DESIGN CHOICE, log 165). -/
def State.flashEntry (s : State) (name : Nat) : Nat :=
  let c := mapGet (fun _ => FlashCopy.none) s.tables.flash name
  if !c.present then 0
  else
    let die := dieOfBlock c.block % 16
    let perCe := Nat.max 1 (field s.flash.population 0 1 / Nat.max 1 (field s.flash.population 1 1))
    let planes := Nat.max 1 s.planes
    let b := c.block % 2 ^ 20
    let page := c.offset / 4 % Nat.max 1 s.pagesPerBlock
    let vault := name / 2 ^ 44 = 0 && s.saves.restore.locations.any (fun e => s.pageName (leafCid e.1) (leafPage e.1) = name)
    2 ^ 63 + (if vault then 2 ^ 62 else 0) + (if c.lost then 2 ^ 61 else 0) + (dieOfBlock c.block / 16 % 64) * 2 ^ 52
      + (die / perCe % 4) * 2 ^ 50 + (die % perCe % 4) * 2 ^ 48 + (b % planes % 8) * 2 ^ 45 + (b / planes % 2 ^ 14) * 2 ^ 31
      + (page % 2 ^ 13) * 2 ^ 18 + (c.offset % 4) * 2 ^ 16

/-- Channels of a group in service, and dies in service on them. -/
def State.groupChannels (s : State) (g : Nat) : Nat := (List.range 16).countP (fun i => s.fchanServes (16 * g + i))
def State.groupDies (s : State) (g : Nat) : Nat :=
  ((List.range 16).map (fun i =>
    if s.fchanServes (16 * g + i) then popcount 16 (s.fchan (16 * g + i)).dies.toNat else 0)).sum

/-! ## Backing pages (R336) -/

/-- The save region's native cost in 4 KiB pages (R334). -/
def State.saveRegionPages (s : State) : Nat := 2 * s.flash.saveMax * 102 * s.cellBits / (100 * 4096)

/-- P_t: data pages of the flash tier after parity; one unit of each stripe is parity (R327). -/
def State.tierPages (s : State) : Nat :=
  let dies := s.diesInService
  let save := s.saveRegionPages
  ((List.range 4).map (fun g =>
    let d := s.groupDies g
    let n := s.groupChannels g
    let raw := s.pagesPerDie * d * 98 / 100 - (if dies = 0 then 0 else save * d / dies)
    if n = 0 then 0 else raw * (n - 1) / n)).sum

/-- B (R336). -/
def State.backingPages (s : State) : Nat :=
  let ps := s.get OD.spaceTableNodesTotal + s.get OD.ceilingMetaCeiling / 1024
  (s.tierPages * (100 - s.get OD.gcOverProvision) - 100 * (ps + s.depotPages)) / (100 + s.get OD.termSnapshotReserve)

/-! ## Garbage collection's tier (R342) -/

/-- Flash-tier blocks of the dies in service. -/
def State.tierBlocks (s : State) : Nat :=
  let perBlock := 4 * s.pagesPerBlock
  if perBlock = 0 then 0 else s.diesInService * s.blocksPerDie * 98 / 100 - s.saveRegionPages / perBlock

/-- A block holds a valid copy: an entry points to it, or a copy superseded since the last checkpoint lies in it (R621). -/
def State.blockValid (s : State) (k : Nat) : Bool :=
  s.tables.flash.any (fun e => e.2.present && !e.2.lost && e.2.block == k) || s.flash.superseded.any (fun c => c.block == k)

/-- Blocks that hold a valid copy. -/
def State.validBlocks (s : State) : Nat :=
  (distinct ((s.tables.flash.map (fun e => e.2.block)) ++ s.flash.superseded.map (·.block))).countP s.blockValid

/-- f, in 1/1000 (R342). -/
def State.freeShare (s : State) : Nat :=
  let n := s.tierBlocks
  if n = 0 then 0 else (n - s.validBlocks) * 1000 / n

/-- The tier that f selects: 0 Idle, 1 Background, 2 Priority, 3 Blocking. -/
def State.gcTier (s : State) : Nat :=
  let f := s.freeShare
  if s.get OD.gcGcHigh * 10 ≤ f then 0 else if s.get OD.gcGcLow * 10 ≤ f then 1 else if s.get OD.gcGcStop * 10 ≤ f then 2 else 3

/-- Garbage collection runs in this mode (R344). -/
def State.gcRuns (s : State) : Bool := s.inMode [.restore, .service, .maintenance]

/-- The tier is evaluated; entering and leaving the two upper ones is reported. -/
def State.checkGc (s : State) : State :=
  let old := s.get OD.gcGcState
  let new := s.gcTier
  let s := (s.put OD.gcFreeShare s.freeShare).put OD.gcGcState new
  if old = new then s
  else if new = 2 then s.note 0x4030
  else if new = 3 then s.note 0x4031
  else if 2 ≤ old then s.note 0x4032 else s

/-- BackingPagesTotal is recomputed (R336). -/
def State.recomputeBacking (s : State) : State := (s.put OD.spaceBackingPagesTotal s.backingPages).checkGc.checkSpace

/-! ## Copies (R326, R328, R341) -/

/-- The least-erased erased block of those listed, or the first unlisted one (R345). -/
def leastErased (bs : List (Nat × FBlock)) : Option (Nat × Nat) :=
  match bs with
  | [] => none
  | (k, b) :: r =>
    match leastErased r with
    | none => if b.erased && !b.retired then some (k, b.erases) else none
    | some (j, e) => if b.erased && !b.retired && b.erases < e then some (k, b.erases) else some (j, e)

/-- The first block of a die in service behind the system area, where the write streams begin. -/
def State.firstBlock (s : State) : Nat := blockKey (((List.range 64).find? s.fchanServes).getD 0) 0 4

/-- The write stream of a name (R341): flush is hot, a siding and its directory cold, depot pages have their own, and the table image,
the metadata log and the label storage areas are of the system. A snapshot copy, of which the table says nothing, is cold (DESIGN CHOICE,
log 165). -/
def streamOf (name : Nat) : Nat :=
  match name / 2 ^ 44 with
  | 0 => 0 | 1 => 2 | 4 => 1 | 10 => 1 | _ => 3

/-- The place of a stream. -/
def State.place (s : State) (stream : Nat) : Nat := mapGet (fun _ => 4) s.flash.places stream

/-- The block to which a stream's next program goes: the place of its last completed program, or a new one. -/
def State.writeBlock (s : State) (stream : Nat) : Nat :=
  if (s.block (s.place stream)).retired then
    match leastErased (s.flash.blocks.filter (fun e => !s.isSlc e.1)) with
    | some (k, _) => k
    | none => s.firstBlock
  else s.place stream

/-- A copy programmed under a name in a stream takes its place, and the copy it supersedes stays until the next flush checkpoint
(R621). -/
def State.programIn (s : State) (stream name : Nat) (c : Cipher) : State :=
  let b := s.writeBlock stream
  let s := (s.supersede name).setFlashCopy name
    { present := true, lost := false, content := c, block := b, offset := s.flash.wseq % 2 ^ 48 }
  { s with flash := { s.flash with wseq := s.flash.wseq + 1 } }

def State.program (s : State) (name : Nat) (c : Cipher) : State := s.programIn (streamOf name) name c

/-- The write sequence number of another program (R325). -/
def State.nextWseq (s : State) : State := { s with flash := { s.flash with wseq := s.flash.wseq + 1 } }

/-- A copy moves to another block (R343). -/
def State.moveCopy (s : State) (b : Nat) (e : Nat × FlashCopy) : State :=
  (s.setFlashCopy e.1 { e.2 with block := b, offset := s.flash.wseq }).nextWseq

/-- Every valid copy of a block is relocated, in the cold stream (R331, R341, R343). -/
def State.relocate (s : State) (k : Nat) : State :=
  let b := s.writeBlock 1
  let dest := if b = k then k + 1 else b
  (s.tables.flash.filter (fun e => e.2.present && !e.2.lost && e.2.block == k)).foldl (fun s e => s.moveCopy dest e) s

/-! ## Retirement (R331, R332, R339) -/

/-- Spares of a die, 2 % of its good blocks (R331), and those left. -/
def State.sparesPerDie (s : State) (d : Nat) : Nat :=
  (s.blocksPerDie - s.flash.blocks.countP (fun e => e.2.factory && dieOfBlock e.1 == d)) * 2 / 100
def State.sparesLeft (s : State) (d : Nat) : Nat := s.sparesPerDie d - mapGet (fun _ => 0) s.flash.sparesUsed d

/-- Save-region slots of a block (R337). -/
def State.slotsPerBlock (s : State) : Nat := Nat.max 1 (s.slcBlockBytes / 2 ^ 20)

/-- `n` slots are taken from the overhead; what it cannot give lowers the usable capacity (R339). -/
def State.loseSlots (s : State) (n : Nat) : State :=
  let left := s.flash.overhead
  let lost := n - left
  let was := s.flash.slotsLost
  let s := { s with flash := { s.flash with overhead := left - n, slotsLost := was + lost } }
  s.when (0 < lost && was = 0) (·.note 0x4041)

/-- A die serves: its channel is in service and the die is. -/
def State.dieServes (s : State) (d : Nat) : Bool := s.fchanServes (d / 16) && (s.fchan (d / 16)).dies.getLsbD (d % 16)

/-- Copies on the dies of a channel that serve no longer, which the stripes are to give back (R332, R333). -/
def State.outOfReach (s : State) (c : Nat) : List (Nat × FlashCopy) :=
  s.tables.flash.filter (fun e => e.2.present && dieOfBlock e.2.block / 16 == c && !s.dieServes (dieOfBlock e.2.block))

/-- A codeword that cannot be read (R330, R335): a depot page is poisoned; another copy keeps its entry with POIS, so that its fetch
fails. -/
def State.loseCopy (s : State) (name : Nat) : State :=
  let c := s.flashCopy name
  let s := if c.present then s.setFlashCopy name { c with lost := true } else s
  if name / 2 ^ 44 = 1 then s.setDepot (name % 2 ^ 44) { s.depotEntry (name % 2 ^ 44) with pois := true } else s

/-- A second channel of a group goes out before the rebuild of the first has ended: codewords that need both are unreadable (R333); their
entries stay, marked as those of R328 (DESIGN CHOICE, log 187). -/
def State.loseBoth (s : State) (c : Nat) : State :=
  let g := c / 16
  let others := ((List.range 16).map (16 * g + ·)).filter (fun i => i ≠ c && (s.fchan i).rebuilding)
  if others.isEmpty then s
  else (((c :: others).flatMap s.outOfReach).map (·.1)).foldl State.loseCopy (s.raise 0x4013 0 [(.u8, c)])

/-- A channel goes out of service (R333), and stays so across starts (R520). -/
def State.channelOut (s : State) (c cause : Nat) : State :=
  if (s.fchan c).state ≠ 0 then s
  else
    let s := (s.setFchan c { s.fchan c with state := 1, cause := cause, rebuilding := true }).recordState 0x0112 (flashStateKey c)
    let s := s.raise 0x4002 0 [(.u8, c), (.u8, cause)]
    let s := (s.loseBoth c).recomputeBacking
    (s.when (s.ctl.mode == .save) (·.raise 0x2815 0 [(.u8, c)])).isolated .flash c s.channelsInService

/-- A die is retired (R332). -/
def State.retireDie (s : State) (c die : Nat) : State :=
  let x := s.fchan c
  if x.retired.getLsbD die then s
  else
    let bit := 1#16 <<< die
    let perDie := if s.diesPopulated = 0 then 0 else 2 * s.flash.saveMax / 2 ^ 20 / s.diesPopulated
    let s := s.setFchan c { x with dies := x.dies &&& ~~~bit, retired := x.retired ||| bit, rebuilding := true }
    let s := ((s.bump OD.wearDiesRetired 1).raise 0x4022 0 [(.u16, c * 16 + die)]).loseSlots perDie
    if (s.fchan c).dies = 0 then s.channelOut c 2 else s.recomputeBacking.replan

/-- A block is retired and a spare of its die takes its place; its valid copies are relocated (R331). -/
def State.retireBlock (s : State) (c die k code : Nat) : State :=
  let d := c * 16 + die
  let total := s.sparesPerDie d
  let before := s.sparesLeft d
  let s := s.setBlock k { s.block k with retired := true, erased := false, isOpen := false }
  let s := { s with flash := { s.flash with
    sparesUsed := mapSet (fun _ => 0) s.flash.sparesUsed d (mapGet (fun _ => 0) s.flash.sparesUsed d + 1) } }
  let s := (s.bump OD.wearGrownBadBlocks 1).raise code 0 [(.u16, d)]
  let left := s.sparesLeft d
  let share := if total = 0 then 0 else left * 100 / total
  let s := if share < s.get OD.wearSpareLeftMin then s.put OD.wearSpareLeftMin share else s
  let s := s.when (left * 4 < total && total ≤ before * 4) (·.raise 0x4023 0 [(.u16, d)])
  let s := s.relocate k
  if before ≤ 1 then s.retireDie c die else s

/-! ## Wear (R345) -/

/-- The coldest of the least-erased blocks that hold data (R345). -/
def coldest : List (Nat × FBlock) → Option (Nat × FBlock)
  | [] => none
  | e :: r =>
    match coldest r with
    | none => if e.2.erased || e.2.retired then none else some e
    | some f =>
      if e.2.erased || e.2.retired then some f
      else if e.2.erases < f.2.erases || (e.2.erases = f.2.erases && e.2.oldest < f.2.oldest) then some e else some f

/-- The wear figures of the flash tier after an erase of a block. -/
def State.checkWear (s : State) : State :=
  let native := s.flash.blocks.filter (fun e => !s.isSlc e.1)
  let n := s.tierBlocks
  let avg := if n = 0 then 0 else (native.map (·.2.erases)).sum / n
  let top := (native.map (·.2.erases)).foldl Nat.max 0
  let low := if native.length < n then 0 else (native.map (·.2.erases)).foldl Nat.min top
  let slc := ((s.flash.blocks.filter (fun e => s.isSave s.flash.saveMax e.1)).map (·.2.erases)).foldl Nat.max 0
  let life := if s.endurance = 0 then 0 else Nat.min 255 (avg * 100 / s.endurance)
  let s := ((((s.put OD.wearEraseAvg avg).put OD.wearEraseMin low).put OD.wearEraseMax top).put OD.wearSlcEraseMax
    (Nat.max slc (s.get OD.wearSlcEraseMax))).put OD.wearLifeUsed life
  let was := s.flash.lifeReported
  let cold : Option Nat := if avg + s.endurance / 10 < top then Option.map Prod.fst (coldest native) else none
  let s := { s with flash := { s.flash with lifeReported := Nat.max was life, leveling := cold } }
  let s := s.when (was < 80 && 80 ≤ life) (·.note 0x4050)
  let s := s.when (was < 95 && 95 ≤ life) (·.note 0x4051)
  s.when (was < 100 && 100 ≤ life) (·.note 0x4052)

/-! ## Rows -/

/-- The open stripe of a group in a write stream: each stream fills its own (R341). -/
def stripeKey (g stream : Nat) : Nat := 4 * stream + g

/-- A program unit joins the stripe of its group and stream; the last of its data units closes it (R327). -/
def State.stripeUnit (s : State) (g stream : Nat) : State :=
  let d := fun (_ : Nat) => Stripe.initial
  let x := mapGet d s.flash.stripes (stripeKey g stream)
  let full := s.groupChannels g - 1
  let x := { x with units := x.units + 1, openSince := if x.units = 0 then s.uptime else x.openSince }
  let x := if full ≤ x.units then { x with units := 0, number := x.number + 1 } else x
  { s with flash := { s.flash with stripes := mapSet d s.flash.stripes (stripeKey g stream) x } }

/-- The oldest snapshot frame that waits for its program is programmed: its record becomes a copy, and the frame returns to
the pool (R182). The page's POIS is set with the move when a line of the page is poisoned in DRAM (R154). -/
def State.programSnap (s : State) : State :=
  let waits := fun (r : SnapRecord) => match r.kind with | .frame _ => true | .zero => false | .copy _ _ _ _ => false | .depot _ => false
  match s.tables.snapshots.find? (fun e => e.2.any waits) with
  | none => s
  | some e =>
    match e.2.find? waits with
    | some r =>
      match r.kind with
      | .frame f =>
        let im := s.snapImage e.1 r.page f
        let s := s.program (s.snapName e.1 r.page) (flashCipher (s.pageName e.1 r.page) im)
        let s := s.setSnaps e.1 (e.2.map (fun x => if x = r then s.copyRecord e.1 r im else x))
        let key := leafKey e.1 r.page
        if (s.leaf key).res && (s.residentImage key).bad ≠ 0 then s.poisonLeaf key else s
      | .zero => s
      | .copy _ _ _ _ => s
      | .depot _ => s
    | none => s

/-- The move of the next snapshot frame to flash, under the pipe mismatches that it meets: a block that fails on three pairings abandons
it, and it is made again later (R382). -/
def State.snapMove (s : State) (ps : Pairings) : State :=
  let (t, bad) := s.pipeFaults ps
  (if bad then t else t.programSnap).reportSince s

/-- FLASH_PROGRAM_COMPLETE (R182, R327, R331, R339). A native program that a commit fence found on its die completes, and nothing of
it is applied (R340). -/
def execFlashProgramComplete (c : Fc) (die : Fin 16) (block : Nat) (bytes : Nat) (ok : Bool) (s : State) (pairings : Pairings := [])
    (stream : Fin 4 := 0) : Out :=
  if !s.mainDieRuns then .next s.unlist
  else
  let k := blockKey c.val die.val block
  let s := s.count 0xF041 c.val 1
  let b := s.block k
  let slc := s.isSlc k
  if ok then
    let s := s.setBlock k { b with erased := false, isOpen := b.written + bytes < (if slc then s.slcBlockBytes else s.blockBytes)
                                   written := b.written + bytes, oldest := if b.erased then s.clock else b.oldest }
    let s := (s.bump (OD.fcBytesProgrammed c.val) bytes).nextWseq
    if slc then .next s
    else
      let s := { s with flash := { s.flash with places := mapSet (fun _ => 4) s.flash.places stream.val k } }
      let s := s.stripeUnit (c.val / 16) stream.val
      .next (if s.gcRuns && !s.flush.metaHold then s.snapMove pairings else s)
  else
    let s := (s.bump (OD.fcProgramFailures c.val) 1).retireBlock c.val die.val k 0x4020
    if s.isSave s.flash.saveMax k then .next ((s.loseSlots s.slotsPerBlock).raise 0x4040 0 [(.u16, c.val * 16 + die.val)]) else .next s

/-- FLASH_ERASE_COMPLETE (R331, R345); the slots of a retired save-region block come from the overhead (R339). An erase that a commit
fence found has been suspended and abandoned (R340). -/
def execFlashEraseComplete (c : Fc) (die : Fin 16) (block : Nat) (ok : Bool) (s : State) : Out :=
  if !s.mainDieRuns || s.ctl.mode == .save then .next s.unlist
  else
  let k := blockKey c.val die.val block
  let s := s.count 0xF042 c.val 1
  let b := s.block k
  if ok then
    .next (s.setBlock k { FBlock.initial with erases := b.erases + 1 }).checkWear
  else
    let s := (s.bump (OD.fcEraseFailures c.val) 1).retireBlock c.val die.val k 0x4021
    if s.isSave s.flash.saveMax k then .next (s.loseSlots s.slotsPerBlock) else .next s

/-- STRIPE_CLOSE_TIMEOUT (R327): pad codewords and parity close the open stripe. -/
def execStripeCloseTimeout (group : Fin 4) (s : State) (stream : Fin 4 := 0) : Out :=
  s.await (4 + group.val / 2) (.stripeCloseTimeout group stream) (fun s =>
  let d := fun (_ : Nat) => Stripe.initial
  let k := stripeKey group.val stream.val
  let x := mapGet d s.flash.stripes k
  if x.units = 0 then .next s
  else
    let full := s.groupChannels group.val - 1
    let x := { x with pads := x.pads + (full - x.units), units := 0, number := x.number + 1 }
    .next { s with flash := { s.flash with stripes := mapSet d s.flash.stripes k x } })

/-- LUN_TIMEOUT (R332): Reset LUN; the third within 10 s retires the die. -/
def execLunTimeout (c : Fc) (die : Fin 16) (s : State) : Out :=
  let x := s.fchan c.val
  let recent := (mapGet (fun _ => []) x.timeouts die.val).filter (fun t => s.uptime ≤ t + 10000000000)
  let times := s.uptime :: recent
  let s := s.setFchan c.val { x with timeouts := mapSet (fun _ => []) x.timeouts die.val times,
                                     resetting := x.resetting ||| (1#16 <<< die.val) }
  if 3 ≤ times.length then .next (s.retireDie c.val die.val) else .next s

/-- CHANNEL_STATUS_TIMEOUT (R333, R261). -/
def execChannelStatusTimeout (c : Fc) (s : State) : Out := .next (s.channelOut c.val 4)

/-- FLASH_ZQ_SHORT_DUE (R322). -/
def execFlashZqShortDue (c : Fc) (s : State) : Out := .next (s.setFchan c.val { s.fchan c.val with lastZq := s.uptime })

/-- A size conversion of the save region ends when no block that is to change store holds a valid copy (R334). -/
def State.endConversion (s : State) : State :=
  match s.flash.converting with
  | none => s
  | some size =>
    if s.tables.flash.any (fun e => e.2.present && s.changesStore e.2.block)
        || s.flash.superseded.any (fun c => s.changesStore c.block) then s
    else { s with flash := { s.flash with saveMax := size, converting := none } }.note 0x4042

/-- BACKING_RECOMPUTE (R336). -/
def execBackingRecompute (s : State) : Out := if s.gcRuns then .next s.recomputeBacking.endConversion else .next s

/-- The block is queued for refresh relocation (R329): by its reads or a late read step, or by the age of its oldest data. -/
def State.refreshDue (s : State) (b : FBlock) : Bool :=
  b.refresh || (!b.erased && b.oldest + s.get OD.gcRefreshAge * 3600000000000 < s.clock)

/-- Valid copies in a block. -/
def State.validIn (s : State) (k : Nat) : Nat := s.tables.flash.countP (fun e => e.2.present && !e.2.lost && e.2.block == k)

/-- Closed blocks of the flash tier. -/
def State.closedBlocks (s : State) : List (Nat × FBlock) :=
  s.flash.blocks.filter (fun e => !e.2.erased && !e.2.isOpen && !e.2.retired && !s.isSlc e.1)

/-- The block is a victim of garbage collection (R329, R334, R343, R345): one that changes store or that wear levelling has chosen;
else one queued for refresh, which go first and alone in the Idle tier; else the closed block of the lowest valid share, and of two
equal ones the older. -/
def State.victimOk (s : State) (k : Nat) : Bool :=
  let b := s.block k
  if s.changesStore k || s.flash.leveling == some k || s.refreshDue b then true
  else if s.gcTier = 0 || s.closedBlocks.any (fun e => s.refreshDue e.2) then false
  else
    let v := s.validIn k
    s.closedBlocks.any (fun e => e.1 == k)
      && s.closedBlocks.all (fun e => v < s.validIn e.1 || (v == s.validIn e.1 && b.oldest ≤ e.2.oldest))

/-- A fetch of a copy in the block is outstanding (R343). -/
def State.fetchedFrom (s : State) (k : Nat) : Bool :=
  s.tables.leaves.any (fun e => e.2.busy && e.2.flashOnly && (s.flashCopy (s.pageName (leafCid e.1) (leafPage e.1))).block == k)
  || s.tables.depot.any (fun e => e.2.busy && !e.2.res && (s.flashCopy (flashName 1 e.1)).block == k)

/-- GC_RELOCATION (R343, R334, R335, R621): the victim's valid copies are moved, those that cannot be read, listed by name, keep their
entries with POIS, and the block is erased unless a superseded copy of the last checkpoint lies in it or a fetch from it is outstanding.
Save-region blocks are never touched. -/
def execGcRelocation (block : Nat) (s : State) (bad : List (BitVec 48) := []) : Out :=
  s.command 5 (.gcRelocation block bad) (fun s =>
  let b := s.block block
  if !s.gcRuns || s.isSlc block || b.retired || !s.victimOk block then .next s.unlist
  else
    let busy := s.fetchedFrom block
    let s := (bad.filter (fun n => (s.flashCopy n.toNat).present && (s.flashCopy n.toNat).block == block)).foldl
      (fun s n => s.setFlashCopy n.toNat { s.flashCopy n.toNat with lost := true }) s
    let moved := s.validIn block
    let s := (s.relocate block).bump OD.wearGcBytesProgrammed (4096 * moved)
    let s := { s with flush := { s.flush with gcInterval := s.flush.gcInterval + 4096 * moved } }
    let s := s.when (s.refreshDue b) (·.bump OD.wearRefreshRelocations 1)
    let s := if busy || s.flash.superseded.any (fun c => c.block == block) then s
      else (s.setBlock block { FBlock.initial with erases := b.erases + 1 }).checkWear
    .next s.endConversion.checkGc)

/-! ## Write protection (R608) -/

/-- The level of every FCn_WP_N: high from BOOT step t4 until the Main die is reset. -/
def State.fcWpN (s : State) : Bool := s.mainDieRuns && s.reachedStep 4

/-! ## Channels that return -/

/-- FLASH_RETURN_CHANNEL (R333). -/
def execFlashReturnChannel (q : Req) (c : BitVec 8) (s : State) : Out :=
  runCmd (.flashReturnChannel q c) q OD.flashReturnChannel (toBytes 1 c.toNat) (fun s =>
    if 64 ≤ c.toNat then refuse s OD.flashLastResult 1
    else if (s.fchan c.toNat).state = 0 then refuse s OD.flashLastResult 2
    else okResult (s.setFchan c.toNat { s.fchan c.toNat with state := 2 }) OD.flashLastResult) s

/-- SAVE_SLOT_ERASE (R337): the slots released first are erased. -/
def execSaveSlotErase (s : State) : Out :=
  s.await 7 .saveSlotErase (fun s =>
  match s.flash.released with
  | [] => .next s.unlist
  | _ :: r => if s.mainDieRuns && s.ctl.mode != .save then .next { s with flash := { s.flash with released := r } } else .next s.unlist)

/-- STRIPE_REBUILD_COMPLETE (R332, R333): what the lost dies held has been rebuilt and relocated, but for what could not be. -/
def execStripeRebuildComplete (c : Fc) (s : State) : Out :=
  s.await (4 + c.val / 32) (.stripeRebuildComplete c) (fun s =>
  let s := (s.outOfReach c.val).foldl (fun s e => if e.2.lost then s else s.moveCopy (s.writeBlock 1) e) s
  .next (s.setFchan c.val { s.fchan c.val with rebuilding := false }))

end Sys2Proof.Machine
end

