-- ==== Sys2Proof/Machine/Dram.lean ====
section
/-! DEFINITION. DRAM channels (08): location of frames, refresh, activate tallies, ECC outcomes, write CRC, patrol scrub, freeze
and its record, salvage initialisation and the thaw pass. -/
namespace Sys2Proof.Machine

/-! ## Locations (R282) -/

/-- Where a frame lies: subchannel, rank, bank group, bank, half and row. -/
structure DramPlace where
  sub : Nat
  rank : Nat
  group : Nat
  bank : Nat
  half : Nat
  row : Nat
  deriving DecidableEq, Repr

/-- Ranks of a channel by the population record. -/
def State.ranks (s : State) : Nat := field s.dram.population 1 1

/-- The location of a frame (R282). -/
def State.locate (s : State) (f : Nat) : DramPlace :=
  let a := f / (if s.populated = 0 then 1 else s.populated)
  let ranks := if s.ranks = 0 then 1 else s.ranks
  let row := a / 64 / ranks / 2
  { sub := a % 2, group := (a / 2 % 8) ^^^ (row % 8), bank := (a / 16 % 4) ^^^ (row / 8 % 4), rank := a / 64 % ranks,
    half := a / 64 / ranks % 2, row := row }

/-- The BANK byte of R314. -/
def DramPlace.bankCode (p : DramPlace) : Nat := p.group * 4 + p.bank

/-- The number by which a channel counts its banks: subchannel × 128 + rank × 32 + bank. -/
def bankIndex (sub rank bank : Nat) : Nat := sub * 128 + rank * 32 + bank

/-- The numbers of R314 for the priority sources. -/
def sourceCode : DramSource → Nat
  | .host => 0 | .expressHost => 1 | .bulk => 2 | .walk => 3 | .patrol => 4 | .salvage => 5

/-! ## Error entries and the freeze record (R312 to R314) -/

/-- The bytes of an error entry; the syndrome is the model's free value `n`. -/
def State.errorBytes (s : State) (n : Nat) (e : ErrorEntry) : List Byte :=
  let p := s.locate e.frame
  toBytes 8 e.time ++ toBytes 1 e.kind ++ toBytes 1 (p.sub + 2 * p.rank) ++ toBytes 1 p.bankCode ++ toBytes 1 e.source ++
  toBytes 4 p.row ++ toBytes 2 ((p.half * 64 + e.line) * 16) ++ toBytes 1 e.device ++ [0#8] ++ freeBytes 8 n ++
  toBytes 4 e.frame

/-- Error entries with the free values that follow `n`. -/
def State.errorList (s : State) (n : Nat) : List ErrorEntry → List Byte
  | [] => []
  | e :: es => s.errorBytes n e ++ s.errorList (n + 1) es

/-- Corrections of a channel in the last second. -/
def State.recentCorrections (s : State) (c : Nat) : Nat :=
  (((s.chan c).corrections.map (fun e => e.2.countP (fun x => s.clock ≤ x.2 + 1000000000)))).sum

/-- FAILEDDEV: eight U16 (R312). -/
def Chan.failedBytes (c : Chan) : List Byte := ((List.range 8).map (fun i => toBytes 2 (mapGet (fun _ => 0) c.failed i))).flatten

/-- A tally of a channel. -/
def State.tally (s : State) (c sub : Nat) : Tally := mapGet (fun _ => Tally.initial) (s.chan c).tallies sub
def State.setTally (s : State) (c sub : Nat) (t : Tally) : State :=
  s.setChan c { s.chan c with tallies := mapSet (fun _ => Tally.initial) (s.chan c).tallies sub t }

/-- The smallest count of a tally. -/
def smallest : List TallyEntry → Option Nat
  | [] => none
  | e :: es => match smallest es with
    | none => some e.count
    | some m => some (Nat.min e.count m)

/-- The tally's part of the record. -/
def Tally.bytes (t : Tally) : List Byte :=
  toBytes 1 (if t.fallback then 1 else 0) ++ toBytes 4 t.refreshes ++ toBytes 4 ((smallest t.entries).getD 0)

/-- The residue holds a page on the channel. -/
def State.residueOn (s : State) (c : Nat) : Bool :=
  s.tables.leaves.any (fun e => e.2.inResidue && e.2.res && s.channelOf e.2.ptr = c)

/-- A table-region frame. -/
def State.isTableFrame (s : State) (f : Nat) : Bool := s.poolTop ≤ f

/-- FLAGS of the freeze record (R313). -/
def State.freezeFlags (s : State) (c : Nat) : Nat :=
  let x := s.chan c
  let first := x.firstError
  let b := fun (v : Bool) (n : Nat) => if v then 2 ^ n else 0
  b (s.residueOn c) 0 + b (match first with | some e => s.isTableFrame e.frame | none => false) 1 + b (!x.failed.isEmpty) 2
  + b (s.ctl.mode == .save) 3 + b (32 < x.errorCount) 4 + b (match first with | some e => e.source = 4 | none => false) 5
  + b (s.flag OD.dramWriteCrc) 6 + 128

/-- REFRESH of the record: of each rank the time since the last refresh of its most overdue bank, its postponed refreshes and its MR4;
then the multiplier (R312). -/
def State.refreshBytes (s : State) (c : Nat) : List Byte :=
  let x := s.chan c
  let banks := fun (r : Nat) => ([0, 1].flatMap (fun sub => (List.range 32).map (fun b => mapGet (fun _ => BankRefresh.mk 0 0) x.banks (bankIndex sub r b))))
  let late := fun (r : Nat) => (banks r).foldl (fun m b => max m (s.uptime - max b.last x.since)) 0
  (List.range s.ranks).flatMap (fun r =>
    toBytes 4 (late r) ++ toBytes 4 ((banks r).map (·.due)).sum ++ toBytes 4 (mapGet (fun _ => 0) x.mr4 r))
  ++ toBytes 1 (s.get (OD.mcRefreshMultiplier c))

/-- TRAIN of the record: the last full training, the temperature then, and of each rank the eye margins, which are the free value `n`
(R312). -/
def State.trainBytes (s : State) (c n : Nat) : List Byte :=
  let x := s.chan c
  toBytes 4 x.trainTime ++ toBytes 1 (x.trainTemp / 10 % 256).toNat ++ freeBytes (2 * s.ranks) n

/-- The freeze record (R312). What only the channel's hardware knows (command history, queue occupancy, eye margins, syndromes) is
free. FIRSTERR is zeros for the causes that no error triggers (6 to 8). -/
def State.freezeRecord (s : State) (c cause : Nat) : List Byte :=
  let x := s.chan c
  let n := s.free
  let body :=
    toBytes 4 0x5A455246 ++ toBytes 2 1 ++ toBytes 1 c ++ toBytes 1 cause ++ toBytes 8 s.clock ++
    toBytes 8 (s.get OD.identityUnitId) ++ toBytes 8 (s.dram.freezeSeq + 1) ++ toBytes 1 s.ctl.mode.code ++
    toBytes 1 (s.get (OD.mcRate c) / 100) ++ toBytes 1 s.ranks ++ toBytes 1 (field s.dram.population 2 1) ++
    toBytes 4 (s.freezeFlags c) ++ toBytes 4 (s.get (OD.mcUncorrectable c)) ++ toBytes 4 (s.recentCorrections c) ++
    x.failedBytes ++ padTo 32 (match x.errors with | e :: _ => if cause ≤ 5 then s.errorBytes (n + 4) e else [] | [] => []) ++
    padTo 1024 (s.errorList (n + 5) (x.errors.take 32).reverse) ++
    freeBytes 512 n ++ (freeBytes 16 (n + 1) ++ List.replicate 48 0#8) ++ padTo 64 (s.refreshBytes c) ++ padTo 64 (s.trainBytes c (n + 3)) ++
    padTo 64 ((s.tally c 0).bytes ++ (s.tally c 1).bytes)
  let body := padTo 2044 body
  body ++ toBytes 4 (crc32c body).toNat

/-! ## Freeze (R306, R307, R309) -/

/-- An occurrence of event 0x3040 with the record attached (R307, R558). -/
def State.logFreeze (s : State) (c : Nat) (more : List (ItemKind × Nat)) : State :=
  let x := s.chan c
  s.raiseWith 0x3040 0 ([(.u8, c), (.u8, x.freezeCause)] ++ more) x.record

/-- Channels of the save that were salvaged (R256, R253). -/
def State.salvaged (s : State) (c : Nat) : State :=
  match s.saves.run with
  | some r => { s with saves := { s.saves with run := some { r with salvage := true, frozen := r.frozen ||| (1#16 <<< c) } } }
  | none => s

/-- A channel freezes (R307); in SAVE it goes straight to salvage, its record first (R260). One whose freeze begins a save is salvaged with the
others at t3 (R256, R309). -/
def State.freezeMc (s : State) (c cause : Nat) : State :=
  let x := s.chan c
  if x.state != .inService then s.unlist
  else
    let record := s.freezeRecord c cause
    let s := { s with free := s.free + 40, dram := { s.dram with freezeSeq := s.dram.freezeSeq + 1 } }
    let s := s.setChan c { x with state := .frozen, initialised := false, freezeCause := cause, freezeTime := s.clock,
                                  record := record, rows := [], writes := [] }
    let saving := s.ctl.mode == .save
    let s := (s.put (OD.mcLastFreezeCause c) cause).logFreeze c (if saving then [(.u8, 4)] else [])
    let s := (s.recordState 0x0112 c).isolated .memory c (s.populated - s.chansOut)
    if saving then (s.setChan c { s.chan c with state := .salvageSave }).salvaged c
    else s.beginSalvage c

/-! ## Lost table lines (R258, R300, R310) -/

/-- The leaf or interior entries of a node, by the entry above it, that one line of it holds; they are taken from the
flash-tier image and marked poisoned. -/
def State.loseEntries (s : State) (k line : Nat) : State :=
  let first := interiorFirst k
  let cid := k / 2 ^ 20
  if interiorLevel k = 1 then
    (List.range 8).foldl (fun s i =>
      let key := leafKey cid (first + 8 * line + i)
      let old := mapGet (fun _ => Leaf.empty) s.flush.image.leaves key
      s.setLeaf key { old.fromFlash with pois := true }) s
  else
    let child := interiorLevel k - 1
    let span := interiorSpan k / 512
    (List.range 8).foldl (fun s i =>
      let j := interiorKey cid child (first + (8 * line + i) * span)
      let old := mapGet (fun _ => Interior.empty) s.flush.image.interior j
      s.setInterior j { old with valid := false, pois := true, node := 0 }) s

/-- The entries of a root node's line. -/
def State.loseRoot (s : State) (cid line : Nat) : State :=
  if line ≠ 0 then s
  else (List.range 2).foldl (fun s i => s.poisonInterior (interiorKey cid 3 (i * 2 ^ 27))) s

/-- The page seals of a companion's line are those of the flash-tier image (R135). -/
def State.loseSeals (s : State) (k line : Nat) : State :=
  (List.range 8).foldl (fun s i =>
    let key := leafKey (k / 2 ^ 20) (interiorFirst k + 8 * line + i)
    let old := mapGet (fun _ => Leaf.empty) s.flush.image.leaves key
    s.setLeaf key { s.leaf key with pageSeal := old.pageSeal }) s

/-- A descriptor that cannot be read does not match its DCRC (R129). -/
def State.damageCarriage (s : State) (cid : Nat) : State :=
  let c := s.carriage cid
  if c.state == .free || c.damaged then s
  else (s.setCarriage cid { c with damaged := true }).raise 0x2015 0 [(.carriage, cid)]

/-- A snapshot record of a lost line: what the flash-tier image has of it, poisoned. -/
def SnapRecord.lostAs (r : SnapRecord) : SnapRecord :=
  match r.kind with
  | .copy sided sealed _ pageSeal => { r with kind := .copy sided sealed true pageSeal }
  | .zero => { r with kind := .copy false false true 0 }
  | .frame _ => { r with kind := .copy false false true 0 }
  | .depot _ => { r with kind := .copy false false true 0 }

/-- The snapshot records of a lost line. -/
def State.loseRecords (s : State) (cid first : Nat) : State :=
  let here := fun (r : SnapRecord) => first ≤ r.page && r.page < first + 8
  let old := (mapGet (fun _ => []) s.flush.image.snapshots cid).filter here
  let now := s.snapRecords cid
  let lost := (now.filter here).map (fun r => ((old.find? (fun o => o.page = r.page)).getD r).lostAs)
  let back := (old.filter (fun o => !now.any (fun r => r.page = o.page))).map SnapRecord.lostAs
  if now.all (fun r => !here r) && back.isEmpty then s else s.setSnaps cid (now.filter (fun r => !here r) ++ lost ++ back)

/-- A line of the depot table, the snapshot records, the pass table or the flash map is lost: its entries are those of the
flash-tier image, marked poisoned where they have a mark (R258; DESIGN CHOICE, log 192). -/
def State.loseAuxLine (s : State) (line : Nat) : State :=
  let k := line / 2 ^ 48
  let i := line % 2 ^ 48
  let image := s.flush.image.fromFlash
  if k = 2 then
    [2 * i, 2 * i + 1].foldl (fun s j =>
      let old := mapGet (fun _ => DepotEntry.empty) image.depot j
      if (s.depotEntry j).valid || old.valid then s.setDepot j (if old.valid then { old with pois := true } else DepotEntry.empty) else s) s
  else if k = 3 then s.loseRecords (i / 2 ^ 25) (8 * (i % 2 ^ 25))
  else if k = 5 then
    [2 * i, 2 * i + 1].foldl (fun s c =>
      { s with tables := { s.tables with passes := mapSet (fun _ => 0) s.tables.passes c (mapGet (fun _ => 0) image.passes c) } }) s
  else
    (List.range 8).foldl (fun s j =>
      let name := 8 * i + j
      let old := mapGet (fun _ => FlashCopy.none) image.flash name
      if (s.flashCopy name).present || old.present then s.setFlashCopy name { old with lost := true } else s) s

/-- The page of the carriage table that a frame holds (R130, R310). -/
def State.pageOfTable (s : State) (f : Nat) : Option Nat :=
  if s.poolTop ≤ f && f < s.tableBase && s.tablePage (f - s.poolTop) = f then some (f - s.poolTop)
  else (s.tables.aux.find? (fun e => e.1 / 2 ^ 42 == 7 && e.2 == f + 1)).map (fun e => e.1 % 2 ^ 42)

/-- A line of a table-region frame, or of the carriage table, is lost. -/
def State.loseTableLine (s : State) (f line : Nat) : State :=
  match s.pageOfTable f with
  | some i => s.damageCarriage (i * 64 + line)
  | none =>
  match s.tables.carriages.find? (fun e => e.2.state != .free && e.2.root == f) with
  | some e => s.loseRoot e.1 line
  | none =>
    match s.tables.interior.find? (fun e => e.2.valid && e.2.node == f) with
    | some e => s.loseEntries e.1 line
    | none =>
      match s.tables.interior.find? (fun e => e.2.valid && e.2.pair && e.2.node + 1 == f) with
      | some e => s.loseSeals e.1 line
      | none =>
        match s.tables.aux.find? (fun e => e.1 / 2 ^ 42 != 7 && e.2 == f + 1 && s.auxLive e.1) with
        | some e => s.loseAuxLine (e.1 * 64 + line)
        | none => s

/-! ## ECC outcomes (R297 to R300) -/

/-- An error entry joins the last 32 of its channel (R314). -/
def State.addError (s : State) (c kind source device f line : Nat) : State :=
  let x := s.chan c
  let e : ErrorEntry := { time := s.clock, kind := kind, source := source, device := device, frame := f, line := line }
  s.setChan c { x with errors := (e :: x.errors).take 32, errorCount := x.errorCount + 1, firstError := some (x.firstError.getD e) }

/-- The position of a device among those of a channel, and the key of its rank and subchannel. -/
def devicePos (p : DramPlace) (d : Nat) : Nat := p.rank * 20 + p.sub * 10 + d
def rankKey (p : DramPlace) : Nat := p.rank * 2 + p.sub

/-- A device is marked failed when 64 distinct lines were corrected within 1 h (R299). -/
def State.markDevice (s : State) (c : Nat) (p : DramPlace) (d : Nat) : State :=
  let x := s.chan c
  let lines := (mapGet (fun _ => []) x.corrections (devicePos p d)).filter (fun e => s.clock ≤ e.2 + 3600000000000)
  let marks := BitVec.ofNat 16 (mapGet (fun _ => 0) x.failed (rankKey p))
  if 64 ≤ (distinct (lines.map (·.1))).length && !marks.getLsbD d then
    ((s.setChan c { x with failed := mapSet (fun _ => 0) x.failed (rankKey p) ((marks ||| (1#16 <<< d)).toNat) }).recordState 0x0111 c).raise
      0x3011 0 [(.u8, c)]
  else s

/-- A cell, a bank's queue, corrects one more error; more than 1,024 in 1 s pass up with event 0x8125, which gives the channel and
the bank, and are then counted afresh (R14, R15, R46; DEDUCED, log 162). -/
def State.bankStorm (s : State) (c bank : Nat) : State :=
  let x := s.chan c
  let times := s.uptime :: (mapGet (fun _ => []) x.storms bank).filter (fun t => s.uptime < t + 1000000000)
  if 1024 < times.length then
    (s.setChan c { x with storms := mapErase x.storms bank }).raise 0x8125 times.length [(.u8, c), (.u8, bank)]
  else s.setChan c { x with storms := mapSet (fun _ => []) x.storms bank times }

/-- A corrected line (R297, R299). -/
def State.correctedLine (s : State) (f line source d : Nat) : State :=
  let c := s.channelOf f
  let p := s.locate f
  let erased := (BitVec.ofNat 16 (mapGet (fun _ => 0) (s.chan c).failed (rankKey p))).getLsbD d
  let s := (s.bump (OD.mcCorrected c) 1).addError c (if erased then 1 else 0) source d f line
  let x := s.chan c
  let old := mapGet (fun _ => []) x.corrections (devicePos p d)
  let kept := (f * 64 + line, s.clock) :: old.filter (fun e => e.1 ≠ f * 64 + line && (s.clock ≤ e.2 + 3600000000000 : Bool))
  let s := s.setChan c { x with corrections := mapSet (fun _ => []) x.corrections (devicePos p d) kept }
  ((s.raise 0x3010 1 [(.u8, c)]).bankStorm c (bankIndex p.sub p.rank (p.group * 4 + p.bank))).markDevice c p d

/-- A line is marked failed by a read that may write nothing: a line of a page reads as failed from now on; the entries of a table-region
line are lost at once in SAVE, and otherwise when the thaw pass copies it (R256 to R259, R308, R310). -/
def State.markFailed (s : State) (f : Nat) (line : Fin 64) : State :=
  let image := (s.frame f).image.poison line.val
  let s := if s.isTableFrame f then s else s.setFrame f { s.frame f with image := image }
  if s.ctl.mode == .save then s.when (s.isTableFrame f) (·.loseTableLine f line.val)
  else
    let x := s.chan (s.channelOf f)
    s.setChan (s.channelOf f) { x with marked := (f, line) :: x.marked.filter (· ≠ (f, line)) }

/-- The channel freezes for a line; in SAVE, where the save stream reads on, the line is marked failed first (R261). -/
def State.freezeFor (s : State) (f : Nat) (line : Fin 64) (cause : Nat) : State :=
  (s.when (s.ctl.mode == .save) (·.markFailed f line)).freezeMc (s.channelOf f) cause

/-- The key of a row: subchannel, rank, bank and row. -/
def rowKey (p : DramPlace) : Nat := (bankIndex p.sub p.rank p.bankCode) * 2 ^ 18 + p.row

/-- An uncorrectable line that stays so on its second read (R300). A salvage read only marks
it (R308). -/
def State.uncorrectableLine (s : State) (f : Nat) (line : Fin 64) (source : DramSource) : State :=
  let c := s.channelOf f
  let p := s.locate f
  let s := (s.bump (OD.mcUncorrectable c) 1).addError c 2 (sourceCode source) 0xFF f line.val
  let x := s.chan c
  let recent := x.uncorrected.filter (fun e => s.clock ≤ e.1 + 1000000)
  let s := s.setChan c { x with uncorrected := (s.clock, rowKey p) :: recent }
  if source == .salvage || x.state != .inService then s.markFailed f line
  else if mapGet (fun _ => 0) x.failed (2 * p.rank) ≠ 0 || mapGet (fun _ => 0) x.failed (2 * p.rank + 1) ≠ 0 then s.freezeFor f line 2
  else if recent.any (fun e => e.2 ≠ rowKey p) then s.freezeFor f line 1
  else if s.isTableFrame f then (s.loseTableLine f line.val).raise 0x3012 0 [(.u8, c)]
  else (s.poisonLine f line.val).raise 0x3012 0 [(.u8, c)]

/-- An address error, which is uncorrectable (R297), freezes the channel at once (R300); on a salvage read the line is marked failed
(R308). -/
def State.addressError (s : State) (f : Nat) (line : Fin 64) (source : DramSource) : State :=
  let c := s.channelOf f
  let s := s.addError c 3 (sourceCode source) 0xFF f line.val
  if source == .salvage || (s.chan c).state != .inService then (s.bump (OD.mcUncorrectable c) 1).markFailed f line
  else s.freezeFor f line 3

/-- Another device of a line's rank and subchannel than the one in error is marked failed, and decoded as an erasure: a further error is
then uncorrectable (R297). -/
def State.otherFailed (s : State) (f : Nat) (d : Fin 10) : Bool :=
  let marks := BitVec.ofNat 16 (mapGet (fun _ => 0) (s.chan (s.channelOf f)).failed (rankKey (s.locate f)))
  marks &&& ~~~(1#16 <<< d.val) ≠ 0

/-- What a decoder's result does, where `again` handles an uncorrectable line. -/
def State.decoded (s : State) (f : Nat) (line : Fin 64) (source : DramSource) (again : State → State) : Decode → State
  | .good => s
  | .poison => s
  | .corrected d => if s.otherFailed f d then again s else s.correctedLine f line.val (sourceCode source) d.val
  | .addressError => s.addressError f line source
  | .uncorrectable => again s

/-- A channel accepts a read: in service every one; once its salvage initialisation has completed, those of salvage and of the save
stream alone (R308). -/
def State.acceptsRead (s : State) (c : Nat) (source : DramSource) : Bool :=
  match (s.chan c).state with
  | .inService => true
  | .thawing => source == .salvage || source == .bulk
  | .salvageSave => (s.chan c).initialised && (source == .salvage || source == .bulk)
  | .absent => false | .frozen => false | .salvageInit => false | .offline => false

/-- DRAM_READ_DECODE (R300): an uncorrectable burst is read once more; `second` is what that read decodes to. A channel that accepts no
such read performs none (R308, R12). -/
def execDramReadDecode (frame : BitVec 31) (line : Fin 64) (source : DramSource) (first second : Decode) (s : State) : Out :=
  let f := frame.toNat
  if s.framesPopulated ≤ f then .fault (.noSuchFrame f)
  else if !s.acceptsRead (s.channelOf f) source then .next s.unlist
  else
    let s := s.count 0xF031 (s.channelOf f) 1
    .next (s.decoded f line source (fun s =>
      s.decoded f line source (fun s => s.uncorrectableLine f line source) second) first)

/-! ## Write CRC (R301) -/

/-- DRAM_ALERT (R301): every write still held in its alert window, the last `held` that were issued, is reissued in order; the fifth
alert on one freezes the channel. The error entry is of the oldest of them (DESIGN CHOICE, log 13). -/
def execDramAlert (c : Mc) (s : State) (held : Nat := 1) : Out :=
  let x := s.chan c.val
  let held := x.writes.take held
  if !s.flag OD.dramWriteCrc || x.state != .inService then .next s.unlist
  else match held.getLast? with
  | none => .next s.unlist
  | some w =>
    let s := s.addError c.val 4 (sourceCode w.source) 0xFF w.frame w.line
    if held.any (fun w => 4 ≤ w.retries) then .next (s.freezeMc c.val 5)
    else
      let s := s.setChan c.val { s.chan c.val with writes := held.map (fun w => { w with retries := w.retries + 1 }) }
      .next ((s.bump (OD.mcWriteCrcRetries c.val) held.length).raise 0x3013 0 [(.u8, c.val)])

/-! ## Refresh (R288 to R291) -/

/-- REFRESH_DUE (R288, R291): issued at the next pick; while panic is raised it may be postponed by up to 4 intervals, and the
one that reaches its limit is issued in tier 0. -/
def execRefreshDue (c : Mc) (bank : Fin 256) (s : State) : Out :=
  let d := fun (_ : Nat) => BankRefresh.mk 0 0
  let x := s.chan c.val
  let b := mapGet d x.banks bank.val
  let b := if s.dram.panic ≠ 0 && b.due < 4 then { b with due := b.due + 1 }
    else if s.dram.panic ≠ 0 then { b with last := s.uptime }
    else { due := 0, last := s.uptime }
  .next (s.setChan c.val { x with banks := mapSet d x.banks bank.val b })

/-- REFRESH_DEADLINE_MISS (R291). -/
def execRefreshDeadlineMiss (c : Mc) (_bank : Fin 256) (s : State) : Out :=
  if !s.isPopulated c.val then .next s.unlist else .next ((s.put (OD.mcRefreshGap c.val) 1).freezeMc c.val 6)

/-- MR4_POLL (R288): the rank's MR4, by which its refresh rate is set. -/
def execMr4Poll (c : Mc) (rank : Fin 4) (mr4 : BitVec 8) (s : State) : Out :=
  .next (s.setChan c.val { s.chan c.val with mr4 := mapSet (fun _ => 0) (s.chan c.val).mr4 rank.val mr4.toNat })

/-! ## Activate tallies (R292 to R295) -/

/-- The row joins the tally: counted, entered free, or in place of the smallest (R292). -/
def countRow (rank bank row : Nat) (es : List TallyEntry) : List TallyEntry :=
  let same := fun (e : TallyEntry) => e.rank = rank && e.bank = bank && e.row = row
  if es.any same then es.map (fun e => if same e then { e with count := e.count + 1 } else e)
  else if es.length < 2048 then es ++ [{ rank := rank, bank := bank, row := row, count := 1 }]
  else match smallest es with
  | none => es
  | some m =>
    let i := es.findIdx (fun e => e.count = m)
    es.set i { rank := rank, bank := bank, row := row, count := m + 1 }

/-- The count of a row. -/
def rowCount (rank bank row : Nat) (es : List TallyEntry) : Nat :=
  match es.find? (fun e => e.rank = rank && e.bank = bank && e.row = row) with
  | some e => e.count
  | none => 0

/-- A neighbour refresh sets the row's count to 0 (R293). -/
def clearRow (rank bank row : Nat) (es : List TallyEntry) : List TallyEntry :=
  es.map (fun e => if e.rank = rank && e.bank = bank && e.row = row then { e with count := 0 } else e)

/-- The subchannel enters fallback when the smallest count of a full tally reaches half the Threshold (R294). -/
def State.checkFallback (s : State) (c sub : Nat) : State :=
  let t := s.tally c sub
  if !t.fallback && t.entries.length = 2048 && (match smallest t.entries with | some m => t.threshold ≤ 2 * m | none => false) then
    ((s.setTally c sub { t with fallback := true }).bump OD.tallyFallbacks 1).raise 0x3021 0 [(.u8, c), (.u8, sub)]
  else s

/-- A row is activated and counted (R292). In fallback the bank's rolling count advances, and RFMsb is issued when it reaches the devices'
initial management threshold, from where it is counted afresh (R294; log 56). -/
def State.activateRow (s : State) (c sub rank bank row : Nat) : State :=
  let s := s.count 0xF030 c 1
  let t := s.tally c sub
  let i := bankIndex sub rank bank
  let n := mapGet (fun _ => 0) t.rolling i + 1
  let roll := if t.fallback then mapSet (fun _ => 0) t.rolling i (if Config.raaThreshold ≤ n then 0 else n) else t.rolling
  (s.setTally c sub { t with entries := countRow rank bank row t.entries, rolling := roll }).checkFallback c sub

/-- The rows of a bank (R282). -/
def State.rowsPerBank (s : State) : Nat := 2 ^ 12 * field s.dram.population 2 1

/-- The logical neighbours of a row that exist (R293). -/
def State.rowsNear (s : State) (row : Nat) : List Nat :=
  ((if 2 ≤ row then [row - 2] else []) ++ (if 1 ≤ row then [row - 1] else []) ++ [row + 1, row + 2]).filter (· < s.rowsPerBank)

/-- A rank uses DRFM: every device of it reports it (R280). -/
def State.usesDrfm (s : State) (c rank : Nat) : Bool := (s.chan c).drfm.getLsbD rank

/-- A row's neighbours are refreshed: by DRFM, or by an activate and precharge of each and RFMsb, which leave the bank with no row open.
Then the row's count is 0 (R293). -/
def State.refreshAround (s : State) (c sub rank bank row : Nat) : State :=
  let s :=
    if s.usesDrfm c rank then s
    else
      let s := (s.rowsNear row).foldl (fun s r => s.activateRow c sub rank bank r) s
      s.setChan c { s.chan c with rows := mapErase (s.chan c).rows (bankIndex sub rank bank) }
  let t := s.tally c sub
  let s := s.setTally c sub { t with entries := clearRow rank bank row t.entries, refreshes := t.refreshes + 1 }
  (s.bump (OD.mcNeighbourRefreshes c) 1).count 0xF033 c 1

/-- A neighbour refresh of a row is due, and panic does not defer it (R293, R295). -/
def State.refreshNow (s : State) (c sub rank bank row : Nat) : Bool :=
  let t := s.tally c sub
  let n := rowCount rank bank row t.entries
  t.threshold ≤ n && (s.dram.panic = 0 || 5 * t.threshold ≤ 4 * n)

/-- The rows whose counts may have reached Threshold are looked at in turn, with those that a refresh activates (R293, R295). Every refresh
takes at least Threshold off the counts and adds at most 4, so the bound is never met. -/
def State.refreshRows (c sub rank bank : Nat) : Nat → List Nat → State → State
  | 0, _, s => s
  | _ + 1, [], s => s
  | n + 1, r :: rs, s =>
    if s.refreshNow c sub rank bank r then
      State.refreshRows c sub rank bank n (rs ++ (if s.usesDrfm c rank then [] else s.rowsNear r)) (s.refreshAround c sub rank bank r)
    else
      State.refreshRows c sub rank bank n rs
        (s.when (rowCount rank bank r (s.tally c sub).entries = (s.tally c sub).threshold) (·.bump OD.tallyDeferred 1))

/-- The neighbours of a row are refreshed when its count has reached Threshold, or the refresh is deferred under panic (R293, R295). -/
def State.neighbours (s : State) (c sub rank bank row : Nat) : State := State.refreshRows c sub rank bank 16384 [row] s

/-- PANIC_PACKET (R287): when panic clears, postponed refreshes are issued first, and the neighbour refreshes that were deferred (R295). -/
def execPanicPacket (p : Port) (raised : Bool) (s : State) : Out :=
  let bit := 1#2 <<< p.val
  let panic := if raised then s.dram.panic ||| bit else s.dram.panic &&& ~~~bit
  let issue := fun (_ : Nat) (c : Chan) =>
    { c with banks := mapMap (fun _ => BankRefresh.mk 0 0) (fun _ b => if b.due = 0 then b else { due := 0, last := s.uptime }) c.banks }
  let chans := if panic = 0 then mapMap (fun _ => Chan.initial) issue s.dram.chans else s.dram.chans
  let t := { s with dram := { s.dram with panic := panic, chans := chans } }
  if s.dram.panic = 0 || panic ≠ 0 then .next t
  else .next (t.dram.chans.foldl (fun t e => e.2.tallies.foldl (fun t y =>
    (y.2.entries.filter (fun r => y.2.threshold ≤ r.count)).foldl (fun t r => t.neighbours e.1 y.1 r.rank r.bank r.row) t) t) t)

/-- ACTIVATE_TALLY_UPDATE (R292 to R294): the row is opened and counted. -/
def execActivateTallyUpdate (c : Mc) (subch : Fin 2) (rank : Fin 4) (bank : Fin 32) (row : BitVec 18) (s : State) : Out :=
  let x := s.chan c.val
  let i := bankIndex subch.val rank.val bank.val
  let s := s.setChan c.val { x with rows := mapSet (fun _ => 0) x.rows i (row.toNat + 1) }
  let s := s.activateRow c.val subch.val rank.val bank.val row.toNat
  .next (s.neighbours c.val subch.val rank.val bank.val row.toNat)

/-- TALLY_WINDOW_END (R292, R294): a new Threshold applies from here. -/
def execTallyWindowEnd (c : Mc) (subch : Fin 2) (s : State) : Out :=
  .next (s.setTally c.val subch.val { Tally.initial with threshold := s.get OD.tallyThreshold })

/-- CLOSE_PAGE_TIMEOUT (R285). -/
def execClosePageTimeout (c : Mc) (bank : Fin 256) (s : State) : Out :=
  .next (s.setChan c.val { s.chan c.val with rows := mapErase (s.chan c.val).rows bank.val })

/-- ZQ_CALIBRATION_DUE (R305). -/
def execZqCalibrationDue (c : Mc) (s : State) : Out := .next (s.setChan c.val { s.chan c.val with lastZq := s.uptime })

/-- DQS_OSCILLATOR_READ (R305): `drift` in 1/64 UI; above 1/16 UI the rank's write timing is adjusted. -/
def execDqsOscillatorRead (c : Mc) (rank : Fin 4) (drift : Int) (s : State) : Out :=
  let x := s.chan c.val
  if drift.natAbs ≤ 4 || x.adjust.contains rank.val then .next s
  else .next (s.setChan c.val { x with adjust := x.adjust ++ [rank.val] })

/-! ## Patrol scrub (R302) -/

/-- The running pass of a rank counts one more corrected line (R302, R414). -/
def State.scrubCorrected (s : State) (c rank : Nat) : State :=
  let k := c * 4 + rank
  let ps := mapGet (fun _ => []) s.margin.passes k
  let ps := match ps with | [] => [1] | n :: r => (n + 1) :: r
  { s with margin := { s.margin with passes := mapSet (fun _ => []) s.margin.passes k ps } }

/-- A pass of a channel ends: the running count of each rank joins the completed ones, and the devices' error-check-and-scrub counts are
read (R289). -/
def State.scrubPassEnds (s : State) (c : Nat) (ecs : List Nat) : State :=
  let one := fun (s : State) (rank : Nat) =>
    let k := c * 4 + rank
    let ps := mapGet (fun _ => []) s.margin.passes k
    let ps := 0 :: (if ps.isEmpty then [0] else ps)
    let n := mapGet (fun _ => 0) s.margin.fresh k
    { s with margin := { s.margin with
        passes := mapSet (fun _ => []) s.margin.passes k ps, fresh := mapSet (fun _ => 0) s.margin.fresh k (n + 1)
        ecs := mapSet (fun _ => 0) s.margin.ecs k (ecs.getD rank 0) } }
  let s := (List.range s.ranks).foldl one s
  let x := s.chan c
  (s.setChan c { x with scrub := 0, scrubCorrections := 0 }).raise 0x3060 x.scrubCorrections [(.u8, c)]

/-- PATROL_SCRUB_READ (R302): the next line of the channel, in frame order; `result` is what its read, and where it is read
again its second read, decodes to. At the end of a pass `ecs` gives the error-check-and-scrub count of each rank (R289). -/
def execPatrolScrubRead (c : Mc) (result : Decode) (s : State) (ecs : List Nat := []) : Out :=
  s.await 6 (.patrolScrubRead c result ecs) (fun s =>
  let x := s.chan c.val
  if x.state != .inService then .next s
  else
    let per := s.framesPerChannel
    let k := if s.populated = 16 then c.val else if s.populated = 8 then c.val / 2 else c.val / 4
    let f := x.scrub / 64 * s.populated + k
    let line : Fin 64 := Fin.ofNat 64 x.scrub
    let last := per * 64 ≤ x.scrub + 1
    let s := s.setChan c.val { x with scrub := x.scrub + 1 }
    let s := match result with
      | .corrected _ =>
        let s := s.setChan c.val { s.chan c.val with scrubCorrections := x.scrubCorrections + 1 }
        s.scrubCorrected c.val (s.locate f).rank
      | _ => s
    let s := s.decoded f line .patrol (fun s => s.uncorrectableLine f line .patrol) result
    if last && (s.chan c.val).state == .inService then .next (s.scrubPassEnds c.val ecs) else .next s)

/-! ## Commands (R319, R303) -/

/-- FREEZE_CHANNEL (R306, R319). -/
def execFreezeChannel (q : Req) (c : BitVec 8) (s : State) : Out :=
  runCmd (.freezeChannel q c) q OD.freezeFreezeChannel (toBytes 1 c.toNat) (fun s =>
    if !s.isPopulated c.toNat then refuse s OD.freezeLastResult 1
    else if s.ctl.mode != .maintenance then refuse s OD.freezeLastResult 3
    else if (s.chan c.toNat).state != .inService then refuse s OD.freezeLastResult 2
    else if s.populated < 4 * (s.chansOut + 1) then refuse s OD.freezeLastResult 4
    else okResult (s.freezeMc c.toNat 7) OD.freezeLastResult) s

/-- DRAM_RETURN_CHANNEL (R309). -/
def execDramReturnChannel (q : Req) (c : BitVec 8) (s : State) : Out :=
  runCmd (.dramReturnChannel q c) q OD.freezeReturnChannel (toBytes 1 c.toNat) (fun s =>
    if !s.isPopulated c.toNat then refuse s OD.freezeLastResult 1
    else if (s.chan c.toNat).state != .offline then refuse s OD.freezeLastResult 2
    else okResult (s.setChan c.toNat { s.chan c.toNat with returnPending := true }) OD.freezeLastResult) s

/-- FORCE_FULL_TRAINING (R299, R303). -/
def execForceFullTraining (q : Req) (s : State) : Out :=
  runCmd (.forceFullTraining q) q OD.dramForceFullTraining [] (fun s =>
    ok { s with dram := { s.dram with training := none, forced := true } }) s

/-! ## Salvage and thaw (R308 to R311) -/

/-- The line of a node's frame, by the entry above it, as the table region numbers its changed lines. -/
def nodeLine (k line : Nat) : Nat :=
  let first := interiorFirst k
  if interiorLevel k = 1 then lineLeaf (leafKey (k / 2 ^ 20) (first + 8 * line))
  else lineInterior (interiorKey (k / 2 ^ 20) (interiorLevel k - 1) (first + 8 * line * (interiorSpan k / 512)))

/-- The lines counted in D_m that lie on a channel that cannot be read are lost; the others stand in the flash tier (R258, R259). -/
def State.loseChanged (s : State) (c : Nat) : State :=
  let here := fun (f : Nat) => s.channelOf f = c
  let changed := s.pendingLines
  let s := (s.tables.carriages.filter (fun e => e.2.state != .free)).foldl (fun s e =>
    let s := s.when (here (s.tablePage (e.1 / 64)) && changed.contains (lineCarriage e.1)) (·.damageCarriage e.1)
    s.when (here e.2.root && changed.contains (lineInterior (interiorKey e.1 3 0))) (·.loseRoot e.1 0)) s
  let s := (changed.filter (fun l => auxLine l && here (mapGet (fun _ => 0) s.tables.aux (l / 64) - 1))).foldl State.loseAuxLine s
  (s.tables.interior.filter (fun e => e.2.valid)).foldl (fun s e =>
    let lines := List.range 64
    let s := if here e.2.node then (lines.filter (fun l => changed.contains (nodeLine e.1 l))).foldl (fun s l => s.loseEntries e.1 l) s
      else s
    if e.2.pair && here (e.2.node + 1) then
      (lines.filter (fun l => changed.contains (lineSeal (leafKey (e.1 / 2 ^ 20) (interiorFirst e.1 + 8 * l))))).foldl
        (fun s l => s.loseSeals e.1 l) s
    else s) s

/-- A node of the depot table, the snapshot records, the pass table or the flash map takes a frame elsewhere; where there is none its
lines are lost (DESIGN CHOICE, log 164). -/
def State.moveAux (s : State) (n : Nat) : State :=
  match s.pickNode 1 with
  | some f => { s with tables := { s.tables with aux := mapSet (fun _ => 0) s.tables.aux n (f + 1) } }
  | none => (List.range 64).foldl (fun s l => s.loseAuxLine (64 * n + l)) s

/-- A page of the carriage table takes a frame elsewhere (R310); where there is none it stays. -/
def State.moveTablePage (s : State) (i : Nat) : State :=
  match s.pickNode 1 with
  | some f => { s with tables := { s.tables with aux := mapSet (fun _ => 0) s.tables.aux (7 * 2 ^ 42 + i) (f + 1) } }
  | none => s

/-- The nodes of a channel are moved off it: the carriage-table area with descriptors in it, roots, the nodes below them, and those of the
other tables. -/
def State.moveNodes (s : State) (c : Nat) : State :=
  let here := fun (f : Nat) => s.channelOf f = c
  let pages := distinct ((s.tables.carriages.filter (fun e => e.2.state != .free)).map (fun e => e.1 / 64))
  let s := (pages.filter (fun i => here (s.tablePage i))).foldl State.moveTablePage s
  let s := (s.tables.carriages.filter (fun e => e.2.state != .free && here e.2.root)).foldl (fun s e =>
    match s.takeNode 1 with
    | some n => s.setCarriage e.1 { s.carriage e.1 with root := n }
    | none => s) s
  let s := (s.tables.interior.filter (fun e => e.2.valid && (here e.2.node || (e.2.pair && here (e.2.node + 1))))).foldl
    (fun s e => s.moveNode e.1) s
  ((s.tables.aux.filter (fun e => e.1 / 2 ^ 42 != 7 && here (e.2 - 1) && s.auxLive e.1)).map (·.1)).foldl State.moveAux s

/-- What lies only on a channel that cannot be read is poisoned (R259, R311). -/
def State.poisonChannel (s : State) (c : Nat) : State :=
  let here := fun (f : Nat) => s.channelOf f = c
  let s := (s.tables.leaves.filter (fun e => e.2.res && here e.2.ptr)).foldl (fun s e =>
    if e.2.inResidue then s.setLeaf e.1 { e.2 with res := false, dirty := false, fq := false, pois := true, ptr := 0 }
    else s.setLeaf e.1 { e.2 with res := false, ptr := 0 }) s
  let s := (s.tables.depot.filter (fun e => e.2.res && here e.2.frame)).foldl (fun s e =>
    s.setDepot e.1 { e.2 with res := false, frame := 0, pois := e.2.pois || !e.2.flc }) s
  (s.loseChanged c).moveNodes c

/-- SALVAGE_INIT_COMPLETE (R256, R308, R309). -/
def execSalvageInitComplete (c : Mc) (s : State) : Out :=
  let x := s.chan c.val
  match x.state with
  | .salvageInit =>
    let s := s.setChan c.val { x with state := .thawing, initialised := true }
    .next (((s.put OD.freezeThawTotal s.framesPerChannel).put OD.freezeThawDone 0).raise 0x3041 0 [(.u8, c.val)])
  | .salvageSave =>
    .next (s.setChan c.val { x with initialised := true })
  | .absent => .next s.unlist | .inService => .next s.unlist | .frozen => .next s.unlist | .thawing => .next s.unlist
  | .offline => .next s.unlist

/-- SALVAGE_INIT_TIMEOUT (R259, R311): in SAVE the channel is left unread; otherwise what it held is poisoned. -/
def execSalvageInitTimeout (c : Mc) (s : State) : Out :=
  let x := s.chan c.val
  match x.state with
  | .salvageInit =>
    let s := (s.setChan c.val { x with state := .offline }).recordState 0x0112 c.val
    .next (((s.poisonChannel c.val).raise 0x3043 0 [(.u8, c.val)]).resume)
  | .salvageSave => if x.initialised then .next s.unlist else .next ((s.raise 0x2813 0 [(.u8, c.val)]).loseChanged c.val)
  | .absent => .next s.unlist | .inService => .next s.unlist | .frozen => .next s.unlist | .thawing => .next s.unlist
  | .offline => .next s.unlist

/-- A frame for a move: a free one, or that of a clean resident page elsewhere. -/
def State.takeFrameForMove (s : State) : Option (Nat × State) :=
  match s.takeFrame with
  | some r => some r
  | none =>
    match s.tables.leaves.find? (fun e => e.2.res && !e.2.inResidue && e.2.flc && !e.2.busy && s.frameServes e.2.ptr) with
    | some e => (s.setLeaf e.1 { e.2 with res := false, ptr := 0 }).takeFrame
    | none => none

/-- A residue page moves off the channel; where no frame can be found it is poisoned. -/
def State.moveResidue (failed : List (Nat × Fin 64)) (s : State) (key : Nat) : State :=
  let l := s.leaf key
  match s.takeFrameForMove with
  | some (f, s) => ((s.placeFrame f (s.frame l.ptr)).setLeaf key { l with ptr := f }).failLines l.ptr f failed
  | none => s.setLeaf key { l with res := false, dirty := false, fq := false, pois := true, ptr := 0 }

/-- A snapshot frame moves off the channel. -/
def State.moveSnap (failed : List (Nat × Fin 64)) (c : Nat) (s : State) (e : Nat × List SnapRecord) : State :=
  e.2.foldl (fun s r =>
    match r.kind with
    | .frame f =>
      if s.channelOf f = c then
        match s.takeFrameForMove with
        | some (g, s) =>
          let s := (s.placeFrame g (s.frame f)).setSnaps e.1
            ((s.snapRecords e.1).map (fun x => if x = r then { x with kind := .frame g } else x))
          s.failLines f g failed
        | none => s.dropSnapshot e.1 1
      else s
    | .zero => s
    | .copy _ _ _ _ => s
    | .depot _ => s) s

/-- The table-region frames of the channel are copied elsewhere, with the lines that failed handled as lost (R258, R310). -/
def State.moveTables (s : State) (c : Nat) (failed : List (Nat × Fin 64)) : State :=
  let here := fun (f : Nat) => s.channelOf f = c
  let lost := failed.filter (fun e => s.isTableFrame e.1 && here e.1)
  let s := lost.foldl (fun s e => (s.loseTableLine e.1 e.2.val).raise 0x3044 0 [(.u8, c)]) s
  s.moveNodes c

/-- Clean pages and depot pages of the channel are evicted (R310). -/
def State.sweepChannel (s : State) (c : Nat) : State :=
  let here := fun (f : Nat) => s.channelOf f = c
  let s := (s.tables.leaves.filter (fun e => e.2.res && here e.2.ptr)).foldl (fun s e =>
    s.setLeaf e.1 { s.leaf e.1 with res := false, ptr := 0 }) s
  (s.tables.depot.filter (fun e => e.2.res && here e.2.frame)).foldl (fun s e =>
    if e.2.flc then s.setDepot e.1 { s.depotEntry e.1 with res := false, frame := 0 } else (s.thawDepot e.1)) s

/-- The residue pages on a channel: those of the age list, oldest first, then those that have left it, which are claimed (R310). -/
def State.residueOf (s : State) (c : Nat) : List Nat :=
  let here := fun (k : Nat) => let l := s.leaf k; l.inResidue && l.res && s.channelOf l.ptr = c
  let listed := (distinct ((s.flush.age.map (·.key)).filter here).reverse).reverse
  listed ++ (s.tables.leaves.map (·.1)).filter (fun k => here k && !listed.contains k)

/-- THAW_PASS_COMPLETE (R310), with the lines that failed in it and those that salvage reads had marked (R308). -/
def execThawPassComplete (c : Mc) (failedLines : List (Nat × Fin 64)) (s : State) : Out :=
  s.await 6 (.thawPassComplete c failedLines) (fun s =>
  if (s.chan c.val).state != .thawing then .next s.unlist
  else
    let failed := failedLines ++ (s.chan c.val).marked.filter (fun e => !failedLines.contains e)
    let s := s.moveTables c.val failed
    let s := (s.residueOf c.val).foldl (State.moveResidue failed) s
    let s := s.tables.snapshots.foldl (State.moveSnap failed c.val) s
    let s := s.sweepChannel c.val
    let s := (s.put OD.freezeThawTotal s.framesPerChannel).put OD.freezeThawDone s.framesPerChannel
    let s := (s.setChan c.val { s.chan c.val with state := .offline, marked := [] }).recordState 0x0112 c.val
    .next ((s.raise 0x3042 0 [(.u8, c.val)]).resume))

end Sys2Proof.Machine
end

