-- ==== Sys2Proof/Machine/Logbook.lean ====
section
/-! DEFINITION. The logbook (16, R554 to R571): records and their bytes, merging, space, the Signal Box ring, the summary,
the rebuild at a start, and delivery to hosts. -/
namespace Sys2Proof.Machine

/-! ## Records as bytes (R554 to R557) -/

/-- The width of an item in bytes (R556). -/
def itemWidth : ItemKind → Nat
  | .port => 1 | .ld => 1 | .carriage => 2 | .u8 => 1 | .u16 => 2 | .u24 => 3 | .u32 => 4 | .u40 => 5 | .u64 => 8

/-- The bytes of an item; an object is its index and then its subindex. -/
def itemBytes (i : ItemKind × Nat) : List Byte :=
  match i.1 with
  | .u24 => toBytes 2 (i.2 / 256) ++ toBytes 1 (i.2 % 256)
  | k => toBytes (itemWidth k) i.2

/-- DETAIL: the items that fit in 8 bytes, in order, and whether one was left out. -/
def packItems : List (ItemKind × Nat) → List Byte → Bool → List Byte × Bool
  | [], out, t => (padTo 8 out, t)
  | i :: is, out, t =>
    if out.length + itemWidth i.1 ≤ 8 then packItems is (out ++ itemBytes i) t else packItems is out true

/-- The bucket of a VALUE (R557). -/
def bucketOf (v : Nat) : Nat :=
  if v < 16 then 0 else if v < 16 ^ 2 then 1 else if v < 16 ^ 3 then 2 else if v < 16 ^ 4 then 3
  else if v < 16 ^ 5 then 4 else if v < 16 ^ 6 then 5 else if v < 2 ^ 28 then 6 else 7

/-- One more occurrence in a bucket, saturating. -/
def addHist (h : List Nat) (b : Nat) : List Nat := h.set b (min (h.getD b 0 + 1) 0xFFFF)

/-- The ATTR byte (R555). -/
def LogRec.attr (r : LogRec) : Nat :=
  (if r.sat then 128 else 0) + (if r.trunc then 64 else 0) + (if r.mirrored then 32 else 0) + (if r.hostSent then 16 else 0)
  + (if r.part = 0 then 0 else 4) + r.severity

/-- The 64 bytes of a record. -/
def LogRec.bytes (r : LogRec) : List Byte :=
  toBytes 2 r.code ++ toBytes 1 r.attr ++ toBytes 1 (if r.part = 0 then r.attach else r.part) ++ toBytes 6 r.seq ++
  (if r.part = 0 then
    toBytes 4 r.repeats ++ toBytes 8 r.first ++ toBytes 8 r.last ++ ((List.range 8).map (fun i => toBytes 2 (r.hist.getD i 0))).flatten
      ++ toBytes 4 r.min ++ toBytes 4 r.max ++ padTo 8 r.detail
   else toBytes 4 0 ++ padTo 48 r.data) ++
  toBytes 2 0x5A4C

/-- A record read from its 64 bytes, as a start loads it. -/
def LogRec.ofBytes (b : List Byte) : LogRec :=
  let a := field b 2 1
  let isPart := a / 4 % 4 = 1
  { code := field b 0 2, severity := a % 4, attach := if isPart then 0 else field b 3 1,
    part := if isPart then field b 3 1 else 0, seq := field b 4 6, repeats := if isPart then 0 else field b 10 4,
    first := if isPart then 0 else field b 14 8, last := if isPart then 0 else field b 22 8,
    hist := if isPart then [] else (List.range 8).map (fun i => field b (30 + 2 * i) 2),
    min := if isPart then 0 else field b 46 4, max := if isPart then 0 else field b 50 4,
    detail := if isPart then [] else slice b 54 8, data := if isPart then slice b 14 48 else [],
    sat := a / 128 % 2 = 1, trunc := a / 64 % 2 = 1, mirrored := a / 32 % 2 = 1, hostSent := a / 16 % 2 = 1,
    mirrorTime := if isPart then 0 else field b 22 8, mergedSince := false }

/-- A record for a new occurrence (R560). -/
def LogRec.fresh (o : Occurrence) (seq parts : Nat) : LogRec :=
  let d := packItems o.items [] false
  { code := o.code, severity := severityOf o.code, attach := parts, part := 0, seq := seq, repeats := 0, first := o.time,
    last := o.time, hist := addHist (List.replicate 8 0) (bucketOf o.value), min := o.value, max := o.value,
    detail := d.1, data := [], sat := false, trunc := d.2, mirrored := false, hostSent := false, mirrorTime := 0,
    mergedSince := false }

/-- The attachment records of an occurrence (R554, R558). -/
def attachRecs (o : Occurrence) (seq : Nat) : List LogRec :=
  (List.range ((o.attach.length + 47) / 48)).map (fun i =>
    { LogRec.fresh o (seq + i + 1) 0 with part := i + 1, first := 0, last := 0, hist := [], min := 0, max := 0, detail := [],
                                          trunc := false, data := slice o.attach (48 * i) 48 })

/-- An occurrence merged into a record (R560). -/
def LogRec.merge (r : LogRec) (o : Occurrence) : LogRec :=
  let h := addHist r.hist (bucketOf o.value)
  { r with last := o.time, mergedSince := true, repeats := Nat.min (r.repeats + 1) 0xFFFFFFFF, hist := h, min := Nat.min r.min o.value,
           max := Nat.max r.max o.value,
           sat := r.sat || r.repeats + 1 ≥ 0xFFFFFFFF || h.any (· ≥ 0xFFFF) }

/-! ## Lists of records in SEQ order -/

/-- The newest record that an occurrence may merge into: its SEQ. -/
def mergeTarget (o : Occurrence) (rs : List LogRec) : Option Nat :=
  let d := (packItems o.items [] false).1
  let n := rateScope o.code
  match (rs.filter (fun r => r.part = 0 && r.code = o.code && r.detail.take n = d.take n)).getLast? with
  | some r => if ratePeriod o.code ≠ 0 && o.attach.isEmpty && o.time ≤ r.first + ratePeriod o.code then some r.seq else none
  | none => none

/-- A record changed by its SEQ. -/
def updateRec (seq : Nat) (f : LogRec → LogRec) : List LogRec → List LogRec
  | [] => []
  | r :: rs => if r.seq = seq then f r :: rs else r :: updateRec seq f rs

/-- A record placed in SEQ order; one of the same SEQ is replaced (R567). -/
def insertRec (x : LogRec) : List LogRec → List LogRec
  | [] => [x]
  | r :: rs => if r.seq = x.seq then x :: rs else if x.seq < r.seq then x :: r :: rs else r :: insertRec x rs

/-- The unit of lowest SEQ that a new record of a severity may free (R562): none when there is none. -/
def freeUnit (sev : Nat) : List LogRec → Option (List LogRec)
  | [] => none
  | r :: rs =>
    if r.part = 0 && r.severity ≤ sev && r.severity ≠ 3 then some (rs.dropWhile (fun x => x.part ≠ 0))
    else (freeUnit sev rs).map (r :: ·)

/-- Room for `n` records in a store of `cap` (R562): what is left once units have been freed, at most `fuel` of them. -/
def makeRoom (cap n sev : Nat) : Nat → List LogRec → List LogRec
  | 0, rs => rs
  | fuel + 1, rs =>
    if rs.length + n ≤ cap then rs
    else match freeUnit sev rs with
    | some rs' => makeRoom cap n sev fuel rs'
    | none => rs

/-! ## SEQ and its mark (R565) -/

/-- The high-water mark M of SEQ moves by 2^20 when the next SEQ comes within 2^16 of it. -/
def State.checkSeqMark (s : State) : State :=
  let m := s.get OD.summarySeqMark
  if m + 2 ^ 20 ≤ s.log.nextSeq + 2 ^ 16 then
    (s.put OD.summarySeqMark (m + 2 ^ 20)).record 3 0x0201 0 (toBytes 8 (m + 2 ^ 20))
  else s

/-- A start without the report of save step t7: the SEQ goes on at M + 2^20. -/
def State.skipSeq (s : State) : State :=
  let m := s.get OD.summarySeqMark + 2 ^ 20
  ({ s with log := { s.log with nextSeq := m, seqReport := none } }.put OD.summarySeqMark m).record 3 0x0201 0 (toBytes 8 m)

/-! ## Delivery (R92, R570, R571) -/

/-- The logs of an LD that has none yet. -/
def CxlLogs.initial : CxlLogs := { info := [], warn := [], fail := [], fatal := [], overflow := [0, 0, 0, 0] }

/-- One of the four logs by number: 0 Informational, 1 Warning, 2 Failure, 3 Fatal. -/
def CxlLogs.nth (c : CxlLogs) (n : Nat) : List LogRec :=
  match n with | 0 => c.info | 1 => c.warn | 2 => c.fail | _ => c.fatal

def CxlLogs.setNth (c : CxlLogs) (n : Nat) (l : List LogRec) : CxlLogs :=
  match n with | 0 => { c with info := l } | 1 => { c with warn := l } | 2 => { c with fail := l } | _ => { c with fatal := l }

def State.cxlLogs (s : State) (ld : Nat) : CxlLogs := mapGet (fun _ => CxlLogs.initial) s.log.cxl ld

def State.setCxlLogs (s : State) (ld : Nat) (c : CxlLogs) : State :=
  { s with log := { s.log with cxl := mapSet (fun _ => CxlLogs.initial) s.log.cxl ld c } }

/-- The mailbox of an LD. -/
def State.mail (s : State) (ld : Nat) : MailboxState := mapGet (fun _ => MailboxState.initial) s.host.mail ld
def State.setMail (s : State) (ld : Nat) (m : MailboxState) : State :=
  { s with host := { s.host with mail := mapSet (fun _ => MailboxState.initial) s.host.mail ld m } }

/-- The LD's interrupt policy asks for a message on this log: setting 1 in byte n (PRESUMED: CXL; log 12). -/
def State.interruptsOn (s : State) (ld n : Nat) : Bool := ((s.mail ld).policy >>> (8 * n)).toNat % 4 = 1

/-- A record is delivered to one LD: a full log counts an overflow. -/
def State.deliverTo (s : State) (r : LogRec) (ld : Nat) : State :=
  let c := s.cxlLogs ld
  let n := r.severity
  let l := c.nth n
  let c := if l.length < 128 then c.setNth n (l ++ [r]) else { c with overflow := c.overflow.set n (c.overflow.getD n 0 + 1) }
  let s := s.setCxlLogs ld c
  if s.interruptsOn ld n then { s with out := { s.out with msix := (ld, 1024 + n) :: s.out.msix } } else s

/-- An enabled LD on a linked port. -/
def State.ldLinked (s : State) (ld : Nat) : Bool := s.flag (OD.ldEnabled ld) && s.linkUp (portOfLd ld)

/-- The LDs that an event reaches by the items it names (R570). -/
def State.receivers (s : State) (items : List (ItemKind × Nat)) : List Nat :=
  let named := fun (k : ItemKind) => (items.find? (fun i => i.1 == k)).map (·.2)
  let wanted : Option (Nat → Bool) :=
    match named .ld with
    | some n => some (fun ld => ld = n)
    | none => match named .carriage with
      | some c => some (fun ld => s.coupledTo c ld)
      | none => (named .port).map (fun p => fun ld => portOfLd ld = p)
  (List.range 32).filter (fun ld => s.ldLinked ld &&
    match wanted with | some f => f ld || s.get (OD.ldMgmtAccess ld) = 3 | none => true)

/-- The event is addressed to hosts (R570). -/
def State.forHosts (s : State) (code : Nat) : Bool :=
  noticeAlways code || s.get OD.logbookHostMinSeverity ≤ severityOf code

/-- A new record is delivered (R571). -/
def State.deliver (s : State) (o : Occurrence) (r : LogRec) : State :=
  let lds := s.receivers o.items
  if !s.forHosts o.code || lds.isEmpty then s
  else
    let s := lds.foldl (fun s ld => s.deliverTo r ld) s
    { s with log := { s.log with records := updateRec r.seq (fun x => { x with hostSent := true }) s.log.records } }

/-! ## Recording (R559 to R562, R566) -/

/-- A record or unit that finds no room is dropped and counted; the drop of event 0x8201 itself raises nothing more. -/
def State.dropRecord (s : State) (code : Nat) : State :=
  let sev := severityOf code
  let s := s.bump (dropKey sev) 1
  if code = 0x8201 then s else s.raise 0x8201 (s.get (dropKey sev)) [(.u8, sev)]

/-- An occurrence enters the Signal Box ring of 512 records. -/
def State.recordRing (s : State) (o : Occurrence) : State :=
  match mergeTarget o s.log.ring with
  | some q => { s with log := { s.log with ring := updateRec q (fun r => r.merge o) s.log.ring } }
  | none =>
    let atts := attachRecs o s.log.nextSeq
    let rs := makeRoom 512 (1 + atts.length) (severityOf o.code) 512 s.log.ring
    if 512 < rs.length + 1 + atts.length then State.dropRecord { s with log := { s.log with ring := rs } } o.code
    else
      State.checkSeqMark { s with log := { s.log with
        ring := rs ++ LogRec.fresh o s.log.nextSeq atts.length :: atts, nextSeq := s.log.nextSeq + 1 + atts.length } }

/-- An occurrence enters the logbook of 65,536 records. -/
def State.recordMain (s : State) (o : Occurrence) : State :=
  match mergeTarget o s.log.records with
  | some q =>
    State.bump { s with log := { s.log with records := updateRec q (fun r => r.merge o) s.log.records } } OD.logbookGeneration 1
  | none =>
    let atts := attachRecs o s.log.nextSeq
    let rs := makeRoom 65536 (1 + atts.length) (severityOf o.code) 65536 s.log.records
    if 65536 < rs.length + 1 + atts.length then State.dropRecord { s with log := { s.log with records := rs } } o.code
    else
      let r := LogRec.fresh o s.log.nextSeq atts.length
      let s := { s with log := { s.log with records := rs ++ r :: atts, nextSeq := s.log.nextSeq + 1 + atts.length } }
      ((s.bump OD.logbookGeneration 1).checkSeqMark).deliver o r

/-- One occurrence is recorded, in the ring while the logger cannot take it (R566), and its Host Notify message is queued (R475). -/
def State.recordOccurrence (s : State) (o : Occurrence) : State :=
  (if s.ringTakes then s.recordRing o else s.recordMain o).notifyRecorded o.code

/-- LOGBOOK_RECORD (R560): the oldest occurrence in the queue. -/
def execLogbookRecord (s : State) : Out :=
  s.await 7 .logbookRecord (fun s =>
  match s.log.queue with
  | [] => .next s
  | o :: os => .next (State.recordOccurrence { s with log := { s.log with queue := os } } o))

/-! ## The summary (R564) -/

/-- A record is to be mirrored: new, or merged since its last mirror at least 60 s ago. -/
def LogRec.toMirror (now : Nat) (r : LogRec) : Bool :=
  2 ≤ r.severity && (!r.mirrored || (r.mergedSince && r.mirrorTime + 60000000000 ≤ now))

/-- The current copies in the summary, in the order written, oldest first. -/
def State.summaryCopies (s : State) : List Rec :=
  let r := s.eflash.summary
  (r.recs.filter (fun x => x.type = 0x0200 && x.counts && r.needs x)).reverse

/-- A copy is of a FATAL record. -/
def Rec.isFatal (x : Rec) : Bool := field x.payload 2 1 % 4 = 3

/-- The oldest summary sector is reclaimed, once an erase may start (R505): current copies of FATAL records are rewritten,
all other copies in it, current or not, are dropped and counted. -/
def State.reclaimSummary (s : State) : State :=
  let r := s.eflash.summary
  if 8 ≤ r.freeSectors || s.eraseBarred then s
  else match r.ring with
  | [] => s
  | oldest :: _ =>
    let mine := r.recs.filter (fun x => x.sector = oldest && x.counts && r.needs x)
    let lost := r.recs.countP (fun x => x.sector = oldest && x.type = 0x0200 && (x.mark == .valid || x.mark == .superseded) && !(x.isFatal && mine.contains x))
    let s := s.setRegion 3 (r.rewrite (mine.filter (fun x => x.type ≠ 0x0200 || x.isFatal)))
    let s := s.eraseSector oldest (some 0)
    if lost = 0 then s else (s.bump OD.summaryDropped lost).raise 0x8204 lost []

/-- One record is mirrored. -/
def State.mirrorRec (s : State) (r : LogRec) : State :=
  let s := (s.record 3 0x0200 (r.seq % 2 ^ 32) r.bytes).bump OD.summaryGeneration 1
  let f := fun (x : LogRec) => { x with mirrored := true, mirrorTime := s.clock + 1, mergedSince := false }
  State.reclaimSummary { s with log := { s.log with records := updateRec r.seq f s.log.records, ring := updateRec r.seq f s.log.ring } }

/-- LOGBOOK_MIRROR (R564). -/
def execLogbookMirror (s : State) : Out :=
  .next (((s.log.ring ++ s.log.records).filter (LogRec.toMirror s.clock)).foldl State.mirrorRec s)

/-! ## Clearing FATAL records (R563) -/

/-- The FATAL units of a SEQ, or all of them. -/
def clearUnits (seq : Nat) : List LogRec → List LogRec
  | [] => []
  | r :: rs =>
    if r.severity = 3 && (seq = 0 || (r.seq - r.part = seq)) then clearUnits seq rs else r :: clearUnits seq rs

/-- Their copies in the summary are marked superseded. -/
def supersedeCopies (seqs : List Nat) (recs : List Rec) : List Rec :=
  recs.map (fun x => if x.type = 0x0200 && seqs.contains x.key then { x with mark := .superseded } else x)

/-- ClearFatal. -/
def clearFatalAct (seq : Nat) : Act := fun s =>
  let gone := s.log.records.filter (fun r => r.severity = 3 && (seq = 0 || r.seq - r.part = seq))
  if seq ≠ 0 && gone.isEmpty then refuse s OD.logbookLastResult 1
  else
    let sm := s.eflash.summary
    let s := s.setRegion 3 { sm with recs := supersedeCopies (gone.map (fun r => r.seq % 2 ^ 32)) sm.recs }
    let s := { s with log := { s.log with records := clearUnits seq s.log.records } }
    okResult ((s.bump OD.logbookGeneration (gone.countP (fun r => r.part = 0))).raise 0x8202 0 [(.u32, seq % 2 ^ 32)]) OD.logbookLastResult

/-- CLEAR_FATAL (R563): access level 3. -/
def execClearFatal (q : Req) (seq : BitVec 64) (s : State) : Out :=
  runCmd (.clearFatal q seq) q OD.logbookClearFatal (toBytes 8 seq.toNat) (fun s =>
    if s.level q.src < 3 then fail (s.raise 0x7011 0 [(.u16, sessionNumber q.src), (.u24, OD.logbookClearFatal)]) stAccess
    else clearFatalAct seq.toNat s) s

/-! ## The rebuild at a start (R566, R567) -/

/-- Records placed one by one. -/
def insertAll (xs rs : List LogRec) : List LogRec := xs.foldl (fun r x => insertRec x r) rs

/-- One record of the ring passes to the logger: in place of a copy of its SEQ, or as a new record finds room (R562). -/
def State.passRecord (s : State) (x : LogRec) : State :=
  if s.log.records.any (fun r => r.seq = x.seq) then { s with log := { s.log with records := insertRec x s.log.records } }
  else
    let rs := makeRoom 65536 1 x.severity 65536 s.log.records
    if 65536 < rs.length + 1 then State.dropRecord { s with log := { s.log with records := rs } } x.code
    else { s with log := { s.log with records := insertRec x rs } }

/-- The ring's records pass to the logger with their SEQs, and the ring is emptied (R566). -/
def State.passRing (s : State) : State :=
  let xs := s.log.ring
  State.bump (xs.foldl State.passRecord { s with log := { s.log with ring := [] } }) OD.logbookGeneration xs.length

/-- The records of the current summary copies. -/
def State.summaryRecs (s : State) : List LogRec := s.summaryCopies.map (fun x => { LogRec.ofBytes x.payload with mirrored := true })

/-- The logbook is rebuilt from the vault's log segments, when there are any, and the summary (R567). A record already
present, from the ring or created since t1, replaces a loaded copy of its SEQ. -/
def State.rebuildLog (s : State) (vault : Option (List LogRec)) : State :=
  let loaded := match vault with
    | some v =>
      let top := (v.map (·.seq)).foldl max 0
      v ++ s.summaryRecs.filter (fun r => top < r.seq)
    | none => s.summaryRecs
  let source := match vault with | some _ => 1 | none => if loaded.isEmpty then 0 else 2
  let all := insertAll s.log.records (insertAll loaded [])
  let s := { s with log := { s.log with records := makeRoom 65536 0 2 65536 all } }
  ((s.put OD.logbookRestoredFrom source).bump OD.logbookGeneration loaded.length).raise 0x8203 loaded.length [(.u8, source)]

end Sys2Proof.Machine
end

