-- ==== Sys2Proof/Machine/Receive.lean ====
section
/-! DEFINITION. The receipt of CXL.mem messages (03, R82, R107; 16, R576 to R579): tracer tickets, IDE's hold until a MAC is
verified, and the faults a request meets on its way. -/
namespace Sys2Proof.Machine

/-! ## Tracer tickets (R576 to R578) -/

/-- A Galois LFSR of x^32 + x^22 + x^2 + x + 1 advances once, shifting right. -/
def lfsrStep (x : BitVec 32) : BitVec 32 := if x.getLsbD 0 then (x >>> 1) ^^^ 0x80200003#32 else x >>> 1

/-- How far a request goes: 0 the Host region answers it, 1 the Map region does, 2 it reaches DRAM, 3 it needs a fetch. -/
def State.pathKind (s : State) (ld dpa : Nat) (isWrite : Bool) : Nat :=
  match s.couplingAt ld dpa with
  | none => 0
  | some c =>
    if isWrite && c.rdonly then 0
    else
      let l := s.leaf (leafKey c.cid ((dpa - c.dpa) / 4096))
      if (s.carriage c.cid).size * 2 ^ 21 ≤ dpa - c.dpa || l.pois then 1
      else if l.res then 2
      else if l.depot then (if (s.depotEntry l.ptr).res then 2 else 3)
      else if l.flc then 3
      else if isWrite then 2 else 1

/-- The twelve stamps: stations 2 to 8, F1 to F4 and a reserved entry. Times are free values; a station not passed reads all
ones. -/
def State.stamps (s : State) (kind : Nat) : List Nat :=
  let passed := fun (i : Nat) => match i with
    | 0 => true | 1 => 1 ≤ kind | 2 => 2 ≤ kind | 3 => 2 ≤ kind | 4 => 2 ≤ kind | 5 => 2 ≤ kind | 6 => true
    | _ => kind = 3
  (List.range 11).map (fun i => if passed i then (Config.freeBits 32 (s.free + i)).toNat else 0xFFFFFFFF) ++ [0]

/-- FLAGS bits 0 to 3 and 5 to 7 as the request finds the page. -/
def State.ticketFlags (s : State) (kind : Nat) (isWrite : Bool) (l : Leaf) (p : Nat) : Nat :=
  (if 1 ≤ kind && Config.freeBits 1 s.free = 1#1 then 1 else 0) + (if kind = 3 then 2 else 0)
  + (if l.depot then 4 else 0) + (if l.depot && isWrite then 8 else 0) + (if l.busy then 32 else 0)
  + (if (s.hostPort p).panic then 64 else 0) + (if s.ctl.armed then 128 else 0)

/-- The ticket of a request. -/
def State.makeTicket (s : State) (ld dpa : Nat) (isWrite : Bool) : Ticket :=
  let p := ld / 16
  let kind := s.pathKind ld dpa isWrite
  let c := s.couplingAt ld dpa
  let cid := match c with | some c => c.cid | none => 0xFFFF
  let page := match c with | some c => (dpa - c.dpa) / 4096 | none => 0
  let cls := match c with | some c => if c.cls = 0xF then s.get (OD.ldClass ld) else c.cls | none => s.get (OD.ldClass ld)
  let l := s.leaf (leafKey cid page)
  let flash := s.flashCopy (if l.depot then flashName 1 l.ptr else s.pageName cid page)
  { ingress := s.clock, ld := ld, dpa := dpa, op := if isWrite then 1 else 0, cls := cls
    flags := s.ticketFlags kind isWrite l p, carriage := cid
    mc := 0xFF
    fc := if kind = 3 then flash.block / 2 ^ 24 else 0xFF
    page := page, line := dpa / 64 % 64
    pipe := if 2 ≤ kind then (Config.freeBits 6 s.free).toNat % 40 else 0xFF
    stamps := s.stamps kind, tracker := s.tracked p + 1
    bankq := if 2 ≤ kind then (Config.freeBits 16 s.free).toNat else 0, tseq := 0 }

/-- A request arrives: the port's LFSR advances, and the request may be taken as a ticket (R576). -/
def State.drawTicket (s : State) (ld dpa : Nat) (isWrite : Bool) : State :=
  let p := ld / 16
  let x := lfsrStep (if p = 0 then s.tickets.lfsr0 else s.tickets.lfsr1)
  let s := { s with tickets := if p = 0 then { s.tickets with lfsr0 := x } else { s.tickets with lfsr1 := x } }
  if !s.flag OD.ticketEnable || x.toNat % 2 ^ s.get OD.ticketRate ≠ 0 || s.ticketsFull then s
  else if 512 ≤ s.tickets.inFlight.length then (s.bump OD.ticketSkipped 1).count 0xF091 p 1
  else
    let t := s.makeTicket ld dpa isWrite
    let s := { s with free := s.free + 11, tickets := { s.tickets with inFlight := s.tickets.inFlight ++ [t] } }
    s.count 0xF090 p 1


/-- The leaf key of a request, where a coupling covers it. -/
def State.requestKey (s : State) (ld dpa : Nat) : Option Nat :=
  (s.couplingAt ld dpa).map (fun c => leafKey c.cid ((dpa - c.dpa) / 4096))

/-- An uncorrectable entry is met on the way of a request to a covered page. -/
def State.cacheFaultAt (s : State) (ld dpa : Nat) : State :=
  match s.requestKey ld dpa with
  | some k => s.cacheFault k
  | none => s

/-- A read under the faults of its way (R37, R140, R382). -/
def State.readUnder (s : State) (ld dpa : Nat) : PathFault → State
  | .none => s.hostRead ld dpa false
  | .portBuffer => (s.completePoison ld dpa).bufferFault (ld / 16)
  | .transport => s.hostRead ld dpa true
  | .cacheEntry => (s.cacheFaultAt ld dpa).hostRead ld dpa false
  | .pipes ps => let (s, bad) := s.pipeFaults ps; s.hostRead ld dpa bad

/-- A write under the faults of its way. -/
def State.writeUnder (s : State) (ld dpa : Nat) (d : Line) : PathFault → State
  | .none => s.hostWrite ld dpa d .plain
  | .portBuffer => (s.hostWrite ld dpa d .poisoned).bufferFault (ld / 16)
  | .transport => s.hostWrite ld dpa d .poisoned
  | .cacheEntry => (s.cacheFaultAt ld dpa).hostWrite ld dpa d .plain
  | .pipes ps => let (s, bad) := s.pipeFaults ps; s.hostWrite ld dpa d (if bad then .poisoned else .plain)

/-- A message that the port may act on: counted, drawn for a ticket, and served. -/
def State.serveMessage (s : State) (m : MemRequest) : State :=
  match m.data with
  | none => (((s.count 0xF001 (m.ld / 16) 1).drawTicket m.ld m.dpa false).readUnder m.ld m.dpa m.fault).settleTickets true
  | some d =>
    let s := ((s.count 0xF002 (m.ld / 16) 1).count 0xF003 (m.ld / 16) 64).drawTicket m.ld m.dpa true
    (s.writeUnder m.ld m.dpa d m.fault).settleTickets true

/-! ## IDE (R107) -/

/-- A message is received. With a CXL.mem IDE key it waits for the MAC that covers it, a read too (R107 lets a read in skid mode
begin its translation before; DESIGN CHOICE, log 158). -/
def State.receive (s : State) (m : MemRequest) : State :=
  let h := s.hostPort (m.ld / 16)
  if h.keyMem.isSome then s.setHostPort (m.ld / 16) { h with unverified := h.unverified ++ [m] } else s.serveMessage m

/-- So many messages take effect in order of receipt, the first of those that still wait each time: the ones behind it count as tracked (R99), and
a fence of the port discards them. -/
def State.verifyNext (p : Nat) : Nat → State → State
  | 0, s => s
  | n + 1, s =>
    match (s.hostPort p).unverified with
    | [] => s
    | m :: ms => State.verifyNext p n ((s.setHostPort p { s.hostPort p with unverified := ms }).serveMessage m)

/-- A MAC verifies everything received on a port, which takes effect in order. -/
def State.verify (s : State) (p : Nat) : State := State.verifyNext p (s.hostPort p).unverified.length s

/-- Messages received since the last verified MAC are discarded: they were never accepted (R107). -/
def State.dropUnverified (s : State) (p : Nat) : State := s.setHostPort p { s.hostPort p with unverified := [] }

/-- The MACs of all messages received are verified, while no command comes (R107; DESIGN CHOICE, log 158). -/
def State.verified (s : State) : State :=
  if (s.hostPort 0).unverified.isEmpty && (s.hostPort 1).unverified.isEmpty then s
  else ((s.freshAnswers.verify 0).verify 1).reportSince s

/-! ## HDM decoders (R82) -/

/-- A decoder of an LD. -/
def State.decoder (s : State) (ld d : Nat) : HdmDecoder := mapGet (fun _ => HdmDecoder.initial) s.host.decoders (ld * 4 + d)

/-- A host address lies in a decoder's range. -/
def HdmDecoder.covers (x : HdmDecoder) (a : Nat) : Bool := x.base.toNat ≤ a && a < x.base.toNat + x.size.toNat

/-- Device addresses that a decoder takes: its range holds that of every way of the interleave. -/
def HdmDecoder.share (x : HdmDecoder) : Nat := x.size.toNat / x.ways

/-- The offset in a decoder's share: the interleave's ways take turns by the granularity. -/
def HdmDecoder.offset (x : HdmDecoder) (a : Nat) : Nat :=
  let off := a - x.base.toNat
  off / (x.granularity * x.ways) * x.granularity + off % x.granularity

/-- The DPA of a request's line: the first decoder whose range holds the address, above the shares of the decoders before it;
beyond every window where the programmed decoders do not hold the address. With none programmed the address is the DPA
(PRESUMED, log 159: CXL 3.1's translation). -/
def State.dpaOf (s : State) (ld : Nat) (addr : BitVec 64) : Nat :=
  let ds := (List.range 4).map (s.decoder ld)
  let a := addr.toNat / 64 * 64
  if ds.all (·.size = 0#64) then a
  else match ds.findIdx? (·.covers a) with
    | some i => ((ds.take i).map HdmDecoder.share).sum + (ds.getD i HdmDecoder.initial).offset a
    | none => 2 ^ 64

end Sys2Proof.Machine
end

