-- ==== Sys2Proof/Machine/Save.lean ====
section
/-! DEFINITION. The save (07, R241 to R264): drain, header, metadata, residue stream, log, seal and what follows it. -/
namespace Sys2Proof.Machine

/-! ## Bringing pages into DRAM (R145, R168) -/

/-- A page takes a frame with a plaintext image, keeping its flags. -/
def State.placePage (s : State) (key f : Nat) (im : Image) : State :=
  let s := s.setLeaf key { s.leaf key with res := true, busy := false, ptr := f }
  s.placeFrame f (s.pageCipher key im)

/-- The page's vault copy leaves the flash map with its first fetch; the page is dirty then (R271, R339). -/
def State.leaveVault (s : State) (key : Nat) : State :=
  if s.saves.restore.locations.any (fun e => e.1 = key) then
    let s := s.freePageCopy key
    (s.setLeaf key { s.leaf key with flc := false }).markDirty key
  else s

/-- A page's flash copy is fetched into a frame (R145). -/
def State.fetchInto (s : State) (key f : Nat) : State :=
  let name := s.pageName (leafCid key) (leafPage key)
  (s.placePage key f (s.flashImage name name)).leaveVault key

/-- The seal of a page that moved into DRAM mismatched, on the repeat too: the page is poisoned, with event 0x8141 (R44). -/
def State.sealFails (s : State) (key : Nat) : State :=
  (s.setLeaf key { s.leaf key with busy := false, pois := true }).raise 0x8141 0 [(.carriage, leafCid key), (.u32, leafPage key)]

/-- A page that moves from flash to DRAM with its seal in force and a content that its seal does not match, read twice, is
poisoned with event 0x8141 (R43, R44); every other one is fetched. The model reads the copy as it lies: an error of one move
alone is what a command's `FetchOutcome` gives (DESIGN CHOICE, log 145). -/
def State.fetchChecked (s : State) (key f : Nat) : State :=
  let l := s.leaf key
  let name := s.pageName (leafCid key) (leafPage key)
  if l.sealed && (s.carriage (leafCid key)).sealOn && (s.flashImage name name).pageSeal ≠ l.pageSeal then s.sealFails key
  else s.fetchInto key f

/-- A double-bit error in transport poisons its line of a page that has arrived (R37). -/
def State.arrivedPoisoned (s : State) (key line : Nat) : State :=
  if (s.leaf key).res then s.poisonLine (s.leaf key).ptr line else s

/-- How the move of a page into DRAM ends (R37, R44, R145, R382), where `arrive` brings it into a frame. An error in staging
aborts the move, whose repeat is still to end. -/
def State.moveEnds (s : State) (key : Nat) (o : FetchOutcome) (arrive : State → State) : State :=
  let l := s.leaf key
  let check := l.sealed && (s.carriage (leafCid key)).sealOn
  match o with
  | .unreadable => s.fetchFails key
  | .mismatchTwice => if check then s.sealFails key else arrive s
  | .ok => arrive s
  | .okAfterRepeat =>
    let t := arrive s
    t.when (check && (t.leaf key).res) (·.raise 0x8140 0 [(.carriage, leafCid key), (.u32, leafPage key)])
  | .staging => s
  | .transport line => (arrive s).arrivedPoisoned key line.val
  | .pipes ps => let (t, bad) := s.pipeFaults ps; (if bad then t.fetchFails key else arrive t).reportSince s

/-- A move whose first try an error in staging aborts is made again from flash (R37). -/
def retriedMove (o : FetchOutcome) : FetchOutcome := if o = .staging then .ok else o

/-- The whole move of a page into frame `f`; a copy that garbage collection could not read fails (R328). -/
def State.moveIn (s : State) (o : FetchOutcome) (key f : Nat) : State :=
  if (s.flashCopy (s.pageName (leafCid key) (leafPage key))).lost then s.fetchFails key
  else s.moveEnds key (retriedMove o) (·.fetchChecked key f)

/-- The fault that a list names for an item, or none. -/
def faultOf {α : Type} [DecidableEq α] (faults : List (α × FetchOutcome)) (x : α) : FetchOutcome :=
  ((faults.find? (fun e => e.1 = x)).map (·.2)).getD .ok

/-! ## Fingerprints (R162) -/

/-- The fingerprint of a page under a slot's root (R162, R361). -/
def fingerprint (root : List Byte) (i : Image) : List Byte := hmacSha256 (kdf root "SLT-FP" [] 32) i.bytes

/-- Bits [255:192] of a fingerprint, its first eight bytes. -/
def fingerprintTop (f : List Byte) : BitVec 64 := BitVec.ofNat 64 (ofBytesBE (f.take 8))

/-- A depot page's flash copy is fetched into a frame (R168). -/
def State.fetchDepotInto (s : State) (i f : Nat) : State :=
  let name := flashName 1 i
  let s := s.setDepot i { s.depotEntry i with res := true, busy := false, frame := f }
  s.placeFrame f (s.depotCipher i (s.flashImage name name))

/-- A depot page that moves from flash to DRAM is checked against FP; a mismatch that a second read repeats poisons it with
event 0x2104 (R171). One of a superseded generation cannot be read (R167). -/
def State.fetchDepotChecked (s : State) (i f : Nat) : State :=
  let e := s.depotEntry i
  if e.slotGen ≠ (s.slot e.slot).gen then s
  else if fingerprintTop (fingerprint (s.slot e.slot).root (s.flashImage (flashName 1 i) (flashName 1 i))) ≠ e.fp then
    (s.setDepot i { e with busy := false, pois := true }).raise 0x2104 0 [(.u32, i)]
  else s.fetchDepotInto i f

/-- A depot page is poisoned as its move fails, with the event given (R145, R171). -/
def State.depotFails (s : State) (i code : Nat) : State :=
  (s.setDepot i { s.depotEntry i with busy := false, pois := true }).raise code 0 [(.u32, i)]

/-- How the move of a depot page into DRAM ends, as a page's does (R168) with the check of R171. -/
def State.depotEnds (s : State) (i : Nat) (o : FetchOutcome) (arrive : State → State) : State :=
  match o with
  | .unreadable => s.depotFails i 0x2020
  | .mismatchTwice => s.depotFails i 0x2104
  | .ok => arrive s
  | .okAfterRepeat => let t := arrive s; t.when (t.depotEntry i).res (·.raise 0x2105 0 [(.u32, i)])
  | .staging => s
  | .transport line =>
    let t := arrive s
    if (t.depotEntry i).res then t.poisonLine (t.depotEntry i).frame line.val else t
  | .pipes ps => let (t, bad) := s.pipeFaults ps; (if bad then t.depotFails i 0x2020 else arrive t).reportSince s

/-- The whole move of a depot page into frame `f`. -/
def State.depotMoveIn (s : State) (o : FetchOutcome) (i f : Nat) : State :=
  if (s.flashCopy (flashName 1 i)).lost then s.depotFails i 0x2020
  else s.depotEnds i (retriedMove o) (·.fetchDepotChecked i f)

/-! ## t3: the drain (R102, R103, R256) -/

/-- A depot page on a channel that carries no ordinary requests is taken off it, as the salvage that follows reads it (R620). -/
def State.salvageDepot (s : State) (i : Nat) : State :=
  let e := s.depotEntry i
  if e.res && !s.frameServes e.frame then
    match s.takeFrameForMove with
    | some (f, s) => (s.placeFrame f (s.frame e.frame)).setDepot i { e with frame := f }
    | none => s
  else s

/-- The page that a held write needs is brought into DRAM, under the faults that its move meets. -/
def State.drainFetch (faults : List (FetchName × FetchOutcome)) (s : State) (key : Nat) : State :=
  let l := s.leaf key
  if l.flashOnly then match s.takeFrameForMove with
    | some (f, t) => t.moveIn (faultOf faults (.page (BitVec.ofNat 16 (leafCid key)) (BitVec.ofNat 28 (leafPage key)))) key f
    | none => s
  else if l.depot && !(s.depotEntry l.ptr).res then match s.takeFrameForMove with
    | some (f, t) => t.depotMoveIn (faultOf faults (.depot (BitVec.ofNat 32 l.ptr))) l.ptr f
    | none => s
  else if l.depot then s.salvageDepot l.ptr
  else s

/-- A write received before the receive window closed reaches the DRAM path (R3, R102); also one to a page of a frozen
channel, whose salvage the save will read. One that still cannot be placed ends as R120 states for a frame that is not
obtained: its leaf is poisoned, and event 0x2053 is raised (DESIGN CHOICE, log 146). -/
def State.drainWrite (faults : List (FetchName × FetchOutcome)) (s : State) (w : Waiter) : State :=
  let w := { w with held := false }
  let key := leafKey w.cid w.page
  let s := s.drainFetch faults key
  let l := s.leaf key
  if l.res && !l.pois && !s.frameServes l.ptr then s.storeFor w
  else
    let t := s.serveWrite w
    if t.work.waiters.isEmpty then t
    else
      let s := (s.poisonLeaf key).raise 0x2053 0 [(.carriage, w.cid)]
      { s with work := { s.work with discarded := s.work.discarded + 1 } }

/-- A request that a host still awaits: neither injected nor of a link that has gone down since. -/
def Waiter.awaited (w : Waiter) : Bool :=
  !w.quiet && match w.data with | some (_, .injected) => false | _ => true

/-- Requests whose response is not sent as the receive window closes (R103): those that wait, writes too, and those that no MAC has
verified yet (DEDUCED, log 178). -/
def State.abandonedRequests (s : State) : Nat :=
  s.work.waiters.countP Waiter.awaited + (s.hostPort 0).unverified.length + (s.hostPort 1).unverified.length

/-- The drain: messages received are verified (R107), reads that are not served yet are abandoned, writes complete. -/
def State.drain (faults : List (FetchName × FetchOutcome)) (s : State) : State :=
  let out := s.out
  let gone := s.abandonedRequests
  let s := (s.verify 0).verify 1
  let ws := s.work.waiters
  let s := { s with work := { s.work with waiters := [] }, flush := { s.flush with metaHold := false } }
  let t := (ws.filter (fun w => w.data.isSome)).foldl (State.drainWrite faults) s
  let s := { t with out := { t.out with host := out.host, ide := out.ide } }
  s.when (0 < gone) (·.raise 0x1061 gone [])

/-- A frozen channel goes to salvage, its freeze record first (R256, R309). -/
def State.salvageChannel (s : State) (c : Nat) : State :=
  let s := ((s.chan c).marked.filter (fun e => s.isTableFrame e.1)).foldl (fun s e => s.loseTableLine e.1 e.2.val) s
  let x := { s.chan c with marked := [] }
  match x.state with
  | .frozen => ((s.logFreeze c [(.u8, 4)]).setChan c { x with state := .salvageSave }).salvaged c
  | .salvageInit => ((s.logFreeze c [(.u8, 4)]).setChan c { x with state := .salvageSave }).salvaged c
  | .thawing => ((s.logFreeze c [(.u8, 4)]).setChan c { x with state := .salvageSave }).salvaged c
  | .absent => s | .inService => s | .salvageSave => s | .offline => s

/-- The residue list: the age list's pages that are residue, oldest first (R242, R243). -/
def State.residueList (s : State) : List Nat :=
  let counts := fun (k : Nat) => (s.leaf k).inResidue && (s.carriage (leafCid k)).state != .deleting
  let listed := distinct ((s.flush.age.map (·.key)).filter counts).reverse
  let rest := (s.tables.leaves.map (·.1)).filter (fun k => counts k && !listed.contains k)
  listed.reverse ++ rest

/-- The save in progress changes. -/
def State.setRun (s : State) (r : SaveRun) : State := { s with saves := { s.saves with run := some r } }

/-- A step of the save that follows the last one reached; another is not what the timeline lists (R12, R241). -/
def State.saveStep (s : State) (n : Nat) (f : SaveRun → State → State) : Out :=
  match s.saves.run with
  | some r => if s.ctl.mode == .save && r.step + 1 = n then .next (f r s) else .next s.unlist
  | none => .next s.unlist

/-- SAVE_DRAIN_COMPLETE (R241 t3); `faults` are those that the moves of the drain meet (R37). -/
def execSaveDrainComplete (s : State) (faults : List (FetchName × FetchOutcome) := []) : Out :=
  s.saveStep 3 (fun _ s =>
    let s := (List.range 16).foldl State.salvageChannel (s.drain faults)
    match s.saves.run with
    | some r => { s with work := { s.work with unwritten := [] } }.setRun { r with step := 3, residue := s.residue, list := s.residueList }
    | none => s)

/-! ## t4: the header (R251) -/

/-- Carriages with dirty pages, and those in Deleting. -/
def State.dirtyMap (s : State) : List Nat :=
  s.tables.carriages.filterMap (fun e =>
    if e.2.state = .deleting || (e.2.state != .free && s.countPages e.1 Leaf.inResidue > 0) then some e.1 else none)

/-- SAVE_HEADER_PROGRAMMED (R241 t4). -/
def execSaveHeaderProgrammed (s : State) : Out :=
  s.saveStep 4 (fun r s =>
    ((s.programSegments r 1).changeVault r.seq (fun v => { v with
      header := true, dirtyMap := s.dirtyMap, plan := s.seatingPlan, globalTerm := s.tables.globalTerm
      residue := r.residue })).setRun { r with step := 4 })

/-! ## t5: the metadata (R243, R250) -/

/-- Segments of the metadata stream, and of the residue list. -/
def metaSegments (lines : Nat) : Nat := (lines + 14505) / 14506
def listSegments (n : Nat) : Nat := (n + 130559) / 130560

/-- A snapshot frame as the vault carries it: one on a channel that missed its salvage initialisation reads as poison (R259). -/
def State.carriedImage (s : State) (cid page f : Nat) : Image :=
  let x := s.chan (s.channelOf f)
  if x.state == .salvageSave && !x.initialised then { Image.zero with bad := ~~~0#64 } else s.snapImage cid page f

/-- A snapshot record whose frame waits for its program is carried by the vault as a copy (R184), with its seal and its poison. -/
def State.carriedRecord (s : State) (cid : Nat) (r : SnapRecord) : SnapRecord :=
  match r.kind with
  | .frame f => s.copyRecord cid r (s.carriedImage cid r.page f)
  | .zero => r
  | .copy _ _ _ _ => r
  | .depot _ => r

/-- The flash map with the copies of snapshot frames of one carriage, under the tweak of the page's name (R358). -/
def State.carryFrames (s : State) (m : SMap FlashCopy) (e : Nat × List SnapRecord) : SMap FlashCopy :=
  e.2.foldl (fun m r =>
    match r.kind with
    | .frame f =>
      let c := flashCipher (s.pageName e.1 r.page) (s.carriedImage e.1 r.page f)
      mapSet (fun _ => FlashCopy.none) m (s.snapName e.1 r.page) { FlashCopy.none with present := true, content := c }
    | .zero => m
    | .copy _ _ _ _ => m
    | .depot _ => m) m

/-- What the metadata stream carries of the tables. -/
def State.carriedTables (s : State) : MapTables :=
  { s.tables with
    flash := s.tables.snapshots.foldl s.carryFrames s.tables.flash
    snapshots := mapMap (fun _ => []) (fun cid rs => rs.map (s.carriedRecord cid)) s.tables.snapshots }

/-- A frame lies on a channel that missed its salvage initialisation (R259). -/
def State.unread (s : State) (f : Nat) : Bool :=
  let x := s.chan (s.channelOf f)
  x.state == .salvageSave && !x.initialised

/-- The node that holds an interior entry: the root of its carriage, or that of the entry above. -/
def State.holder (s : State) (k : Nat) : Nat :=
  if interiorLevel k = 3 then (s.carriage (k / 2 ^ 20)).root
  else (s.interior (interiorKey (k / 2 ^ 20) (interiorLevel k + 1) (interiorFirst k))).node

/-- Leaf entries, interior entries and descriptors whose table line cannot be read (R258, R259). -/
def State.lostLeaves (s : State) : List Nat :=
  s.tables.leaves.filterMap (fun e =>
    let up := s.interior (interiorKey (leafCid e.1) 1 (leafPage e.1))
    if s.work.changed.contains (lineLeaf e.1) && s.unread up.node then some e.1 else none)
def State.lostInterior (s : State) : List Nat :=
  s.tables.interior.filterMap (fun e =>
    if s.work.changed.contains (lineInterior e.1) && s.unread (s.holder e.1) then some e.1 else none)
def State.lostDescriptors (s : State) : List Nat :=
  s.tables.carriages.filterMap (fun e =>
    if s.work.changed.contains (lineCarriage e.1) && s.unread (s.tablePage (e.1 / 64)) then some e.1 else none)

/-- The DRAM frame of a table-region line, by the entries that point to its node; none where no node holds it any longer. -/
def State.lineFrame (s : State) (line : Nat) : Option Nat :=
  let k := line / 2 ^ 48
  let i := line % 2 ^ 48
  if auxLine line then (let f := mapGet (fun _ => 0) s.tables.aux (line / 64); if f = 0 then none else some (f - 1))
  else if k = 0 || k = 8 then
    let e := s.interior (interiorKey (leafCid (8 * i)) 1 (leafPage (8 * i)))
    if e.valid then some (if k = 8 then e.node + 1 else e.node) else none
  else if k = 1 then
    let level := i % 2 ^ 20 / 2 ^ 18
    let cid := i / 2 ^ 20
    let first := i % 2 ^ 18 * (8 * (if level = 3 then 2 ^ 27 else if level = 2 then 2 ^ 18 else 2 ^ 9))
    if level = 3 then (if (s.carriage cid).state == .free then none else some (s.carriage cid).root)
    else
      let e := s.interior (interiorKey cid (level + 1) first)
      if e.valid then some e.node else none
  else if k = 7 then some (s.tablePage (i / 64))
  else none

/-- The line's place in its node: 64 lines of eight entries. -/
def lineOffset (line : Nat) : Nat := if line / 2 ^ 48 = 1 then line % 2 ^ 18 % 64 else line % 64

/-- Lines of the other tables that lie on a channel that cannot be read. -/
def State.lostLines (s : State) : List Nat :=
  s.work.changed.filter (fun l => auxLine l && (s.lineFrame l).any s.unread)

/-! ## The metadata records (R243, R250) -/

/-- The 64 bytes of a table-region line: eight entries of 8 bytes, two depot entries, two pass rows, or a descriptor. What the spec
gives no layout, a snapshot record, is the free value `n` (R182). -/
def State.lineBytes (s : State) (n line : Nat) : List Byte :=
  let k := line / 2 ^ 48
  let i := line % 2 ^ 48
  let eight := fun (f : Nat → Nat) => (List.range 8).flatMap (fun j => toBytes 8 (f j))
  if k = 0 then eight (fun j => (s.leaf (8 * i + j)).word.toNat)
  else if k = 1 then
    let level := i % 2 ^ 20 / 2 ^ 18
    let span := if level = 3 then 2 ^ 27 else if level = 2 then 2 ^ 18 else 2 ^ 9
    eight (fun j => (s.interiorWord (interiorKey (i / 2 ^ 20) level ((i % 2 ^ 18 * 8 + j) * span))).toNat)
  else if k = 2 then s.depotEntryBytes (2 * i) ++ s.depotEntryBytes (2 * i + 1)
  else if k = 5 then toBytes 32 (s.passRow (2 * i)).toNat ++ toBytes 32 (s.passRow (2 * i + 1)).toNat
  else if k = 6 then eight (fun j => s.flashEntry (8 * i + j))
  else if k = 7 then s.descriptorBytes i
  else if k = 8 then eight (fun j => (s.leaf (8 * i + j)).pageSeal.toNat)
  else freeBytes 64 n

/-- LINEADDR of a table-region line: its byte address in DRAM, and LOST in bit 0. A coupling line is controller state, bit 63; the layout of
those is not published, and the rest of the field free. -/
def State.lineAddr (s : State) (n line : Nat) : Nat :=
  match s.lineFrame line with
  | some f => f * 4096 + lineOffset line * 64 + (if s.unread f then 1 else 0)
  | none => 2 ^ 63 + (Config.freeBits 63 n).toNat

/-- One metadata record: a lost line carries zeros. -/
def State.metaRecord (s : State) (n line : Nat) : List Byte :=
  toBytes 8 (s.lineAddr n line)
    ++ (if (s.lineFrame line).any s.unread then List.replicate 64 0#8 else s.lineBytes n line)

/-- A controller-state line, whose layout the manual does not publish: a free value. -/
def stateRecord (n : Nat) : List Byte := toBytes 8 (2 ^ 63 + (Config.freeBits 63 n).toNat) ++ freeBytes 64 n

/-- Lines that the persistent objects and the vault-location map take: how much one line holds is not published; the model counts one for each
object and for each page (DESIGN CHOICE, log 154). -/
def State.stateLines (s : State) (objects locations : Nat) : Nat := s.tables.couplings.length / 4 + objects + locations

/-- Persistent objects of the Main die that the stream carries (R250). -/
def State.carriedObjects (s : State) : SMap Nat :=
  s.od.filter (fun e =>
    let i := e.1 / 256
    isPersistent e.1 && !heldInSignalBox i (e.1 % 256)
    && ((0x2000 ≤ i && i ≤ 0x26FF) || (0x3000 ≤ i && i ≤ 0x38FF) || (0x5000 ≤ i && i ≤ 0x53FF)))

/-- The class of a vault by what was programmed of it (R266). -/
def Vault.classWritten (v : Vault) : Nat :=
  if v.copy1 || v.copy2 then (if v.flags % 2 = 1 then 1 else 2)
  else if v.header && v.metaMark then 3 else if v.header then 4 else 5

/-- What a save carries of tables that have not been loaded: a save out of FREEZE that BOOT or a translation-metadata phase ended in. Its
metadata stream adds no record to its parent's, all of whose pages are not yet restored (R67, R267, R268; DEDUCED, log 177). -/
def Vault.overParent (v p : Vault) : Vault :=
  let keys := distinct (p.list ++ p.pages.map (·.1))
  { v with
    dirtyMap := p.dirtyMap, plan := p.plan, tables := p.tables, lost := p.lost, lostNodes := p.lostNodes
    lostCarriages := p.lostCarriages, lostLines := p.lostLines, objects := p.objects
    locations := keys.foldl (fun m k => mapSet (fun _ => 0) m k p.seq) p.locations }

/-- The carriages that a vault of class 4 or 5 rolls back over a table image (R266, R275). -/
def rolledBack (t : MapTables) (v : Vault) (cls : Nat) : List Nat :=
  let all := t.carriages.filterMap (fun e => if e.2.state = .free then none else some e.1)
  if cls = 4 then v.dirtyMap.filter (fun c => all.contains c) else all

/-- The tables in the save's vault, where they have been loaded and where not. -/
def State.carryTables (s : State) (r : SaveRun) (records : List (List Byte)) (objects : SMap Nat) : State :=
  if s.tablesLoaded then
    s.changeVault r.seq (fun v => { v with
      tables := s.carriedTables, lost := s.lostLeaves, lostNodes := s.lostInterior, lostCarriages := s.lostDescriptors
      lostLines := s.lostLines, records := records, list := r.list, objects := objects
      locations := if r.parent = 0 then [] else s.saves.restore.locations })
  else match findVault r.parent s.saves.vaults with
    | none => s.changeVault r.seq (fun v => { v with tables := s.flush.image })
    | some p =>
      let cls := p.classWritten
      if cls ≤ 3 then s.changeVault r.seq (·.overParent p)
      else
        let s := s.changeVault r.seq (fun v => { v with tables := s.flush.image, dirtyMap := p.dirtyMap, plan := p.plan })
        (rolledBack s.flush.image p cls).foldl (fun s c => s.setOutcome c 2) s

/-- SAVE_METADATA_PROGRAMMED (R241 t5): the records of the changed lines and of the controller state, the residue list, and the mark. -/
def execSaveMetadataProgrammed (s : State) : Out :=
  s.saveStep 5 (fun r s =>
    let objects := if s.tablesLoaded then s.carriedObjects else []
    let lines := s.work.changed
    let locs := if r.parent = 0 then 0 else s.saves.restore.locations.length
    let extra := s.stateLines objects.length locs
    let records := lines.zipIdx.map (fun e => s.metaRecord (s.free + e.2) e.1)
      ++ (List.range extra).map (fun i => stateRecord (s.free + lines.length + i))
    let s := { s with free := s.free + lines.length + extra }
    let m := metaSegments records.length
    let l := listSegments r.list.length
    let bytes := (m + l) * 2 ^ 20 + 4096
    let s := s.carryTables r records objects
    let s := (s.programSegments r (m + l + 1)).changeVault r.seq (fun v => { v with
      metaMark := true, metaLines := records.length, metaBytes := bytes })
    s.setRun { r with step := 5, metaBytes := bytes })

/-! ## t6: the residue stream (R242, R246, R249, R257, R259) -/

/-- Pages that fit in the free save region beside the log (R246). -/
def State.streamRoom (s : State) : Nat := (s.saveFree / 2 ^ 20 - (s.log.records.length / 16128 + 1)) * 252

/-- Poisoned pages of one salvaged channel. -/
def State.poisonedOn (s : State) (pages : SMap VaultPage) (c : Nat) : Nat :=
  pages.countP (fun e => e.2.state ≠ 0 && (s.leaf e.1).res && s.channelOf (s.leaf e.1).ptr = c)

/-- Every channel salvaged, and not reported before, is named with its poisoned pages (R256). -/
def State.reportSalvage (s : State) (seq : Nat) : State :=
  let pages := match findVault seq s.saves.vaults with | some v => v.pages | none => []
  (List.range 16).foldl (fun s c =>
    match s.saves.run with
    | none => s
    | some r =>
      let x := s.chan c
      if x.state == .salvageSave && x.initialised && !r.reported.getLsbD c then
        (s.raise 0x2812 (s.poisonedOn pages c) [(.u8, c), (.u32, s.poisonedOn pages c)]).setRun
          { r with reported := r.reported ||| (1#16 <<< c) }
      else s) s

/-- SAVE_STREAM_PROGRAMMED (R241 t6). -/
def execSaveStreamProgrammed (s : State) (faults : List (BitVec 16 × BitVec 28 × Pairings) := []) : Out :=
  s.saveStep 6 (fun r s0 =>
    let s := faults.foldl (fun s f => (s.pipeFaults f.2.2).1) s0
    let failed := (faults.filter (fun f => 3 ≤ f.2.2.length)).map (fun f => leafKey f.1.toNat f.2.1.toNat)
    let taken := (r.list.filter s.streams).take s.streamRoom
    let page := fun k => if failed.contains k then s.failedPage k else s.vaultPage k
    let s := s.streamPages r page taken
    ((s.setRun { r with step := 6 }).reportSalvage r.seq).reportSince s0)

/-! ## t7: the log (R565, R567) -/

/-- SAVE_LOG_PROGRAMMED (R241 t7): the records in SEQ order, and the next SEQ is reported. -/
def execSaveLogProgrammed (s : State) : Out :=
  s.saveStep 7 (fun r s =>
    let recs := s.log.records
    let s := (s.programSegments r ((recs.length + 16127) / 16128)).changeVault r.seq (fun v => { v with log := recs })
    let s := { s with log := { s.log with seqReport := some s.log.nextSeq } }
    s.setRun { r with step := 7 })

/-! ## The segments of a vault (R247 to R251) -/

/-- The bodies of the metadata segments: 14,506 records each, padded with zeros to 1,020 KiB (R247). -/
def Vault.metaBodies (v : Vault) : List (List Byte) :=
  (List.range (metaSegments v.records.length)).map (fun i => padTo 1044480 ((v.records.drop (14506 * i)).take 14506).flatten)

/-- The bodies of the residue-list segments (R247). -/
def Vault.listBodies (v : Vault) : List (List Byte) :=
  (List.range (listSegments v.list.length)).map (fun i =>
    ((v.list.drop (130560 * i)).take 130560).flatMap (fun k => toBytes 2 (leafCid k) ++ [0#8, 0#8] ++ toBytes 4 (leafPage k)))

/-- The bodies of the log segments: 64-byte records, in sequence order (R247, R556). -/
def Vault.logBodies (v : Vault) : List (List Byte) :=
  let rs := v.log.reverse
  (List.range ((rs.length + 16127) / 16128)).map (fun i => ((rs.drop (16128 * i)).take 16128).flatMap LogRec.bytes)


/-- Zeros of a reserved field. -/
def zeros (n : Nat) : List Byte := List.replicate n 0#8

/-- A directory page (R248): DCRC covers all of it but its own field. -/
def directoryPage (kind count seq seg : Nat) (entries : List Byte) : List Byte :=
  let head := toBytes 4 0x47455356 ++ toBytes 1 kind ++ [0#8] ++ toBytes 2 count ++ toBytes 8 seq ++ toBytes 4 seg ++ zeros 40
  let body := entries ++ zeros (4032 - entries.length)
  head ++ toBytes 4 (crc32c (head ++ body)).toNat ++ body

/-- A page entry (R249). -/
def pageEntry (key : Nat) (p : VaultPage) : List Byte :=
  toBytes 2 (leafCid key) ++ toBytes 1 p.state ++ [0#8] ++ toBytes 4 (leafPage key) ++ toBytes 8 p.mask.toNat

/-- The header body (R251): the carriage dirty map and the seating plan. -/
def Vault.headerBody (v : Vault) : List Byte :=
  (List.range 8192).map (fun i => BitVec.ofNat 8 (((List.range 8).map (fun b =>
    if v.dirtyMap.contains (8 * i + b) then 2 ^ b else 0)).sum))
  ++ (List.range 4096).flatMap (fun i => toBytes 2 (v.plan.getD i 0xFFFF))

/-- How many entries each of the segments holds that take `n` entries, `size` at most in each. -/
def segmentCounts (n size : Nat) : List Nat := (List.range ((n + size - 1) / size)).map (fun i => min size (n - i * size))

/-- Page entries of the residue stream, in stream order (R242). -/
def Vault.pageEntries (v : Vault) : List (List Byte) :=
  v.stream.filterMap (fun k => (v.pages.find? (fun e => e.1 = k)).map (fun e => pageEntry k e.2))

/-- The segments in stream order: KIND, COUNT and ENTRIES of each (R247). COUNT of a KIND that can hold more entries than 16 bits
count is their number modulo 2^16, and that of the header is 0 (DESIGN CHOICE, log 163). -/
def Vault.directory (v : Vault) : List (Nat × Nat × List Byte) :=
  let es := v.pageEntries
  [(0, 0, [])] ++ (segmentCounts v.metaLines 14506).map (fun n => (1, n, []))
  ++ (segmentCounts v.list.length 130560).map (fun n => (4, n, [])) ++ [(1, 0, [])]
  ++ (List.range ((es.length + 251) / 252)).map (fun i =>
    let here := (es.drop (252 * i)).take 252
    (2, here.length, here.flatten))
  ++ (segmentCounts v.log.length 16128).map (fun n => (3, n, []))

/-- The directory pages, numbered from 0 in stream order. -/
def Vault.directoryPages (v : Vault) : List (List Byte) :=
  v.directory.zipIdx.map (fun e => directoryPage e.1.1 e.1.2.1 v.seq e.2 e.1.2.2)

/-- The seal record (R252): SEGDIGEST covers the DCRC values, the tag all that stands before it. -/
def Vault.sealRecord (v : Vault) (unit : Nat) (key nonce : List Byte) : List Byte :=
  let digest := sha384 (v.directoryPages.flatMap (fun p => slice p 60 4))
  let b := toBytes 4 0x4C414553 ++ toBytes 2 1 ++ toBytes 2 v.flags ++ toBytes 8 unit ++ toBytes 8 v.seq ++ toBytes 8 v.parent
    ++ toBytes 8 v.commitTime ++ toBytes 8 v.sealTime ++ toBytes 1 v.cause ++ toBytes 1 v.mode ++ toBytes 2 v.chain
    ++ toBytes 8 v.residue ++ toBytes 8 v.saved ++ toBytes 8 v.poisoned ++ toBytes 8 v.unsaved ++ toBytes 8 v.metaBytes
    ++ toBytes 4 v.segments ++ toBytes 2 v.frozen.toNat ++ zeros 2 ++ toBytes 8 v.flashOut.toNat ++ toBytes 8 v.globalTerm
    ++ toBytes 4 v.energy ++ zeros 8 ++ digest ++ zeros 3892 ++ nonce
  b ++ gcmTag key nonce b []

/-! ## t8: the seal (R252 to R254, R263) -/

/-- A bit of FLAGS. -/
def flagBit (b : Bool) (n : Nat) : Nat := if b then 2 ^ n else 0

/-- FLAGS of the seal record (R253). -/
def SaveRun.flags (r : SaveRun) (complete : Bool) : Nat :=
  flagBit r.decision 7 + flagBit r.freezeForm 6 + flagBit r.latched 5 + flagBit r.returned 4
  + flagBit (r.parent != 0) 3 + flagBit r.energyOver 2 + flagBit r.salvage 1 + flagBit complete 0

/-- One invocation of the vault context (R374, R377): at M + 2^20 - 2^16 the next mark is journalled. -/
def State.vaultInvoke (s : State) : State :=
  let n := s.crypt.vaultCounter + 1
  let s := { s with crypt := { s.crypt with vaultCounter := n } }
  if n = s.crypt.vaultMark + 2 ^ 20 - 2 ^ 16 then s.journal 0x0020 0x100 (toBytes 8 (s.crypt.vaultMark + 2 ^ 20)) else s

/-- Flash channels out of service (FCOUT). -/
def State.flashOutBits (s : State) : BitVec 64 :=
  BitVec.ofNat 64 (((List.range 64).map (fun c => if (s.fchan c).state ≠ 0 then 2 ^ c else 0)).sum)

/-- OD 0x5400 reports a sealed vault (R278). -/
def State.reportVault (s : State) (v : Vault) (duration : Nat) : State :=
  [(OD.vaultVaultPending, 1), (OD.vaultSealSeq, v.seq), (OD.vaultChainDepth, v.chain), (OD.vaultSealFlags, v.flags),
   (OD.vaultCommitTime, v.commitTime), (OD.vaultSealTime, v.sealTime), (OD.vaultSaveDuration, duration),
   (OD.vaultSavedPages, v.saved), (OD.vaultPoisonedPages, v.poisoned), (OD.vaultUnsavedPages, v.unsaved),
   (OD.vaultFrozenChannels, v.frozen.toNat)].foldl (fun s e => s.put e.1 e.2) s

/-- What follows the seal, by the first matching row of R55 and R263: with power present at the seal, a latched reset that is
applied, or the save-then-restore path of a Commit that a power-return event has followed; else VAULT, where a latched reset is
discarded (R68). -/
def State.afterSeal (s : State) (r : SaveRun) : SaveRun :=
  let powered := s.powerPresent
  let latched := powered && (r.resetLatched || r.watchdogLatched || r.kind == .reset)
  { r with powered := powered, resetLatched := latched, watchdogLatched := latched && r.watchdogLatched
           restoring := powered && !latched && r.kind == .commit && r.pwrret }

/-- A salvaged channel is offline after the seal (R309). -/
def State.endSalvage (s : State) (c : Nat) : State :=
  let x := s.chan c
  if x.state == .salvageSave then s.setChan c { x with state := .offline } else s

/-- The latches and counts of the last vault, sealed. -/
def Vault.sealedAs (v : Vault) (r : SaveRun) (now energy : Nat) (out : BitVec 64) (c1 c2 : Bool) : Vault :=
  let complete := v.unsaved = 0
  { v with sealTime := now, flags := r.flags complete, copy1 := c1, copy2 := c2, frozen := r.frozen, flashOut := out,
           energy := energy }

/-- The pages of the seal copies that verified, in the order of their allocation: a copy that failed is written to the spare (R254). -/
def Vault.sealsWritten (v : Vault) (copy1 copy2 : Bool) : List Nat :=
  (if copy1 then [v.seals.getD 0 0] else []) ++ (if copy2 then [v.seals.getD 1 0] else [])
  ++ (if copy1 && copy2 then [] else [v.seals.getD 2 0])

/-- SEAL_COMPLETE (R241 t8): a copy that fails is written to the one spare page. -/
def execSealComplete (copy1 copy2 : Bool) (energy : Nat) (s : State) : Out :=
  s.saveStep 8 (fun r s =>
    let nonce := gcmNonce 0xFFFFFFFF s.crypt.vaultCounter
    let s := s.vaultInvoke
    let bad := !copy1 || !copy2
    let used := if s.power.batsel = 1 then energy else 0
    let out := s.flashOutBits
    let now := s.clock
    let s := s.changeVault r.seq (fun v => { v.sealedAs r now used out true (copy1 || copy2) with
      spare := bad, sealsUsed := v.sealsWritten copy1 copy2 })
    let s := s.changeVault r.seq (fun v => { v with
      sealPage := v.sealRecord (s.get OD.identityUnitId) (s.unitKey "VLT-GCM" 32) nonce })
    let s := s.when bad (·.note 0x2814)
    match findVault r.seq s.saves.vaults with
    | none => s
    | some v =>
      let us := (s.clock - r.t0) / 1000
      let s := s.reportVault v us
      let s := s.bump OD.vaultSaveCount 1
      let s := (s.releaseSlots r.drillSlots).advancePointer (v.segments + r.drillSlots)
      let s := if v.unsaved = 0 then s.raise 0x2810 us [(.u32, us), (.u32, mib (4096 * v.saved))]
        else s.raise 0x2811 v.unsaved [(.u32, v.unsaved)]
      let s := s.reportSalvage r.seq
      let s := (List.range 16).foldl State.endSalvage s
      let r := (s.saves.run).getD r
      let s := if s.power.state == .committed then s.setPower .normal else s
      s.setRun { s.afterSeal r with step := 8, sealed := true, drillSlots := 0 })

/-! ## t9: the completion record, and the next mode (R55, R244, R255) -/

/-- The completion record (R255, R518). -/
def Vault.completionBytes (v : Vault) : List Byte :=
  toBytes 8 v.seq ++ toBytes 2 v.flags ++ [0#8, 0#8] ++ toBytes 8 (v.sealsUsed.getD 0 0) ++ toBytes 8 (v.sealsUsed.getD 1 0)
  ++ toBytes 4 v.segments

/-- A latched reset is applied, once the embedded flash has finished its erase or program (R68). -/
def State.applyReset (s : State) : State :=
  if s.eflash.busy.isSome then { s with cores := { s.cores with deferredReset := 1 } } else s.enterBoot 0x03

/-- The next mode is entered as the table states. On the way to BOOT, BATSEL stays as it is driven: R244 names its release for
VAULT and RESTORE alone (DESIGN CHOICE, log 160). -/
def State.leaveSave (s : State) (r : SaveRun) : State :=
  if r.resetLatched then s.applyReset
  else if r.restoring then s
  else (s.enterVault 0x0B).setPower .normal

/-- VAULT_RECORD_COMPLETE (R241 t9). -/
def execVaultRecordComplete (s : State) : Out :=
  s.saveStep 9 (fun r s =>
    let s := match findVault r.seq s.saves.vaults with
      | some v => s.journal 0x0002 0 v.completionBytes
      | none => s
    let ready := s.eflashReady
    State.leaveSave ((s.changeVault r.seq (fun v => { v with completed := ready })).setRun { r with step := 9 }) r)

end Sys2Proof.Machine
end

