-- ==== Sys2Proof/Machine/Restore.lean ====
section
/-! DEFINITION. The restore (07, R264 to R278): finding and classifying the vault, the translation-metadata phase, warm
and cold, early and late admission, the background restore, and the release of a vault chain. -/
namespace Sys2Proof.Machine

/-! ## Admission (R77) -/

/-- CXL.mem is admitted on a port: one that its prefect fenced stays out (R105), and so does one whose link trained too narrow for it (R76). -/
def State.openPort (s : State) (p : Nat) : State :=
  if s.get (OD.hpFenceCause p) = 3 || (2 ≤ s.get (OD.hpLinkState p) && s.get (OD.hpWidth p) < 8) then s
  else
    let s := s.putFlag (OD.hpMemAdmitted p) true
    if s.get (OD.hpLinkState p) = 2 && 8 ≤ s.get (OD.hpWidth p) then s.put (OD.hpLinkState p) 3 else s

/-- CXL.mem is admitted on both ports. -/
def State.openMem (s : State) : State := (s.openPort 0).openPort 1

/-- The planner's first computation in this run (R219). -/
def State.firstPlan (s : State) : State :=
  if s.flush.planned then s else s.planCompute

/-- SERVICE is entered (R49, R77, R219): the planner has computed before CXL.mem is admitted. -/
def State.enterService (s : State) (cause : Nat) : State :=
  let s := s.enterMode .service cause
  let s := if s.flush.lastCheckpoint = 0 then { s with flush := { s.flush with lastCheckpoint := s.uptime } } else s
  s.firstPlan.openMem

/-! ## The vault at BOOT step t6 (R266) -/

/-- The vault record of the journal names this vault. -/
def State.recordNames (s : State) (v : Vault) : Bool :=
  match s.journaled 0x0001 0 with
  | some p => field p 0 8 = v.seq
  | none => false

/-- The class of the newest vault by what the reads find (R266). -/
def State.classOf (s : State) (v : Vault) (copy1 copy2 header metaMark : Bool) : Nat :=
  let c := (copy1 && v.copy1) || (copy2 && v.copy2)
  if !s.recordNames v then 5
  else if c then (if v.flags % 2 = 1 then 1 else 2)
  else if header && v.header && metaMark && v.metaMark then 3
  else if header && v.header then 4
  else 5

/-- The pages of page segments that do not verify are not found (R266, class 3): segment n holds pages 252 n to 252 n + 251
of the stream. -/
def Vault.without (v : Vault) (segs : List Nat) : Vault :=
  let bad := (segs.map (fun n => (v.stream.drop (252 * n)).take 252)).flatten
  { v with pages := v.pages.filter (fun e => !bad.contains e.1) }

/-- SEAL_RECORDS_READ (R266): the vault is classified, and the logbook rebuilt (R567). -/
def State.readSeals (s : State) (copy1 copy2 header metaMark : Bool) (unreadable : List Nat) : State :=
  match s.saves.vaults with
  | [] => ((s.put OD.vaultVaultClass 0).putFlag OD.vaultVaultPending false).rebuildLog none
  | v :: _ =>
    let cls := s.classOf v copy1 copy2 header metaMark
    let s := s.when ((v.copy1 && copy1) != (v.copy2 && copy2)) (·.note 0x2824)
    let s := if cls = 3 then s.changeVault v.seq (·.without unreadable) else s
    let s := [(OD.vaultVaultClass, cls), (OD.vaultVaultPending, 1), (OD.vaultSealSeq, v.seq), (OD.vaultChainDepth, v.chain)].foldl
      (fun s e => s.put e.1 e.2) s
    let s := { s with saves := { s.saves with restore := { s.saves.restore with seq := v.seq, cls := cls } } }
    s.rebuildLog (if cls ≤ 3 then some v.log else none)

/-! ## Starting RESTORE (R264, R268) -/

/-- The tables as the flash tier's metadata image has them. -/
def State.loadImage (s : State) : State :=
  { s with tables := s.flush.image.fromFlash, work := MapWork.initial }

/-- The key of every carriage that is not Free is derived as its descriptor is loaded (R364). -/
def State.deriveKeys (s : State) : State :=
  { s with crypt := { s.crypt with
    keyTable := s.tables.carriages.filterMap (fun e => if e.2.state = .free then none else some (e.1, e.2.keygen)) } }

/-- What the DRAM held is discarded (R264, R265). -/
def State.discardDram (s : State) : State :=
  { s with tables := MapTables.empty, work := MapWork.initial
           dram := { s.dram with frames := [] }
           flush := { s.flush with age := [], claims := [], metaHold := false } }

/-- The channels are initialised again with their training kept (R264); those out of service stay so. -/
def State.initChannel (s : State) (c : Nat) : State :=
  let x := s.chan c
  match x.state with
  | .inService => (s.setChan c { x.restart with state := .inService }).put (OD.mcRefreshGap c) 0
  | .frozen => s.setChan c x.restart | .salvageInit => s.setChan c x.restart
  | .thawing => s.setChan c x.restart | .salvageSave => s.setChan c x.restart
  | .absent => s | .offline => s

/-- RESTORE is entered for a vault; a checkpoint of an interrupted restore is taken up (R268, R276). A warm restore keeps the vault locations
of the pages that no restore has fetched yet (R265, R271; DEDUCED, log 177). -/
def State.startRestore (s : State) (v : Vault) (cls cause : Nat) (warm : Bool) : State :=
  let s := s.enterMode .restore cause
  let old := s.saves.restore
  let cp := match s.journaled 0x0004 0 with
    | some p => if field p 0 8 = v.seq then some (field p 8 1, field p 10 2, field p 12 4) else none
    | none => none
  let r : Restore := { Restore.initial with
    seq := v.seq, cls := cls, warm := warm, active := true, outcomes := old.outcomes, began := old.began
    locations := if warm then old.locations else []
    step := (cp.map (·.1)).getD 0, position := (cp.map (·.2.1)).getD 0, segment := (cp.map (·.2.2)).getD 0 }
  let s := { s with saves := { s.saves with restore := r }, flush := { s.flush with planned := false } }
  let s := [(OD.restoreRestoreState, 1), (OD.restoreRestoreKind, if warm then 2 else 1), (OD.qosThrottleState, 2), (OD.restoreRestoreTotal, 0),
    (OD.restoreRestoreDone, 0), (OD.restorePlanPosition, r.position)].foldl (fun s e => s.put e.1 e.2) s
  let s := s.raise 0x2820 0 [(.u8, cls), (.u40, v.seq)]
  s.when (cp.isSome && !warm) (·.note 0x8031)

/-! ## The metadata phase (R265, R267, R268, R275) -/

/-- A streamed page becomes Flash copy only, mapped to its vault location (R268); one with failed lines is poisoned. -/
def State.mapVaultPage (seq : Nat) (s : State) (e : Nat × VaultPage) : State :=
  let key := e.1
  if e.2.state ≠ 0 then s.poisonRestored key
  else
    let l := s.leaf key
    let s := s.setLeaf key { l with res := false, dirty := false, busy := false, fq := false, depot := false, flc := true,
                                    sided := false, sealed := e.2.sealed, pageSeal := e.2.pageSeal, ptr := 0 }
    let s := s.setFlashCopy (s.pageName (leafCid key) (leafPage key)) { FlashCopy.none with present := true, content := e.2.content }
    { s with saves := { s.saves with restore := { s.saves.restore with
        locations := mapSet (fun _ => 0) s.saves.restore.locations key seq } } }

/-- A page not yet restored from the parent chain, by the vault-location map (R267). -/
def State.mapParentPage (s : State) (e : Nat × Nat) : State :=
  match findVault e.2 s.saves.vaults with
  | none => s.parentUnreadable e.1
  | some v => match mapGet noEntry (v.pages.map (fun p => (p.1, some p.2))) e.1 with
    | some p => if p.state = 0 then State.mapVaultPage e.2 s (e.1, p) else s.parentUnreadable e.1
    | none => s.parentUnreadable e.1

/-- A leaf of a lost line is taken from the flash-tier image and poisoned (R258). -/
def State.loseLeaf (s : State) (key : Nat) : State :=
  let old := mapGet (fun _ => Leaf.empty) s.flush.image.fromFlash.leaves key
  (s.setLeaf key { old with pois := true }).setOutcome (leafCid key) 1

/-- An interior entry of a lost line is taken from the flash-tier image, invalid and poisoned (R258). -/
def State.loseNode (s : State) (k : Nat) : State :=
  let old := mapGet (fun _ => Interior.empty) s.flush.image.interior k
  (s.setInterior k { old with valid := false, pois := true, node := 0 }).setOutcome (k / 2 ^ 20) 1

/-- The persistent objects that the metadata stream carries (R250), where neither the settings area nor the Signal Box still holds one. -/
def State.loadObjects (s : State) (objects : SMap Nat) : State :=
  objects.foldl (fun s e => if (s.setting e.1).isSome || s.od.any (fun x => x.1 = e.1) then s else s.put e.1 e.2) s

/-- The tables as the vault chain gives them (R268, classes 1 to 3). -/
def State.loadVault (s : State) (v : Vault) : State :=
  let s := State.loadObjects { s with tables := v.tables.fromFlash, work := MapWork.initial } v.objects
  let s := v.lostNodes.foldl State.loseNode (v.lost.foldl State.loseLeaf s)
  let s := v.lostLines.foldl State.loseAuxLine (v.lostCarriages.foldl State.damageCarriage s)
  let s := v.locations.foldl State.mapParentPage s
  let s := v.pages.foldl (State.mapVaultPage v.seq) s
  let found := v.pages.map (·.1)
  (v.list.filter (fun k => !found.contains k)).foldl State.vaultUnreadable s

/-- Carriage states after the phase (R268): the pending copies of a Parking carriage are freed, and the import of a Shadow has failed; which
record it had come to, the tables do not say (0xFFFFFFFF; DESIGN CHOICE, log 179). -/
def State.normalise (s : State) (e : Nat × Carriage) : State :=
  match e.2.state with
  | .parking => { s.setCState e.1 .active with terms := { s.terms with parks := s.terms.parks.filter (fun p => p.id ≠ e.1) } }
  | .recalling => s.setCState e.1 .parked
  | .shadow => ((s.setCState e.1 .deleting).setOutcome e.1 3).raise 0x2403 0 [(.u32, 0xFFFFFFFF), (.u8, 0)]
  | .free => s | .active => s | .parked => s | .deleting => s

/-- Classes 4 and 5: the tables of the flash-tier image, and the carriages rolled back (R266, R275). -/
def State.rollCarriages (s : State) (v : Vault) (cls : Nat) : State :=
  let s := s.loadImage
  (rolledBack s.tables v cls).foldl (fun s c => s.setOutcome c 2) s

/-- Carriages with an outcome. -/
def State.outcomesOf (s : State) (n : Nat) : Nat := s.saves.restore.outcomes.countP (fun e => e.2 = n)

/-- What is still to be fetched (R272): vault pages, and flash-copy-only pages of Active carriages that are not sided. -/
def State.toFetch (s : State) : List Nat :=
  s.tables.leaves.filterMap (fun e =>
    if e.2.flashOnly && !e.2.pois && !e.2.sided && (s.carriage (leafCid e.1)).state == .active then some e.1 else none)

/-- The page segments of the vaults in segment order (R242, R272), the newest vault's first: their pages, each with its segment's number
in that order (DESIGN CHOICE, log 177). -/
def State.segmentPages (s : State) : List (Nat × Nat) :=
  (s.saves.vaults.foldl (fun (r : List (Nat × Nat) × Nat) v =>
    (r.1 ++ v.stream.zipIdx.map (fun e => (r.2 + e.2 / 252, e.1)), r.2 + (v.stream.length + 251) / 252)) ([], 0)).1

/-- The seating plan of the restore: the copy in the newest vault's header, where one was programmed (R273). -/
def State.restorePlan (s : State) : List Nat :=
  match findVault s.saves.restore.seq s.saves.vaults with
  | some v => if v.header && s.saves.restore.cls < 5 then v.plan else s.seatingPlan
  | none => s.seatingPlan

/-- A page to fetch in the background restore: its step of R272, its seating-plan entry or segment, and its leaf key. -/
structure FetchItem where
  step : Nat
  place : Nat
  key : Nat
  deriving DecidableEq, Repr

/-- The seating-plan entries that name an Active carriage for the first time (R272). -/
def State.planEntries (s : State) : List (Nat × Nat) :=
  let plan := s.restorePlan
  (plan.zipIdx.map (fun e => (e.2, e.1))).filter (fun e =>
    e.2 ≠ 0xFFFF && (s.carriage e.2).state == .active && !(plan.take e.1).contains e.2)

/-- The order of R272: of each seating-plan carriage not passed yet the vault pages and then the flash-tier pages; the other vault pages, in
segment order; the flash-tier pages of the other Active carriages. A restore that resumes goes on from its checkpoint, and the vault
pages that it had fetched before come again after the others (R273, R276; DEDUCED, log 177). -/
def State.backgroundOrder (s : State) : List FetchItem :=
  let r := s.saves.restore
  let want := s.toFetch
  let vault := fun (k : Nat) => r.locations.any (fun e => e.1 = k)
  let entries := s.planEntries
  let one := if 1 < r.step then [] else (entries.filter (fun e => r.position ≤ e.1)).flatMap (fun e =>
    (want.filter (fun k => leafCid k = e.2 && vault k) ++ want.filter (fun k => leafCid k = e.2 && !vault k)).map (FetchItem.mk 1 e.1))
  let pages := (s.segmentPages.filter (fun e => vault e.2)).map (fun e => FetchItem.mk 2 e.1 e.2)
    ++ r.locations.map (fun e => FetchItem.mk 2 (2 ^ 32) e.1)
  let from' := if r.step = 2 then r.segment else 0
  let two := pages.filter (fun i => from' ≤ i.place) ++ pages.filter (fun i => i.place < from')
  let three := (want.filter (fun k => !vault k && !(entries.map (·.2)).contains (leafCid k))).map (FetchItem.mk 3 0)
  let all := if r.step = 3 then three ++ two else one ++ two ++ three
  all.foldl (fun l i => if l.any (fun x => x.key = i.key) then l else l ++ [i]) []

/-- A vault page is still to be fetched: neither poisoned nor of a carriage in Deleting (R127, R272). -/
def State.vaultPagesLeft (s : State) : Bool :=
  s.saves.restore.locations.any (fun e =>
    (s.leaf e.1).flashOnly && !(s.leaf e.1).pois && !((s.carriage (leafCid e.1)).state == .deleting))

/-- Why early admission is withheld (R269): 0 it is not, 1 EarlyAdmission is 0, 2 the chain is 4 deep, 3 no computation yet. -/
def State.withheld (s : State) (v : Vault) : Nat :=
  if !s.flag OD.restoreEarlyAdmission then 1 else if 4 ≤ v.chain then 2 else if !s.flush.planned then 3 else 0

/-- CXL.mem is admitted in RESTORE (R269). -/
def State.admitEarly (s : State) : State :=
  let ms := (s.uptime - s.saves.restore.began) / 1000000
  let s := { s with saves := { s.saves with restore := { s.saves.restore with admitted := true } } }
  ((s.put OD.restoreAdmissionTime ms).raise 0x2821 ms [(.u32, ms)]).openMem

/-- The restore is complete (R272, R274): the vault awaits the first flush checkpoint in SERVICE. -/
def State.finishRestore (s : State) : State :=
  let s := { s with saves := { s.saves with restore := { s.saves.restore with active := false, awaiting := true, locations := [] } } }
  ((s.put OD.restoreRestoreState 4).note 0x2822).enterService 0x06

/-- The outcomes are reported (R266, R275). -/
def State.reportOutcomes (s : State) (cls : Nat) : State :=
  let pages := s.poisonedPages
  let rolled := s.outcomesOf 2
  let bad := 2 < cls ∨ 0 < s.outcomesOf 1 ∨ 0 < rolled
  if cls = 5 then s.note 0x2826
  else if bad then s.raise 0x2825 pages [(.u32, pages), (.u32, rolled)] else s

/-- The end of the phase: the planner computes, and CXL.mem is admitted or withheld (R268, R269). -/
def State.endPhase (s : State) (v : Vault) : State :=
  let w := s.withheld v
  if w = 0 then (s.put OD.restoreRestoreState 3).admitEarly
  else (s.put OD.restoreRestoreState 2).raise 0x2828 0 [(.u8, w)]

/-- The metadata phase is done, and what is to be fetched is known. -/
def State.metaDone (s : State) : State :=
  let s := { s with saves := { s.saves with restore := { s.saves.restore with metaDone := true } } }
  s.put OD.restoreRestoreTotal (4096 * s.backgroundOrder.length)

/-- The tables of the cold metadata phase, with the carriage states normalised. -/
def State.coldTables (s : State) (v : Vault) (cls : Nat) : State :=
  let s := (if cls ≤ 3 then s.loadVault v else s.rollCarriages v cls).deriveKeys
  s.tables.carriages.foldl State.normalise s

/-- The outcomes of the restores so far, which stay until they are cleared (R275). -/
def State.keepOutcomes (s : State) (old : SMap Nat) : State := old.foldl (fun s e => s.setOutcome e.1 e.2) s

/-- The cold metadata phase: the outcomes that it reports are its own. -/
def State.coldPhase (s : State) (v : Vault) (cls : Nat) : State :=
  let old := s.saves.restore.outcomes
  let s := { s with saves := { s.saves with restore := { s.saves.restore with outcomes := [] } } }
  let s := (((s.coldTables v cls).reportOutcomes cls).keepOutcomes old).metaDone
  (s.recomputeBacking.firstPlan).endPhase v

/-- The two checks of a warm restore (R265). -/
def State.warmHolds (s : State) (v : Vault) : Bool :=
  s.tables.carriages.all (fun e => !e.2.damaged) && s.residue = v.residue

/-- The warm metadata phase: the restore completes at admission, unless vault pages of an earlier restore are left for the background (R265, R271;
DEDUCED, log 177); or a cold restore begins instead (R265). -/
def State.warmPhase (s : State) (v : Vault) : State :=
  if s.warmHolds v then
    let s := (((s.note 0x2827).when s.vaultPagesLeft State.metaDone).firstPlan).endPhase v
    let s := { s with saves := { s.saves with restore := { s.saves.restore with metaDone := true } } }
    if s.vaultPagesLeft then s else s.finishRestore
  else
    let s := { s with saves := { s.saves with restore := { s.saves.restore with warm := false, locations := [] } } }
    (s.discardDram.put OD.restoreRestoreKind 1).rebuildLog (some v.log)

/-- RESTORE_METADATA_PHASE_COMPLETE (R265, R268). -/
def execRestoreMetadataPhaseComplete (s : State) : Out :=
  s.await 7 .restoreMetadataPhaseComplete (fun s =>
  if s.ctl.mode == .restore && !s.saves.restore.metaDone then
    match findVault s.saves.restore.seq s.saves.vaults with
    | some v => .next (if s.saves.restore.warm then s.warmPhase v else s.coldPhase v s.saves.restore.cls)
    | none => .next s.unlist
  else .next s.unlist)

/-! ## The background restore (R271, R272) -/

/-- One page of the background restore, under the fault that its move meets; a flash-tier page only while enough frames are free. -/
def State.backgroundFetch (faults : List ((Nat × Nat) × FetchOutcome)) (s : State) (key : Nat) : State :=
  let l := s.leaf key
  let o := faultOf faults (leafCid key, leafPage key)
  if !l.flashOnly || l.pois || (s.carriage (leafCid key)).state == .deleting then s
  else if s.saves.restore.locations.any (fun e => e.1 = key) then
    match s.takeFrameForMove with
    | some (f, s) => s.moveIn o key f
    | none => s
  else if s.framesFree < 2 * s.get OD.spaceFreeLow then s
  else match s.takeFrame with
  | some (f, s) => s.moveIn o key f
  | none => s

/-- Pages are fetched in turn, and RestoreDone counts those that have come. -/
def State.fetchItems (s : State) (faults : List ((Nat × Nat) × FetchOutcome)) (todo : List FetchItem) : State :=
  let s := todo.foldl (fun s i => s.backgroundFetch faults i.key) s
  s.put OD.restoreRestoreDone (s.get OD.restoreRestoreDone + 4096 * todo.countP (fun i => (s.leaf i.key).res))

/-- RESTORE_COMPLETE (R272): the background restore has fetched what it fetches. A page whose copy cannot be read is poisoned by R267 where
a vault held it, else by R145; `faults` are those that other moves meet (R37). -/
def execRestoreComplete (unreadable : List (BitVec 16 × BitVec 28)) (s : State)
    (faults : List (BitVec 16 × BitVec 28 × FetchOutcome) := []) : Out :=
  s.await 7 (.restoreComplete unreadable faults) (fun s =>
  let r := s.saves.restore
  if s.ctl.mode == .restore && r.active && r.metaDone then
    let bad := unreadable.map (fun u => leafKey u.1.toNat u.2.toNat)
    let s := (bad.filter (fun k => (s.leaf k).flashOnly)).foldl State.fetchFails s
    let s := s.fetchItems (faults.map (fun f => ((f.1.toNat, f.2.1.toNat), f.2.2))) s.backgroundOrder
    if s.vaultPagesLeft then .next s.resume else .next s.finishRestore.resume
  else .next s.unlist)

/-- What the background restore has passed when it reaches a step, and in it a seating-plan entry or a segment. -/
def FetchItem.before (i : FetchItem) (step position segment : Nat) : Bool :=
  i.step < step || (i.step = step && i.place < (if step = 1 then position else if step = 2 then segment else 0))

/-- RESTORE_CHECKPOINT_DUE (R276, R518): the background restore has come to the place that is journalled. -/
def execRestoreCheckpointDue (step : Fin 4) (planPosition : BitVec 16) (segment : BitVec 32) (s : State) : Out :=
  s.await 7 (.restoreCheckpointDue step planPosition segment) (fun s =>
  if s.ctl.mode == .restore && s.saves.restore.active then
    let passed := s.backgroundOrder.filter (·.before step.val planPosition.toNat segment.toNat)
    let s := if s.saves.restore.metaDone then s.fetchItems [] passed else s
    let r := s.saves.restore
    let s := { s with saves := { s.saves with restore := { r with step := step.val, position := planPosition.toNat, segment := segment.toNat } } }
    .next ((s.put OD.restorePlanPosition planPosition.toNat).journal 0x0004 0
      (toBytes 8 r.seq ++ toBytes 1 step.val ++ [0#8] ++ toBytes 2 planPosition.toNat ++ toBytes 4 segment.toNat))
  else .next s.unlist)

/-! ## Release (R274) -/

/-- A vault is released: its slots are freed for erase, and the record is journalled. -/
def State.releaseVault (s : State) (v : Vault) : State :=
  let s := (s.releaseSlots v.segments).journal 0x0003 0 (toBytes 8 v.seq)
  { s with saves := { s.saves with vaults := s.saves.vaults.filter (fun x => x.seq ≠ v.seq) } }

/-- Every vault is released after the first flush checkpoint in SERVICE. -/
def State.releaseChain (s : State) : State :=
  if s.saves.restore.awaiting && s.ctl.mode == .service then
    let s := s.saves.vaults.reverse.foldl State.releaseVault s
    let s := { s with saves := { s.saves with restore := { s.saves.restore with awaiting := false, seq := 0 } } }
    ((s.putFlag OD.vaultVaultPending false).put OD.restoreRestoreState 5).note 0x2823
  else s

/-- The vaults that the newest one chains to, itself included; at most four (R269). -/
def chainOf : Nat → Nat → List Vault → List Nat
  | 0, _, _ => []
  | n + 1, seq, vs =>
    match findVault seq vs with
    | some v => seq :: (if v.parent = 0 then [] else chainOf n v.parent vs)
    | none => []

/-- At the end of the BOOT that verifies a newer seal, an older chain is released (R274). -/
def State.releaseOlder (s : State) : State :=
  match s.saves.vaults with
  | v :: _ =>
    if s.get OD.vaultVaultClass = 1 || s.get OD.vaultVaultClass = 2 then
      let keep := chainOf 5 v.seq s.saves.vaults
      let old := s.saves.vaults.filter (fun x => !keep.contains x.seq)
      (old.foldl State.releaseVault s).when (!old.isEmpty) (·.note 0x2823)
    else s
  | [] => s

/-! ## The save-then-restore path (R59, R264) -/

/-- The links train again as the path enters RESTORE (R103), which counts as a start (R62): a port that its prefect fenced trains too, and the IDE
streams are established anew (R105, R106). -/
def State.retrainPorts (s : State) : State :=
  let one := fun (s : State) (p : Nat) =>
    let up := if p = 0 then s.pins.perst0N else s.pins.perst1N
    let s := ((s.put (OD.hpFenceCause p) 0).put (OD.hpLinkState p) 0).putFlag (OD.hpMemAdmitted p) false
    let s := (s.setHostPort p { s.hostPort p with keyMem := none, keyIo := none }).put (OD.hpIdeState p) 0
    if up then s.startTraining p else s
  one (one { s with iso := { s.iso with ports := 0 } } 0) 1

/-- The conditions of a warm restore (R264); a Main die reset ends the path. -/
def State.warmPossible (s : State) (r : SaveRun) : Bool :=
  !r.salvage && r.frozen = 0 && !r.decision
  && (List.range 16).all (fun c => !s.isPopulated c || ((s.chan c).state == .inService && !s.flag (OD.mcRefreshGap c)))

/-- SAVE_THEN_RESTORE_ENTRY (R59): BATSEL is released when the rail carries the load (R244). -/
def execSaveThenRestoreEntry (s : State) : Out :=
  match s.saves.run with
  | some r =>
    if s.ctl.mode == .save && r.restoring && r.step = 9 then
      match findVault r.seq s.saves.vaults with
      | none => .next s.unlist
      | some v =>
        let warm := s.warmPossible r
        let s := { s with cores := { s.cores with porters := (List.range 8).map (fun i => (i, { Porter.initial with running := true })) } }
        let s := s.retrainPorts.passRing.dropReport
        let s := if s.power.aboveRelease then s.releaseBatsel else s
        let s := if warm then s.put OD.logbookRestoredFrom 3
          else ((List.range 16).foldl State.initChannel s.discardDram).rebuildLog (some v.log)
        let s := { s with saves := { s.saves with run := none } }
        .next ((s.note 0x8032).startRestore v (if v.flags % 2 = 1 then 1 else 2) 0x0C warm)
    else .next s.unlist
  | none => .next s.unlist

/-! ## Commands of OD 0x5300 and 0x5400 (R273, R277, R278) -/

/-- PLAN_LOAD (R277). -/
def execPlanLoad (q : Req) (first : BitVec 16) (ids : List (BitVec 16)) (s : State) : Out :=
  runCmd (.planLoad q first ids) q OD.restorePlanLoad (toBytes 2 first.toNat ++ toBytes 2 ids.length ++ (ids.map (fun i => toBytes 2 i.toNat)).flatten)
    (fun s =>
      let n := ids.length
      if n = 0 || 500 < n || 4096 < first.toNat + n then fail s stRange
      else
        let plan := (List.range n).foldl (fun m i =>
          mapSet (fun _ => 0xFFFF) m (first.toNat + i) (ids.getD i 0#16).toNat) s.saves.plan
        ok (State.planChanged (State.owe { s with saves := { s.saves with plan := plan } } OD.restorePlanEntry))) s

/-- CLEAR_OUTCOMES (R278). -/
def execClearOutcomes (q : Req) (s : State) : Out :=
  runCmd (.clearOutcomes q) q OD.vaultClearOutcomes [] (fun s =>
    ok { s with saves := { s.saves with restore := { s.saves.restore with outcomes := [] } } }) s

end Sys2Proof.Machine
end

