-- ==== Sys2Proof/Machine/Boot.lean ====
section
/-! DEFINITION. BOOT (02, R62 to R72): its steps t1 to t7 and what each chapter does in its step, failed attempts, RESET_N,
mode requests, watchdogs (R70), chip-level decisions and self-check failures (01). -/
namespace Sys2Proof.Machine

/-! ## The sequence (R62) -/

/-- The steps that must have ended before a step of BOOT may end. -/
def bootNeeds : Nat → List Nat
  | 1 => [0] | 2 => [1] | 3 => [2] | 4 => [1] | 5 => [1] | 6 => [3, 4, 5] | 7 => [6] | _ => [8]

/-- Step tn may end now: BOOT runs, what it needs has ended, it has not ended before, and a Warn does not hold the sequence
at a boundary before it (R55). -/
def State.bootMay (s : State) (n : Nat) : Bool :=
  s.ctl.mode == .boot && !s.boot.retryHold && !s.reachedStep n && (bootNeeds n).all s.reachedStep
  && match s.boot.held with
    | some h => (bootNeeds n).all (fun k => h.getLsbD k)
    | none => true

/-- Step tn has ended. -/
def State.reach' (s : State) (n : Nat) : State := { s with boot := { s.boot with reached := s.boot.reached ||| (1#8 <<< n) } }

/-- A BOOT step's meaning, when it may end; another event is not what the sequence lists (R12). -/
def State.bootStep (s : State) (n : Nat) (f : State → State) : Out := if s.bootMay n then .next (f s) else .next s.unlist

/-! ## Failed attempts (R64, R546) -/

/-- What failed attempts mean for an update: a rollback inside the trial or outside it. -/
def State.bootFailUpdate (s : State) (step : Nat) : State :=
  let b := s.update.bootFails + 1
  let t2 := if step = 2 then s.update.t2Fails + 1 else 0
  let s := { s with update := { s.update with bootFails := b, t2Fails := t2 } }
  if s.update.state == .trial && 2 ≤ b then s.rollBack 2
  else if s.update.state != .trial && t2 = 2 && s.holdsImage s.inactiveBank then s.rollBack 5
  else s

/-- The attempt fails (R55, R64): a retry after 10 ms, or FREEZE after the third. -/
def State.bootFail (s : State) (step cause : Nat) : State :=
  let n := s.get OD.modeBootFailures + 1
  let s := ((s.put OD.modeBootFailures n).put OD.modeBootFailStep step).dropReport
  let s := (s.raise 0x8020 0 [(.u8, step), (.u8, n)]).bootFailUpdate step
  if n < 3 then
    let b := { s.boot with reached := 0, retryHold := true, held := none }
    let s := (s.enterMode .boot cause).mainDieReset
    { s.put OD.qosThrottleState 2 with boot := b }
  else (s.note 0x8021).enterFreeze 0x0E

/-- BOOT_STEP_TIMEOUT (R64): step t(n + 1) missed its bound or failed its check. -/
def execBootStepTimeout (step : Fin 7) (s : State) : Out :=
  if s.ctl.mode == .boot && !s.boot.retryHold && !s.reachedStep (step.val + 1) then .next (s.bootFail (step.val + 1) 0x0E)
  else .next s.unlist

/-- t0 of an attempt: the Main die is released when RESET_N is high. AdmissionTime is counted from the power-return event that began the
start, or else from here (R277). -/
def State.startAttempt (s : State) : State :=
  let low := !s.pins.resetN
  let r := s.saves.restore
  { s with saves := { s.saves with restore := { r with began := if s.boot.returned then r.began else s.uptime } }
           ctl := { s.ctl with resetPending := low }
           boot := { s.boot with t0 := s.uptime, reached := if low then 0 else 1, retryHold := false
                                 held := if s.armedPower then some 1 else none } }

/-- BOOT_RETRY_DELAY_EXPIRY (R55). -/
def execBootRetryDelayExpiry (s : State) : Out :=
  if s.ctl.mode == .boot && s.boot.retryHold then .next s.startAttempt else .next s.unlist

/-! ## t1 (R62, R565, R566, R576, R438, R543) -/

/-- The SEQ that the logger starts with: the one that the Signal Box holds, which its ring has gone on counting since the report of t7, or
M + 2^20 where the last run did not end with that report (R565). -/
def State.startSeq (s : State) : State :=
  match s.log.seqReport with
  | some _ => s.dropReport
  | none => s.skipSeq

/-- BOOT_START (R62 t1): the Loop Line is trained and the die bridge linked. -/
def execBootStart (mainDieTemp : Int) (s : State) : Out :=
  s.bootStep 1 (fun s =>
    let s := s.applyAtBoot.activateAtBoot
    let s := (s.startSeq.passRing).loadSeeds.clearTickets
    let s := { s with boot := { s.boot with temperature := mainDieTemp } }
    let train := fun (s : State) (p : Nat) (up : Bool) => if up then s.startTraining p else s
    (train (train s 0 s.pins.perst0N) 1 s.pins.perst1N).reach' 1)

/-! ## t2 (R499) -/

/-- All eight porters run. -/
def State.startPorters (s : State) : State :=
  let run := fun (p : Porter) => { p with running := true, reloading := false }
  { s with cores := { s.cores with
      porters := (List.range 8).map (fun i => (i, run (mapGet (fun _ => Porter.initial) s.cores.porters i))), digestsKept := true } }

/-- PORTERS_LOADED (R499, R384). -/
def execPortersLoaded (hashUnitOk signaturesOk digestsOk : Bool) (s : State) : Out :=
  s.bootStep 2 (fun s =>
    let s := s.when (!hashUnitOk) (·.note 0x5031)
    if hashUnitOk && signaturesOk && digestsOk then s.startPorters.reach' 2 else s.bootFail 2 0x0E)

/-! ## t3 (R363, R370, R375, R383, R519) -/

/-- A slot whose record failed its unwrap is Empty; its generation stays (R370). -/
def State.loseSlot (s : State) (n : Nat) : State :=
  if (s.slot n).type = 0 then s
  else (s.setSlot n { Slot.empty with gen := (s.slot n).gen }).raise 0x5004 0 [(.u16, n)]

/-- The pipes after their self-tests (R383). -/
def State.testPipes (s : State) (pass : BitVec 40) : State :=
  let s := { s with crypt := { s.crypt with quarantined := ~~~pass, mismatches := [], untilBoot := 0, testing := 0 } }
  (List.range 40).foldl (fun s p => if pass.getLsbD p then s else s.raise 0x5030 0 [(.u8, p)]) s

/-- A sealing slot's counter goes on above every counter used (R375). -/
def State.advanceSlot (s : State) (e : Nat × Slot) : State :=
  if e.2.type = 2 then
    let m := e.2.mark + 2 ^ 20
    (s.setSlot e.1 { e.2 with counter := m, mark := m }).journal 0x0020 e.1 (toBytes 8 m)
  else s

/-- Every journalled context is advanced (R375), and the key-generation counter with it (R519). -/
def State.advanceCounters (s : State) : State :=
  let m := s.crypt.vaultMark + 2 ^ 20
  let g := s.crypt.keyMark + 1024
  let s := (s.journal 0x0020 0x100 (toBytes 8 m)).journal 0x0010 0 (toBytes 4 g)
  let s := { s with crypt := { s.crypt with vaultCounter := m, vaultMark := m, keyGen := g, keyMark := g, keyed := true } }
  let n := 1 + s.crypt.slots.countP (fun e => e.2.type = 2)
  (s.crypt.slots.foldl State.advanceSlot s).raise 0x5010 n [(.u16, n)]

/-- The check value agrees with the journal, where it is put at the first BOOT (R363). -/
def State.checkVaultKey (s : State) (check : BitVec 24) : State × Bool :=
  let s := s.put OD.pipesVaultCheckValue check.toNat
  match s.journaled 0x0012 0 with
  | none => (s.journal 0x0012 0 (toBytes 4 check.toNat), true)
  | some p => (s, field p 0 4 = check.toNat)

/-- VAULT_KEY_DERIVED (R363). -/
def execVaultKeyDerived (check : BitVec 24) (pipesPass : BitVec 40) (badSlots : List (BitVec 8)) (s : State) : Out :=
  s.bootStep 3 (fun s =>
    match s.checkVaultKey check with
    | (s, false) => (s.note 0x5032).bootFail 3 0x0E
    | (s, true) =>
      let s := ((badSlots.map (·.toNat)).foldl State.loseSlot s).testPipes pipesPass
      if s.pipesUsable < 24 || 2 ^ 64 - 2 ^ 20 ≤ s.crypt.vaultMark + 2 ^ 20 then s.bootFail 3 0x0E
      else s.advanceCounters.reach' 3)

/-! ## t4 (R323, R333, R334) -/

/-- Dies at the positions that the population record names. -/
def State.namedDies (s : State) : BitVec 16 := BitVec.ofNat 16 (2 ^ field s.flash.population 0 1 - 1)

/-- A channel is put out of service at t4 (R323, R333): one that was in service is to be rebuilt, and a second one of its group before that has
ended is reported. -/
def State.fcFails (s : State) (c : Nat) : State :=
  let x := s.fchan c
  let s := (s.setFchan c { x with state := 1, cause := 1, dies := 0, rebuilding := x.rebuilding || x.state = 0 }).recordState 0x0112
    (flashStateKey c)
  (s.raise 0x4002 0 [(.u8, c), (.u8, 1)]).when (x.state = 0) (·.loseBoth c)

/-- A returned channel's blocks are erased before they are used again: at its return (R333; DESIGN CHOICE,
log 187). -/
def State.eraseChannel (s : State) (c : Nat) : State :=
  let erase := fun (k : Nat) (b : FBlock) =>
    if k / 2 ^ 24 = c && !b.erased && !b.retired then { FBlock.initial with erases := b.erases + 1 } else b
  { s with flash := { s.flash with blocks := mapMap (fun _ => FBlock.initial) erase s.flash.blocks } }

/-- One channel at t4: dies answer at the positions that the population record names (R323). -/
def State.bringUpFc (rate : Nat) (bad : List (Nat × Nat)) (failed : BitVec 64) (s : State) (c : Nat) : State :=
  let x := s.fchan c
  if x.state = 1 then s
  else
    let mism := bad.filter (fun e => e.1 = c && s.namedDies.getLsbD e.2)
    let lost : BitVec 16 := mism.foldl (fun m e => m ||| (1#16 <<< e.2)) 0
    let dies := s.namedDies &&& ~~~x.retired &&& ~~~lost
    let s := mism.foldl (fun s e => s.raise 0x4003 0 [(.u8, c), (.u8, e.2)]) s
    if failed.getLsbD c || dies = 0 then s.fcFails c
    else
      let back := x.state = 2
      let s := s.setFchan c { x with state := 0, cause := 0, dies := dies, rate := rate, timeouts := [], resetting := 0
                                     rebuilding := if back then false else x.rebuilding }
      let s := s.when back (·.eraseChannel c)
      let s := s.raise 0x4001 rate [(.u8, c), (.u8, popcount 16 dies.toNat)]
      s.when back (fun s => (s.recordState 0x0112 (flashStateKey c)).raise 0x4004 0 [(.u8, c)])

/-- The media is divided at the first BOOT of a population; a new SaveCeilingMax takes effect (R334). -/
def State.divideMedia (s : State) : State :=
  let pop := s.flash.population
  let want := s.get OD.flashSaveCeilingMax
  if s.flash.divided = some pop then
    if want = s.flash.saveMax || s.flash.converting.isSome then s
    else { s with flash := { s.flash with converting := some want, saveMax := min want s.flash.saveMax } }
  else { s with flash := { s.flash with divided := some pop, saveMax := want, converting := none, slotsLost := 0
                                        overhead := 2 * want / 2 ^ 20 * 2 / 100 } }

/-- At the first BOOT of a population the blocks with the maker's mark are never to be used (R331). -/
def State.markFactory (s : State) (bad : List (Fc × Fin 16 × Nat)) : State :=
  if s.flash.divided = some s.flash.population then s
  else bad.foldl (fun s e =>
    let k := blockKey e.1.val e.2.1.val e.2.2
    s.setBlock k { s.block k with retired := true, erased := false, factory := true }) s

/-- FLASH_CHANNELS_READY (R323). -/
def execFlashChannelsReady (rate : Nat) (badDies : List (Fc × Fin 16)) (failedTraining : BitVec 64)
    (s : State) (factoryBad : List (Fc × Fin 16 × Nat) := []) : Out :=
  s.bootStep 4 (fun s =>
    let r := min rate (s.get OD.flashSpeedLimit)
    let bad := badDies.map (fun e => (e.1.val, e.2.val))
    let s := (List.range 64).foldl (State.bringUpFc r bad failedTraining) s
    let s := ((s.put OD.flashRate r).markFactory factoryBad).divideMedia
    if 8 < s.fchansOut then s.bootFail 4 0x0E else s.reach' 4)

/-! ## t5 (R63, R281, R299, R303, R304, R309) -/

/-- Stored training results are used (R63): the settings area holds a valid record for every channel that trains. -/
def State.useStored (s : State) : Bool :=
  match s.dram.training with
  | none => false
  | some t =>
    (List.range 16).all (fun c => !s.isPopulated c || (s.chan c).state == .offline || s.hasRecord 0x0110 c)
    && t.population = s.dram.population && t.plan = s.dram.planVersion
    && (t.temperature - s.boot.temperature) ≤ 200 && (s.boot.temperature - t.temperature) ≤ 200

/-- A channel is offline, for this start alone when it was in service. -/
def State.mcOffline (s : State) (c code : Nat) : State :=
  let x := s.chan c
  (s.setChan c { x with state := .offline, thisStart := x.thisStart || x.state != .offline }).raise code 0 [(.u8, c)]

/-- A channel is trained. -/
def State.mcTrained (s : State) (c : Nat) (full : Bool) : State :=
  let x := s.chan c
  let back := x.state == .offline && !x.thisStart
  let tally := { Tally.initial with threshold := s.get OD.tallyThreshold }
  let x := { x with state := .inService, returnPending := false, thisStart := false, since := s.uptime, firstError := none, marked := []
                    tallies := mapSet (fun _ => Tally.initial) (mapSet (fun _ => Tally.initial) [] 0 tally) 1 tally
                    trainTime := if full then s.clock else x.trainTime
                    trainTemp := if full then s.boot.temperature else x.trainTemp
                    failed := if full && s.dram.forced then [] else x.failed }
  let s := (s.setChan c x).when (full && s.dram.forced) (·.recordState 0x0111 c)
  (s.when back (·.recordState 0x0112 c)).raise 0x3001 0 [(.u8, c), (.u8, if full then 1 else 0)]

/-- One channel at t5. -/
def State.bringUpMc (stored : Bool) (mismatched failed : BitVec 16) (s : State) (c : Nat) : State :=
  let x := s.chan c
  if !s.isPopulated c then s
  else if x.state == .offline && !x.returnPending then s
  else if mismatched.getLsbD c then s.mcOffline c 0x3003
  else if failed.getLsbD c then s.mcOffline c 0x3002
  else if x.state == .offline then (s.mcTrained c true).raise 0x3050 0 [(.u8, c)]
  else s.mcTrained c (!stored)

/-- What the channel status objects report of a populated channel: its rate is the lower of the devices' and SpeedLimit (R280, R291, R292,
R316). The ranks whose devices report DRFM are kept. -/
def State.reportMc (deviceRate : Nat) (drfm : BitVec 64) (s : State) (c : Nat) : State :=
  if !s.isPopulated c then s
  else
    let s := s.setChan c { s.chan c with drfm := drfm.extractLsb' (4 * c) 4 &&& BitVec.ofNat 4 (2 ^ s.ranks - 1) }
    let p := s.dram.population
    [(OD.mcRate c, min deviceRate (s.get OD.dramSpeedLimit)), (OD.mcRanks c, field p 1 1), (OD.mcDensity c, field p 2 1),
     (OD.mcCapacity c, 4096 * s.framesPerChannel), (OD.mcRefreshGap c, 0)].foldl (fun s e => s.put e.1 e.2) s

/-- A full training of the given channels replaces the stored results, with the population, the temperature and the refresh plan (R63, R303), where
the embedded flash can be programmed. -/
def State.storeTraining (s : State) (chans : List Nat) : State :=
  let s := { s with dram := { s.dram with forced := false } }
  if chans.isEmpty || !s.eflashReady then s
  else
    let s := chans.foldl (fun s c => s.recordState 0x0110 c) s
    let t : Training := { population := s.dram.population, temperature := s.boot.temperature, plan := s.dram.planVersion }
    { s with dram := { s.dram with training := some t } }

/-- DRAM_CHANNELS_TRAINED (R303), with the devices' rate and the ranks, by channel × 4 + rank, on which every device reports DRFM (R280). -/
def execDramChannelsTrained (mismatched failed : BitVec 16) (s : State) (deviceRate : Nat := 8800) (drfm : BitVec 64 := 0) : Out :=
  s.bootStep 5 (fun s =>
    let stored := s.useStored
    let s := { s with boot := { s.boot with storedTraining := stored } }
    let full := (List.range 16).filter (fun c => !stored || (s.chan c).state == .offline)
    let s := (List.range 16).foldl (State.bringUpMc stored mismatched failed) s
    let s := s.storeTraining (full.filter (fun c => (s.chan c).state == .inService))
    let s := (List.range 16).foldl (State.reportMc deviceRate drfm) s
    let s := s.put OD.spaceTableNodesTotal (s.framesPopulated * s.get OD.spaceTableShare / 64)
    let s := s.put OD.spaceFramesTotal s.poolFrames
    if s.populated < 4 * s.chansOut then s.bootFail 5 0x0E else s.reach' 5)

/-! ## t6 and t7 (R55, R62, R90, R266, R274) -/

/-- SEAL_RECORDS_READ (R266). -/
def execSealRecordsRead (copy1 copy2 header metaMark : Bool) (unreadable : List Nat) (s : State) : Out :=
  s.bootStep 6 (fun s => (s.readSeals copy1 copy2 header metaMark unreadable).reach' 6)

/-- The start counts as a dirty shutdown (R90). -/
def State.dirtyStart (s : State) : Bool :=
  let cls := s.get OD.vaultVaultClass
  s.boot.afterLoss || (2 ≤ cls && cls ≤ 5) ||
    (cls = 1 && match s.saves.vaults with | v :: _ => 0 < v.poisoned || 0 < v.unsaved | [] => false)

/-- The dirty shutdown count advances, in the journal and in its copy (R90). -/
def State.countDirty (s : State) : State :=
  let s := s.bump OD.vaultDirtyShutdowns 1
  s.journal 0x0011 0 (toBytes 4 (s.get OD.vaultDirtyShutdowns))

/-- BOOT_COMPLETE (R62 t7). -/
def execBootComplete (s : State) : Out :=
  s.bootStep 7 (fun s =>
    let s := if s.dirtyStart then s.countDirty else s
    let s := { s.reach' 7 with update := { s.update with bootFails := 0, t2Fails := 0 } }
    let s := (s.put OD.modeBootFailures 0).releaseOlder
    let cls := s.get OD.vaultVaultClass
    match s.saves.vaults with
    | v :: _ => if cls = 0 then (s.loadImage.deriveKeys.recomputeBacking).enterService 0x05 else s.startRestore v cls 0x04 false
    | [] => (s.loadImage.deriveKeys.recomputeBacking).enterService 0x05)

/-! ## RESET_N (R55, R66 to R68) -/

/-- The stationmaster restarts: the two-wire port is in recovery until its settings are loaded (R471, R495). -/
def State.beginRestart (s : State) : State := { s with bus := { s.bus with recovery := true } }

/-- The restore checkpoint is written before the reset (R55). -/
def State.checkpointNow (s : State) : State :=
  let r := s.saves.restore
  if r.active then
    s.journal 0x0004 0 (toBytes 8 r.seq ++ toBytes 1 r.step ++ [0#8] ++ toBytes 2 r.position ++ toBytes 4 r.segment)
  else s

/-- A reset or watchdog expiry is latched in SAVE (R68, R70). After the seal it is applied where power was present at the seal,
after the completion record, and discarded where it was absent. -/
def State.latch (s : State) (watchdog : Bool) : State :=
  match s.saves.run with
  | none => s
  | some r =>
    let s := s.note 0x8002
    if !r.sealed then
      s.setRun (if watchdog then { r with watchdogLatched := true, latched := true } else { r with resetLatched := true, latched := true })
    else if !r.powered then s
    else
      let s := s.setRun { r with resetLatched := true, restoring := false }
      if r.step = 9 then s.applyReset else s

/-- A reset that has no save to wait for is applied once the embedded flash has finished its erase or program (R68, R72). -/
def State.resetNow (s : State) : State :=
  if s.eflash.busy.isSome then { s with cores := { s.cores with deferredReset := 1 } } else s.checkpointNow.enterBoot 0x03

/-- RESET_N_ASSERT (R67). -/
def execResetNAssert (s : State) : Out :=
  let s := { s with pins := { s.pins with resetN := false } }
  if s.ctl.stopped then .next s
  else match s.ctl.mode with
  | .off => .next s.beginRestart
  | .vault => if s.pins.mdPwrgd then .next { s with ctl := { s.ctl with resetPending := true } } else .next s.beginRestart
  | .boot => .next s.resetNow
  | .restore => if s.saves.restore.admitted then .next (s.startSave .reset 0x03) else .next s.resetNow
  | .service => .next (s.startSave .reset 0x03)
  | .maintenance => .next (s.startSave .reset 0x03)
  | .freeze => .next (s.startSave .reset 0x03)
  | .save => .next (s.latch false)

/-- RESET_N_RELEASE (R55). -/
def execResetNRelease (s : State) : Out :=
  let pend := s.ctl.resetPending
  let s := { s with pins := { s.pins with resetN := true } }
  if s.ctl.stopped then .next s
  else match s.ctl.mode with
  | .boot => if pend && !s.boot.retryHold then .next s.startAttempt else .next s
  | .vault => if pend && s.pins.mdPwrgd then .next ({ s with ctl := { s.ctl with resetPending := false } }.enterBoot 0x03) else .next s
  | .off =>
    if s.pins.mdPwrgd && !s.ctl.romFailed && !s.ctl.serviceLoop then .next (s.enterBoot 0x01) else .next s
  | .restore => .next s | .service => .next s | .maintenance => .next s | .freeze => .next s | .save => .next s

/-! ## Mode requests (R56) -/

/-- A mode request that the table does not list. -/
def refuseMode (s : State) (m : Nat) : State × Answer := fail (s.raise 0x8004 0 [(.u8, m), (.u8, s.ctl.mode.code)]) stState

/-- What a mode request does in each mode (R55). -/
def modeAct (src : Transport) (m : Nat) : Act := fun s =>
  if m = s.ctl.mode.code then ok s
  else match Mode.ofCode m with
  | none => fail s stRange
  | some new =>
    match s.ctl.mode, new with
    | .service, .maintenance => if s.flush.drill.isSome then refuseMode s m else ok (s.enterMode .maintenance 0x09)
    | .service, .freeze => ok (s.enterFreeze 0x09)
    | .service, .save => ok (s.startSave .requested 0x09)
    | .maintenance, .service => ok (s.enterMode .service 0x09)
    | .maintenance, .freeze => ok (s.enterFreeze 0x09)
    | .maintenance, .save => ok (s.startSave .requested 0x09)
    | .freeze, .save => ok (s.startSave .requested 0x09)
    | .vault, .restore => if s.pins.mdPwrgd && !byPorters src then ok (s.enterBoot 0x09) else refuseMode s m
    | _, _ => refuseMode s m

/-- MODE_REQUEST (R56). -/
def execModeRequest (q : Req) (mode : BitVec 8) (s : State) : Out :=
  runCmd (.modeRequest q mode) q OD.modeRequest (toBytes 1 mode.toNat) (modeAct q.src mode.toNat) s

/-! ## Watchdogs (R70, R71, R546) -/

/-- The step in progress: the first that has not ended. -/
def State.bootStepNow (s : State) : Nat := ((List.range 8).find? (fun n => !s.reachedStep n)).getD 7

/-- A third expiry within 10 min. -/
def thirdExpiry (now : Nat) (times : List Nat) : Bool := 3 ≤ (times.filter (fun t => now ≤ t + 600000000000)).length

/-- The stationmaster restarts on a watchdog expiry, as its mode says (R70). In RESTORE, SERVICE and MAINTENANCE the long
operations in progress are abandoned, and the writes that a term end held go on (R72). -/
def State.watchdogRestart (s : State) : State :=
  match s.ctl.mode with
  | .boot => s.beginRestart.bootFail s.bootStepNow 0x0D
  | .restore | .service | .maintenance => (s.abandonAll.abortDrill 1 false).resume.beginRestart
  | .off | .vault | .freeze | .save => s.beginRestart

/-- STATIONMASTER_WATCHDOG_EXPIRY (R70): it waits for an embedded-flash operation to end (R71), and in SAVE for the seal. -/
def execStationmasterWatchdogExpiry (s : State) : Out :=
  if s.ctl.stopped then .next s
  else
    let times := (s.uptime :: s.cores.smExpiries).take 3
    let third := thirdExpiry s.uptime times
    let s := { s with cores := { s.cores with smExpiries := times } }.raise 0x8010 0 [(.u8, s.ctl.mode.code)]
    let s := if third then s.trialFails 3 else s
    if s.ctl.mode == .save then .next (s.latch true)
    else if s.eflash.busy.isSome then .next { s with cores := { s.cores with deferredReset := 2 } }
    else .next s.watchdogRestart

def State.setPorter (s : State) (n : Nat) (p : Porter) : State :=
  { s with cores := { s.cores with porters := mapSet (fun _ => Porter.initial) s.cores.porters n p } }

/-- The porter is reset and its reload begins (R70, R500). -/
def State.reloadPorter (s : State) (n : Nat) : State := s.setPorter n { s.porter n with running := false, reloading := true }

/-- An expiry of a porter's watchdog (R70). Operations assigned to the porter wait for its reload and go on (R70, R500): only the
stationmaster's expiry is a reset for them (R72; DEDUCED, log 161). -/
def State.expirePorter (s : State) (n : Nat) : State :=
  let p := s.porter n
  match s.ctl.mode with
  | .off => s.unlist
  | .vault => s.unlist
  | .boot => (s.raise 0x8011 0 [(.u8, n)]).bootFail s.bootStepNow 0x0D
  | .save => s.raise 0x8011 0 [(.u8, n)]
  | .restore | .service | .freeze | .maintenance =>
    let times := (s.uptime :: p.expiries).take 3
    let s := (s.setPorter n { p with expiries := times }).raise 0x8011 0 [(.u8, n)]
    let s := s.reloadPorter n
    if thirdExpiry s.uptime times then ((s.raise 0x8012 0 [(.u8, n)]).trialFails 4).decide else s

/-- A porter's expiry during an embedded-flash operation is applied when that ends (R71). -/
def State.porterExpiry (s : State) (n : Nat) : State :=
  if s.eflash.busy.isSome && !s.inMode [.off, .vault, .save] then
    { s with cores := { s.cores with deferredPorters := s.cores.deferredPorters ++ [n] } }
  else s.expirePorter n

/-- The operation of the embedded flash ends, and the resets and expiries that waited for it are applied (R68, R71). -/
def State.eflashDone (s : State) : State :=
  let d := s.cores.deferredReset
  let ps := s.cores.deferredPorters
  let s := { s with eflash := { s.eflash with busy := none }, cores := { s.cores with deferredReset := 0, deferredPorters := [] } }
  let s := if d = 2 then s.watchdogRestart
    else if d = 1 && s.ctl.mode == .save then
      match s.saves.run with
      | some r => if r.step = 9 then s.leaveSave r else s
      | none => s
    else if d = 1 && (s.ctl.mode == .boot || (s.ctl.mode == .restore && !s.saves.restore.admitted)) then s.resetNow
    else s
  ps.foldl (fun s n => if s.inMode [.off, .vault, .save] then s else s.expirePorter n) s

/-- EFLASH_OPERATION_COMPLETE (R504). -/
def execEflashOperationComplete (s : State) : Out := .next s.eflashDone

/-- PORTER_WATCHDOG_EXPIRY (R70): an access to another porter's segment counts as one too, and its reload has an event (R498, R525). -/
def execPorterWatchdogExpiry (pt : Pt) (s : State) (segment : Bool := false) : Out :=
  let reloads := segment && s.inMode [.restore, .service, .freeze, .maintenance]
  .next ((s.when reloads (·.raise 0x6211 0 [(.u8, pt.val)])).porterExpiry pt.val)

/-- PORTER_RELOAD_COMPLETE (R500, R507): a command that was executing completes with INTERNAL; a hash that mismatches counts
as one more expiry. -/
def execPorterReloadComplete (pt : Pt) (hashOk : Bool) (s : State) : Out :=
  let p := s.porter pt.val
  if !p.reloading then .next s.unlist
  else if hashOk then
    let s := s.setPorter pt.val { p with running := true, reloading := false }
    .next (s.interrupt (fun k => porterOf k [] = pt.val))
  else .next (s.porterExpiry pt.val)

/-- PORTER_MEMORY_ERROR (R37). -/
def execPorterMemoryError (pt : Pt) (s : State) : Out :=
  if !(s.porter pt.val).running then .next s.unlist
  else .next ((s.reloadPorter pt.val).raise 0x6211 0 [(.u8, pt.val)])

/-! ## Decisions and self-checks (R15, R17) -/

/-- CHIP_DECISION_REQUEST (R17). -/
def execChipDecisionRequest (region : Region) (s : State) : Out :=
  if s.ctl.stopped then .next s else .next (s.requestDecision region)

/-- SELF_CHECK_FAILURE (R15, R105, R306, R333). -/
def execSelfCheckFailure (b : SelfCheckBlock) (s : State) : Out :=
  if !s.mainDieRuns then .next s.unlist
  else match b with
  | .port p => .next ((s.fencePort p.val).reportSince s)
  | .dram c modeRegister =>
    if modeRegister then .next ((s.addError c.val 5 0 0xFF 0 0).freezeMc c.val 4) else .next (s.freezeMc c.val 8)
  | .flash c => .next (s.channelOut c.val 3)

end Sys2Proof.Machine
end

