-- ==== Sys2Proof/Machine/Residue.lean ====
section
/-! DEFINITION. The flush engine, checkpoints, the planner's rows, the wear budget and the drills (06, R200 to R231). -/
namespace Sys2Proof.Machine

/-! ## Claims (R149, R204 to R208) -/

/-- The regime of R207: pages younger than H_eff are claimed, because F has reached FlushPressure or the controller is armed. -/
def State.flushPressed (s : State) : Bool :=
  s.armedPower || s.host.ceiling = 0 || s.get OD.ceilingFlushPressure * s.host.ceiling ≤ 100 * s.residue

/-- Age of an entry in ms. -/
def State.ageOf (s : State) (e : AgeEntry) : Nat := (s.uptime - e.time) / 1000000

/-- The page can be read for a claim: its channel serves. -/
def State.claimable (s : State) (key : Nat) : Bool :=
  let l := s.leaf key
  l.res && s.frameServes l.ptr

/-- A page is claimed: FQ set and DIRTY cleared, the page read and its seal generated (R42, R149). -/
def State.claimPage (s : State) (e : AgeEntry) : State :=
  let cid := leafCid e.key
  let im := s.residentImage e.key
  let on := (s.carriage cid).sealOn
  let c : Claim := { key := e.key, time := e.time, content := flashCipher (s.pageName cid (leafPage e.key)) im, sealed := on,
                     pageSeal := if on then im.pageSeal else 0 }
  let s := (s.setLeaf e.key { s.leaf e.key with fq := true, dirty := false, pois := (s.leaf e.key).pois || im.bad != 0 }).count 0xF050 0xFFFF 1
  { s with flush := { s.flush with claims := s.flush.claims ++ [c] } }

/-- An entry is set aside for 10 µs, in its place of the list (R206). -/
def State.setAside (s : State) (e : AgeEntry) : State :=
  { s with flush := { s.flush with age := s.flush.age.map (fun x => if x = e then { x with retry := s.uptime + 10000 } else x) } }

/-- An entry leaves the list. -/
def State.dropEntry (s : State) (e : AgeEntry) : State :=
  { s with flush := { s.flush with age := s.flush.age.erase e } }

/-- An entry is claimed when its turn comes (R206). -/
def State.claims (s : State) (e : AgeEntry) : Bool :=
  let l := s.leaf e.key
  (s.carriage (leafCid e.key)).state != .deleting && !l.busy && l.dirty && !l.fq && s.claimable e.key

/-- The outcome of an entry (R206). One of a carriage in Deleting is stale (R127). -/
def State.tryEntry (s : State) (e : AgeEntry) : State :=
  let l := s.leaf e.key
  if (s.carriage (leafCid e.key)).state == .deleting then s.dropEntry e
  else if l.busy then s.setAside e
  else if l.dirty && !l.fq then (if s.claimable e.key then (s.dropEntry e).claimPage e else s.setAside e)
  else s.dropEntry e

/-- The flush engine may claim: in a mode that flushes, with fewer than 4,096 claims, inside the internal limit (R151, R207). -/
def State.claimRoom (s : State) : Bool := s.flushMode && s.flush.claims.length < 4096 && s.internalOps < 12288

/-- The age of the head of the list passes 2 × H_eff (R208); VALUE is the age in µs (R557). -/
def State.checkAge (s : State) : State :=
  match s.flush.age with
  | e :: _ => s.when (2 * s.horizon < s.ageOf e) (·.raise 0x2502 ((s.uptime - e.time) / 1000) [])
  | [] => s

/-- An entry is taken: in the Horizon regime only one whose age is at least H_eff (R207, R208). A claim whose block fails in the
pipes is abandoned: the page stays dirty, and its entry where it is (R382). A page on a thawing channel is moved ahead (R311). -/
def State.takeEntry (s : State) (e : AgeEntry) (pairings : Pairings) : State :=
  let s := s.thawPage e.key
  if s.claimRoom && (s.flushPressed || s.horizon ≤ s.ageOf e) then
    if s.claims e then
      let (t, bad) := s.pipeFaults pairings
      (if bad then t else t.tryEntry e).reportSince s
    else s.tryEntry e
  else s

/-- FLUSH_CLAIM (R206 to R208): the first entry that is not set aside, or whose 10 µs are over. -/
def execFlushClaim (s : State) (pairings : Pairings := []) : Out :=
  s.mapCommand (.flushClaim pairings) (fun s =>
    let s := s.when s.flushMode State.checkAge
    match s.flush.age.find? (fun e => e.retry ≤ s.uptime) with
    | none => .next s
    | some e => .next (s.takeEntry e pairings))

/-- FLUSH_SET_ASIDE_RETRY (R206): the first entry whose 10 µs are over is tried again. -/
def execFlushSetAsideRetry (s : State) : Out :=
  s.mapCommand .flushSetAsideRetry (fun s =>
    match s.flush.age.find? (fun e => e.retry ≠ 0 && e.retry ≤ s.uptime) with
    | none => .next s
    | some e => .next (s.takeEntry e []))

/-! ## Confirmation (R149, R210, R213) -/

/-- A claim is confirmed: the copy stands, and the page leaves the residue unless it is dirty again. -/
def State.confirmClaim (s : State) (c : Claim) : State :=
  let cid := leafCid c.key
  let page := leafPage c.key
  let l := s.leaf c.key
  let on := c.sealed && (s.carriage cid).sealOn
  let s := { s with flush := { s.flush with claims := s.flush.claims.filter (fun x => x.key ≠ c.key) } }
  if !l.fq then s
  else
    let s := s.program (s.pageName cid page) c.content
    let s := if on then s.growPair cid page else s
    let s := s.setLeaf c.key { l with flc := true, sided := false, sealed := on, pageSeal := if on then c.pageSeal else 0, fq := false }
    let recent := s.flush.confirmed.filter (fun e => s.uptime ≤ e.2 + 100000)
    let s := { s with flush := { s.flush with confirmed := (4096, s.uptime) :: recent }
                      tables := { s.tables with interval := s.tables.interval + 4096 } }
    let s := s.count 0xF051 0xFFFF 1
    if l.dirty then s.enqueue c.key else s

/-- FLUSH_CONFIRM (R149): after the commit fence a confirmation is not applied (R242); at MetaCeiling it is held (R213). -/
def execFlushConfirm (id : BitVec 16) (page : BitVec 28) (s : State) : Out :=
  let key := leafKey id.toNat page.toNat
  if !s.flushMode then .next s
  else s.mapCommand (.flushConfirm id page) (fun s =>
    match s.flush.claims.find? (fun c => c.key = key) with
    | some c => .next (s.confirmClaim c)
    | none => .next s.unlist)

/-! ## Checkpoints (R211 to R213, R621) -/

/-- METADATA_CHECKPOINT_START (R212): the changed cache lines are written back into their nodes (R139). -/
def execMetadataCheckpointStart (s : State) : Out :=
  s.await 3 .metadataCheckpointStart (fun s =>
  if !s.flushMode || s.flush.checkpoint.isSome then .next s
  else .next { s with
    flush := { s.flush with checkpoint := some (s.work.changed, s.uptime), nextImage := s.tables, lastCheckpoint := s.uptime }
    work := { s.work with changed := [], unwritten := [] } })

/-- The hold of R213 ends below 90 % of MetaCeiling, and what it held goes on. -/
def State.endHold (s : State) : State :=
  if s.flush.metaHold && 10 * s.metaDirty < 9 * s.get OD.ceilingMetaCeiling then
    State.resume { s with flush := { s.flush with metaHold := false } }
  else s

/-- METADATA_CHECKPOINT_COMPLETE (R212, R274, R621). -/
def execMetadataCheckpointComplete (s : State) : Out :=
  s.await 3 .metadataCheckpointComplete (fun s =>
  match s.flush.checkpoint with
  | none => .next s.unlist
  | some c =>
    if !s.flushMode then .next s
    else
      let img := { s.flush.nextImage with lsa := s.tables.lsa }
      let s := { s with
        flush := { s.flush with checkpoint := none, image := img, nextImage := MapTables.empty }
        tables := { s.tables with interval := s.tables.interval + 64 * c.1.length }
        flash := { s.flash with superseded := s.flash.superseded.filter (fun x => img.flash.any (fun e => e.2 = x)) } }
      .next s.endHold.releaseChain)

/-! ## The planner and the wear budget (R218, R226, R227) -/

/-- PLANNER_COMPUTE (R218). -/
def execPlannerCompute (s : State) : Out :=
  s.await 3 .plannerCompute (fun s =>
  .next s.replan)

/-- The wear step moves to k. -/
def State.setWear (s : State) (k : Nat) : State := { s with flush := { s.flush with wearStep := k } }

/-- The wear step follows V24 (R227); at 4 event 0x2610 is raised again at each boundary (R229). -/
def State.wearFollows (s : State) (v24 : Nat) : State :=
  let k := s.flush.wearStep
  let budget := s.get OD.ceilingFlushBudget * 2 ^ 30
  if budget < v24 then (s.setWear (min (k + 1) 4)).raise 0x2610 (min (k + 1) 4) [(.u32, mib v24)]
  else if 5 * v24 < 4 * budget && 0 < k then (s.setWear (k - 1)).raise 0x2611 (k - 1) []
  else s

/-- WEAR_INTERVAL_BOUNDARY (R226, R227): the interval's sums join the last 96. -/
def execWearIntervalBoundary (s : State) : Out :=
  s.await 3 .wearIntervalBoundary (fun s =>
  let vs := (s.tables.interval :: s.tables.volumes).take 96
  let ps := (s.tables.payload :: s.tables.payloads).take 96
  let v24 := vs.sum
  let gs := (s.flush.gcInterval :: s.flush.gcVolumes).take 96
  let gc := if v24 = 0 then 100 else 100 * (v24 + gs.sum) / v24
  let s := { s with tables := { s.tables with volumes := vs, payloads := ps, interval := 0, payload := 0 }
                    flush := { s.flush with gcInterval := 0, gcVolumes := gs } }
  .next ((s.put OD.wearGcAmplification (min gc 0xFFFF)).wearFollows v24))

/-! ## Drills (R220 to R224) -/

/-- DrillVolume in bytes, and the save-region slots that the drill area takes: 252 pages a slot (R247), the D / 8 bytes of metadata
lines of the rehearsal seal, and one for its seal record (R221). -/
def State.drillBytes (s : State) : Nat := s.get OD.drillDrillVolume * 2 ^ 30
def State.drillSlots (s : State) : Nat :=
  (s.drillBytes / 4096 + 251) / 252 + (s.get OD.ceilingMetaCeiling / 8 + 2 ^ 20 - 1) / 2 ^ 20 + 1

/-- Why a drill is deferred (R220), by the codes of OD 0x5200.0C; 0 when it may start. -/
def State.drillDeferral (s : State) : Nat :=
  if s.armedPower then 6
  else if s.saveFree < saveVolume (s.get OD.plannerPlannedCeiling) (s.get OD.ceilingMetaCeiling) + s.drillBytes then 4
  else if s.flag OD.drillDrillOnBattery && s.get OD.gaugeSocPlanning < 5000 then 5
  else 0

/-- t0 and t1 of a drill (R221). -/
def State.startDrill (s : State) : State :=
  let onBattery := s.flag OD.drillDrillOnBattery
  let d : DrillRun := { start := s.uptime, step := 1, spoiled := false, battery := onBattery, streamRate := 0, streamEnd := 0,
                        slots := s.drillSlots }
  let s := { s with flush := { s.flush with drill := some d }
                    flash := { s.flash with slotsUsed := s.flash.slotsUsed + s.drillSlots } }
  let s := s.put OD.drillDrillState 1
  if onBattery then { s with power := { s.power with batsel := 2, batselSince := s.uptime, confirmed := false } } else s

/-- A drill starts, or is deferred for 10 min. -/
def State.tryDrill (s : State) : State :=
  match s.drillDeferral with
  | 0 => s.startDrill
  | r =>
    let s := (s.keep OD.drillLastResult r).put OD.drillDrillState 2
    { s with flush := { s.flush with drillRetry := s.uptime + 600000000000 } }

/-- DRILL_START (R220). -/
def execDrillStart (q : Req) (s : State) : Out :=
  runCmd (.drillStart q) q OD.drillDrillStart [] (fun s =>
    if s.ctl.mode != .service || s.flush.drill.isSome then refuse s OD.drillLastResult 7 else ok s.tryDrill) s

/-- DRILL_DUE (R220): nothing is due with DrillPeriod 0 (R232), unless a drill is deferred. -/
def execDrillDue (s : State) : Out :=
  s.await 3 .drillDue (fun s =>
  let due := s.get OD.drillDrillPeriod ≠ 0 || s.get OD.drillDrillState = 2
  if s.ctl.mode != .service || s.flush.drill.isSome || !due then .next s else .next s.tryDrill)

/-- DRILL_STREAM_COMPLETE (R221 t2). -/
def execDrillStreamComplete (rate : Nat) (s : State) : Out :=
  s.await 3 (.drillStreamComplete rate) (fun s =>
  match s.flush.drill with
  | some d =>
    if d.step = 1 then
      .next { s with flush := { s.flush with drill := some { d with step := 2, streamRate := rate, streamEnd := s.uptime } } }
    else .next s.unlist
  | none => .next s.unlist)

/-- An accepted drill's figures replace the planner's (R222, R223). -/
def State.acceptDrill (s : State) (d : DrillRun) (fixed power dieRate : Nat) : State :=
  let rd := s.get OD.drillLastDieRate
  let ps := s.get OD.drillLastPower
  let before := 0 < s.get OD.drillDrillsAccepted
  let worse := before && (5 * dieRate < 4 * rd || 6 * ps < 5 * power)
  let s := [(OD.drillLastDrillTime, s.clock), (OD.drillLastStreamRate, d.streamRate), (OD.drillLastPower, power),
    (OD.drillLastFixedTime, fixed), (OD.drillLastDieRate, dieRate), (OD.drillLastDies, s.diesInService),
    (OD.drillLastResult, 0)].foldl (fun s e => s.keep e.1 e.2) s
  let s := ((s.bump OD.drillDrillsAccepted 1).owe OD.drillDrillsAccepted).raise 0x2701 dieRate [(.u16, power), (.u32, fixed)]
  let s := s.when worse (·.note 0x2704)
  State.replan { s with flush := { s.flush with drillPopulation := some s.diesPopulated } }

/-- DRILL_SEAL_COMPLETE (R221 t3 to t5, R223); `sealTime` is the rehearsal-seal time in µs. -/
def execDrillSealComplete (sealTime power dieRate : Nat) (s : State) : Out :=
  s.await 3 (.drillSealComplete sealTime power dieRate) (fun s =>
  match s.flush.drill with
  | some d =>
    if d.step ≠ 2 then .next s.unlist
    else if d.spoiled then .next (s.vaultInvoke.abortDrill 3 false)
    else
      let s := s.vaultInvoke
      let s := if s.power.batsel = 2 then s.releaseBatsel else s
      let s := ((s.releaseSlots d.slots).advancePointer d.slots).put OD.drillDrillState 0
      let s := { s with flush := { s.flush with drill := none } }
      let p := if d.battery then power else s.get OD.ceilingSavePowerAssumed
      .next (s.acceptDrill d (max (sealTime + 20000) 40000) p dieRate)
  | none => .next s.unlist)

/-- DRILL_BOUND_TIMEOUT (R221). -/
def execDrillBoundTimeout (s : State) : Out :=
  s.await 3 .drillBoundTimeout (fun s =>
  if s.flush.drill.isSome then .next (s.abortDrill 3 false) else .next s.unlist)

/-- DRILL_OVERDUE (R220). -/
def execDrillOverdue (s : State) : Out :=
  s.await 3 .drillOverdue (fun s =>
  .next (s.raise 0x2703 0 [(.u8, s.get OD.drillLastResult)]))

end Sys2Proof.Machine
end

