-- ==== Sys2Proof/Machine/Carriages.lean ====
section
/-! DEFINITION. Carriages and translation (04): carriage commands, fetches, frame waits, eviction and poison; couplings (03,
R83 to R85). -/
namespace Sys2Proof.Machine

/-! ## Carriages (R121 to R129) -/

/-- A carriage ID of the table, which holds 65,536 descriptors (R7, R121). -/
def cidOk (cid : Nat) : Bool := cid < 65536

/-- The carriage exists. -/
def State.exists? (s : State) (cid : Nat) : Bool := cidOk cid && (s.carriage cid).state != .free

/-- A carriage command is executing (R128). -/
def State.carriageBusy (s : State) : Bool := s.work.resize.isSome

/-- A carriage command: refused with result 10 while another executes (R128). -/
def carriageCmd (c : Instr) (q : Req) (key : Nat) (payload : List Byte) (act : Act) (s : State) : Out :=
  runCmd c q key payload (fun s => if s.carriageBusy then refuse s OD.carriageLastResult 10 else act s) s

/-- A refusal with a result of OD 0x3100.0A. -/
def refuseC (s : State) (n : Nat) : State × Answer := refuse s OD.carriageLastResult n

/-- A refusal in a state whose row of R123 does not list the command, which is counted (R12). -/
def refuseUnlisted (s : State) (n : Nat) : State × Answer := refuseC s.unlist n

def okC (s : State) : State × Answer := okResult s OD.carriageLastResult

/-- CARRIAGE_ADVANCE (R157). -/
def execCarriageAdvance (q : Req) (s : State) : Out :=
  carriageCmd (.carriageAdvance q) q OD.carriageAdvance [] (fun s =>
    let cur := s.sel q.src OD.carriageCursor
    match s.tables.carriages.find? (fun e => cur < e.1 && e.2.state != .free) with
    | some e => okC (s.setSel q.src OD.carriageCursor e.1)
    | none => refuseC s 7) s

/-- Extents of `n` GiB of a carriage are allocated, from GiB `g` on (R118). -/
def State.reserveExtents (s : State) (cid g : Nat) : Nat → State
  | 0 => s
  | n + 1 =>
    let k := interiorKey cid 2 (g * 2 ^ 18)
    let e := s.interior k
    let s := if e.extent = 0 then
        match s.takeExtent with
        | some x => s.setInterior k { e with extent := x + 1 }
        | none => s
      else s
    s.reserveExtents cid (g + 1) n

/-- GiB that a size in 2 MiB units takes. -/
def gibOf (size : Nat) : Nat := (size + 511) / 512

/-- The next key generation is taken (R126, R519): 64 before the mark's limit the next mark is journalled. -/
def State.takeKeygen (s : State) : Nat × State :=
  let g := s.crypt.keyGen
  let s := { s with crypt := { s.crypt with keyGen := g + 1 } }
  if s.crypt.keyMark + 1024 - 64 ≤ g + 1 && s.eflashReady then
    let m := s.crypt.keyMark + 1024
    (g, State.journal { s with crypt := { s.crypt with keyMark := m } } 0x0010 0 (toBytes 4 m))
  else (g, s)

/-- The ID a create uses (R124): auto-ID takes the lowest Free one. -/
def State.createId (s : State) (id : Nat) (auto : Bool) : Option Nat :=
  if auto then pickFrom (fun c => (s.carriage c).state == .free) 65536 (min 65536 (s.tables.carriages.length + 1)) 0 else some id

/-- A carriage as a create writes it. -/
def State.newCarriage (s : State) (root g : Nat) (flags size : Nat) (label : BitVec 64) : Carriage :=
  let on := flags.testBit 1
  { state := .active, label := label, term := 0, keygen := g, root := root, size := size, reserve := flags.testBit 2,
    sealOn := on, sealPend := on, created := s.clock, termTime := s.clock, damaged := false }

/-- A carriage's key is derived for its generation into the carriage-key table (R364). -/
def State.deriveKey (s : State) (cid g : Nat) : State :=
  { s with crypt := { s.crypt with keyTable := mapSet (fun _ => 0) s.crypt.keyTable cid g } }

/-- The descriptor is written: the carriage has no snapshot until its first term end (R183). -/
def State.writeNew (s : State) (cid root flags size : Nat) (label : BitVec 64) : State :=
  let (g, s) := s.takeKeygen
  let s := ((s.setCarriage cid (s.newCarriage root g flags size label)).deriveKey cid g).checkNodes
  let s := { s with tables := { s.tables with dropped := if s.tables.dropped.contains cid then s.tables.dropped else cid :: s.tables.dropped } }
  let s := if flags.testBit 2 then s.reserveExtents cid 0 (gibOf size) else s
  (s.put OD.carriageLastId cid).raise 0x2001 (2 * size) [(.carriage, cid)]

/-- The conditions of a create, in order (R124); 0 when they hold. -/
def State.createRefusal (s : State) (cid : Nat) (flags size : Nat) : Nat :=
  if !cidOk cid then 7
  else if (s.carriage cid).state != .free then 1
  else if size < 1 || 524288 < size then 3
  else if flags.testBit 2 && 4194304 - s.extentsInUse.length < gibOf size then 4
  else if (s.takeNode 1).isNone then 9
  else if 0xFFFFFFFF ≤ s.crypt.keyGen then 8
  else 0

/-- Create (R124). Bits [7:3] of the flags, which the manual gives as 0, are not looked at (DESIGN CHOICE, log 185). -/
def createAct (id flags size : Nat) (label : BitVec 64) : Act := fun s =>
  match s.createId id (flags.testBit 0) with
  | none => refuseC s 2
  | some cid =>
    match s.createRefusal cid flags size, s.takeNode 1 with
    | 0, some root =>
      if s.crypt.keyMark + 1024 ≤ s.crypt.keyGen then fail s stBusy else okC (s.writeNew cid root flags size label)
    | 8, _ => refuseC (s.note 0x2014) 8
    | r, _ => refuseC s r

/-- CARRIAGE_CREATE (R124). -/
def execCarriageCreate (q : Req) (id : BitVec 16) (flags : BitVec 8) (size : BitVec 32) (label : BitVec 64) (s : State) : Out :=
  carriageCmd (.carriageCreate q id flags size label) q OD.carriageCreate (toBytes 2 id.toNat ++ toBytes 1 flags.toNat ++ toBytes 4 size.toNat ++ toBytes 8 label.toNat)
    (createAct id.toNat flags.toNat size.toNat label) s

/-- A revert of the carriage runs (R185): no host reaches it, and no other command changes it until it is complete (R194; the
results are a DESIGN CHOICE, log 147). -/
def State.reverting (s : State) (cid : Nat) : Bool := s.terms.reverts.any (fun r => r.1 = cid)

/-- A park or recall of the carriage waits (R176), or an export or a revert of it runs (R194): no delete and no resize. -/
def State.termsHold (s : State) (cid : Nat) : Bool :=
  s.terms.queue.any (fun q => q.id = cid) || s.terms.exp.any (fun e => e.source = cid) || s.reverting cid

/-- A carriage leaves Free reach (R127): its pages are no residue, and no flush or fetch touches them: its entries leave the age
list, what is claimed of it is dropped, and the snapshot pages it holds in DRAM go (its copies and depot references wait for the
release; DESIGN CHOICE, log 190). -/
def State.beginDelete (s : State) (cid : Nat) : State :=
  let kept := fun (rs : List SnapRecord) => rs.filter (fun r => !r.kind.isFrame)
  let s := (s.setCState cid .deleting).setSnaps cid (kept (s.snapRecords cid))
  let s := { s with terms := { s.terms with detached := s.terms.detached.map (fun (d : Nat × List SnapRecord) =>
    if d.1 = cid then (d.1, kept d.2) else d) } }
  { s with
    flush := { s.flush with claims := s.flush.claims.filter (fun c => leafCid c.key ≠ cid)
                            age := s.flush.age.filter (fun a => leafCid a.key ≠ cid) }
    terms := { s.terms with parks := s.terms.parks.filter (fun p => p.id ≠ cid) } }

/-- CARRIAGE_DELETE (R127). -/
def execCarriageDelete (q : Req) (id : BitVec 16) (s : State) : Out :=
  carriageCmd (.carriageDelete q id) q OD.carriageDelete (toBytes 2 id.toNat) (fun s =>
    let cid := id.toNat
    if !s.exists? cid then refuseC s 7
    else if s.termsHold cid then refuseC s 6
    else match (s.carriage cid).state with
    | .active => if s.isCoupled cid then refuseC s 5 else okC (s.beginDelete cid)
    | .parked => if s.isCoupled cid then refuseC s 5 else okC (s.beginDelete cid)
    | .free => refuseC s 7
    | .parking => refuseC s 6 | .recalling => refuseC s 6 | .shadow => refuseC s 6 | .deleting => refuseUnlisted s 6) s

/-- Interior entries of a carriage that a test picks are freed, with their nodes and extents. -/
def State.freeInterior (s : State) (cid : Nat) (test : Nat → Bool) : State :=
  let ks := (s.tables.interior.filter (fun e => e.1 / 2 ^ 20 == cid && test e.1)).map (·.1)
  ks.foldl (fun s k => s.setInterior k Interior.empty) s

/-- The carriage becomes Free: everything it holds is released, its descriptor zeroed (R123). -/
def State.freeCarriage (s : State) (cid : Nat) : State :=
  let s := (s.leavesOf cid).foldl State.releasePage (s.releaseDetachedOf cid (fun _ => true))
  let s := ((s.snapRecords cid).foldl (State.releaseRecord cid) s).setSnaps cid []
  let s := (s.freeInterior cid (fun _ => true)).setCarriage cid Carriage.free
  { s with tables := { s.tables with passes := mapErase s.tables.passes cid, sidings := mapErase s.tables.sidings cid, dropped := s.tables.dropped.filter (· ≠ cid) }
           crypt := { s.crypt with keyTable := mapErase s.crypt.keyTable cid } }

/-- CARRIAGE_RELEASE_COMPLETE (R123). -/
def execCarriageReleaseComplete (id : BitVec 16) (s : State) : Out :=
  s.command 1 (.carriageReleaseComplete id) (fun s =>
  if (s.carriage id.toNat).state = .deleting && s.inMode [.restore, .service, .maintenance] then
    .next ((s.freeCarriage id.toNat).checkSpace.raise 0x2002 0 [(.carriage, id.toNat)]).resume
  else .next s.unlist)

/-- The conditions of a resize (R123, R125); 0 when they hold. -/
def State.resizeRefusal (s : State) (cid size : Nat) : Nat :=
  let c := s.carriage cid
  if !s.exists? cid then 7
  else if c.state != .active || c.damaged || s.termsHold cid then 6
  else if size < 1 || 524288 < size then 3
  else if c.size < size then
    if (s.couplingOf cid).any (fun e => e.length < size) then 5
    else if c.reserve && 4194304 - s.extentsInUse.length < gibOf size - gibOf c.size then 4 else 0
  else if size < c.size && s.isCoupled cid then 5
  else 0

/-- The new size stands. -/
def State.finishResize (s : State) (cid size : Nat) : State :=
  let c := s.carriage cid
  (s.setCarriage cid { c with size := size }).raise 0x2003 (2 * c.size) [(.carriage, cid), (.u32, 2 * size)]

/-- Resize (R125, R183): a larger size stands at once, a smaller one when its pages have been released. -/
def resizeAct (cid size : Nat) : Act := fun s =>
  match s.resizeRefusal cid size with
  | 0 =>
    let c := s.carriage cid
    let s := s.dropSnapshot cid 2
    if c.size ≤ size then
      let s := if c.reserve then s.reserveExtents cid (gibOf c.size) (gibOf size - gibOf c.size) else s
      okC (s.finishResize cid size)
    else ({ s with work := { s.work with resize := some { id := cid, size := size, old := c.size } } }, .later OD.carriageResize)
  | r => refuseC s r

/-- CARRIAGE_RESIZE (R125). -/
def execCarriageResize (q : Req) (id : BitVec 16) (size : BitVec 32) (s : State) : Out :=
  carriageCmd (.carriageResize q id size) q OD.carriageResize (toBytes 2 id.toNat ++ toBytes 4 size.toNat) (resizeAct id.toNat size.toNat) s

/-- The pages, nodes and extents wholly beyond a size are released (R125). -/
def State.releaseBeyond (s : State) (cid size : Nat) : State :=
  let s := s.releaseDetachedOf cid (fun r => size * 512 ≤ r.page)
  let s := ((s.leavesOf cid).filter (fun k => size * 512 ≤ leafPage k)).foldl State.releasePage s
  s.freeInterior cid (fun k => size * 512 ≤ interiorFirst k)

/-- RESIZE_RELEASE_COMPLETE (R125). -/
def execResizeReleaseComplete (s : State) : Out :=
  s.command 1 .resizeReleaseComplete (fun s =>
  match s.work.resize with
  | none => .next s.unlist
  | some r =>
    let s := (s.releaseBeyond r.id r.size).finishResize r.id r.size
    let s := { s with work := { s.work with resize := none } }.put OD.carriageLastResult 0
    .next ((finishOk s.checkSpace OD.carriageResize).resume))

/-- SET_SEAL (R123). The table has no row for it in Free, Shadow or Deleting, nor for a damaged descriptor, which can only be
deleted (R129): result 6 (DESIGN CHOICE, log 148). -/
def execSetSeal (q : Req) (id : BitVec 16) (on : BitVec 8) (s : State) : Out :=
  carriageCmd (.setSeal q id on) q OD.carriageSetSeal (toBytes 2 id.toNat ++ toBytes 1 on.toNat) (fun s =>
    let c := s.carriage id.toNat
    if 1 < on.toNat then fail s stRange
    else if !s.exists? id.toNat then refuseC s 7
    else if c.damaged then refuseC s 6
    else match c.state with
    | .active | .parking | .parked | .recalling => okC (s.setCarriage id.toNat { c with sealPend := on.toNat = 1 })
    | .free | .shadow | .deleting => refuseUnlisted s 6) s

/-- SET_LABEL (R157). A carriage with a damaged descriptor can only be deleted (R129), and no command that names a Shadow is taken (R194): result
6 (DESIGN CHOICE, log 148). -/
def execSetLabel (q : Req) (id : BitVec 16) (label : BitVec 64) (s : State) : Out :=
  carriageCmd (.setLabel q id label) q OD.carriageSetLabel (toBytes 2 id.toNat ++ toBytes 8 label.toNat) (fun s =>
    if !s.exists? id.toNat then refuseC s 7
    else if (s.carriage id.toNat).damaged || (s.carriage id.toNat).state == .shadow then refuseC s 6
    else okC (s.setCarriage id.toNat { s.carriage id.toNat with label := label })) s

/-! ## Poison (R155) -/

/-- A poisoned range is cleared: its entry is no longer poisoned, and what lies below it is Unallocated. The extents stay with the
carriage (R118). -/
def State.clearRange (s : State) (cid k : Nat) : State :=
  let first := interiorFirst k
  let last := first + interiorSpan k
  let s := ((s.leavesOf cid).filter (fun j => first ≤ leafPage j && leafPage j < last)).foldl State.releasePage s
  let below := s.tables.interior.filter (fun e => e.1 / 2 ^ 20 == cid && e.1 ≠ k && interiorLevel e.1 < interiorLevel k
    && first ≤ interiorFirst e.1 && interiorFirst e.1 < last)
  let s := below.foldl (fun s e => s.setInterior e.1 { Interior.empty with extent := e.2.extent }) s
  s.setInterior k { s.interior k with pois := false, valid := false, node := 0, pair := false }

/-- How Clear Poison ends. -/
inductive ClearEnd where
  | done | noBacking | noNode | noFrame
  deriving DecidableEq, Repr

/-- What a poisoned page leaves behind when it is filled again: its snapshot record, if this is its first change in the term
(R182), and the release of what the record does not keep. -/
def State.recordPoisoned (s : State) (key : Nat) : State :=
  let cid := leafCid key
  let page := leafPage key
  let l := s.leaf key
  let first := s.needsRecord cid page
  let older := first && l.ttag ≠ (s.carriage cid).term % 256
  if l.depot then (if first then s.addRecord cid page (.depot l.ptr) else s.depotUnref l.ptr)
  else if l.unallocated then (if first then s.addRecord cid page .zero else s)
  else if l.flc then (if older then s.retainCopy key else s.freePageCopy key)
  else if older then s.addRecord cid page (.copy false false true 0) else s

/-- The addressed page becomes Resident and dirty: zeros, with the given line. -/
def State.refillPage (s : State) (key line : Nat) (d : Line) : State × ClearEnd :=
  let cid := leafCid key
  let page := leafPage key
  let l := s.leaf key
  if !l.allocated && s.get OD.spaceBackingPagesTotal ≤ s.backingUsed then (s, .noBacking)
  else match s.growPath cid page with
  | (s, .done) =>
    match s.takeFrame with
    | none => (s, .noFrame)
    | some (f, s) =>
      let s := s.recordPoisoned key
      let s := s.setLeaf key Leaf.empty
      (((s.fillPage key f (Image.zero.write line d)).raise 0x2041 0 [(.carriage, cid), (.u32, page)]).checkSpace, .done)
  | (s, _) => (s, .noNode)

/-- Clear Poison of a line of a page (R155): nothing happens to a page that is not poisoned. -/
def State.clearPoison (s : State) (key line : Nat) (d : Line) : State × ClearEnd :=
  match s.poisonAbove (leafCid key) (leafPage key) with
  | some k => (s.clearRange (leafCid key) k).refillPage key line d
  | none => if (s.leaf key).pois then s.refillPage key line d else (s, .done)

/-- CLEAR_PAGE_POISON (R155). A carriage with a damaged descriptor and a Shadow refuse it with result 6 (R129, R194; DESIGN CHOICE, log 148). -/
def execClearPagePoison (q : Req) (id : BitVec 16) (page : BitVec 32) (s : State) : Out :=
  carriageCmd (.clearPagePoison q id page) q OD.carriageClearPagePoison (toBytes 2 id.toNat ++ toBytes 4 page.toNat) (fun s =>
    let c := s.carriage id.toNat
    if !s.exists? id.toNat then refuseC s 7
    else if c.damaged || c.state == .shadow then refuseC s 6
    else if c.size * 512 ≤ page.toNat then refuseC s 3
    else match s.clearPoison (leafKey id.toNat page.toNat) 0 0 with
    | (s, .done) => okC s.resume
    | (_, .noBacking) => refuseC s 4
    | (_, .noNode) => refuseC s 9
    | (_, .noFrame) => fail s stBusy) s

/-! ## Fetches (R43 to R45, R145, R168, R171) -/

/-- The page becomes Resident and clean, or dirty when it comes from a vault (R271). -/
def State.pageArrives (s : State) (key : Nat) (slow : Bool) : State :=
  let s := s.setLeaf key { s.leaf key with busy := false }
  match s.takeFrame with
  | none => s.setLeaf key { s.leaf key with busy := true }
  | some (f, s) =>
    let s := s.fetchInto key f
    let s := s.setLeaf key { s.leaf key with acc := true }
    s.when slow (·.raise 0x2021 0 [(.carriage, leafCid key), (.u32, leafPage key)])

/-- A page fetch ends (R37, R44, R145, R382). An error in staging aborts the move, and its repeat ends with a completion of its
own. -/
def State.pageFetched (s : State) (key : Nat) (o : FetchOutcome) (slow : Bool) : State := s.moveEnds key o (·.pageArrives key slow)

/-- A depot page's fetch brings it into a frame; while none is free it goes on (R168). -/
def State.depotArrives (s : State) (i : Nat) (slow : Bool) : State :=
  let t := s.setDepot i { s.depotEntry i with busy := false }
  match t.takeFrame with
  | none => s
  | some (f, t) =>
    let t := t.fetchDepotInto i f
    (t.setDepot i { t.depotEntry i with acc := true }).when slow (·.raise 0x2021 0 [(.u32, i)])

/-- A depot page's fetch ends, as a page's does (R168) with the check of R171. -/
def State.depotFetched (s : State) (i : Nat) (o : FetchOutcome) (slow : Bool) : State := s.depotEnds i o (·.depotArrives i slow)

/-- NONRESIDENT_FETCH_COMPLETE (R145, R168): no fetch touches a page of a carriage in Deleting (R127). -/
def execNonresidentFetchComplete (name : FetchName) (outcome : FetchOutcome) (slow : Bool) (s : State) : Out :=
  s.mapCommand (.nonresidentFetchComplete name outcome slow) (fun s =>
  match name with
  | .page cid page =>
    let key := leafKey cid.toNat page.toNat
    let l := s.leaf key
    if !(l.busy && l.flashOnly) then .next s.unlist
    else if (s.carriage cid.toNat).state = .deleting then .next (s.setLeaf key { l with busy := false })
    else .next (s.pageFetched key outcome slow).resume
  | .depot index =>
    let e := s.depotEntry index.toNat
    if e.valid && e.busy && !e.res then .next (s.depotFetched index.toNat outcome slow).resume else .next s.unlist)

/-- A request that waits for a frame, the first of a list, and the others. -/
def takeWaiter (ld dpa : Nat) (isWrite : Bool) : List Waiter → Option (Waiter × List Waiter)
  | [] => none
  | w :: ws =>
    if w.ld = ld ∧ w.dpa = dpa ∧ w.since ≠ 0 ∧ w.data.isSome = isWrite then some (w, ws)
    else (takeWaiter ld dpa isWrite ws).map (fun r => (r.1, w :: r.2))

/-- FRAME_WAIT_TIMEOUT (R120, R142): the request keeps the page it was accepted for, whether or not its range is still
coupled (R85). -/
def execFrameWaitTimeout (ld : Ld) (dpa : BitVec 64) (isWrite : Bool) (s : State) : Out :=
  s.mapCommand (.frameWaitTimeout ld dpa isWrite) (fun s =>
  match takeWaiter ld.val dpa.toNat isWrite s.work.waiters with
  | none => .next s.unlist
  | some (w, ws) =>
    let s := { s with work := { s.work with waiters := ws } }.raise 0x2053 0 [(.carriage, w.cid)]
    let t := if isWrite then (s.poisonLeaf (leafKey w.cid w.page)).discardAs w else s.completePoison w.ld w.dpa
    .next (if w.quiet then { t with out := s.out } else t))

/-! ## Eviction (R141, R142) -/

/-- What the sweep meets at a frame: a page or a depot page. -/
inductive SweepItem where
  | page (key : Nat) | depot (index : Nat)
  deriving DecidableEq, Repr

/-- An item placed in frame order. -/
def placeItem (x : Nat × SweepItem) : List (Nat × SweepItem) → List (Nat × SweepItem)
  | [] => [x]
  | y :: ys => if x.1 ≤ y.1 then x :: y :: ys else y :: placeItem x ys

/-- Resident pages in frame order, from the sweep's position around. -/
def State.sweepList (s : State) : List (Nat × SweepItem) :=
  let ps := s.tables.leaves.filterMap (fun e => if e.2.res then some (e.2.ptr, SweepItem.page e.1) else none)
  let ds := s.tables.depot.filterMap (fun e => if e.2.res then some (e.2.frame, SweepItem.depot e.1) else none)
  let all := (ps ++ ds).foldr placeItem []
  all.filter (fun x => s.work.sweep ≤ x.1) ++ all.filter (fun x => x.1 < s.work.sweep)

/-- The sweep at one page: ACC is cleared, or the page evicted. -/
def State.sweepAt (s : State) : SweepItem → State
  | .page key =>
    let l := s.leaf key
    if l.acc then s.setLeaf key { l with acc := false }
    else if !l.dirty && !l.busy && !l.fq && !l.pois && l.flc then s.setLeaf key { l with res := false, ptr := 0 }
    else s
  | .depot i =>
    let s := s.checkEntry i
    let e := s.depotEntry i
    if e.acc then s.setDepot i { e with acc := false }
    else if !e.busy && !e.pois && e.flc then s.setDepot i { e with res := false, frame := 0 }
    else s

/-- A pass of the sweep, which stops when twice FreeLow frames are free. -/
def State.sweepPass (s : State) : List (Nat × SweepItem) → State
  | [] => s
  | x :: xs =>
    if 2 * s.get OD.spaceFreeLow ≤ s.framesFree then s
    else
      let s := s.sweepAt x.2
      State.sweepPass { s with work := { s.work with sweep := x.1 + 1 } } xs

/-- An operation waits for a frame (R142): a host request, a recall, the background restore or a thaw pass. -/
def State.frameWanted (s : State) : Bool :=
  s.work.waiters.any (fun w => w.since ≠ 0) || !s.terms.recalls.isEmpty || s.saves.restore.active
  || s.dram.chans.any (fun c => c.2.state == .thawing)

/-- EVICTION_SWEEP (R141): a sweep begins when the free count has fallen below FreeLow and goes on, pass after pass, until it is
twice FreeLow; event 0x2052 when a pass evicts nothing while an operation waits for a frame (R142). -/
def execEvictionSweep (s : State) : Out :=
  s.mapCommand .evictionSweep (fun s =>
  if !s.work.sweeping && s.get OD.spaceFreeLow ≤ s.framesFree then .next s
  else
    let free := s.framesFree
    let s := s.sweepPass s.sweepList
    let stuck := s.framesFree = free && free = 0 && s.frameWanted
    let s := { s with work := { s.work with sweeping := decide (s.framesFree < 2 * s.get OD.spaceFreeLow) } }
    .next ((s.when stuck (·.note 0x2052)).resume))

/-! ## Couplings (R83 to R85) -/

/-- The fields of a coupling entry. -/
def entryDpa (e : BitVec 128) : Nat := (e.extractLsb' 0 64).toNat
def entryLength (e : BitVec 128) : Nat := (e.extractLsb' 64 32).toNat
def entryValid (e : BitVec 128) : Bool := e.getLsbD 102
def entryRdonly (e : BitVec 128) : Bool := e.getLsbD 103
def entryClass (e : BitVec 128) : Nat := (e.extractLsb' 104 4).toNat
def entryCid (e : BitVec 128) : Nat := (e.extractLsb' 112 16).toNat

/-- The entry of a coupling (R83). -/
def Coupling.entry (c : Coupling) : BitVec 128 :=
  BitVec.ofNat 128 (c.dpa + c.length * 2 ^ 64 + 2 ^ 102 + (if c.rdonly then 2 ^ 103 else 0) + c.cls * 2 ^ 104 + c.cid * 2 ^ 112)

/-- The states that permit coupling (R122); a damaged descriptor does not (R129). -/
def Carriage.couples (c : Carriage) : Bool :=
  !c.damaged && match c.state with
    | .active => true | .parking => true | .parked => true | .recalling => true
    | .free => false | .shadow => false | .deleting => false

/-- The range of an entry overlaps a valid one of the LD. -/
def Coupling.overlaps (c : Coupling) (dpa length : Nat) : Bool :=
  c.dpa < dpa + length * 2 ^ 21 && dpa < c.dpa + c.length * 2 ^ 21

/-- The conditions of a couple command (R84), by the results of OD 0x2500.06; 0 when they hold. Condition 6 is judged first, as R84
orders; among the others the model judges in the order of their results, but the overlap before the length (DESIGN CHOICE,
log 149). A carriage that a revert changes takes no coupling (R194, log 147). -/
def State.coupleRefusal (s : State) (ld : Nat) (e : BitVec 128) : Nat :=
  let cid := entryCid e
  let dpa := entryDpa e
  let len := entryLength e
  let mine := s.tables.couplings.filter (fun c => c.ld = ld)
  if !entryValid e || !(entryClass e ≤ 3 || entryClass e = 15) || dpa % 2 ^ 21 ≠ 0 then 9
  else if !s.exists? cid then 1
  else if !(s.carriage cid).couples || s.reverting cid then 2
  else if s.isCoupled cid then 3
  else if s.get (OD.ldWindowSize ld) < dpa + len * 2 ^ 21 then 4
  else if mine.any (·.overlaps dpa len) then 5
  else if len < (s.carriage cid).size then 6
  else if 4096 ≤ mine.length then 7
  else 0

/-- Couple (R84). -/
def coupleAct (ld : Nat) (e : BitVec 128) : Act := fun s =>
  match s.coupleRefusal ld e with
  | 0 =>
    let c : Coupling := { ld := ld, dpa := entryDpa e, cid := entryCid e, length := entryLength e, rdonly := entryRdonly e,
                          cls := entryClass e }
    okResult (s.setCouplings ld (s.tables.couplings ++ [c])) OD.couplingLastResult
  | r => refuse s OD.couplingLastResult r

/-- Uncouple (R85): the entry leaves the table, and the command completes later. -/
def uncoupleAct (ld dpa : Nat) (a : Asker) : Act := fun s =>
  match s.tables.couplings.find? (fun c => c.ld = ld && c.dpa = dpa) with
  | none => refuse s OD.couplingLastResult 8
  | some c =>
    let s := s.setCouplings ld (s.tables.couplings.filter (· ≠ c))
    ({ s with terms := { s.terms with uncoupling := [(c, a)] } }, .later OD.couplingUncouple)

/-- A coupling command that arrives while an uncouple runs waits in order of arrival (R85). -/
def queueCoupling (i : Instr) (key : Nat) (act : Act) : Act := fun s =>
  if s.terms.uncoupling.isEmpty then act s
  else ({ s with host := { s.host with queue := s.host.queue ++ [i] } }, .later key)

/-- COUPLE (R84). A payload that names no LD is answered with the ZOP range error (DESIGN CHOICE, log 149). -/
def execCouple (q : Req) (ld : BitVec 8) (entry : BitVec 128) (s : State) : Out :=
  runCmd (.couple q ld entry) q OD.couplingCouple (toBytes 1 ld.toNat ++ toBytes 16 entry.toNat) (fun s =>
    if 32 ≤ ld.toNat then fail s stRange
    else queueCoupling (.couple q ld entry) OD.couplingCouple (coupleAct ld.toNat entry) s) s

/-- UNCOUPLE (R85). A payload that names no LD is answered with the ZOP range error (DESIGN CHOICE, log 149). -/
def execUncouple (q : Req) (ld : BitVec 8) (dpa : BitVec 64) (s : State) : Out :=
  runCmd (.uncouple q ld dpa) q OD.couplingUncouple (toBytes 1 ld.toNat ++ toBytes 8 dpa.toNat) (fun s =>
    if 32 ≤ ld.toNat then fail s stRange
    else queueCoupling (.uncouple q ld dpa) OD.couplingUncouple (uncoupleAct ld.toNat dpa.toNat (askerOf q)) s) s

/-- A waiting coupling command is judged, and answered to the session that sent it. -/
def State.runCoupling (s : State) (q : Req) (key : Nat) (act : Act) : State :=
  match act s with
  | (s, .reply r) => s.finishFor (askerOf q) key r
  | (s, .later _) => s

/-- The waiting coupling commands run until an uncouple starts; `fuel` bounds their number. -/
def State.drainCouplings (s : State) : Nat → State
  | 0 => s
  | n + 1 =>
    if !s.terms.uncoupling.isEmpty then s
    else match s.host.queue with
    | .couple q ld e :: rest =>
      (State.runCoupling { s with host := { s.host with queue := rest } } q OD.couplingCouple (coupleAct ld.toNat e)).drainCouplings n
    | .uncouple q ld dpa :: rest =>
      (State.runCoupling { s with host := { s.host with queue := rest } } q OD.couplingUncouple (uncoupleAct ld.toNat dpa.toNat (askerOf q))).drainCouplings n
    | _ => s

/-- UNCOUPLE_COMPLETE (R85): every transaction accepted into the range has completed, writes held by a term end among them. -/
def execUncoupleComplete (s : State) : Out :=
  s.command 0 .uncoupleComplete (fun s =>
  match s.terms.uncoupling with
  | [] => .next s.unlist
  | (c, a) :: _ =>
    if s.work.waiters.any (fun w => w.ld = c.ld && c.dpa ≤ w.dpa && w.dpa < c.dpa + c.length * 2 ^ 21) then .next s
    else
      let s := { s with terms := { s.terms with uncoupling := [] } }.put OD.couplingLastResult 0
      let s := s.finishAll OD.couplingUncouple [a]
      .next (s.drainCouplings (s.host.queue.length + 1)))

end Sys2Proof.Machine
end

