-- ==== Sys2Proof/Machine/CoreMap.lean ====
section
/-! DEFINITION. The stationmaster's address map (14, R491) and what a read of each range gives it. -/
namespace Sys2Proof.Machine

/-- The ranges of the address map (R491). -/
inductive CoreRange where
  | rom | itcm | sram | flash | bankAlias | peripherals | bridge
  deriving DecidableEq, Repr

/-- Base address and size of a range (R491). -/
def CoreRange.span : CoreRange → Nat × Nat
  | .rom => (0x00000000, 65536)
  | .itcm => (0x10000000, 131072)
  | .sram => (0x20000000, 393216)
  | .flash => (0x40000000, 16777216)
  | .bankAlias => (0x50000000, 6291456)
  | .peripherals => (0x60000000, 65536)
  | .bridge => (0x80000000, 268435456)

/-- Every range, in the order of R491's table. -/
def coreRanges : List CoreRange := [.rom, .itcm, .sram, .flash, .bankAlias, .peripherals, .bridge]

/-- The range an address lies in, with its place there; none outside the listed ranges. -/
def coreRangeOf (a : Nat) : Option (CoreRange × Nat) :=
  (coreRanges.find? (fun r => r.span.1 ≤ a && a < r.span.1 + r.span.2)).map (fun r => (r, a - r.span.1))

/-- What a read or write of the stationmaster comes to (R491, R504). -/
inductive CoreAccess where
  /-- The byte read. -/
  | byte (b : Byte)
  /-- The write is taken. -/
  | stored
  /-- It waits for the embedded flash to finish (R504). -/
  | waits
  /-- The die-bridge window while the Main die is unpowered. -/
  | unavailable
  /-- An access fault: outside the listed ranges, or a write of a range that is only read. -/
  | accessFault
  deriving DecidableEq, Repr

/-- Byte `n` of slot `k` of a log-region sector: a record's, the header's in slot 0, erased where nothing was written since the
sector's erase (R510 to R513). What manufacture wrote in a header and what an abandoned slot holds is free (log 169). -/
def State.slotByte (s : State) (region sector k n : Nat) : Byte :=
  let r := s.eflash.region region
  match r.recs.find? (fun x => x.sector = sector && x.slot = k) with
  | some x => x.bytes.getD n 0xFF#8
  | none =>
    if k = 0 then
      match s.eflash.formats.find? (fun e => e.1 = sector) with
      | some f => (sectorHeader (region + 1) f.2.1 (s.eflash.eraseCount sector) f.2.2).getD n 0xFF#8
      | none => Config.coreByte (0x40000000 + sector * 4096 + n)
    else
      let i := r.ring.findIdx (· = sector)
      if r.inUse ≤ i || (i + 1 = r.inUse && r.nextSlot ≤ k) then 0xFF#8
      else Config.coreByte (0x40000000 + sector * 4096 + k * 128 + n)

/-- A byte of the embedded flash's data area (R509). Spare sectors and the erase log's data area stand erased. -/
def State.eflashByte (s : State) (a : Nat) : Byte :=
  let sector := a / 4096
  match bankOfSector sector with
  | some b => s.bankByte b (a - b * 6291456)
  | none =>
    match s.regionOfSector sector with
    | some n => s.slotByte n sector (a % 4096 / 128) (a % 128)
    | none => if 3848 ≤ sector && sector ≤ 3855 then Config.coreByte (0x40000000 + a) else 0xFF#8

/-- A byte of the ITCM: as copied from its bank at the last start (R495). -/
def State.itcmByte (s : State) (n : Nat) : Byte :=
  let place := n + 8192
  match mapGet noEntry s.cores.itcm (place / 4096) with
  | some bs => bs.getD (place % 4096) 0xFF#8
  | none => Config.factoryByte s.cores.itcmBank (place / 4096) (place % 4096)

/-- A read of the embedded flash waits while a program or an erase is in progress (R504). -/
def State.eflashRead (s : State) (b : Byte) : CoreAccess := if s.eflash.busy.isSome then .waits else .byte b

/-- The stationmaster reads a byte of its address map (R491). The content of the mask ROM, of the peripherals, of the die-bridge
window and of data SRAM that no rule fills is free (log 169). -/
def State.coreRead (s : State) (a : Nat) : CoreAccess :=
  match coreRangeOf a with
  | none => .accessFault
  | some (.rom, _) => .byte (Config.coreByte a)
  | some (.itcm, n) => .byte (s.itcmByte n)
  | some (.sram, n) =>
    match s.cores.sram.find? (fun e => e.1 = n / 4096) with
    | some bs => .byte (bs.2.getD (n % 4096) (Config.coreByte a))
    | none => .byte (Config.coreByte a)
  | some (.flash, n) => s.eflashRead (s.eflashByte n)
  | some (.bankAlias, n) => s.eflashRead (s.bankByte s.activeBank n)
  | some (.peripherals, _) => .byte (Config.freeBits 8 s.free)
  | some (.bridge, _) => if s.mainDieRuns then .byte (Config.freeBits 8 s.free) else .unavailable

/-- What a write of the stationmaster comes to: the embedded flash and its alias are read-only, as is mask ROM (R491). -/
def State.coreWrite (s : State) (a : Nat) : CoreAccess :=
  match coreRangeOf a with
  | none => .accessFault
  | some (.rom, _) => .accessFault
  | some (.itcm, _) => .stored
  | some (.sram, _) => .stored
  | some (.flash, _) => .accessFault
  | some (.bankAlias, _) => .accessFault
  | some (.peripherals, _) => .stored
  | some (.bridge, _) => if s.mainDieRuns then .stored else .unavailable

end Sys2Proof.Machine
end

