-- ==== Sys2Proof/Machine/Depot.lean ====
section
/-! DEFINITION. The depot (05, R159 to R171): admission, its completion, and the direct mapping of depot pages. -/
namespace Sys2Proof.Machine

/-! ## Plaintext -/

/-- The plaintext of a depot page, from its frame or its flash copy. -/
def State.depotPlain (s : State) (i : Nat) : Image :=
  if (s.depotEntry i).res then s.depotImage i else s.flashImage (flashName 1 i) (flashName 1 i)

/-! ## Admission (R163, R164) -/

/-- The counts of an admission. -/
def State.tallyUp (s : State) (k : Nat) : State := s.put k (s.get k + 1)

/-- The plaintext of a private page that admission may handle: neither poisoned, dirty nor busy, and readable. -/
def State.admissible (s : State) (key : Nat) : Option Image :=
  let cid := leafCid key
  let page := leafPage key
  let l := s.leaf key
  if l.depot || l.unallocated || l.pois || l.dirty || l.fq || l.busy || (s.poisonAbove cid page).isSome then none
  else if l.res then
    let im := s.residentImage key
    if im.bad = 0 && s.frameServes l.ptr then some im else none
  else if (s.flashCopy (s.pageName cid page)).lost then none
  else some (s.flashImage (s.pageName cid page) (s.pageName cid page))

/-- The depot indices that carry a fingerprint under a slot's current generation (R163). -/
def State.candidates (s : State) (slot : Nat) (fp : BitVec 64) : List Nat :=
  (s.tables.depot.filter (fun e => e.2.valid && e.2.slot = slot && e.2.fp = fp && e.2.slotGen = (s.slot slot).gen && !e.2.pois
    && !e.2.damaged)).map (·.1)

/-- Entries under a fingerprint whose check fails are treated as poisoned, with event 0x2106 (R161). -/
def State.checkEntries (s : State) (slot : Nat) (fp : BitVec 64) : State :=
  (s.tables.depot.filter (fun e => e.2.valid && e.2.slot = slot && e.2.fp = fp)).foldl (fun s e => s.checkEntry e.1) s

/-- The first candidate with equal bytes; each unequal one before it is a collision. -/
def State.pickEqual (im : Image) : List Nat → State → Option Nat × State
  | [], s => (none, s)
  | i :: is, s =>
    if (s.depotPlain i).bytes = im.bytes then (some i, s)
    else State.pickEqual im is ((s.bump OD.depotCollisions 1).note 0x2102)

/-- The lowest depot index not in use whose node exists or can be allocated. -/
def State.takeIndex (s : State) : Option Nat :=
  match pickFrom (fun i => !(s.depotEntry i).valid) (2 ^ 32) (s.tables.depot.length + 1) 0 with
  | none => none
  | some i => if s.work.depotNodes.contains (i / 128) || 0 < s.nodesFree then some i else none

/-- A new depot page: its flash copy is programmed, its entry written with no reference (R163 step 4). -/
def State.newDepotPage (s : State) (i slot : Nat) (fp : BitVec 64) (im : Image) : State :=
  let s := s.program (flashName 1 i) (flashCipher (flashName 1 i) im)
  (s.setDepot i { DepotEntry.empty with
    valid := true, fp := fp, slot := slot, slotGen := (s.slot slot).gen, flc := true, gterm := s.tables.globalTerm % 2 ^ 32 }).checkNodes

/-- The leaf becomes Depot, and what the page held is released (R163 step 5). -/
def State.mergeInto (s : State) (key i : Nat) : State :=
  let t := (s.leaf key).ttag
  (((s.depotRef i).releasePage key).setLeaf key { Leaf.empty with depot := true, ptr := i, ttag := t })

/-- How admission ends at one page. -/
inductive AdmitEnd where
  | stays | zeroed | merged | new | stop
  deriving DecidableEq, Repr

/-- A page of zeros is made Unallocated; its snapshot record is made as for its state before (R163 step 2, R182). -/
def State.zeroPage (s : State) (key : Nat) : State × AdmitEnd :=
  match s.snapshotBefore key with
  | none => (s, .stays)
  | some s => (s.releasePage key, .zeroed)

/-- Steps 3 to 5 of R163 for a page's plaintext. -/
def State.mergePage (s : State) (key slot : Nat) (im : Image) : State × AdmitEnd :=
  let fp := fingerprintTop (fingerprint (s.slot slot).root im)
  let s := s.checkEntries slot fp
  match State.pickEqual im (s.candidates slot fp) s with
  | (some i, s) => (s.mergeInto key i, .merged)
  | (none, s) =>
    match s.takeIndex with
    | none => (s.note 0x2103, .stop)
    | some i => ((s.newDepotPage i slot fp im).mergeInto key i, .new)

/-- One page of an admission (R163). -/
def State.admitPage (s : State) (key slot : Nat) : State × AdmitEnd :=
  match s.admissible key with
  | none => (s, .stays)
  | some im => if im.lines.isEmpty then s.zeroPage key else s.mergePage key slot im

/-- The pages of a range, in ascending page index: the listed ones, since the others are Unallocated. -/
def State.admitAll (slot : Nat) : List Nat → State → State × Option Nat
  | [], s => (s, none)
  | k :: ks, s =>
    match s.admitPage k slot with
    | (s, .stays) => State.admitAll slot ks s
    | (s, .zeroed) => State.admitAll slot ks (s.tallyUp OD.depotAdmitZeroed)
    | (s, .merged) => State.admitAll slot ks (s.tallyUp OD.depotAdmitMerged)
    | (s, .new) => State.admitAll slot ks (s.tallyUp OD.depotAdmitNew)
    | (s, .stop) => (s, some k)

/-- The counts of an admission that begins. -/
def State.zeroCounts (s : State) : State :=
  [OD.depotAdmitExamined, OD.depotAdmitMerged, OD.depotAdmitNew, OD.depotAdmitSkipped, OD.depotAdmitZeroed].foldl (·.put · 0) s

/-- The range is handled (R163, R164): what was neither merged, new nor zeroed was skipped. A range that an index or node ran out for leaves
LastResult as it is, whose code 9 no rule gives it (DESIGN CHOICE, log 179). -/
def State.runAdmission (s : State) (a : AdmitRun) : State :=
  let keys := (s.leavesOf a.id).filter (fun k => a.first ≤ leafPage k && leafPage k < a.first + a.count)
  let (s, stop) := State.admitAll a.slot keys s
  let n := match stop with | some k => leafPage k - a.first | none => a.count
  let s := s.put OD.depotAdmitExamined n
  s.put OD.depotAdmitSkipped (n - s.get OD.depotAdmitMerged - s.get OD.depotAdmitNew - s.get OD.depotAdmitZeroed)

/-- A park or recall of the carriage is in progress or waits (R175, R176, R194). -/
def State.movesOf (s : State) (cid : Nat) : Bool :=
  s.terms.parks.any (fun p => p.id = cid) || s.terms.recalls.any (fun r => r.id = cid) || s.terms.queue.any (fun q => q.id = cid)

/-- The carriage is Active or Parked, and nothing of R194 bars an admission. -/
def State.holdsStill (s : State) (cid : Nat) : Bool :=
  let c := s.carriage cid
  (c.state == .active || c.state == .parked) && !c.damaged && !s.reverting cid

/-- The conditions of an admission (R163), by the results of OD 0x3400.0D; 0 when they hold. -/
def State.admitRefusal (s : State) (cid count slot : Nat) : Nat :=
  if !s.exists? cid then 1
  else if !s.holdsStill cid || s.movesOf cid then 2
  else if count < 1 || 2 ^ 18 < count then 8
  else if !(s.passRow cid).getLsbD slot then 3
  else if (s.slot slot).type ≠ 1 then 4
  else if s.flag OD.depotAdmitBusy then 7
  else 0

/-- Admit (R163). -/
def admitAct (cid first count slot : Nat) : Act := fun s =>
  match s.admitRefusal cid count slot with
  | 0 =>
    let a : AdmitRun := { id := cid, slot := slot, first := first, count := count, full := false }
    let s := { s with terms := { s.terms with admission := some a } }.putFlag OD.depotAdmitBusy true
    okResult (s.zeroCounts) OD.depotLastResult
  | r => refuse s OD.depotLastResult r

/-- ADMIT (R163). -/
def execAdmission (q : Req) (id : BitVec 16) (first count : BitVec 32) (slot : BitVec 8) (s : State) : Out :=
  runCmd (.admission q id first count slot) q OD.depotAdmit (toBytes 2 id.toNat ++ toBytes 4 first.toNat ++ toBytes 4 count.toNat ++ toBytes 1 slot.toNat)
    (admitAct id.toNat first.toNat count.toNat slot.toNat) s

/-- ADMISSION_COMPLETE (R164): the range has been handled, and the counts are given: those merged as VALUE, then the new, the skipped and the
zeroed ones (DESIGN CHOICE, log 179). A page that is merged before the completion reads as it did; a reset before it finds the pages private
(R72; DESIGN CHOICE, log 179). -/
def execAdmissionComplete (s : State) : Out :=
  s.command 1 .admissionComplete (fun s =>
  match s.terms.admission with
  | none => .next s.unlist
  | some a =>
    let s := s.runAdmission a
    let s := { s with terms := { s.terms with admission := none } }.putFlag OD.depotAdmitBusy false
    let merged := s.get OD.depotAdmitMerged
    let s := s.checkSpace
    .next (s.raise 0x2101 merged [(.u32, s.get OD.depotAdmitNew), (.u32, s.get OD.depotAdmitSkipped), (.u32, s.get OD.depotAdmitZeroed)]))

/-! ## MapDepot (R165) -/

/-- The leaves from a page on become Depot, with a zero marker where the term needs one (R182). -/
def State.mapPages (cid : Nat) : Nat → Nat → Nat → State → Option State
  | 0, _, _, s => some s
  | n + 1, page, i, s =>
    match s.growNodes cid page with
    | (s, .done) =>
      let s := if s.needsRecord cid page then s.addRecord cid page .zero else s
      let l : Leaf := { Leaf.empty with depot := true, ptr := i, ttag := (s.carriage cid).term % 256 }
      State.mapPages cid n (page + 1) (i + 1) ((s.setLeaf (leafKey cid page) l).depotRef i)
    | _ => none

/-- The named entries that are valid; and those of the slots' current generation and type. -/
def State.depotSound (s : State) (i : Nat) : Bool := let e := s.depotEntry i; e.valid && !e.damaged
def State.depotCurrent (s : State) (i : Nat) : Bool :=
  let e := s.depotEntry i
  e.slotGen = (s.slot e.slot).gen && (s.slot e.slot).type = 1

/-- The conditions of MapDepot (R165, R167); 0 when they hold. -/
def State.mapRefusal (s : State) (cid page depot count : Nat) : Nat :=
  if !s.exists? cid then 1
  else if !s.holdsStill cid then 2
  else if count < 1 || 2 ^ 18 < count || (s.carriage cid).size * 512 < page + count || 2 ^ 32 < depot + count then 8
  else
    let named := (List.range count).map (depot + ·)
    let targets := (s.leavesOf cid).filter (fun k => page ≤ leafPage k && leafPage k < page + count)
    if targets.any (fun k => !(s.leaf k).unallocated || (s.leaf k).pois)
      || s.tables.interior.any (fun e => e.1 / 2 ^ 20 == cid && e.2.pois && interiorFirst e.1 < page + count
          && page < interiorFirst e.1 + interiorSpan e.1) then 6
    else if named.any (fun i => !s.depotSound i) then 5
    else if named.any (fun i => !(s.passRow cid).getLsbD (s.depotEntry i).slot) then 3
    else if named.any (fun i => !s.depotCurrent i) then 5
    else 0

/-- MapDepot (R165); the named entries are checked first (R161); no table node is result 9. -/
def mapAct (cid page depot count : Nat) : Act := fun s =>
  let s := (s.tables.depot.filter (fun e => depot ≤ e.1 && e.1 < depot + count)).foldl (fun s e => s.checkEntry e.1) s
  match s.mapRefusal cid page depot count with
  | 0 =>
    match State.mapPages cid count page depot s with
    | some s => okResult s OD.depotLastResult
    | none => refuse s OD.depotLastResult 9
  | r => refuse s OD.depotLastResult r

/-- MAP_DEPOT (R165). -/
def execMapDepot (q : Req) (id : BitVec 16) (page depot count : BitVec 32) (s : State) : Out :=
  runCmd (.mapDepot q id page depot count) q OD.depotMapDepot (toBytes 2 id.toNat ++ toBytes 4 page.toNat ++ toBytes 4 depot.toNat ++ toBytes 4 count.toNat)
    (mapAct id.toNat page.toNat depot.toNat count.toNat) s

end Sys2Proof.Machine
end

