-- ==== Sys2Proof/Machine/Ports.lean ====
section
/-! DEFINITION. The host ports (02, R65, R69; 03, R74 to R107): links, PERST_N, IDE, express panic, and the
CXL.mem reads and writes. -/
namespace Sys2Proof.Machine

/-! ## Links (R65, R69, R76, R78) -/

/-- PERST_N of a port is high. -/
def State.perstHigh (s : State) (p : Nat) : Bool := if p = 0 then s.pins.perst0N else s.pins.perst1N

def State.setPerst (s : State) (p : Nat) (b : Bool) : State :=
  if p = 0 then { s with pins := { s.pins with perst0N := b } } else { s with pins := { s.pins with perst1N := b } }

/-- The port may train: PERST_N is high, BOOT step t1 has been reached, the link is down, and no save's fence and no prefect
holds it (R65, R103, R105). -/
def State.mayTrain (s : State) (p : Nat) : Bool :=
  s.mainDieRuns && s.reachedStep 1 && s.ctl.mode != .save && s.perstHigh p && s.get (OD.hpLinkState p) = 0
  && (s.get (OD.hpFenceCause p) = 0 || s.get (OD.hpFenceCause p) = 2)

def State.train (s : State) (p : Nat) : State := s.when (s.mayTrain p) (·.startTraining p)

/-- A link goes down: accepted writes complete internally, read completions are discarded (R69, R78), and so are messages that no
MAC has verified, which were never accepted (R107). -/
def State.linkDown (s : State) (p : Nat) : State :=
  let s := s.dropReads p
  let s := ((s.put (OD.hpLinkState p) 0).put (OD.hpRate p) 0).put (OD.hpWidth p) 0
  let s := s.setHostPort p { s.hostPort p with training := false, unverified := [], gpf := false }
  s.putFlag (OD.hpMemAdmitted p) false

/-- The port's CXL state is reset: HDM decoders, IDE keys, the MCTP endpoint ID (R450), and
the settings its hosts made in their mailboxes. -/
def State.resetCxl (s : State) (p : Nat) : State :=
  let s := { s with host := { s.host with decoders := s.host.decoders.filter (fun e => portOfLd (e.1 / 4) ≠ p)
                                          mail := s.host.mail.filter (fun e => portOfLd e.1 ≠ p) } }
  let s := s.setHostPort p { s.hostPort p with keyMem := none, keyIo := none, skid := false }
  let s := { s with zop := { s.zop with eids := mapErase s.zop.eids p } }
  s.put (OD.hpIdeState p) 0

/-- PERST_N_ASSERT (R69). -/
def execPerstNAssert (p : Port) (s : State) : Out :=
  let s := s.setPerst p.val false
  let count := fun (s : State) => s.bump (OD.hpPerstCount p.val) 1
  let down := fun (s : State) =>
    let up := 2 ≤ s.get (OD.hpLinkState p.val)
    (((count s).linkDown p.val).resetCxl p.val).when up (·.raise 0x1003 0 [(.port, p.val)])
  match s.ctl.mode with
  | .off => .next s
  | .vault => .next s
  | .boot => if s.mainDieRuns then .next (down s) else .next s
  | .save => .next ((count s).raise 0x8003 0 [(.port, p.val)])
  | .restore => .next (down s)
  | .service => .next (down s)
  | .freeze => .next (down s)
  | .maintenance => .next (down s)

/-- PERST_N_DEASSERT (R65). -/
def execPerstNDeassert (p : Port) (s : State) : Out := .next ((s.setPerst p.val true).train p.val)

/-- The widths, rates and flit modes of R74. -/
def trainable (maxWidth rate width flit : Nat) : Bool :=
  width ≤ maxWidth && ([16, 8, 4, 2, 1] : List Nat).contains width
  && (if rate = 64 then 1 ≤ flit else if rate = 32 then true else (rate = 16 || rate = 8) && flit = 0)

/-- LINK_UP (R76, R79); `bound` is what a switch partner's fabric manager has bound, and none without a switch. Event 0x1001
gives the rate in VALUE. -/
def execLinkUp (p : Port) (rate width : Nat) (flit : Fin 3) (bound : Option (BitVec 16)) (s : State) : Out :=
  let n := p.val
  if s.get (OD.hpLinkState n) ≠ 1 || !trainable (s.hostPort n).maxWidth rate width flit.val then .next s.unlist
  else
    let s := s.setHostPort n { s.hostPort n with training := false, bound := bound.getD 0 }
    let s := ((s.put (OD.hpRate n) rate).put (OD.hpWidth n) width).put (OD.hpFlitMode n) flit.val
    let s := s.put (OD.hpTopology n) (if bound.isSome then 1 else 0)
    let s := s.put (OD.hpLinkState n) (if s.get (OD.hpFenceCause n) = 0 then 2 else 4)
    let s := s.raise 0x1001 rate [(.port, n), (.u8, width), (.u8, flit.val)]
    if width < 8 then .next ((s.putFlag (OD.hpMemAdmitted n) false).raise 0x1010 0 [(.port, n)])
    else
      let s := s.when (rate < 64) (·.raise 0x1011 0 [(.port, n)])
      .next (s.when (s.memAdmission && s.get (OD.hpFenceCause n) = 0) (·.openPort n))

/-- The link of a port is up. -/
def State.portUp (s : State) (p : Nat) : Bool := 2 ≤ s.get (OD.hpLinkState p) && s.get (OD.hpFenceCause p) ≠ 1 && s.get (OD.hpFenceCause p) ≠ 3

/-- SURPRISE_LINK_DOWN (R78). -/
def execSurpriseLinkDown (p : Port) (s : State) : Out :=
  if s.portUp p.val then
    .next (((((s.linkDown p.val).resetCxl p.val).bump (OD.hpSurpriseDowns p.val) 1).raise 0x1002 0 [(.port, p.val)]).train p.val)
  else .next s.unlist

/-! ## IDE (R106, R107) -/

/-- OD IdeState of the keys held. -/
def HostPort.ideState (h : HostPort) : Nat := (if h.keyIo.isSome then 1 else 0) + (if h.keyMem.isSome then 2 else 0)

/-- IDE_KM_MESSAGE (R106): a key is established, or refreshed. -/
def execIdeKmMessage (p : Port) (stream : IdeStream) (key : BitVec 256) (s : State) : Out :=
  let n := p.val
  if !(s.portUp n && s.reachedStep 2) then .next s.unlist
  else
    let h := s.hostPort n
    let (old, h) := match stream with
      | .mem => (h.keyMem, { h with keyMem := some key })
      | .io => (h.keyIo, { h with keyIo := some key })
    let s := (s.setHostPort n h).put (OD.hpIdeState n) h.ideState
    .next (s.when old.isSome (·.raise 0x1051 0 [(.port, n)]))

/-- IDE_MAC_FAILURE (R107): the port becomes insecure and takes its link down. -/
def execIdeMacFailure (p : Port) (s : State) : Out :=
  let n := p.val
  if !s.portUp n || (s.hostPort n).ideState = 0 then .next s.unlist
  else
    let s := ((s.raise 0x1050 0 [(.port, n)]).linkDown n).resetCxl n
    .next ((s.put (OD.hpIdeState n) 4).train n)

/-! ## GPF, the residue message and express panic (R89, R96, R97, R101) -/

/-- GPF_PHASE2_REQUEST (R89): the accepted writes complete, and then completion is signalled; not after a fence. -/
def execGpfPhase2Request (p : Port) (s : State) : Out :=
  let s := s.freshAnswers
  if s.portUp p.val && s.get (OD.hpFenceCause p.val) = 0 then
    .next (s.setHostPort p.val { s.hostPort p.val with gpf := true }).resume
  else .next s

/-- Cycles of the Map island, 2.0 GHz at its nominal clock, in the microsecond between two messages of the Map region (R20, R101). -/
def State.mapCycles (s : State) : Nat := 50 * (40 - (field (s.blob OD.marginClockDerate) 0 1))

/-- RESIDUE_UPDATE (R101). -/
def execResidueUpdate (s : State) : Out :=
  if s.mainDieRuns then
    let s := s.when (s.get OD.qosThrottleState = 2) (·.count 0xF080 0xFFFF s.mapCycles)
    let s := s.sendResidue
    .next (if s.get OD.qosThrottleState = 1 && s.memAdmission then s.returnCut else s)
  else .next s.unlist

/-- EXPRESS_PANIC_CHANGE (R96): the buffer holds at least the express requests that the model knows to wait. -/
def execExpressPanicChange (p : Port) (occupancy age : Nat) (s : State) : Out :=
  let n := p.val
  let occupancy := max occupancy (s.expressHeld n)
  let high := s.get OD.qosPanicHigh ≤ occupancy || s.get OD.qosPanicAgeHigh ≤ age
  let low := occupancy ≤ s.get OD.qosPanicLow && age ≤ s.get OD.qosPanicAgeLow
  if s.get (OD.hpFenceCause n) ≠ 0 then .next s
  else if !(s.hostPort n).panic && high then .next ((s.changePanic n true).raise 0x1020 0 [(.port, n)])
  else if (s.hostPort n).panic && low then .next (s.changePanic n false)
  else .next s

/-- EXPRESS_PANIC_HELD (R97). -/
def execExpressPanicHeld (p : Port) (s : State) : Out :=
  let n := p.val
  let h := s.hostPort n
  if h.panic && !h.heldReported then
    .next ((s.setHostPort n { h with heldReported := true }).raise 0x1021 0 [(.port, n)])
  else .next s.unlist

/-! ## Configuration space (R65, R82) -/

/-- HDM decoder numbers in State: LD × 4 + decoder. -/
def State.programDecoder (s : State) (ld d : Nat) (x : HdmDecoder) : State :=
  { s with host := { s.host with decoders := mapSet (fun _ => HdmDecoder.initial) s.host.decoders (ld * 4 + d) x } }

/-- Interleave ways and granularity of R74. -/
def interleaves (ways granularity : Nat) : Bool :=
  ([1, 2, 4, 8] : List Nat).contains ways && ([256, 512, 1024, 2048, 4096, 8192, 16384] : List Nat).contains granularity

/-- What a capability structure reports (R74, R75, R77, R88, R89): the durations are in µs, the timeout in s and the power in mW. -/
def State.capability (s : State) (ld : Nat) : CapField → Nat
  | .deviceType => 3
  | .cxlIo => 1
  | .cxlMem => 1
  | .cxlCache => 0
  | .backInvalidate => 0
  | .dynamicCapacity => 0
  | .switching => 0
  | .maxLinkRate => 64
  | .maxWidth => s.get (OD.hpMaxWidth (portOfLd ld))
  | .mldCapable => 1
  | .logicalDevices => 16
  | .ldId => ld % 16
  | .volatileCapacity => 0
  | .persistentCapacity => s.get (OD.ldWindowSize ld)
  | .hdmDecoders => 4
  | .maxInterleaveWays => 8
  | .gpfPhase2Duration => 10
  | .gpfPhase2Power => 0
  | .memoryActive => if s.flag (OD.hpMemAdmitted (portOfLd ld)) then 1 else 0
  | .mediaReady => if s.flag (OD.hpMemAdmitted (portOfLd ld)) then 1 else 0
  | .memoryActiveTimeout => 64
  | .lsaSize => 131072
  | .mailboxPayload => 2048
  | .ideContainment => 1
  | .ideSkid => 1
  | .ideSkidActive => if (s.hostPort (portOfLd ld)).skid then 1 else 0

/-- CONFIGURATION_REQUEST (R65): Retry Status before BOOT step t2; then the vendor identity at offset 0, the capabilities and the
HDM decoders of visible LDs (R74, R82), the mode of CXL.mem IDE (R107), and other registers as the CXL and PCIe standards leave
them (free values). -/
def execConfigurationRequest (p : Port) (r : ConfigRequest) (s : State) : Out :=
  let n := p.val
  let s := s.freshAnswers
  let answer := fun (s : State) (c : Completion) => { s with out := { s.out with host := [c] } }
  if !s.portUp n then .next s.unlist
  else if !s.reachedStep 2 then .next (answer s (.retryStatus n))
  else match r with
    | .readSpace off =>
      let v := (Config.freeBits 32 s.free).toNat
      let w := if off.toNat = 0 then v / 65536 * 65536 + s.get OD.identityPciVendorId else v
      .next (answer s.draw (.config n w))
    | .readField ld f =>
      if portOfLd ld.val = n && s.ldVisible ld.val then .next (answer s (.config n (s.capability ld.val f)))
      else .next (answer s (.refusedConfig n))
    | .ideMode skid => .next (answer (s.setHostPort n { s.hostPort n with skid := skid }) (.config n 0))
    | .hdmDecoder ld d base size ways gran =>
      if portOfLd ld.val = n && s.ldVisible ld.val && interleaves ways gran then
        .next (answer (s.programDecoder ld.val d.val { base := base, size := size, ways := ways, granularity := gran }) (.config n 0))
      else .next (answer s (.refusedConfig n))

/-! ## CXL.mem (R143, R146) -/

/-- A read received behind a save's fence uses up its credit (R102). -/
def State.spendCredit (s : State) (p : Nat) : State :=
  if s.ctl.mode == .save then s.setHostPort p { s.hostPort p with reqHeld := (s.hostPort p).reqHeld + 1 } else s

/-- CXL_MEM_READ (R143). The port has granted credits only while CXL.mem is admitted (R77), and a host without one sends no
request (R98). -/
def execCxlMemRead (ld : Ld) (dpa : BitVec 64) (fault : PathFault) (s : State) : Out :=
  let n := ld.val
  let s := s.freshAnswers
  if !s.memOpen n || s.reqCredits (n / 16) = 0 then .next s.unlist
  else .next (((s.spendCredit (n / 16)).receive { ld := n, dpa := s.dpaOf n dpa, data := none, fault := fault }).reportSince s)

/-- CXL_MEM_WRITE (R146); no write arrives in FREEZE, where none is granted (R104), nor without a credit (R98,
R100). -/
def execCxlMemWrite (ld : Ld) (dpa : BitVec 64) (data : Line) (fault : PathFault) (s : State) : Out :=
  let n := ld.val
  let s := s.freshAnswers
  if !s.memOpen n || s.ctl.mode == .freeze || s.rwdCredits (n / 16) = 0 then .next s.unlist
  else .next ((s.receive { ld := n, dpa := s.dpaOf n dpa, data := some data, fault := fault }).reportSince s)

end Sys2Proof.Machine
end

