-- ==== Sys2Proof/Machine/Terms.lean ====
section
/-! DEFINITION. Sidings and terms (05, R172 to R186): term ends of a carriage and of all carriages, retag passes, parks, recalls,
reverts and the release of detached snapshots. -/
namespace Sys2Proof.Machine

/-! ## Term ends of one carriage (R177 to R181) -/

/-- The modes in which this chapter's operations run (R49, R72). -/
def State.working (s : State) : Bool := s.inMode [.restore, .service, .maintenance]

/-- Why a term end of the carriage is deferred: 1 a park (R172), 2 a retag pass (R181), 3 an export that reads its snapshot
(R179), 5 a revert, which ends the term itself (R185, log 147); 0 it is not. -/
def State.deferredBy (s : State) (cid : Nat) : Nat :=
  let next := (s.carriage cid).term + 1
  if s.terms.parks.any (fun p => p.id = cid && p.term.any (fun t => t + 127 ≤ next)) then 1
  else if s.terms.retag.contains cid && next % 128 = 0 then 2
  else if s.terms.exp.any (fun e => e.source = cid && e.begun) then 3
  else if s.reverting cid then 5
  else 0

/-- A term end begins (t0 of R177): new writes of the carriage are held. -/
def State.beginTerm (s : State) (cid : Nat) (cmd : Option Asker) : State :=
  { s with terms := { s.terms with runs := s.terms.runs ++ [{ id := cid, cmd := cmd }] } }

/-- A term end is deferred; by a park or a retag pass with event 0x2302. The causes given are 1 a park, 2 a retag pass and 4 a
global term end that waited for more than 1 ms (DESIGN CHOICE, log 94). -/
def State.deferTerm (s : State) (cid : Nat) (cmd : Option Asker) : State :=
  let why := s.deferredBy cid
  let s := { s with terms := { s.terms with deferred := s.terms.deferred ++ [(cid, cmd)] } }
  s.when (why = 1 || why = 2) (·.raise 0x2302 0 [(.u8, why)])

/-- An export of the carriage has been accepted and is not complete: every term end but its own is deferred (R190, R194). -/
def State.exporting (s : State) (cid : Nat) : Bool := s.terms.exp.any (fun e => e.source = cid)

/-- A term end is asked for. -/
def State.requestTerm (s : State) (cid : Nat) (cmd : Option Asker) : State :=
  if s.deferredBy cid = 0 && !s.exporting cid then s.beginTerm cid cmd else s.deferTerm cid cmd

/-- The term end with which an export begins (R190). -/
def State.requestExportTerm (s : State) (cid : Nat) : State :=
  if s.deferredBy cid = 0 then s.beginTerm cid none else s.deferTerm cid none

/-- A deferred term end may begin: nothing defers it, and no export that has read its snapshot or waits for a term end under way
stands in its way. -/
def State.mayBegin (s : State) (cid : Nat) : Bool :=
  s.deferredBy cid = 0 && (!s.exporting cid || !s.terms.runs.any (fun r => r.id = cid))

/-- Deferred term ends that nothing defers any longer begin. -/
def State.runDeferred (s : State) : State :=
  let ds := s.terms.deferred
  let s := { s with terms := { s.terms with deferred := ds.filter (fun d => !s.mayBegin d.1) } }
  (ds.filter (fun d => s.mayBegin d.1)).foldl (fun s d => s.beginTerm d.1 d.2) s

/-- Nodes whose entries have all become Unallocated are freed (R136); a poisoned entry is not Unallocated (R131), and extents stay
(R118). -/
def State.freeEmptyNodes (s : State) (cid : Nat) : State :=
  let pages := (s.leavesOf cid).map leafPage
  let covers := fun (k p : Nat) => interiorFirst k ≤ p && p < interiorFirst k + interiorSpan k
  let bad := s.tables.interior.filter (fun e => e.1 / 2 ^ 20 == cid && e.2.pois)
  let empty := fun (k : Nat) => !pages.any (covers k)
    && !bad.any (fun e => interiorLevel e.1 < interiorLevel k && covers k (interiorFirst e.1))
  let ks := (s.tables.interior.filter (fun e => e.1 / 2 ^ 20 == cid && e.2.valid && empty e.1)).map (·.1)
  ks.foldl (fun s k => s.setInterior k { s.interior k with valid := false, pair := false, node := 0 }) s

/-- The records of the snapshot that a term end replaces are released in the background (R177, R186). -/
def State.detach (s : State) (cid : Nat) : State :=
  let rs := s.snapRecords cid
  let s := if rs.isEmpty then s else { s with terms := { s.terms with detached := s.terms.detached ++ [(cid, rs)] } }
  let s := s.setSnaps cid []
  { s with tables := { s.tables with dropped := s.tables.dropped.filter (· ≠ cid) } }

/-- The pages a park copies: the resident ones in page-index order (R172). A page with a line poisoned in DRAM is poisoned as
it moves (R154). -/
def State.parkPages (s : State) (cid : Nat) : List Nat :=
  (s.leavesOf cid).filter (fun k => let l := s.leaf k; l.res && !l.pois && s.frameServes l.ptr)

/-- The copy phase of a park: T is the carriage's new term (R172). -/
def State.takeCopies (s : State) (p : ParkRun) : ParkRun × State :=
  let c := s.carriage p.id
  let (bad, good) := (s.parkPages p.id).partition (fun k => (s.residentImage k).bad ≠ 0)
  let copies := good.map (fun k => (leafPage k, flashCipher (s.pageName p.id (leafPage k)) (s.residentImage k)))
  let seals := if c.sealOn then good.map (fun k => (leafPage k, (s.residentImage k).pageSeal.toNat)) else []
  ({ p with term := some c.term, copies := copies, seals := seals, total := copies.length }, bad.foldl State.poisonLeaf s)

/-- Parks whose first term end was awaited begin to copy. -/
def State.beginCopies (s : State) (cid : Nat) : State :=
  match s.terms.parks.find? (fun p => p.id = cid && p.term.isNone) with
  | none => s
  | some p =>
    let (p', s) := s.takeCopies p
    { s with terms := { s.terms with parks := s.terms.parks.map (fun x => if x = p then p' else x) } }

/-- An export whose source's term has ended reads the snapshot from now on (R190). -/
def State.beginExport (s : State) (cid : Nat) : State :=
  match s.terms.exp with
  | some e => if e.source = cid then { s with terms := { s.terms with exp := some { e with begun := true } } } else s
  | none => s

/-- SEAL has returned to 0: the companions are released, and SEALED and PAIR are cleared (R135). The manual leaves the moment
within the following term; the model takes its start (DESIGN CHOICE, log 150). -/
def State.clearSeals (s : State) (cid : Nat) : State :=
  let s := ((s.leavesOf cid).filter (fun k => (s.leaf k).sealed)).foldl (fun s k =>
    s.setLeaf k { s.leaf k with sealed := false, pageSeal := 0 }) s
  (s.tables.interior.filter (fun e => e.1 / 2 ^ 20 == cid && e.2.pair)).foldl (fun s e =>
    s.setInterior e.1 { s.interior e.1 with pair := false }) s

/-- The commit point of a term end (t2 of R177): the previous snapshot is detached, TERM advances, SEALPEND applies (R123), empty
nodes are freed (R136), and at a multiple of 128 a retag pass begins (R181). -/
def State.endTerm (s : State) (cid : Nat) : State :=
  let s := s.detach cid
  let c := s.carriage cid
  let t := (c.term + 1) % 2 ^ 32
  let s := (s.setCarriage cid { c with term := t, termTime := s.clock, sealOn := c.sealPend }).freeEmptyNodes cid
  let s := if c.sealOn && !c.sealPend then s.clearSeals cid else s
  let s := if t % 128 = 0 then { s with terms := { s.terms with retag := s.terms.retag ++ [cid] } } else s
  ((s.beginCopies cid).beginExport cid).checkSpace

/-! ## The global term end (R179, R180) -/

/-- Carriages whose term ends with the global term. -/
def State.eligibleIds (s : State) : List Nat :=
  (s.tables.carriages.filter (fun e => e.2.state.eligible && !e.2.damaged && !s.terms.exp.any (fun x => x.source = e.1))).map (·.1)

/-- Depot pages without a reference are freed: entry, frame and flash copy (R164, R170). -/
def State.freeUnreferenced (s : State) : State :=
  ((s.tables.depot.filter (fun e => e.2.valid && e.2.refs = 0)).map (·.1)).foldl
    (fun s i => (s.freeCopy (flashName 1 i)).setDepot i DepotEntry.empty) s

/-- The global term ends: the committed set between t1 and t2, every eligible term with one increment, unreferenced depot pages,
then an activation that is due (R179, R437, R541). -/
def State.endGlobal (s : State) : State :=
  let s := s.applyAtBoundary
  let s := s.eligibleIds.foldl (fun s c => if s.deferredBy c = 0 then s.endTerm c else s.deferTerm c none) s
  let g := (s.tables.globalTerm + 1) % 2 ^ 64
  let s := { s with tables := { s.tables with globalTerm := g }, terms := { s.terms with periodStart := s.uptime, period := s.get OD.termGlobalPeriod, globalDue := none,
                                                                                                  globalHold := false } }
  let s := (s.put OD.termLastBoundary s.clock).raise 0x2301 g []
  s.freeUnreferenced.activateAtBoundary

/-- A global term end is due: it waits while a term end or a retag pass completes (R180). -/
def State.globalBlocked (s : State) : Bool := !s.terms.runs.isEmpty || !s.terms.retag.isEmpty

/-- A write accepted before t0 of the global term end is still held: t1 has not been reached (R179). -/
def State.globalDrains (s : State) : Bool :=
  s.work.waiters.any (fun w => w.data.isSome && !w.held && s.eligibleIds.contains w.cid)

/-- A global term end that waited begins as soon as nothing blocks it, and holds new writes until the accepted ones are counted;
a wait of more than 1 ms is reported (R179, R180). -/
def State.tryGlobal (s : State) : State :=
  match s.terms.globalDue with
  | none => s
  | some (since, cmds) =>
    if s.globalBlocked || (s.flush.metaHold && !s.probe.endGlobal.work.changed.isEmpty) then s
    else
      let late := !s.terms.globalHold && since + 1000000 < s.uptime
      let s := s.when late (·.raise 0x2302 ((s.uptime - since) / 1000) [(.u8, 4)])
      if s.globalDrains then { s with terms := { s.terms with globalHold := true } }
      else (s.endGlobal.finishAll OD.termEndGlobalTerm cmds).resume

/-- Time passes with no command: MACs are verified, and a global term end that has come to its t1 goes on (DESIGN CHOICE, log 1). -/
def State.tick (s : State) : State := s.verified.idle.tryGlobal

/-- A global term end is started; a command may wait for it. -/
def State.startGlobal (s : State) (cmds : List Asker) : State :=
  let due := match s.terms.globalDue with | some (t, c) => (t, c ++ cmds) | none => (s.uptime, cmds)
  { s with terms := { s.terms with globalDue := some due } }

/-- END_GLOBAL_TERM (R179): answered when the global term has ended. -/
def execEndGlobalTerm (q : Req) (s : State) : Out :=
  runCmd (.endGlobalTerm q) q OD.termEndGlobalTerm [] (fun s =>
    let s := s.put OD.termLastResult 0
    if s.globalBlocked || s.globalDrains then ((s.startGlobal [askerOf q]).tryGlobal, .later OD.termEndGlobalTerm)
    else ok (s.startGlobal []).tryGlobal) s

/-- GLOBAL_TERM_END (R180): the GlobalPeriod in force has elapsed; a change of it applies from the next boundary (R198). -/
def execGlobalTermEnd (s : State) : Out :=
  s.command 2 .globalTermEnd (fun s =>
  if !s.working || s.terms.period = 0 then .next s.unlist else .next (s.startGlobal []).tryGlobal)

/-! ## Committing the staged set (R436, R438) -/

/-- Why the load is not light, as event 0x7004 gives it: 1 the throttle, 2 a port's trackers, 3 armed, 4 a global term end or a
retag pass; 0 it is light (R438). -/
def State.notLight (s : State) : Nat :=
  let busy := fun (p : Nat) => s.linkUp p && s.get OD.qosLoadModerate * 4096 ≤ 100 * s.tracked p
  if s.get OD.qosThrottleState ≠ 0 then 1
  else if busy 0 || busy 1 then 2
  else if s.armedPower then 3
  else if s.terms.globalDue.isSome || !s.terms.retag.isEmpty then 4 else 0

/-- The uncommitted set becomes the committed set. -/
def State.commitSet (s : State) (point : Nat) : State :=
  let xs := s.zop.uncommitted
  State.put { s with zop := { s.zop with uncommitted := [], committed := xs } } OD.stagingApplyPoint point

/-- Commit (R436, R438). -/
def commitAct (point : Nat) : Act := fun s =>
  let n := s.zop.uncommitted.length
  if 2 < point then fail s stRange
  else if point = 2 && !s.inMode [.service, .maintenance] then fail s stState
  else if !s.zop.committed.isEmpty then refuse s OD.stagingLastResult 1
  else if n = 0 then refuse s OD.stagingLastResult 2
  else if point < 2 then okResult ((s.commitSet point).raise 0x7001 n [(.u8, point)]) OD.stagingLastResult
  else if s.notLight ≠ 0 then fail (s.raise 0x7004 0 [(.u8, s.notLight)]) stBusyLoad
  else okResult (((s.commitSet point).startGlobal []).tryGlobal) OD.stagingLastResult

/-- COMMIT_STAGED (R436). -/
def execCommitStaged (q : Req) (point : BitVec 8) (s : State) : Out :=
  runCmd (.commitStaged q point) q OD.stagingCommit (toBytes 1 point.toNat) (commitAct point.toNat) s

/-! ## Commands on one carriage's term -/

/-- END_CARRIAGE_TERM (R177): answered when the term has ended. -/
def execEndCarriageTerm (q : Req) (id : BitVec 16) (s : State) : Out :=
  runCmd (.endCarriageTerm q id) q OD.termEndCarriageTerm (toBytes 2 id.toNat) (fun s =>
    let cid := id.toNat
    if !s.exists? cid then refuse s OD.termLastResult 1
    else if !(s.carriage cid).state.eligible || (s.carriage cid).damaged then refuse s OD.termLastResult 2
    else ((s.put OD.termLastResult 0).requestTerm cid (some (askerOf q)), .later OD.termEndCarriageTerm)) s

/-- The first term end of a carriage in the list, and the others. -/
def takeRun (cid : Nat) : List TermRun → Option (TermRun × List TermRun)
  | [] => none
  | r :: rs => if r.id = cid then some (r, rs) else (takeRun cid rs).map (fun x => (x.1, r :: x.2))

/-- A write of the carriage accepted before t0 of its term end is still held: t1 has not been reached (R177). -/
def State.termDrains (s : State) (cid : Nat) : Bool := s.work.waiters.any (fun w => w.cid = cid && w.data.isSome && !w.held)

/-- TERM_END_COMMIT (R177): once the accepted writes have drained, the term ends and the held writes go on in the new one. A term
end that a park, a retag pass or an export has come to defer since its t0 is deferred (R172, R181, R190). -/
def execTermEndCommit (id : BitVec 16) (s : State) : Out :=
  s.command 2 (.termEndCommit id) (fun s =>
  match takeRun id.toNat s.terms.runs with
  | none => .next s.unlist
  | some (r, rs) =>
    if !s.working || s.termDrains id.toNat then .next s.unlist
    else
      let s := { s with terms := { s.terms with runs := rs } }
      if s.deferredBy r.id ≠ 0 then .next ((s.deferTerm r.id r.cmd).resume).tryGlobal
      else
        let s := if (s.carriage r.id).state.eligible then s.endTerm r.id else s
        let s := s.finishAll OD.termEndCarriageTerm r.cmd.toList
        .next (s.resume).tryGlobal)

/-- The TTAG of a page after a retag pass in term `t` (R181). -/
def retagged (t ttag : Nat) : Nat := if (t % 256 + 256 - ttag) % 256 < 128 then ttag else (t % 256 + 256 - 127) % 256

/-- RETAG_PASS_COMPLETE (R181). The 128 terms are those that end at TERM as it stands when the pass ends (DESIGN CHOICE,
log 151). -/
def execRetagPassComplete (id : BitVec 16) (s : State) : Out :=
  s.command 2 (.retagPassComplete id) (fun s =>
  let cid := id.toNat
  if !s.working || !s.terms.retag.contains cid then .next s.unlist
  else
    let t := (s.carriage cid).term
    let s := (s.leavesOf cid).foldl (fun s k =>
      let l := s.leaf k
      if l.allocated then s.setLeaf k { l with ttag := retagged t l.ttag } else s) s
    let s := { s with terms := { s.terms with retag := s.terms.retag.filter (· ≠ cid) } }
    .next s.runDeferred.tryGlobal)

/-! ## Parks (R172, R173, R175, R176) -/

/-- Parks and recalls in progress (R175). -/
def State.movesInProgress (s : State) : Nat := s.terms.parks.length + s.terms.recalls.length

/-- Those of them that go on when a command for the carriage begins: a recall stops the release pass of its own carriage. -/
def State.movesBeside (s : State) (cid : Nat) : Nat := s.terms.parks.countP (fun p => p.id ≠ cid) + s.terms.recalls.length

/-- A park begins with the carriage's term end (R172). -/
def State.beginPark (s : State) (cid : Nat) : State :=
  let p : ParkRun := { id := cid, term := none, copies := [], seals := [], release := false, total := 0 }
  let s := s.setCState cid .parking
  State.requestTerm { s with terms := { s.terms with parks := s.terms.parks ++ [p] } } cid none

/-- The flash-copy-only pages of a carriage that a recall fetches: sided ones first (R174). -/
def State.recallPages (s : State) (cid : Nat) : List Nat :=
  let ks := (s.leavesOf cid).filter (fun k => let l := s.leaf k; l.flashOnly && !l.pois)
  ks.filter (fun k => (s.leaf k).sided) ++ ks.filter (fun k => !(s.leaf k).sided)

/-- A recall begins (R174, R175): a release pass of the carriage's park is stopped. -/
def State.beginRecall (s : State) (cid : Nat) : State :=
  let s := s.setCState cid .recalling
  let r : RecallRun := { id := cid, total := (s.recallPages cid).length, filled := [] }
  State.runDeferred { s with terms := { s.terms with parks := s.terms.parks.filter (fun p => p.id ≠ cid), recalls := s.terms.recalls ++ [r] } }

/-- At most 16 in progress, 64 more wait in arrival order; a further command is refused with result 4 (R175). -/
def State.admitMove (s : State) (park : Bool) (cid : Nat) : State × Answer :=
  if s.movesBeside cid < 16 && s.terms.queue.isEmpty then okResult (if park then s.beginPark cid else s.beginRecall cid) OD.sidingLastResult
  else if s.terms.queue.length < 64 then
    okResult { s with terms := { s.terms with queue := s.terms.queue ++ [{ park := park, id := cid }] } } OD.sidingLastResult
  else refuse s OD.sidingLastResult 4

/-- The carriage can be parked, or recalled, in its present state. -/
def Carriage.takes (c : Carriage) (park : Bool) : Bool := !c.damaged && c.state == (if park then CState.active else CState.parked)

/-- PARK (R172, R175, R176). -/
def execPark (q : Req) (id : BitVec 16) (s : State) : Out :=
  runCmd (.park q id) q OD.sidingPark (toBytes 2 id.toNat) (fun s =>
    let cid := id.toNat
    if !s.exists? cid then refuse s OD.sidingLastResult 1
    else if (s.carriage cid).state == .shadow || (s.carriage cid).state == .deleting then refuse s.unlist OD.sidingLastResult 2
    else if !(s.carriage cid).takes true || s.reverting cid || s.terms.queue.any (fun x => x.id = cid) then refuse s OD.sidingLastResult 2
    else s.admitMove true cid) s

/-- The stripes that `n` pages of a park fill, from a group on, the groups in turn (R341); each takes the group's next number. -/
def State.sideStripes : Nat → Nat → Nat → State → List (Nat × Nat) × State
  | 0, _, _, s => ([], s)
  | fuel + 1, n, g, s =>
    if n = 0 then ([], s)
    else
      let room := (s.groupChannels (g % 4) - 1) * s.planes * 4
      if room = 0 then s.sideStripes fuel n (g + 1)
      else
        let x := mapGet (fun _ => Stripe.initial) s.flash.stripes (g % 4)
        let s := { s with flash := { s.flash with
          stripes := mapSet (fun _ => Stripe.initial) s.flash.stripes (g % 4) { x with number := x.number + 1 } } }
        let r := s.sideStripes fuel (n - room) (g + 1)
        ((g % 4, x.number + 1) :: r.1, r.2)

/-- The siding directory is programmed (R341): the term T and the siding's stripes in order. -/
def State.programSiding (s : State) (p : ParkRun) : State :=
  let r := s.sideStripes (p.copies.length + 4) p.copies.length 0
  let none' : Nat → Siding := fun _ => { term := 0, stripes := [] }
  let d : Siding := { term := p.term.getD 0, stripes := r.1 }
  { r.2 with tables := { r.2.tables with sidings := mapSet none' r.2.tables.sidings p.id d } }.nextWseq

/-- A page whose copy fails on three pairings of pipes is not copied and stays as it is (R382). -/
def ParkRun.without (p : ParkRun) (pages : List Nat) : ParkRun :=
  { p with copies := p.copies.filter (fun e => !pages.contains e.1), seals := p.seals.filter (fun e => !pages.contains e.1) }

/-- PARK_COPY_COMPLETE (R172): the commit point; `faults` are the pipe mismatches that the copies meet (R37, R381, R382). -/
def execParkCopyComplete (id : BitVec 16) (s : State) (faults : List (BitVec 28 × Pairings) := []) : Out :=
  s.command 2 (.parkCopyComplete id faults) (fun s0 =>
  match s0.terms.parks.find? (fun p => p.id = id.toNat && p.term.isSome && !p.release) with
  | none => .next s0.unlist
  | some q =>
    let s := (faults.foldl (fun s f => (s.pipeFaults f.2).1) s0).reportSince s0
    let p := q.without ((faults.filter (fun f => 3 ≤ f.2.length)).map (fun f => f.1.toNat))
    if !s.working then .next (if s0.working then s else s0.unlist)
    else
      let s := { s with terms := { s.terms with parks := s.terms.parks.map (fun x => if x = q then { p with release := true } else x) } }
      .next (((s.programSiding p).setCState p.id .parked).raise 0x2201 0 [(.carriage, p.id)]))

/-- The page has been written in a term from T to the present one, counted modulo 256 (R172). -/
def writtenSince (t term ttag : Nat) : Bool := (ttag + 256 - t % 256) % 256 ≤ (term % 256 + 256 - t % 256) % 256

/-- A page's pending copy becomes its flash copy in the siding (R172). -/
def State.sidePage (s : State) (cid page : Nat) (c : Cipher) (seal? : Option Nat) : State :=
  let key := leafKey cid page
  let s := s.programIn 1 (s.pageName cid page) c
  let s := if seal?.isSome then s.growPair cid page else s
  s.setLeaf key { s.leaf key with
    res := false, ptr := 0, dirty := false, flc := true, sided := true, sealed := seal?.isSome
    pageSeal := BitVec.ofNat 64 (seal?.getD 0) }

/-- The release pass at one page; the flag says that it stays resident. -/
def State.releaseCopy (p : ParkRun) (s : State) (e : Nat × Cipher) : State × Bool :=
  let l := s.leaf (leafKey p.id e.1)
  if l.depot || l.unallocated || l.pois then (s, false)
  else if p.term.any (fun t => writtenSince t (s.carriage p.id).term l.ttag) || l.busy || l.fq then (s, true)
  else (s.sidePage p.id e.1 e.2 ((p.seals.find? (fun x => x.1 = e.1)).map (·.2)), false)

/-- The release pass (R172): the pages left resident are counted. -/
def State.releasePark (s : State) (p : ParkRun) : State :=
  let r := p.copies.foldl (fun (r : State × Nat) e =>
    let x := State.releaseCopy p r.1 e
    (x.1, if x.2 then r.2 + 1 else r.2)) (s, 0)
  let s := r.1
  { s with terms := { s.terms with
      parks := s.terms.parks.filter (· ≠ p), residuals := mapSet (fun _ => 0) s.terms.residuals p.id r.2 } }

/-- PARK_RELEASE_PASS_COMPLETE (R172). -/
def execParkReleasePassComplete (id : BitVec 16) (s : State) : Out :=
  s.command 2 (.parkReleasePassComplete id) (fun s =>
  match s.terms.parks.find? (fun p => p.id = id.toNat && p.release) with
  | none => .next s.unlist
  | some p => if !s.working then .next s.unlist else .next ((s.releasePark p).runDeferred.tryGlobal).resume)

/-! ## Recalls (R174 to R176) -/

/-- A park in its copy phase is cancelled: its pending copies are freed (R175). -/
def State.cancelPark (s : State) (cid : Nat) : State :=
  let s := s.setCState cid .active
  (State.runDeferred { s with terms := { s.terms with parks := s.terms.parks.filter (fun p => p.id ≠ cid) } }).raise 0x2202 0
    [(.carriage, cid)]

/-- A recall command (R175, R176). -/
def recallAct (cid : Nat) : Act := fun s =>
  let c := s.carriage cid
  if !s.exists? cid then refuse s OD.sidingLastResult 1
  else if s.terms.queue.any (fun x => x.id = cid && x.park) then
    okResult ({ s with terms := { s.terms with queue := s.terms.queue.filter (fun x => x.id ≠ cid) } }.raise 0x2202 0
      [(.carriage, cid)]) OD.sidingLastResult
  else if c.damaged || s.terms.queue.any (fun x => x.id = cid) then refuse s OD.sidingLastResult 2
  else match c.state with
  | .parking => okResult (s.cancelPark cid) OD.sidingLastResult
  | .parked => s.admitMove false cid
  | .active => refuse s OD.sidingLastResult 2
  | .free | .recalling | .shadow | .deleting => refuse s.unlist OD.sidingLastResult 2

/-- RECALL (R174). -/
def execRecall (q : Req) (id : BitVec 16) (s : State) : Out := runCmd (.recall q id) q OD.sidingRecall (toBytes 2 id.toNat) (recallAct id.toNat) s

/-- The recall of a page's carriage has filled a frame for it. -/
def State.noteFilled (s : State) (key : Nat) : State :=
  if (s.leaf key).res then
    { s with terms := { s.terms with recalls := s.terms.recalls.map (fun r =>
        if r.id = leafCid key then { r with filled := key :: r.filled } else r) } }
  else s

/-- One page of a recall, under the fault that its move meets: it takes no frame below FreeLow (R141, R174). -/
def State.recallPage (faults : List (BitVec 28 × FetchOutcome)) (s : State) (key : Nat) : State :=
  if (s.leaf key).busy || s.framesFree < s.get OD.spaceFreeLow then s
  else match s.takeFrame with
    | some (f, s) => (s.moveIn (faultOf faults (BitVec.ofNat 28 (leafPage key))) key f).noteFilled key
    | none => s

/-- RECALL_COMPLETE (R174): the pages that frames suffice for are fetched, under the faults that their moves meet (R37); the carriage
becomes Active when none is left. -/
def execRecallComplete (id : BitVec 16) (s : State) (faults : List (BitVec 28 × FetchOutcome) := []) : Out :=
  s.command 2 (.recallComplete id faults) (fun s =>
  let cid := id.toNat
  if !s.working || !s.terms.recalls.any (fun r => r.id = cid) then .next s.unlist
  else
    let s := (s.recallPages cid).foldl (State.recallPage faults) s
    if (s.recallPages cid).isEmpty then
      let s := { s with terms := { s.terms with recalls := s.terms.recalls.filter (fun r => r.id ≠ cid) }
                        tables := { s.tables with sidings := mapErase s.tables.sidings cid } }
      .next (((s.setCState cid .active).raise 0x2203 0 [(.carriage, cid)]).resume)
    else .next s.resume)

/-- PARK_QUEUE_DEQUEUE (R176): causes of event 0x2204 are 1 unusable and 2 state. -/
def execParkQueueDequeue (s : State) : Out :=
  s.command 2 .parkQueueDequeue (fun s =>
  match s.terms.queue with
  | [] => .next s.unlist
  | x :: xs =>
    if 16 ≤ s.movesBeside x.id || !s.working then .next s.unlist
    else
      let s := { s with terms := { s.terms with queue := xs } }
      let c := s.carriage x.id
      if c.damaged || c.state == .free then .next (s.raise 0x2204 0 [(.carriage, x.id), (.u8, 1)])
      else if !c.takes x.park || s.reverting x.id then .next (s.raise 0x2204 0 [(.carriage, x.id), (.u8, 2)])
      else .next (if x.park then s.beginPark x.id else s.beginRecall x.id))

/-! ## Reverts and released snapshots (R185, R186) -/

/-- The conditions of a revert; 0 when they hold. An export of the carriage refuses it with result 2, as R194 says; code 5 of OD 0x3800.0B, which R198
names for an export in progress, is then given nowhere (DESIGN CHOICE, log 179). -/
def State.revertRefusal (s : State) (cid : Nat) : Nat :=
  if !s.exists? cid then 1
  else if (s.carriage cid).state != .active || (s.carriage cid).damaged || s.reverting cid then 2
  else if s.isCoupled cid then 3
  else if s.tables.dropped.contains cid then 4
  else if s.exporting cid then 2
  else 0

/-- REVERT (R185): answered when the carriage has been reverted. -/
def execRevert (q : Req) (id : BitVec 16) (s : State) : Out :=
  runCmd (.revert q id) q OD.termRevert (toBytes 2 id.toNat) (fun s =>
    match s.revertRefusal id.toNat with
    | 0 => ({ s with terms := { s.terms with reverts := s.terms.reverts ++ [(id.toNat, askerOf q)] } }.put OD.termLastResult 0, .later OD.termRevert)
    | r => refuse s OD.termLastResult r) s

/-- A page becomes what its record keeps (R185). -/
def State.revertPage (cid : Nat) (s : State) (r : SnapRecord) : State :=
  let key := leafKey cid r.page
  let c := s.carriage cid
  let name := s.pageName cid r.page
  let s := s.releasePage key
  match r.kind with
  | .zero => s
  | .depot i => s.setLeaf key { Leaf.empty with depot := true, ptr := i, ttag := c.term % 256 }
  | .copy sided sealed pois pageSeal =>
    let s := (s.setFlashCopy name (s.flashCopy (s.snapName cid r.page))).freeCopy (s.snapName cid r.page)
    s.setLeaf key { Leaf.empty with
      flc := (s.flashCopy name).present, sided := sided, sealed := sealed, pois := pois, pageSeal := pageSeal, ttag := c.term % 256 }
  | .frame f =>
    let im := s.snapImage cid r.page f
    (s.program name (flashCipher name im)).setLeaf key { Leaf.empty with
      flc := true, pois := im.bad != 0, sealed := c.sealOn, pageSeal := if c.sealOn then im.pageSeal else 0, ttag := c.term % 256 }

/-- REVERT_COMPLETE (R185): the records are applied and the term ends, so the reverted content is the new snapshot. While a park or
a retag pass defers that term end, event 0x2302 records it and the revert goes on (R172, R181). -/
def execRevertComplete (id : BitVec 16) (s : State) : Out :=
  s.command 2 (.revertComplete id) (fun s =>
  let cid := id.toNat
  let askers := (s.terms.reverts.filter (fun r => r.1 = cid)).map (·.2)
  let t := { s with terms := { s.terms with reverts := s.terms.reverts.filter (fun r => r.1 ≠ cid) } }
  if !s.working || !s.reverting cid then .next s.unlist
  else if t.deferredBy cid ≠ 0 then .next (s.raise 0x2302 0 [(.u8, t.deferredBy cid)])
  else
    let s := (((t.snapRecords cid).foldl (State.revertPage cid) t).setSnaps cid []).endTerm cid
    .next (((s.raise 0x2304 0 [(.carriage, cid)]).finishAll OD.termRevert askers).runDeferred.tryGlobal))

/-- SNAPSHOT_RELEASE_COMPLETE (R186). -/
def execSnapshotReleaseComplete (id : BitVec 16) (s : State) : Out :=
  s.command 2 (.snapshotReleaseComplete id) (fun s =>
  let cid := id.toNat
  if !s.working || !s.terms.detached.any (fun d => d.1 = cid) then .next s.unlist
  else .next (s.releaseDetachedOf cid (fun _ => true)))

end Sys2Proof.Machine
end

