-- ==== Sys2Proof/Machine/Transfer.lean ====
section
/-! DEFINITION. Export and import of carriages (05, R187 to R194; 10, R358, R359, R373, R378). -/
namespace Sys2Proof.Machine

/-! ## Reading and writing pages in the clear -/

/-- The plaintext of a page of a carriage; none when it cannot be read. -/
def State.plainPage (s : State) (cid page : Nat) : Option Image :=
  let key := leafKey cid page
  let l := s.leaf key
  let name := s.pageName cid page
  if (s.poisonAbove cid page).isSome || l.pois then none
  else if l.depot then
    if s.checkDepot cid l.ptr = .ok && !(s.depotEntry l.ptr).pois && !(s.depotEntry l.ptr).damaged then some (s.depotPlain l.ptr) else none
  else if l.res then
    let im := s.residentImage key
    if im.bad = 0 && s.frameServes l.ptr then some im else none
  else if l.flc then (if (s.flashCopy name).lost then none else some (s.flashImage name name))
  else some Image.zero

/-- The bytes of `n` pages of a carriage. -/
def State.plainBytes (s : State) (cid : Nat) : Nat → Nat → Option (List Byte)
  | 0, _ => some []
  | n + 1, page => (s.plainPage cid page).bind (fun i => (s.plainBytes cid n (page + 1)).map (i.bytes ++ ·))

/-- What a page held before it is replaced: its snapshot record, and the rest released (R182). -/
def State.clearPage (s : State) (key : Nat) : State :=
  let cid := leafCid key
  let page := leafPage key
  let l := s.leaf key
  if l.depot then (if s.needsRecord cid page then s.addRecord cid page (.depot l.ptr) else s.depotUnref l.ptr)
  else if l.flc then (if s.needsRecord cid page && l.ttag ≠ (s.carriage cid).term % 256 then s.retainCopy key else s.freePageCopy key)
  else if s.needsRecord cid page then s.addRecord cid page .zero else s

/-- A whole page is written by the controller: Resident, dirty; none when space, nodes or frames are wanting. -/
def State.putPage (s : State) (key : Nat) (im : Image) : Option State :=
  let cid := leafCid key
  let l := s.leaf key
  if l.busy || (s.poisonAbove cid (leafPage key)).isSome then none
  else if l.res && s.frameServes l.ptr then
    (s.snapshotBefore key).map (fun s =>
      let s := s.markDirty key
      (s.placeFrame (s.leaf key).ptr (s.pageCipher key im)).setLeaf key { s.leaf key with pois := false })
  else if !l.allocated && s.get OD.spaceBackingPagesTotal ≤ s.backingUsed then none
  else match s.growPath cid (leafPage key) with
  | (s, .done) => s.takeFrame.map (fun r => ((r.2.clearPage key).fillPage key r.1 im).checkSpace)
  | _ => none

/-! ## What an export reads (R182, R189, R190) -/

/-- A page of the snapshot. -/
inductive SnapPage where
  | absent | plain (i : Image) | depot (index : Nat) | poisoned
  deriving DecidableEq, Repr

/-- An image as exported: one with a poisoned line is poisoned. -/
def plainOf (i : Image) : SnapPage := if i.bad = 0 then .plain i else .poisoned

/-- A depot page that is poisoned or whose entry fails its check (R161), or under a superseded generation (R167), is exported as
poisoned. -/
def State.depotOf (s : State) (i : Nat) : SnapPage :=
  let e := s.depotEntry i
  if e.pois || e.damaged || e.slotGen ≠ (s.slot e.slot).gen || (s.slot e.slot).type ≠ 1 then .poisoned else .depot i

/-- The page as the snapshot holds it: by its record, or as it is. When the snapshot is dropped while an export reads it (R183), its
records are gone and the present content is read (DESIGN CHOICE, log 152). -/
def State.snapPage (s : State) (cid page : Nat) : SnapPage :=
  let l := s.leaf (leafKey cid page)
  match (s.snapRecords cid).find? (fun r => r.page = page) with
  | some r =>
    match r.kind with
    | .zero => .absent
    | .depot i => s.depotOf i
    | .frame f => plainOf (s.snapImage cid page f)
    | .copy _ _ pois _ =>
      if pois || (s.flashCopy (s.snapName cid page)).lost then .poisoned
      else plainOf (s.flashImage (s.snapName cid page) (s.pageName cid page))
  | none =>
    if l.depot && !l.pois then s.depotOf l.ptr
    else if l.unallocated && !l.pois && (s.poisonAbove cid page).isNone then .absent
    else match s.plainPage cid page with | some i => .plain i | none => .poisoned

/-- A number placed in ascending order, once. -/
def placeNat (x : Nat) : List Nat → List Nat
  | [] => [x]
  | y :: ys => if x < y then x :: y :: ys else if x = y then y :: ys else y :: placeNat x ys

/-- Pages that may be in the snapshot: listed leaves, records and poisoned ranges within SIZE, ascending. -/
def State.snapCandidates (s : State) (cid : Nat) : List Nat :=
  let top := (s.carriage cid).size * 512
  let ranges := (s.tables.interior.filter (fun e => e.1 / 2 ^ 20 == cid && e.2.pois)).map (fun e =>
    (List.range (pagesWithin (interiorFirst e.1) (interiorSpan e.1) (s.carriage cid).size)).map (interiorFirst e.1 + ·))
  ((((s.leavesOf cid).map leafPage) ++ (s.snapRecords cid).map (·.page) ++ ranges.flatten).filter (· < top)).foldr placeNat []

/-- The pages of an export. -/
def State.exportPages (s : State) (cid : Nat) : List (Nat × SnapPage) :=
  ((s.snapCandidates cid).map (fun p => (p, s.snapPage cid p))).filter (fun e => e.2 != .absent)

/-! ## Layout (R187 to R189) -/

/-- Records of an export of `n` pages, the manifest counted, and the pages its layout takes. -/
def recordsFor (n : Nat) : Nat := 1 + (n + 254) / 255
def layoutPages (records : Nat) : Nat := 1 + 257 * records

/-- The first page of a record slot. -/
def recordPage (r : Nat) : Nat := 1 + 257 * r

def preambleMagic : Nat := 0x31585A48
def recordMagic : Nat := 0x52585A48

/-- The slot XTS key (R361). -/
def slotXts (root : List Byte) : List Byte := kdf root "SLT-XTS" [] 64

/-- The tweak of a depot page in transit (R358). -/
def transitTweak (index : Nat) : Nat := 3 * 2 ^ 124 + index

/-- The tweak key under which a depot page is carried: its slot, and the page's ciphertext (R359). -/
def State.transitPage (s : State) (index i : Nat) : List Byte :=
  xtsEncrypt (slotXts (s.slot (s.depotEntry i).slot).root) (transitTweak index) (s.depotPlain i).bytes

/-- A page-table entry and the data that follows for it (R189). -/
def State.tableEntry (s : State) (e : Nat × SnapPage) : List Byte :=
  match e.2 with
  | .absent => []
  | .plain _ => padTo 16 (toBytes 4 e.1 ++ [0#8])
  | .depot i => padTo 16 (toBytes 4 e.1 ++ [1#8] ++ toBytes 1 (s.depotEntry i).slot)
  | .poisoned => padTo 16 (toBytes 4 e.1 ++ [2#8])
def State.pageData (s : State) (e : Nat × SnapPage) : List Byte :=
  match e.2 with
  | .absent => []
  | .plain i => i.bytes
  | .depot i => s.transitPage e.1 i
  | .poisoned => []

/-- The body of a pages record. -/
def State.pagesBody (s : State) (es : List (Nat × SnapPage)) : List Byte :=
  padTo 4096 (es.map s.tableEntry).flatten ++ (es.map s.pageData).flatten

/-- The bitmap of the key slots of an export's depot pages. -/
def State.slotBitmap (s : State) (es : List (Nat × SnapPage)) : Nat :=
  es.foldl (fun m e => match e.2 with
    | .depot i => m ||| 2 ^ (s.depotEntry i).slot | .absent => m | .plain _ => m | .poisoned => m) 0

/-- The manifest body. -/
def State.manifest (s : State) (cid : Nat) (es : List (Nat × SnapPage)) : List Byte :=
  let c := s.carriage cid
  padTo 4096 (toBytes 4 c.size ++ toBytes 1 ((if c.sealOn then 1 else 0) + (if c.reserve then 2 else 0)) ++ toBytes 3 0
    ++ toBytes 8 c.label.toNat ++ toBytes 8 c.term ++ toBytes 8 c.termTime ++ toBytes 4 es.length ++ toBytes 32 (s.slotBitmap es))

/-- What every record of an export shares. -/
structure ExportHead where
  exportId : Nat
  records : Nat
  unit : Nat
  key : List Byte
  deriving DecidableEq, Repr

/-- A record header (R188). -/
def recordHeader (h : ExportHead) (kind pages n bodyLen : Nat) : List Byte :=
  let b := toBytes 4 recordMagic ++ toBytes 2 kind ++ toBytes 2 pages ++ toBytes 8 h.exportId ++ toBytes 4 n ++ toBytes 4 h.records
    ++ gcmNonce 0 n ++ toBytes 4 bodyLen ++ toBytes 8 h.unit ++ toBytes 12 0
  b ++ toBytes 4 (crc32c b).toNat

/-- A record slot: the header, the tag, and the body as ciphertext. -/
def recordSlot (h : ExportHead) (kind pages n : Nat) (body : List Byte) : List Byte :=
  let aad := recordHeader h kind pages n body.length
  let ct := gcmCrypt h.key (gcmNonce 0 n) body
  padTo 4096 (aad ++ gcmTag h.key (gcmNonce 0 n) aad ct) ++ padTo (2 ^ 20) ct

/-- The pages records of an export, `n` the number of the next. -/
def State.pageSlots (s : State) (h : ExportHead) : Nat → Nat → List (Nat × SnapPage) → List Byte
  | 0, _, _ => []
  | fuel + 1, n, es =>
    if es.isEmpty then []
    else
      let now := es.take 255
      recordSlot h 1 now.length n (s.pagesBody now) ++ State.pageSlots s h fuel (n + 1) (es.drop 255)

/-- The preamble (R187). -/
def preamble (h : ExportHead) (source : Nat) (eph wrapped : List Byte) : List Byte :=
  let b := toBytes 4 preambleMagic ++ toBytes 2 1 ++ toBytes 2 0 ++ toBytes 8 h.exportId ++ toBytes 8 source ++ toBytes 8 h.unit
    ++ toBytes 4 h.records ++ eph ++ wrapped ++ toBytes 7 0
  padTo 4096 (b ++ toBytes 4 (crc32c b).toNat)

/-- The KEK of a transfer (R378). -/
def transferKek (exportId source dest : Nat) (z : List Byte) : List Byte :=
  hkdfSha384 (toBytes 8 exportId ++ toBytes 8 source ++ toBytes 8 dest) z (strBytes "EXPORT") 32

/-! ## Export (R190) -/

/-- Pages that the snapshot of the term about to end holds at most: those of the present content, those that accepted writes may still
allocate, and the pages of poisoned ranges, each counted once. -/
def State.exportSize (s : State) (cid : Nat) : Nat :=
  let now := ((s.leavesOf cid).filter (fun k => let l := s.leaf k; !l.unallocated || l.pois)).map leafPage
  let coming := (s.work.waiters.filter (fun w => w.cid = cid && w.data.isSome)).map (·.page)
  let ranges := (s.tables.interior.filter (fun e => e.1 / 2 ^ 20 == cid && e.2.pois)).map (·.1)
  let inside := fun (k p level : Nat) => level < interiorLevel k && interiorFirst k ≤ p && p < interiorFirst k + interiorSpan k
  (distinct ((now ++ coming).filter (fun p => !ranges.any (inside · p 0)))).length
  + ((ranges.filter (fun k => !ranges.any (inside · (interiorFirst k) (interiorLevel k)))).map (fun k =>
      pagesWithin (interiorFirst k) (interiorSpan k) (s.carriage cid).size)).sum

/-- The conditions of an export, by the results of OD 0x3700.0B; 0 when they hold. -/
def State.exportRefusal (s : State) (source output : Nat) (key : List Byte) : Nat :=
  let c := s.carriage source
  let o := s.carriage output
  if !s.exists? source || !s.exists? output then 5
  else if !(c.state == .active || c.state == .parked) || c.damaged || s.reverting source || o.state != .active || o.damaged
    || s.reverting output || s.isCoupled output then 2
  else if s.terms.exp.isSome then 3
  else if o.size * 512 < layoutPages (recordsFor (s.exportSize source)) then 4
  else if (ecPoint key).isNone then 8
  else 0

/-- Export (R190): the source's term ends, and the snapshot is then read. -/
def exportAct (source output unit : Nat) (key : List Byte) : Act := fun s =>
  match s.exportRefusal source output key with
  | 0 =>
    let id := s.get OD.transferNextExportId
    let e : ExportRun := { source := source, output := output, unit := unit, key := key, exportId := id, begun := false }
    let s := ((s.put OD.transferNextExportId ((id + 1) % 2 ^ 64)).put OD.transferExportRecords 0)
    okResult (State.requestExportTerm { s with terms := { s.terms with exp := some e } } source) OD.transferLastResult
  | r => refuse s OD.transferLastResult r

/-- EXPORT (R190). -/
def execExportCarriage (q : Req) (source output : BitVec 16) (unit : BitVec 64) (key : List Byte) (s : State) : Out :=
  runCmd (.exportCarriage q source output unit key) q OD.transferExport (toBytes 2 source.toNat ++ toBytes 2 output.toNat ++ toBytes 8 unit.toNat ++ key)
    (exportAct source.toNat output.toNat unit.toNat key) s

/-- The bytes of an export in its output carriage. Transfer key and ephemeral key come from the CTR_DRBG: free values (R373). -/
def State.exportBytes (s : State) (e : ExportRun) : List Byte :=
  let es := s.exportPages e.source
  let tk := freeBytes 32 s.free
  let eph := scalarOf (freeBytes 64 (s.free + 1))
  let unit := s.get OD.identityUnitId
  let h : ExportHead := { exportId := e.exportId, records := recordsFor es.length, unit := e.unit, key := tk }
  let kek := transferKek e.exportId unit e.unit ((ecdh eph e.key).getD [])
  preamble h unit (ecBytes (ecMul 384 eph (some p384Base) none)) (keyWrap kek tk)
    ++ recordSlot h 0 0 0 (s.manifest e.source es) ++ s.pageSlots h es.length 1 es

/-- Pages of bytes are written to a carriage from page 0 on; a page of zeros that is Unallocated stays so. -/
def State.writePages (cid : Nat) : Nat → List (List Byte) → State → Option State
  | _, [], s => some s
  | page, b :: bs, s =>
    let im := imageOf b
    if im = Image.zero && (s.leaf (leafKey cid page)).unallocated then State.writePages cid (page + 1) bs s
    else (s.putPage (leafKey cid page) im).bind (State.writePages cid (page + 1) bs)

/-- The entries of the depot pages that an export reads are checked (R161). -/
def State.checkSnapshot (s : State) (cid : Nat) : State :=
  let leaf := fun (k : Nat) => let l := s.leaf k; if l.depot then [l.ptr] else []
  let kept := fun (r : SnapRecord) => match r.kind with | .depot i => [i] | .zero => [] | .copy _ _ _ _ => [] | .frame _ => []
  ((s.leavesOf cid).flatMap leaf ++ (s.snapRecords cid).flatMap kept).foldl State.checkEntry s

/-- An export whose pipes failed on a block is abandoned (R72, R382); what it has written so far stays. So is one whose source has outgrown the
output carriage while its term end was deferred, for which no rule gives an outcome (DESIGN CHOICE, log 152). -/
def State.dropExport (s : State) (e : ExportRun) : State :=
  (({ s with terms := { s.terms with exp := none } }).abandoned 11 [(.carriage, e.source)]).runDeferred.tryGlobal

/-- EXPORT_COMPLETE (R190): the records lie in the output carriage; deferred term ends of the source go on. -/
def execExportComplete (s : State) (pairings : Pairings := []) : Out :=
  s.command 2 (.exportComplete pairings) (fun s =>
  match s.terms.exp with
  | none => .next s.unlist
  | some e =>
    if !e.begun || !s.working then .next s.unlist
    else
      let old := s
      let (t, bad) := s.pipeFaults pairings
      let s := t.reportSince old
      if bad then .next (s.dropExport e)
      else if !s.working then .next s
      else
      let s := s.checkSnapshot e.source
      let bytes := s.exportBytes e
      let n := recordsFor (s.exportPages e.source).length
      if (s.carriage e.output).size * 512 < layoutPages n then .next (s.dropExport e)
      else match State.writePages e.output 0 (pieces 4096 (bytes.length / 4096) bytes) s with
      | none => .next s.unlist
      | some s =>
        let s := (State.put { s.draw.draw with terms := { s.terms with exp := none } } OD.transferExportRecords n).raise 0x2401 n
          [(.u64, e.exportId)]
        .next s.runDeferred.tryGlobal)

/-! ## Import (R191 to R193) -/

/-- The fields of a preamble whose check holds. -/
structure Preamble where
  exportId : Nat
  source : Nat
  unit : Nat
  records : Nat
  eph : List Byte
  wrapped : List Byte
  deriving DecidableEq, Repr

/-- A preamble read from its page (R187). -/
def parsePreamble (b : List Byte) : Option Preamble :=
  if field b 0 4 = preambleMagic && field b 4 2 = 1 && field b 180 4 = (crc32c (b.take 180)).toNat then
    some { exportId := field b 8 8, source := field b 16 8, unit := field b 24 8, records := field b 32 4
           eph := slice b 36 97, wrapped := slice b 133 40 }
  else none

/-- The transfer key of a preamble, when it unwraps (R378). -/
def State.openTransfer (s : State) (p : Preamble) : Option (List Byte) :=
  (ecdh s.importScalar p.eph).bind (fun z => keyUnwrap (transferKek p.exportId p.source p.unit z) p.wrapped)

/-- The result carriage is created in the Shadow state with a new key generation (R191). -/
def State.writeShadow (s : State) (cid root : Nat) : State :=
  let (g, s) := s.takeKeygen
  let s := ((s.setCarriage cid { s.newCarriage root g 0 0 0 with state := .shadow }).deriveKey cid g).checkNodes
  { s with tables := { s.tables with dropped := if s.tables.dropped.contains cid then s.tables.dropped else cid :: s.tables.dropped } }

/-- An import is accepted. -/
def State.startImport (s : State) (input cid root : Nat) (p : Preamble) (key : List Byte) : State :=
  let s := s.writeShadow cid root
  let i : ImportRun := { input := input, result := cid, exportId := p.exportId, records := p.records, next := 0, key := key, slots := 0 }
  let s := { s with terms := { s.terms with imp := some i } }
  (((s.put OD.transferImportRecords 0).put OD.transferImportTotal p.records).put OD.transferFailedRecord 0xFFFFFFFF).put OD.transferResultId cid

/-- The checks of the preamble and the result ID, then the shadow (R191). Key generations exhausted is result 12 with event 0x2014, and
one beyond the journalled mark waits, as for a create (R126, R518; DESIGN CHOICE, log 153). -/
def State.importFrom (s : State) (input result flags : Nat) (b : List Byte) : State × Answer :=
  let no := fun (s : State) n => refuse s OD.transferLastResult n
  match parsePreamble b with
  | none => no s 6
  | some p =>
    if p.unit ≠ s.get OD.identityUnitId then no s 7
    else match s.openTransfer p with
    | none => no (s.note 0x5041) 8
    | some key =>
      match s.createId result (flags.testBit 0) with
      | none => no s 1
      | some cid =>
        if !cidOk cid || (s.carriage cid).state != .free then no s 1
        else if 0xFFFFFFFF ≤ s.crypt.keyGen then no (s.note 0x2014) 12
        else if s.crypt.keyMark + 1024 ≤ s.crypt.keyGen then fail s stBusy
        else match s.takeNode 1 with
        | none => no s 12
        | some root => okResult (s.startImport input cid root p key) OD.transferLastResult

/-- Import (R191, R197). -/
def importAct (input result flags : Nat) : Act := fun s =>
  let c := s.carriage input
  if !s.exists? input then refuse s OD.transferLastResult 5
  else if c.state != .active || c.damaged || s.isCoupled input then refuse s OD.transferLastResult 2
  else if s.terms.imp.isSome then refuse s OD.transferLastResult 3
  else s.importFrom input result flags ((s.plainBytes input 1 0).getD [])

/-- IMPORT (R191). -/
def execImportCarriage (q : Req) (input result : BitVec 16) (flags : BitVec 8) (s : State) : Out :=
  runCmd (.importCarriage q input result flags) q OD.transferImport (toBytes 2 input.toNat ++ toBytes 2 result.toNat ++ toBytes 1 flags.toNat)
    (importAct input.toNat result.toNat flags.toNat) s

/-- The manifest gives the shadow its size and attributes (R191); none when it cannot be applied. -/
def State.applyManifest (s : State) (cid : Nat) (b : List Byte) : Option State :=
  let size := field b 0 4
  let flags := field b 4 1
  let c := s.carriage cid
  if size < 1 || 524288 < size then none
  else
    let on := flags.testBit 0
    let s := s.setCarriage cid { c with
      size := size, sealOn := on, sealPend := on, reserve := flags.testBit 1, label := BitVec.ofNat 64 (field b 8 8) }
    if !flags.testBit 1 then some s
    else if 4194304 - s.extentsInUse.length < gibOf size then none
    else some (s.reserveExtents cid 0 (gibOf size))

/-- A depot page of an import: decrypted under domain 0x3, then steps 3 to 5 of R163. -/
def State.applyDepot (s : State) (key slot : Nat) (ct : List Byte) : Option State :=
  let cid := leafCid key
  if !(s.passRow cid).getLsbD slot || (s.slot slot).type ≠ 1 then none
  else match s.growNodes cid (leafPage key) with
  | (s, .done) =>
    let im := imageOf (xtsDecrypt (slotXts (s.slot slot).root) (transitTweak (leafPage key)) ct)
    match s.mergePage key slot im with
    | (s, .merged) => some s
    | (s, .new) => some s
    | (_, .stop) => none
    | (_, .zeroed) => none
    | (_, .stays) => none
  | _ => none

/-- One page-table entry is applied, with the data that is left for it and those after it (R192). -/
def State.applyEntry (s : State) (cid : Nat) (entry data : List Byte) : Option (State × List Byte) :=
  let page := field entry 0 4
  let key := leafKey cid page
  if (s.carriage cid).size * 512 ≤ page then none
  else match field entry 4 1 with
  | 0 => (s.putPage key (imageOf (data.take 4096))).map (fun s => (s, data.drop 4096))
  | 1 => (s.applyDepot key (field entry 5 1) (data.take 4096)).map (fun s => (s, data.drop 4096))
  | 2 => match s.growNodes cid page with
    | (s, .done) => some (s.poisonLeaf key, data)
    | _ => none
  | _ => none

/-- The entries of a pages record. -/
def State.applyEntries (cid : Nat) : List (List Byte) → List Byte → State → Option State
  | [], _, s => some s
  | e :: es, data, s => (s.applyEntry cid e data).bind (fun r => State.applyEntries cid es r.2 r.1)

/-- The data pages that a page table announces. -/
def dataPages (es : List (List Byte)) : Nat := es.countP (fun e => field e 4 1 ≤ 1)

/-- A body whose tag has verified is applied: the state, or the result (R192, R193). -/
def State.applyBody (s : State) (i : ImportRun) (pages : Nat) (body : List Byte) : Sum State Nat :=
  if i.next = 0 then
    match s.applyManifest i.result body with
    | some s =>
      let i := { i with slots := BitVec.ofNat 256 (field body 36 32) }
      .inl { s with terms := { s.terms with imp := some i } }
    | none => .inr 12
  else
    let es := pieces 16 pages body
    if body.length ≠ 4096 + 4096 * dataPages es then .inr 11
    else match State.applyEntries i.result es (body.drop 4096) s with | some s => .inl s | none => .inr 12

/-- A record's header agrees with the preamble (R193). -/
def headerOk (i : ImportRun) (unit : Nat) (h : List Byte) : Bool :=
  field h 60 4 = (crc32c (h.take 60)).toNat && field h 8 8 = i.exportId && field h 20 4 = i.records && field h 40 8 = unit

/-- Its number, kind, page count and body length are those of the record awaited. -/
def recordExpected (i : ImportRun) (h : List Byte) : Bool :=
  let n := field h 36 4
  let pages := field h 6 2
  field h 16 4 = i.next && if i.next = 0 then field h 4 2 = 0 && pages = 0 && n = 4096
    else field h 4 2 = 1 && 1 ≤ pages && pages ≤ 255 && 4096 ≤ n && n ≤ 4096 + 4096 * pages && n % 4096 = 0

/-- The next record is checked and applied. -/
def State.importRecord (s : State) (i : ImportRun) : Sum State Nat :=
  let first := recordPage i.next
  if (s.carriage i.input).size * 512 < first + 257 then .inr 11
  else match s.plainBytes i.input 1 first with
  | none => .inr 11
  | some page =>
    let h := page.take 64
    if field h 0 4 ≠ recordMagic then .inr 11
    else if !headerOk i (s.get OD.identityUnitId) h then .inr 10
    else if !recordExpected i h then .inr 11
    else
      let n := field h 36 4
      match s.plainBytes i.input (n / 4096) (first + 1) with
      | none => .inr 11
      | some ct =>
        if gcmTag i.key (slice h 24 12) h ct ≠ slice page 64 16 then .inr 9
        else s.applyBody i (field h 6 2) (gcmCrypt i.key (slice h 24 12) ct)

/-- An import fails: the shadow is released as a delete; event 0x2403 names the record and the cause (R193). -/
def State.failImport (s : State) (i : ImportRun) (cause : Nat) : State :=
  let s := { s with terms := { s.terms with imp := none } }.beginDelete i.result
  ((s.put OD.transferFailedRecord i.next).put OD.transferLastResult cause).raise 0x2403 0 [(.u32, i.next), (.u8, cause)]

/-- IMPORT_RECORD_VERIFIED (R192, R193): the last record publishes the carriage; pipes that fail on a block fail the import with
result 12 (R382). -/
def execImportRecordVerified (record : BitVec 32) (s : State) (pairings : Pairings := []) : Out :=
  s.command 2 (.importRecordVerified record pairings) (fun s =>
  match s.terms.imp with
  | none => .next s.unlist
  | some i =>
    if record.toNat ≠ i.next || !s.working then .next s.unlist
    else
      let old := s
      let (t, bad) := s.pipeFaults pairings
      let s := t.reportSince old
      if !s.working then .next s
      else match (if bad then .inr 12 else s.importRecord i) with
      | .inr cause => .next (s.failImport i cause)
      | .inl s =>
      let n := i.next + 1
      let s := s.put OD.transferImportRecords n
      if i.records ≤ n then
        .next (({ s with terms := { s.terms with imp := none } }.setCState i.result .active).checkSpace.raise 0x2402 0 [(.carriage, i.result)])
      else .next { s with terms := { s.terms with imp := s.terms.imp.map (fun i => { i with next := n }) } })

end Sys2Proof.Machine
end

