-- ==== Sys2Proof/Machine/Keys.lean ====
section
/-! DEFINITION. Key slots, sealed blobs, pipes and passes (10, R365 to R385). -/
namespace Sys2Proof.Machine

/-! ## Key slots (R365 to R370) -/

/-- The store wrap key (R361). -/
def State.storeKey (s : State) : List Byte := s.unitKey "KEY-WRP" 32

/-- A carriage's key: the entry of the carriage-key table names the generation it is derived for (R361, R364). -/
def State.carriageKeyBytes (s : State) (cid : Nat) : List Byte :=
  kdf (s.unitKey "CAR-MST" 32) "CAR-XTS" (toBytes 2 cid ++ toBytes 4 (mapGet (fun _ => 0) s.crypt.keyTable cid)) 64

/-- The slot record is journalled, and its mark (R369, R374, R517). -/
def State.journalSlot (s : State) (n : Nat) : State :=
  let x := s.slot n
  let wrapped := if x.type = 0 then List.replicate 40 0#8 else keyWrap s.storeKey x.root
  let s := s.journal 0x0021 n (toBytes 1 x.type ++ toBytes 4 x.gen ++ toBytes 4 x.check ++ wrapped)
  s.journal 0x0020 n (toBytes 8 x.mark)

/-- An admission, export or import in progress names the slot (R369). -/
def State.slotInUse (s : State) (n : Nat) : Bool :=
  s.terms.admission.any (fun a => a.slot = n)
  || s.terms.imp.any (fun i => i.slots.getLsbD n)
  || s.terms.exp.any (fun e => (s.exportPages e.source).any (fun p => match p.2 with
      | .depot i => (s.depotEntry i).slot = n | .absent => false | .plain _ => false | .poisoned => false))

/-- The root key of a wrapped blob (R366). -/
def State.unwrapRoot (s : State) (n : Nat) (blob : List Byte) : Option (List Byte) :=
  (ecdh s.importScalar (slice blob 8 97)).bind (fun z =>
    keyUnwrap (hkdfSha384 (toBytes 8 (s.get OD.identityUnitId)) z (strBytes "SLOT-LOAD" ++ toBytes 1 n) 32) (slice blob 105 40))

/-- The conditions of a load by its blob, and the root key it carries (R366 to R369); the results of OD 0x7000+s.08. -/
def State.loadRoot (s : State) (n : Nat) (blob : List Byte) : Sum (List Byte) Nat :=
  let type := field blob 0 1
  let format := field blob 1 1
  let expect := field blob 4 4
  if !(format = 0 && blob.length = 40 || format = 1 && blob.length = 145) then .inr 7
  else if !(type = 1 || type = 2) then .inr 1
  else if format = 0 && !(s.ctl.mode == .maintenance && s.flag OD.pipesPlainKeyLoad) then .inr 2
  else match (if format = 0 then some (slice blob 8 32) else s.unwrapRoot n blob) with
  | none => .inr 3
  | some root =>
    if expect ≠ 0xFFFFFFFF && expect ≠ checkValue root then .inr 4
    else if s.slotInUse n then .inr 5
    else if (s.slot n).gen = 0xFFFFFFFE then .inr 6
    else .inl root

/-- The accesses that a load or an erase of the slot held may resume (R369). -/
def State.freeSlot (s : State) (n : Nat) : State :=
  State.resume { s with work := { s.work with slotHolds := s.work.slotHolds.filter (fun e => e.1 ≠ n) } }

/-- The new key and generation replace the old ones (R368). -/
def State.loadSlot (s : State) (n type : Nat) (root : List Byte) : State :=
  let g := (s.slot n).gen + 1
  let x : Slot := { type := type, root := root, check := checkValue root, gen := g, counter := 0, mark := 0, exhausted := false,
                    passed63 := false }
  (((s.setSlot n x).journalSlot n).raise 0x5001 0 [(.u16, n), (.u8, type), (.u32, g), (.u32, x.check)]).freeSlot n

/-- A write to a slot's Key object. The refusal with result 6 raises no event (R368). -/
def loadAct (n : Nat) (blob : List Byte) : Act := fun s =>
  match s.loadRoot n blob with
  | .inl root => okResult (s.loadSlot n (field blob 0 1) root) (OD.slotLastResult n)
  | .inr r => refuse (s.when (r ≠ 6) (·.raise 0x5003 0 [(.u16, n), (.u8, r)])) (OD.slotLastResult n) r

/-- Depot accesses of the slot, past their pass check, wait on a fetch (R369). -/
def State.slotFetching (s : State) (n : Nat) : Bool := s.tables.depot.any (fun e => e.2.busy && e.2.slot = n)

/-- A load or an erase waits for those accesses (R369), if it would then be done; one that is refused is refused at once (DEDUCED,
log 188). -/
def State.slotWaits (s : State) (q : Req) (f : ReqFrame) (n : Nat) (done : Bool) : Bool :=
  !(byPorters q.src && s.reloads 0) && s.slotFetching n && (s.checkObject q.src f).isNone && done

/-- From then on new accesses of the slot are held (R369), those received before excepted (DEDUCED, log 188). -/
def State.holdSlot (s : State) (n : Nat) (c : Instr) : State :=
  let h := if s.work.slotHolds.any (fun e => e.1 = n) then s.work.slotHolds else (n, s.work.orders + 1) :: s.work.slotHolds
  State.delay { s with work := { s.work with slotHolds := h } } c

/-- KEY_LOAD (R366, R368, R369). -/
def execKeyLoad (q : Req) (slot : BitVec 8) (blob : List Byte) (s : State) : Out :=
  let n := slot.toNat
  if s.slotWaits q { opcode := opWrite, index := 0x7000 + n, sub := 1, payload := blob } n (s.loadRoot n blob).isLeft then
    .next (s.holdSlot n (.keyLoad q slot blob))
  else runReq (.keyLoad q slot blob) q opWrite (0x7000 + n) 1 blob (loadAct n blob) s

/-- Erase (R368): the keys are zeroed, the generation stays. -/
def eraseAct (n : Nat) : Act := fun s =>
  if s.slotInUse n then refuse s (OD.slotLastResult n) 5
  else if (s.slot n).type = 0 then okResult s (OD.slotLastResult n)
  else
    let s := (s.setSlot n { Slot.empty with gen := (s.slot n).gen }).journalSlot n
    okResult ((s.raise 0x5002 0 [(.u16, n)]).freeSlot n) (OD.slotLastResult n)

/-- KEY_SLOT_ERASE (R368, R369). -/
def execKeySlotErase (q : Req) (slot : BitVec 8) (s : State) : Out :=
  let n := slot.toNat
  let k := OD.slotErase n
  if s.slotWaits q { opcode := opExecute, index := k / 256, sub := k % 256, payload := [] } n ((s.slot n).type ≠ 0 && !s.slotInUse n) then
    .next (s.holdSlot n (.keySlotErase q slot))
  else runCmd (.keySlotErase q slot) q k [] (eraseAct n) s

/-! ## Sealed blobs (R373 to R380) -/

/-- A slot's GCM key (R361). -/
def sealKey (root : List Byte) : List Byte := kdf root "SLT-GCM" [] 32

/-- The counter of an invocation is spent; the next mark is journalled 2^16 before the limit, and the passing of 2^63 is
reported once (R374, R376). -/
def State.spend (s : State) (n : Nat) : State :=
  let x := s.slot n
  let c := x.counter + 1
  let passed := 2 ^ 63 ≤ c && !x.passed63
  let s := s.setSlot n { x with counter := c, passed63 := x.passed63 || passed }
  let s := if c = x.mark + 2 ^ 20 - 2 ^ 16 then s.journal 0x0020 n (toBytes 8 (x.mark + 2 ^ 20)) else s
  s.when passed (·.raise 0x5011 0 [(.u16, n)])

/-- A blob is sealed: nonce, ciphertext, tag (R379). -/
def State.sealNow (s : State) (n : Nat) (aad plain : List Byte) : State × List Byte :=
  let x := s.slot n
  let nonce := gcmNonce x.gen x.counter
  let ct := gcmCrypt (sealKey x.root) nonce plain
  (s.spend n, nonce ++ ct ++ gcmTag (sealKey x.root) nonce aad ct)

/-- Seal (R376, R379): an invocation at the limit waits for the high-water record (R374). -/
def sealAct (src : Transport) (tag n : Nat) (aad plain : List Byte) (pairings : Pairings) : Act := fun s =>
  let x := s.slot n
  if x.type ≠ 2 then refuse s OD.sealingLastResult 1
  else if 64 < aad.length || plain.length < 1 || 896 < plain.length then refuse s OD.sealingLastResult 3
  else if x.exhausted then refuse s OD.sealingLastResult 2
  else if 2 ^ 64 - 2 ^ 20 ≤ x.counter then
    refuse ((s.setSlot n { x with exhausted := true }).raise 0x5012 0 [(.u16, n)]) OD.sealingLastResult 2
  else if x.mark + 2 ^ 20 ≤ x.counter then
    let w : SealWait := { src := src, tag := tag, slot := n, aad := aad, plain := plain, since := s.uptime, pairings := pairings }
    ({ s with crypt := { s.crypt with sealWaits := s.crypt.sealWaits ++ [w] } }, .later OD.sealingSeal)
  else
    let (t, bad) := s.pipeFaults pairings
    let s := t.reportSince s
    if bad then refuse (s.spend n) OD.sealingLastResult 3
    else
      let (s, b) := s.sealNow n aad plain
      okWith (s.put OD.sealingLastResult 0) b

/-- SEAL_BLOB (R379, R382). -/
def execSealBlob (q : Req) (slot : BitVec 8) (aad plaintext : List Byte) (s : State) (pairings : Pairings := []) : Out :=
  runCmd (.sealBlob q slot aad plaintext pairings) q OD.sealingSeal (toBytes 1 slot.toNat ++ toBytes 1 aad.length ++ toBytes 2 plaintext.length ++ aad ++ plaintext)
    (sealAct q.src q.tag.toNat slot.toNat aad plaintext pairings) s

/-- Unseal (R379, R380): no plaintext is released before the tag has verified. -/
def unsealAct (n : Nat) (aad nonce ct tag : List Byte) (pairings : Pairings) : Act := fun s =>
  let x := s.slot n
  if x.type ≠ 2 then refuse s OD.sealingLastResult 1
  else if 64 < aad.length || nonce.length ≠ 12 || ct.length < 1 || 896 < ct.length || tag.length ≠ 16 then refuse s OD.sealingLastResult 3
  else if field nonce 0 4 ≠ x.gen then refuse s OD.sealingLastResult 4
  else
    let (t, bad) := s.pipeFaults pairings
    let s := t.reportSince s
    if bad then refuse s OD.sealingLastResult 3
    else if gcmTag (sealKey x.root) nonce aad ct ≠ tag then refuse (s.raise 0x5040 0 [(.u16, n)]) OD.sealingLastResult 5
    else okWith (s.put OD.sealingLastResult 0) (gcmCrypt (sealKey x.root) nonce ct)

/-- UNSEAL_BLOB (R379, R382). An unseal has no counter value to spend (R382 names one for both: DEDUCED, log 157). -/
def execUnsealBlob (q : Req) (slot : BitVec 8) (aad nonce ciphertext tag : List Byte) (s : State) (pairings : Pairings := []) : Out :=
  runCmd (.unsealBlob q slot aad nonce ciphertext tag pairings) q OD.sealingUnseal (toBytes 1 slot.toNat ++ toBytes 1 aad.length ++ toBytes 2 ciphertext.length ++ aad ++ nonce ++ ciphertext ++ tag)
    (unsealAct slot.toNat aad nonce ciphertext tag pairings) s

/-- A seal that waited goes on; a wait of more than 1 ms is reported (R374). -/
def State.resumeSeal (s : State) (w : SealWait) : State :=
  let s := s.when (w.since + 1000000 < s.uptime) (·.raise 0x5013 ((s.uptime - w.since) / 1000) [(.u16, w.slot)])
  match sealAct w.src w.tag w.slot w.aad w.plain w.pairings s with
  | (s, .reply r) => match findSession w.src s.zop.sessions with | some x => s.finishIn OD.sealingSeal r x | none => s
  | (s, .later _) => s

/-- The mark that the journal holds for a context: a slot, or 256 for the vault. -/
def State.markOf (s : State) (context : Nat) : Nat := field ((s.journaled 0x0020 context).getD []) 0 8

/-- NONCE_MARK_RECORDED (R374): the new mark is in force and the invocations that waited for it go on. -/
def execNonceMarkRecorded (context : Fin 257) (s : State) : Out :=
  let m := s.markOf context.val
  if context.val = 256 then .next { s with crypt := { s.crypt with vaultMark := max s.crypt.vaultMark m } }
  else
    let x := s.slot context.val
    let s := s.setSlot context.val { x with mark := max x.mark m }
    let ws := s.crypt.sealWaits
    let s := { s with crypt := { s.crypt with sealWaits := ws.filter (fun w => w.slot ≠ context.val) } }
    .next ((ws.filter (fun w => w.slot = context.val)).foldl State.resumeSeal s)

/-! ## Pipes (R381, R385) -/

/-- Mismatches of a pipe within the last hour. -/
def State.recentMismatches (s : State) (p : Nat) : Nat :=
  (mapGet (fun _ => []) s.crypt.mismatches p).countP (fun t => s.uptime ≤ t + 3600000000000)

/-- A quarantined pipe's self-test ends (R381). -/
def State.pipeTested (s : State) (p : Nat) (pass : Bool) : State :=
  let c := s.crypt
  let s := { s with crypt := { c with testing := c.testing &&& ~~~(pipeBit p) } }
  if pass && s.recentMismatches p < 2 then
    { s with crypt := { s.crypt with
        quarantined := c.quarantined &&& ~~~(pipeBit p), untilBoot := c.untilBoot &&& ~~~(pipeBit p) } }.raise 0x5022 0 [(.u8, p)]
  else { s with crypt := { s.crypt with untilBoot := c.untilBoot ||| pipeBit p } }.raise 0x5021 s.pipesUsable [(.u8, p)]

/-- PIPE_SELFTEST_COMPLETE (R381). -/
def execPipeSelftestComplete (pipe : Pipe) (pass : Bool) (s : State) : Out :=
  if s.crypt.testing.getLsbD pipe.val then .next (s.pipeTested pipe.val pass) else .next s.unlist

/-- PIPE_RETEST (R381, R385): every quarantined pipe is tested. -/
def execPipeRetest (q : Req) (pass : BitVec 40) (s : State) : Out :=
  runCmd (.pipeRetest q pass) q OD.pipesPipeRetest [] (fun s =>
    if s.ctl.mode != .maintenance then refuse s OD.pipesLastResult 1
    else
      let ps := (List.range 40).filter (fun p => s.crypt.quarantined.getLsbD p)
      okResult (ps.foldl (fun s p => s.pipeTested p (pass.getLsbD p)) s) OD.pipesLastResult) s

/-! ## Passes (R371, R372) -/

/-- Writing a pass row, a metadata-significant change (R371). -/
def State.setPassRow (s : State) (cid : Nat) (row : BitVec 256) : State :=
  if s.passRow cid = row then s
  else State.touch { s with tables := { s.tables with passes := mapSet (fun _ => 0) s.tables.passes cid row } } (linePass cid)

/-- Grant and Revoke (R372). -/
def passAct (cid : Nat) (change : BitVec 256 → BitVec 256) : Act := fun s =>
  if !cidOk cid then fail s stRange
  else if (s.carriage cid).state == .deleting then refuse s OD.passesLastResult 1
  else okResult (s.setPassRow cid (change (s.passRow cid))) OD.passesLastResult

/-- PASS_GRANT (R372). -/
def execPassGrant (q : Req) (id : BitVec 16) (slot : BitVec 8) (s : State) : Out :=
  runCmd (.passGrant q id slot) q OD.passesGrant (toBytes 2 id.toNat ++ toBytes 1 slot.toNat) (passAct id.toNat (fun r => r ||| (1#256 <<< slot.toNat))) s

/-- PASS_REVOKE (R372). -/
def execPassRevoke (q : Req) (id : BitVec 16) (slot : BitVec 8) (s : State) : Out :=
  runCmd (.passRevoke q id slot) q OD.passesRevoke (toBytes 2 id.toNat ++ toBytes 1 slot.toNat)
    (passAct id.toNat (fun r => r &&& ~~~(1#256 <<< slot.toNat))) s

/-- REVOKE_SLOT (R372): the slot's bit is cleared in every row. -/
def execRevokeSlot (q : Req) (slot : BitVec 8) (s : State) : Out :=
  runCmd (.revokeSlot q slot) q OD.passesRevokeSlot (toBytes 1 slot.toNat) (fun s =>
    let rows := s.tables.passes.map (·.1)
    okResult (rows.foldl (fun s c => s.setPassRow c (s.passRow c &&& ~~~(1#256 <<< slot.toNat))) s) OD.passesLastResult) s

end Sys2Proof.Machine
end

