-- ==== Sys2Proof/Machine/Gauge.lean ====
section
/-! DEFINITION. The battery gauge and ageing (11, R394 to R417): readings, the pack's class, states of charge, rest points,
learning, usable energy, monitors and the margin plan. -/
namespace Sys2Proof.Machine

/-! ## Tables (R397, R398, R403) -/

/-- Entry x of the OCV table, in mV. -/
def State.ocvEntry (s : State) (x : Nat) : Nat := field (s.blob OD.gaugeOcvTable) (2 * x) 2

/-- The OCV table at x %, interpolated. -/
def State.ocvAt (s : State) (x : Rat) : Rat :=
  let i := min x.floor.toNat 99
  s.ocvEntry i + (s.ocvEntry (i + 1) - s.ocvEntry i : Rat) * (x - i)

/-- The first entry from `i` on that a voltage does not exceed, interpolated from the one before it. -/
def State.ocvFind (s : State) (v : Rat) : Nat → Nat → Rat
  | 0, _ => 100
  | n + 1, i =>
    let a : Rat := s.ocvEntry i
    let b : Rat := s.ocvEntry (i + 1)
    if v ≤ b then i + (v - a) / (b - a) else s.ocvFind v n (i + 1)

/-- The OCV lookup: the state of charge in 1/100 % for a cell voltage, clamped to 0 to 100 % (R397), rounded down. -/
def State.ocvLookup (s : State) (v : Rat) : Nat :=
  if v ≤ s.ocvEntry 0 then 0
  else if (s.ocvEntry 100 : Rat) ≤ v then 10000
  else (s.ocvFind v 100 0 * 100).floor.toNat

/-- The temperatures of RFactor, in 0.1 °C. -/
def factorTemps : List Int := [-200, 0, 100, 250, 450]

/-- f(T) between the points from `i` on. -/
def State.factorFrom (s : State) (t : Int) : Nat → List Int → Rat
  | i, t0 :: t1 :: ts =>
    let f := fun (j : Nat) => (field (s.blob OD.gaugeRFactor) (2 * j) 2 : Rat) / 100
    if t ≤ t0 then f i
    else if t ≤ t1 then f i + (f (i + 1) - f i) * ((t - t0 : Int) : Rat) / ((t1 - t0 : Int) : Rat)
    else s.factorFrom t (i + 1) (t1 :: ts)
  | i, _ => (field (s.blob OD.gaugeRFactor) (2 * i) 2 : Rat) / 100

/-- f(T) (R403): constant outside −20 °C to 45 °C. -/
def State.factor (s : State) (t : Int) : Rat := s.factorFrom t 0 factorTemps

/-! ## Readings (R395, R396) -/

/-- The cells, the pack voltage and the lowest cell of a reading, in mV. -/
def cellsOf (r : GaugeReading) : List Nat := [r.cell1, r.cell2, r.cell3, r.cell4]
def packOf (r : GaugeReading) : Nat := r.cell1 + r.cell2 + r.cell3 + r.cell4
def lowestOf (r : GaugeReading) : Nat := min (min r.cell1 r.cell2) (min r.cell3 r.cell4)

/-- T (R395, R396): the lower thermistor; an ignored one does not count, and with both ignored T is −20 °C. -/
def tempOf (r : GaugeReading) : Int :=
  match r.th1, r.th2 with
  | some a, some b => min a b
  | some a, none => a
  | none, some b => b
  | none, none => -200

/-- A cell is out of its range. -/
def cellFaultOf (r : GaugeReading) : Bool := (cellsOf r).any (fun v => v < 2500 || 4350 < v)

/-- The pack's class (R396): 0 not configured, 1 absent, 2 fault, 3 provisional, 4 normal. -/
def State.packClass (s : State) : Nat :=
  if s.get OD.gaugeDesignCapacity = 0 then 0
  else if s.gauge.absent then 1
  else match s.gauge.reading with
  | none => 3
  | some r => if (cellFaultOf r) || (tempOf r) < -200 then 2 else if s.gauge.provisional then 3 else 4

/-- R = LearnedR25 × f(T), in µΩ (R398). -/
def State.packResistance (s : State) (r : GaugeReading) : Rat := s.get OD.learningLearnedR25 * s.factor (tempOf r)

/-- SOC_v in 1/100 % (R398). -/
def State.socVoltage (s : State) (r : GaugeReading) : Nat :=
  s.ocvLookup ((lowestOf r) + (r.current : Rat) * s.packResistance r / 4000000)

/-! ## Usable energy (R402, R403) -/

/-- The steps of R402 from x down: the energy in J. Resistances are in µΩ, voltages in mV, the power in W, the charge in C. -/
def State.energyFrom (s : State) (floor power r q : Rat) : Nat → Rat → Rat
  | 0, _ => 0
  | n + 1, x =>
    if x ≤ floor then 0
    else
      let low : Rat := max ((x.ceil - 1 : Int) : Rat) floor
      let step := x - low
      let v := 4 * s.ocvAt (x - step / 2)
      let vl := v - power * r / v
      if vl < 4 * s.get OD.gaugeCutoffCell then 0
      else step / 100 * q * vl / 1000 + s.energyFrom floor power r q n low

/-- E_b in J, rounded down (R402): halved in the Provisional class, 0 in the first three. -/
def State.packEnergy (s : State) : Nat :=
  let c := s.packClass
  match s.gauge.reading with
  | none => 0
  | some r =>
    if c < 3 then 0
    else
      let q : Rat := (s.get OD.learningLearnedCapacity : Rat) * 36 / 100
      let e := s.energyFrom (s.get OD.gaugeSocFloor) s.planPower (s.packResistance r) q 102 ((s.get OD.gaugeSocPlanning : Rat) / 100)
      (if c = 3 then e / 2 else e).floor.toNat

/-- E_b is recomputed; a change by more than 5 % since the planner's last computation is one of its triggers (R218). -/
def State.computeEnergy (s : State) : State :=
  let e := s.packEnergy
  let s := s.put OD.gaugeUsableEnergy e
  let old := s.flush.lastEnergy
  if old * 5 < (max e old - min e old) * 100 then s.replan else s

/-- ENERGY_RECOMPUTE (R403). -/
def execEnergyRecompute (s : State) : Out := .next s.computeEnergy

/-! ## The planning state of charge (R400) -/

/-- SOC_cc in 1/100 %. -/
def State.socCoulomb (s : State) : Nat := s.gauge.coulomb / 10000

/-- SOC_p and its source (R400). -/
def State.planningSoc (s : State) (r : GaugeReading) : Nat × Nat :=
  let v := s.socVoltage r
  if s.packClass < 3 then (0, 0)
  else if s.flag OD.gaugeAtRest then (s.gauge.ocvNow, 1)
  else if s.socCoulomb ≤ v then (s.socCoulomb, 2) else (v, 3)

/-- What a class that has been entered raises, and a condition of Fault that comes to hold in it (R396). -/
def State.enterClass (s : State) (old : Nat) (was : Option GaugeReading) : State :=
  let c := s.packClass
  let fresh := fun (p : GaugeReading → Bool) => s.gauge.reading.any p && (old ≠ 2 || !was.any p)
  if c = 1 then s.when (old ≠ 1) (·.note 0x6015)
  else if c = 2 then (s.when (fresh cellFaultOf) (·.note 0x6019)).when (fresh (fun r => tempOf r < -200)) (·.note 0x6017)
  else s

/-- Class, states of charge and source are recomputed; E_b at once when the class or the source changes (R403). -/
def State.estimateFrom (s : State) (was : Option GaugeReading) : State :=
  let oldClass := s.get OD.gaugePackState
  let oldSource := s.get OD.gaugeEstimate
  let s := (s.put OD.gaugePackState s.packClass).enterClass oldClass was
  match s.gauge.reading with
  | none => s
  | some r =>
    let (p, src) := s.planningSoc r
    let s := (((s.put OD.gaugeSocCoulomb s.socCoulomb).put OD.gaugeSocVoltage (s.socVoltage r)).put OD.gaugeSocPlanning p).put
      OD.gaugeEstimate src
    if s.packClass = oldClass && src = oldSource then s else s.computeEnergy

/-- The same with no new reading. -/
def State.estimate (s : State) : State := s.estimateFrom s.gauge.reading

/-! ## Samples (R395 to R399) -/

/-- A thermistor as OD 0x8000.0D gives it. -/
def thermistorWord (t : Option Int) : Nat := match t with | some v => ofSigned 16 v | none => 0x8000

/-- The reading as the objects show it. -/
def State.showReading (s : State) (r : GaugeReading) : State :=
  let s := (s.put OD.gaugePackVoltage (packOf r)).putBlob OD.gaugeCellVoltages ((cellsOf r).flatMap (toBytes 2))
  (s.putInt OD.gaugeCurrent r.current).putBlob OD.gaugeTemperatures (toBytes 2 (thermistorWord r.th1) ++ toBytes 2 (thermistorWord r.th2))

/-- Thermistor inputs that come to be ignored, and a temperature that rises above 60 °C (R396). -/
def State.checkTemps (s : State) (old : Option GaugeReading) (r : GaugeReading) : State :=
  let was := fun (f : GaugeReading → Option Int) => old.any (fun o => (f o).isNone)
  let lost := (r.th1.isNone && !was (·.th1)) || (r.th2.isNone && !was (·.th2))
  let hot := 600 < (tempOf r) && !old.any (fun o => 600 < (tempOf o))
  (s.when lost (·.note 0x6016)).when hot (·.note 0x6017)

/-- The pack returns from Absent (R396): LearnedCapacity is 0.9 × DesignCapacity, and a re-learning is forced. -/
def State.packReturns (s : State) (r : GaugeReading) : State :=
  if s.gauge.absent && 4000 ≤ (packOf r) then
    let s := { s with gauge := { s.gauge with absent := false, provisional := true, anchorDue := true, waitingCapacity := none } }
    ((s.put OD.learningLearnedCapacity (s.get OD.gaugeDesignCapacity * 9 / 10)).putFlag OD.learningForcedRelearn true).updateReserve
  else s

/-- SOC_cc after a sample (R398 to R400): the anchor of the first reading, SOC_ocv at rest, else the count. -/
def State.countCharge (s : State) (r : GaugeReading) : Nat :=
  let q := 360 * s.get OD.learningLearnedCapacity
  let now := s.ocvLookup (lowestOf r) * 10000
  if s.gauge.anchorDue || s.flag OD.gaugeAtRest then now
  else if q = 0 then s.gauge.coulomb
  else
    let x : Int := s.gauge.coulomb - r.charge * 100000000 / (q : Int)
    if x < 0 then 0 else min x.toNat 100000000

/-- Rest ends when |I| reaches 50 mA; the quiet window begins again then, and when the spread reaches 8 mV (R399). -/
def State.watchRest (s : State) (r : GaugeReading) : State :=
  let g := s.gauge
  let loud := 50 ≤ r.current.natAbs
  let lo := min g.quietLow (packOf r)
  let hi := max g.quietHigh (packOf r)
  let s := if loud then s.putFlag OD.gaugeAtRest false else s
  if loud || 8 ≤ hi - lo || g.reading.isNone then
    { s with gauge := { s.gauge with quietSince := s.uptime, quietLow := (packOf r), quietHigh := (packOf r) } }
  else { s with gauge := { s.gauge with quietLow := lo, quietHigh := hi } }

/-- GAUGE_SAMPLE (R395 to R400). -/
def execGaugeSample (reading : GaugeReading) (s : State) : Out :=
  let old := s.gauge.reading
  let s := ((s.packReturns reading).watchRest reading).showReading reading
  let cc := s.countCharge reading
  let s := { s with
    gauge := { s.gauge with
      reading := some reading, coulomb := cc, charge := s.gauge.charge + reading.charge, anchorDue := false
      warmEnough := s.gauge.warmEnough && decide (100 ≤ (tempOf reading))
      ocvNow := s.ocvLookup (lowestOf reading) }
    power := { s.power with confirmed := s.power.confirmed || (s.power.batsel != 0 && decide (1000 ≤ reading.current)) } }
  .next ((s.checkTemps old reading).estimateFrom old)

/-- PACK_ABSENT (R396): counting is broken. -/
def execPackAbsent (s : State) : Out :=
  if s.gauge.absent || s.gauge.reading.any (fun r => 4000 ≤ (packOf r)) then .next s.unlist
  else
    let s := { s with gauge := { s.gauge with absent := true, unbroken := false } }
    .next (s.putFlag OD.gaugeAtRest false).estimate.computeEnergy

/-! ## Learning (R401, R404 to R408) -/

/-- Q_L as learning continues it: the value that waits for its record, or the one in use. -/
def State.capacityNow (s : State) : Nat := s.gauge.waitingCapacity.getD (s.get OD.learningLearnedCapacity)
def State.r25Now (s : State) : Nat := s.gauge.waitingR25.getD (s.get OD.learningLearnedR25)

/-- A record is to be journalled with these FLAGS (R408). -/
def State.oweRecord (s : State) (flags : Nat) : State :=
  { s with gauge := { s.gauge with recordDue := true, recordFlags := s.gauge.recordFlags ||| flags } }

/-- A learned capacity: a lower one applies at once, a higher one with its record (R407). -/
def State.setCapacity (s : State) (q : Nat) : State :=
  if q ≤ s.get OD.learningLearnedCapacity then
    State.put { s with gauge := { s.gauge with waitingCapacity := none } } OD.learningLearnedCapacity q
  else { s with gauge := { s.gauge with waitingCapacity := some q } }

/-- A learned resistance: a higher one applies at once, a lower one with its record (R407). -/
def State.setR25 (s : State) (r : Nat) : State :=
  if s.get OD.learningLearnedR25 ≤ r then
    State.put { s with gauge := { s.gauge with waitingR25 := none } } OD.learningLearnedR25 r
  else { s with gauge := { s.gauge with waitingR25 := some r } }

/-- LEARNING_ACCEPTED (R405). -/
def State.acceptCapacity (s : State) (new : Nat) : State :=
  let old := s.capacityNow
  let forced := s.flag OD.learningForcedRelearn
  let dis := s.flag OD.gaugeDisagreement
  let q := if forced then new else (3 * old + new) / 4
  let s := (s.setCapacity q).oweRecord ((if forced then 1 else 0) + (if dis then 2 else 0))
  let s := ((s.putFlag OD.learningForcedRelearn false).putFlag OD.gaugeDisagreement false).putFlag OD.learningDerated false
  let s := ((s.put OD.learningLastLearnTime s.clock).bump OD.learningLearnCount 1).keep OD.learningDaysSinceLearning 0
  let s := { s with gauge := { s.gauge with dayTime := s.uptime } }
  (s.raise 0x6012 old [(.u32, q)]).updateReserve

/-- A learning is rejected (R404). -/
def State.rejectCapacity (s : State) (cause : Nat) : State :=
  (s.put OD.learningLastRejectCause cause).raise 0x6013 0 [(.u8, cause)]

/-- Two consecutive rest points, A and B (R404): causes 1 swing, 2 temperature, 3 interval, 4 counting break, 5 out of range. -/
def State.learnBetween (s : State) (a : RestMark) (soc : Nat) : State :=
  let d := max soc a.soc - min soc a.soc
  let design := s.get OD.gaugeDesignCapacity
  let new := s.gauge.charge.natAbs * 10000 / (d * 360)
  if d < s.get OD.learningLearnMinSwing * 100 then s.rejectCapacity 1
  else if !s.gauge.warmEnough then s.rejectCapacity 2
  else if a.time + 14 * 86400 * 1000000000 < s.uptime then s.rejectCapacity 3
  else if !s.gauge.unbroken then s.rejectCapacity 4
  else if 2 * new < design || 11 * design < 10 * new then s.rejectCapacity 5
  else s.acceptCapacity new

/-- The estimates differ by more than 15 points (R401). -/
def State.checkAgreement (s : State) (soc : Nat) : State :=
  let d := max soc s.socCoulomb - min soc s.socCoulomb
  if d ≤ 1500 then s
  else
    let s := ((s.putFlag OD.gaugeDisagreement true).put OD.gaugeLastDisagreement d).putFlag OD.learningForcedRelearn true
    (s.note 0x6011).updateReserve

/-- The rest point re-anchors SOC_cc and is the next learning's point A (R399, R404). -/
def State.anchor (s : State) (r : GaugeReading) (soc : Nat) : State :=
  let s := (s.put OD.gaugeSocRest soc).putFlag OD.gaugeAtRest true
  { s with gauge := { s.gauge with
      coulomb := soc * 10000, ocvNow := soc, charge := 0, unbroken := true, warmEnough := Decidable.decide (100 ≤ (tempOf r))
      mark := some { soc := soc, time := s.uptime }, provisional := false } }

/-- REST_POINT (R399, R401, R404). -/
def execRestPoint (s : State) : Out :=
  match s.gauge.reading with
  | none => .next s.unlist
  | some r =>
    if 50 ≤ r.current.natAbs || s.gauge.absent || s.flag OD.gaugeAtRest then .next s.unlist
    else
      let soc := s.ocvLookup (lowestOf r)
      let s := (s.raise 0x6010 soc [(.u16, s.socCoulomb)]).checkAgreement soc
      let s := match s.gauge.mark with
        | some a => s.learnBetween a soc
        | none => s
      .next (s.anchor r soc).estimate

/-- PACK_RESISTANCE_MEASURED (R406). -/
def execPackResistanceMeasured (resistance : Nat) (s : State) : Out :=
  match s.gauge.reading with
  | none => .next s.unlist
  | some r =>
    let new := ((resistance : Rat) / s.factor (tempOf r)).floor.toNat
    let s := if s.get OD.learningInitialR25 = 0 then (s.setR25 new).put OD.learningInitialR25 new
             else s.setR25 ((3 * s.r25Now + new) / 4)
    .next ((s.oweRecord 0).raise 0x6020 resistance []).updateReserve

/-- The 32 bytes of a learning record (R408). -/
def State.learningRecord (s : State) : List Byte :=
  let b := toBytes 4 (s.get OD.learningRecordSeq + 1) ++ toBytes 4 s.capacityNow ++ toBytes 4 s.r25Now
    ++ toBytes 4 (s.get OD.learningInitialR25) ++ toBytes 8 (s.get OD.learningLastLearnTime) ++ toBytes 1 s.gauge.recordFlags ++ toBytes 3 0
  b ++ toBytes 4 (crc32c b).toNat

/-- The pack is weak: the rail is below the effective CommitLevel and a cell is below 3,300 mV (R408). -/
def State.packWeak (s : State) : Bool :=
  !railReaches s.pins.rail (s.get OD.thresholdCommitLevel) (s.get OD.railDividerRatio)
  && s.gauge.reading.any (fun r => (cellsOf r).any (· < 3300))

/-- LEARNING_RECORD_WRITE (R407, R408): values that waited for the record apply. It waits while no program may start. -/
def execLearningRecordWrite (s : State) : Out :=
  if !s.gauge.recordDue then .next s.unlist
  else if s.packWeak || s.eflash.busy.isSome || !s.eflashReady then .next s
  else
    let q := s.capacityNow
    let r := s.r25Now
    let s := s.journal 0x0030 0 s.learningRecord
    let s := { s with gauge := { s.gauge with recordDue := false, recordFlags := 0, waitingCapacity := none, waitingR25 := none } }
    .next (((s.bump OD.learningRecordSeq 1).put OD.learningLearnedCapacity q).put OD.learningLearnedR25 r).updateReserve

/-- RELEARN (R405). -/
def execRelearn (q : Req) (s : State) : Out :=
  runCmd (.relearn q) q OD.learningRelearn [] (fun s => ok (s.putFlag OD.learningForcedRelearn true)) s

/-- The newest learning record that the gauge loads at a Signal Box start (R409): derated when a newer one lacks its mark. -/
def State.loadLearning (s : State) : State :=
  let rs := s.eflash.journal.recs.filter (fun r => r.type = 0x0030)
  let sound := rs.filter (fun r => r.counts && field r.payload 28 4 = (crc32c (r.payload.take 28)).toNat)
  match newest sound with
  | none => (s.put OD.learningLearnedCapacity (s.get OD.gaugeDesignCapacity)).put OD.learningLearnedR25
      (s.get OD.gaugeDesignR25)
  | some r =>
    let derate := rs.any (fun x => x.seq > r.seq && !x.counts)
    let c := field r.payload 4 4
    let r25 := field r.payload 8 4
    let s := (s.put OD.learningLearnedCapacity (if derate then c * 9 / 10 else c)).put OD.learningLearnedR25 (if derate then r25 * 11 / 10 else r25)
    let s := ((s.put OD.learningInitialR25 (field r.payload 12 4)).put OD.learningLastLearnTime (field r.payload 16 8)).put
      OD.learningRecordSeq (field r.payload 0 4)
    (s.putFlag OD.learningDerated derate).when derate (·.note 0x6014)

/-- DAY_COUNT (R415). -/
def execDayCount (s : State) : Out :=
  let d := min (s.get OD.learningDaysSinceLearning + 1) 65535
  let s := { s with gauge := { s.gauge with dayTime := s.uptime } }
  .next (s.keep OD.learningDaysSinceLearning d).updateReserve

/-! ## Monitors (R410, R420) -/

/-- Sensors 0 to 63 are ring oscillators, eight a region in the order of OD 0x8200.03; 64 to 95 path sensors, eight each of Map,
Crypt, Loop Line and Porters. -/
def sensorRegion (n : Nat) : Nat := if n < 64 then n / 8 + 1 else ([2, 5, 7, 8] : List Nat).getD ((n - 64) / 8) 0

/-- A sensor's last report. -/
def State.sensor (s : State) (n : Nat) : MonitorReading := mapGet (fun _ => MonitorReading.initial) s.monitors.sensors n

/-- The highest drift of the ring oscillators, and the lowest slack of eight path sensors from `a` on. -/
def State.worstDrift (s : State) : Int := (List.range 64).foldl (fun m n => max m (s.sensor n).driftReplan) (s.sensor 0).driftReplan
def State.slackFrom (s : State) (a n : Nat) : Int := (List.range n).foldl (fun m i => min m (s.sensor (a + i)).slack) (s.sensor a).slack

/-- MONITOR_SAMPLE (R410). -/
def execMonitorSample (readings : List MonitorReading) (s : State) : Out :=
  let m := (readings.take 96).zipIdx.foldl (fun m r => mapSet (fun _ => MonitorReading.initial) m r.2 r.1) s.monitors.sensors
  let s := { s with monitors := { s.monitors with sensors := m } }
  .next (((s.putInt OD.monitorWorstDrift s.worstDrift).putInt OD.monitorWorstSlack (s.slackFrom 64 32)).put OD.monitorLastSample s.clock)

/-- THERMAL_THRESHOLD (R590, R610): both dies have a maximum of 105 °C. -/
def execThermalThreshold (mainDie : Bool) (temp : Int) (s : State) : Out :=
  let items := [(ItemKind.u8, if mainDie then 0 else 1)]
  let s := s.when (1000 ≤ temp) (·.raise 0x6310 temp.toNat items)
  .next (s.when (1050 < temp) (·.raise 0x6311 temp.toNat items))

/-! ## The margin plan (R411 to R417) -/

/-- Steps of clock derate of the domains Map, Crypt, Loop Line and Porters. -/
def State.derate (s : State) (d : Nat) : Nat := field (s.blob OD.marginClockDerate) d 1

/-- What a domain calls for (R413): an offset, and its new derate; with the event. -/
structure DomainCall where
  offset : Option Nat
  derate : Nat
  event : Nat
  deriving DecidableEq, Repr

/-- The first matching row of R413 for a domain's worst slack in 1/100 %. -/
def domainCall (slack : Int) (slackMin top offset derate : Nat) : DomainCall :=
  let low : Int := slackMin * 100
  let stay : DomainCall := { offset := none, derate := derate, event := 0 }
  if slack < low && offset < top then
    { stay with offset := some (min top (offset + if slack < low - 200 then 10 else 5)) }
  else if slack < low && derate < 4 then { stay with derate := derate + 1, event := 0x6032 }
  else if slack < low then { stay with event := 0x6033 }
  else if low + 700 < slack && 0 < derate then { stay with derate := derate - 1 }
  else if low + 700 < slack && 0 < offset then { stay with offset := some (offset - 5) }
  else stay

/-- The calls of the four domains. -/
def State.domainCalls (s : State) : List DomainCall :=
  (List.range 4).map (fun d => domainCall (s.slackFrom (64 + 8 * d) 8) (s.get OD.marginSlackMin) (s.get OD.marginVtrimMax)
    s.margin.target (s.derate d))

/-- The highest offset that any domain calls for (R413). -/
def calledOffset (now : Nat) (cs : List DomainCall) : Nat :=
  match cs.filterMap (·.offset) with
  | [] => now
  | x :: xs => xs.foldl max x

/-- The refresh multipliers in quarters (R288, R412), a step up and a step down. -/
def multiplierUp (m : Nat) : Nat := if m < 5 then 5 else if m < 6 then 6 else 8
def multiplierDown (m : Nat) : Nat := if 6 < m then 6 else if 5 < m then 5 else 4

/-- Corrected lines of a rank's completed passes, newest first, and those since the last re-plan (R414). -/
def State.passesOf (s : State) (c rank : Nat) : List Nat := (mapGet (fun _ => []) s.margin.passes (c * 4 + rank)).drop 1
def State.freshPasses (s : State) (c rank : Nat) : List Nat :=
  (s.passesOf c rank).take (mapGet (fun _ => 0) s.margin.fresh (c * 4 + rank))

/-- A channel's next multiplier (R414). -/
def State.nextMultiplier (s : State) (c : Nat) : Nat :=
  let m := s.get (OD.mcRefreshMultiplier c)
  let ranks := List.range s.ranks
  let quiet := fun (r : Nat) =>
    let ps := (s.passesOf c r).take 3
    ps.length = 3 && ps.all (fun n => n ≤ s.get OD.marginRetentionLow)
  if ranks.any (fun r => (s.freshPasses c r).any (fun n => s.get OD.marginRetentionHigh < n)) then multiplierUp m
  else if ranks.all quiet then multiplierDown m else m

/-- A level placed in the trial order: more recovered reads first, ties in the profile's order. -/
def placeLevel (count : Nat → Nat) (x : Nat) : List Nat → List Nat
  | [] => [x]
  | y :: ys => if count y ≤ count x then x :: y :: ys else y :: placeLevel count x ys

/-- The retry trial order of a flash channel (R414). -/
def State.nextOrder (s : State) (c : Nat) : List Nat :=
  (List.range (s.profile 45 1)).foldr (placeLevel (fun l => mapGet (fun _ => 0) s.margin.recovered (c * 64 + l))) []

/-- Multipliers and retry orders change (R412, R414); a changed multiplier asks for full training at the next BOOT. -/
def State.planMemories (s : State) : State × Nat :=
  let ms := ((List.range 16).filter s.isPopulated).map (fun c => (c, s.nextMultiplier c))
  let changed := ms.filter (fun e => s.get (OD.mcRefreshMultiplier e.1) ≠ e.2)
  let t := changed.foldl (fun s e => (s.keep (OD.mcRefreshMultiplier e.1) e.2).raise 0x3030 e.2 [(.u8, e.1)]) s
  let t := if changed.isEmpty then t else { t with dram := { t.dram with planVersion := t.dram.planVersion + 1 } }
  let os := (List.range 64).map (fun c => (c, s.nextOrder c))
  let moved := os.filter (fun e => mapGet (fun _ => List.range (s.profile 45 1)) s.margin.order e.1 ≠ e.2)
  let o := moved.foldl (fun m e => mapSet (fun _ => List.range (s.profile 45 1)) m e.1 e.2) t.margin.order
  ({ t with margin := { t.margin with order := o, recovered := [], fresh := []
                                      passes := mapMap (fun _ => []) (fun _ ps => ps.take 4) t.margin.passes } },
   changed.length + moved.length)

/-- Drift since the last re-plan begins again from 0. -/
def State.clearDrift (s : State) : State :=
  let m := mapMap (fun _ => MonitorReading.initial) (fun _ r => { r with driftReplan := 0 }) s.monitors.sensors
  State.putInt { s with monitors := { s.monitors with sensors := m } } OD.monitorWorstDrift 0

/-- A re-plan (R411 to R415): causes 1 period, 2 drift, 3 command. Event 0x6030 gives the number of changes (DESIGN CHOICE, log 171). -/
def State.runReplan (s : State) (cause : Nat) : State :=
  let cs := s.domainCalls
  let old := s.margin.target
  let offset := calledOffset old cs
  let clocks := ((List.range 4).zip cs).countP (fun e => s.derate e.1 ≠ e.2.derate)
  let s := cs.foldl (fun s c => s.when (c.event ≠ 0) (·.note c.event)) s
  let s := (s.putBlob OD.marginClockDerate (cs.flatMap (fun c => toBytes 1 c.derate))).owe OD.marginClockDerate
  let (s, n) := s.planMemories
  let s := { s with margin := { s.margin with target := offset, due := none, overdue := false } }.clearDrift
  let s := ((s.keep OD.marginLastReplanTime s.clock).keep OD.marginLastReplanCause cause).putFlag OD.marginDeferred false
  (s.raise 0x6030 (n + clocks + if offset = old then 0 else 1) [(.u8, offset)]).updateReserve

/-- A re-plan may run (R411, R416). -/
def State.mayReplan (s : State) : Bool := s.inMode [.service, .maintenance] && !s.armedPower && s.flush.drill.isNone

/-- A re-plan is due: it runs, or waits with Deferred set (R411). -/
def State.replanAsked (s : State) (cause : Nat) : State :=
  if s.mayReplan then s.runReplan cause
  else
    let s := s.putFlag OD.marginDeferred true
    { s with margin := { s.margin with due := some (s.margin.due.getD cause), dueSince := if s.margin.due.isSome then s.margin.dueSince else s.uptime } }

/-- REPLAN_DUE (R411): drift beyond DriftTrigger, else the period. -/
def execReplanDue (s : State) : Out :=
  .next (s.replanAsked (if (s.get OD.monitorDriftTrigger * 100 : Nat) < s.worstDrift then 2 else 1))

/-- REPLAN_NOW (R411). -/
def execReplanNow (q : Req) (s : State) : Out := runCmd (.replanNow q) q OD.marginReplanNow [] (fun s => ok (s.replanAsked 3)) s

/-- REPLAN (R413): a waiting re-plan runs as soon as it may; one with a cause of its own runs when it may. -/
def execReplan (cause : Fin 4) (s : State) : Out :=
  s.await 6 (.replan cause) (fun s =>
  let c := s.margin.due.getD cause.val
  if c = 0 then .next s.unlist else .next (s.replanAsked c))

/-- REPLAN_DEFERRAL_OVERDUE (R411): a wait of more than 24 h is reported once. -/
def execReplanDeferralOverdue (s : State) : Out :=
  if s.margin.due.isSome && !s.margin.overdue then .next ({ s with margin := { s.margin with overdue := true } }.note 0x6031)
  else .next s.unlist

/-- VTRIM_STEP (R416, R417): 5 mV toward the offset asked for, at least 10 ms after the last step. -/
def execVtrimStep (s : State) : Out :=
  let now := s.get OD.marginVtrimOffset
  let t := s.margin.target
  if s.armedPower || s.flush.drill.isSome || now = t || (s.margin.lastStep ≠ 0 && s.uptime < s.margin.lastStep + 10000000) then .next s
  else
    let s := { s with margin := { s.margin with lastStep := s.uptime } }
    .next (s.keep OD.marginVtrimOffset (if now < t then now + 5 else now - 5))

/-- The duty of VTRIM in 1/512 (R417); low while the Signal Box is stopped (R601). -/
def State.vtrimDuty (s : State) : Nat := if s.ctl.stopped then 0 else 256 + s.get OD.marginVtrimGain * s.get OD.marginVtrimOffset

end Sys2Proof.Machine
end

