-- ==== Sys2Proof/Machine/Start.lean ====
section
/-! DEFINITION. The starts of the Signal Box: cold start (R434, R496, R515, R520, R523) and stationmaster restart (R495). -/
namespace Sys2Proof.Machine

/-! ## Which bank runs (R496, R546) -/

/-- The start goes on from the active bank, from the other bank when it holds a verified image, or in the service loop. -/
def State.chooseBank (s : State) (okActive okOther : Bool) : State :=
  if okActive then { s with ctl := { s.ctl with serviceLoop := false } }
  else if okOther && s.holdsImage s.inactiveBank then
    State.rollBack { s with ctl := { s.ctl with serviceLoop := false } } 1
  else State.note { s with ctl := { s.ctl with serviceLoop := true } } 0x6212

/-! ## Scans (R507, R515) -/

/-- What the scan of a region reports: records with an uncorrectable word, and records newer than the current one of their
item without a valid mark. -/
def State.scanRegion (s : State) (n : Nat) : State :=
  let r := s.eflash.region n
  r.recs.foldl (fun s x =>
    let s := s.when (!x.intact) (·.note 0x6202)
    let newer := knownType n x.type && x.mark != .valid && x.mark != .superseded && (match r.current x.type x.key with
      | some c => c.seq < x.seq
      | none => true)
    s.when newer (·.raise 0x6204 0 [(.u16, x.type), (.u32, x.key)])) s

/-- The settings area and the journal are scanned. -/
def State.scanAll (s : State) : State := ((s.scanRegion 0).scanRegion 1).scanRegion 2

/-- An update in hand is what the current progress record says (R531, R534, R549). -/
def State.loadProgress (s : State) : State :=
  match s.eflash.journal.current 0x0041 0 with
  | none => s
  | some r =>
    let p := r.payload
    let k := s.unitKey "UPD-GCM" 32
    let n := gcmNonce 0xFFFFFFFD r.seq
    let sealed' := slice p 20 32
    let good := slice p 52 16 = gcmTag k n [] sealed'
    let s := (((s.put OD.updateApplySector (field p 2 2)).put OD.updateNextOffset (field p 4 4)).put OD.updatePackageId
      (field p 12 8)).put OD.updatePackageLength (field p 80 4)
    let s := (s.put OD.departureDepartureTime (field p 68 8)).put OD.departureDepartureMode (field p 76 1)
    let st := ([.idle, .receiving, .received, .applying, .verifying, .verified, .scheduled, .trial] : List UpdateState).getD
      (field p 0 1) .idle
    { s with update := { s.update with state := st, applyOffset := field p 8 4, retries := 0, aborting := false
                                       resumed := st == .applying
                                       contentKey := if good then gcmCrypt k n sealed' else [] } }

/-- A bank record read from its payload (R528). -/
def BankRecord.ofBytes (p : List Byte) : BankRecord :=
  { state := field p 0 1, trial := field p 1 1 % 2 = 1, actSeq := field p 4 4, smVer := field p 8 4, ptVer := field p 12 4
    secVer := field p 16 4, packageId := field p 20 8, time := field p 28 8, digest := slice p 36 48 }

/-- The bank records are the journal's. -/
def State.loadBanks (s : State) : State :=
  ([0, 1] : List Nat).foldl (fun s b =>
    match s.journaled 0x0040 b with
    | some p => s.setBank b { s.bank b with record := BankRecord.ofBytes p }
    | none => s) s

/-! ## Classification of sectors (R523) -/

/-- One sector that is not as the records need it: a half-erased or damaged one is erased again and formatted. -/
def State.repairSector (s : State) (e : Nat × Nat) : State :=
  let log := s.eflash.eraseLog.map (fun x => if x.sector = e.1 then { x with complete := true } else x)
  let bad := s.eflash.unformatted.filter (fun x => x.1 ≠ e.1)
  let s := { s with eflash := { s.eflash with eraseLog := log, unformatted := bad } }
  if e.2 = 2 then s
  else
    let s := (s.countErases e.1 1).raise 0x6203 0 [(.u16, e.1), (.u8, e.2)]
    match bankOfSector e.1, s.regionOfSector e.1 with
    | some b, _ => s.setBank b { s.bank b with damaged := true }
    | none, some n => { s with eflash := { s.eflash with
        formats := mapSet (fun _ => (0, 0)) s.eflash.formats e.1 ((s.eflash.region n).sectSeq - 1, s.clock) } }
    | none, none => s

/-- Every sector is classified. -/
def State.classify (s : State) : State := s.eflash.unformatted.foldl State.repairSector s

/-! ## Settings at a cold start (R432, R434, R520) -/

/-- A value that the Signal Box has lost with its supply: its own objects, and the copies of persistent ones, except what the
journal, the vault and the fuses keep. -/
def lostAtColdStart (k : Nat) : Bool :=
  let i := k / 256
  (heldInSignalBox i (k % 256) || isPersistent k || (i = 0x2000 || i = 0x2100) && (k % 256 = 0x0A || k % 256 = 0x0B))
  && !(i = 0x1000 || i = 0x5400 || i = 0xA200 || k = OD.summarySeqMark)

/-- A setting whose current record is missing from one copy, or older there, is rewritten into that copy. -/
def State.syncCopies (s : State) (k : Nat) : State :=
  let a := s.eflash.settings0.setting k
  let b := s.eflash.settings1.setting k
  match a, b with
  | some x, some y =>
    if x.2 = y.2 then s
    else if y.1 > x.1 then s.setRegion 0 (s.eflash.settings0.recordValue k y.2)
    else s.setRegion 1 (s.eflash.settings1.recordValue k x.2)
  | some x, none => s.setRegion 1 (s.eflash.settings1.recordValue k x.2)
  | none, some y => s.setRegion 0 (s.eflash.settings0.recordValue k y.2)
  | none, none => s

/-- One setting is loaded, from the copies brought into agreement. -/
def State.loadSetting (s : State) (k : Nat) : State :=
  let s := s.syncCopies k
  match s.setting k with
  | some v => s.storeBytes k v
  | none => s

/-- The settings are loaded: an object without a record has its default. -/
def State.loadSettings (s : State) : State :=
  let lost := s.unrecorded
  let s := { s with od := s.od.filter (fun e => !lostAtColdStart e.1), blobs := s.blobs.filter (fun e => !lostAtColdStart e.1)
                    unrecorded := [], saves := { s.saves with plan := [] } }
  let s := (distinct (s.eflash.settings0.settingKeys ++ s.eflash.settings1.settingKeys)).foldl State.loadSetting s
  lost.foldl (fun s k => s.raise 0x7013 0 [(.u24, k)]) s

/-! ## The journal at a cold start (R369, R374, R517 to R519) -/

/-- A key slot is what its record says. -/
def State.rebuildSlot (s : State) (n : Nat) : State :=
  match s.journaled 0x0021 n with
  | none => s
  | some p =>
    let t := field p 0 1
    let m := s.markOf n
    match (if t = 0 then some [] else keyUnwrap s.storeKey (slice p 9 40)) with
    | some root => s.setSlot n { Slot.empty with type := t, root := root, gen := field p 1 4, check := field p 5 4, counter := m, mark := m }
    | none => s.setSlot n { Slot.empty with gen := field p 1 4 }

/-- Key slots and marks are loaded. -/
def State.loadKeys (s : State) : State :=
  let s := (List.range 256).foldl State.rebuildSlot { s with crypt := { s.crypt with slots := [] } }
  let g := field ((s.journaled 0x0010 0).getD []) 0 4
  { s with crypt := { s.crypt with vaultMark := s.markOf 256, vaultCounter := s.markOf 256, keyMark := g, keyGen := max 1 g } }

/-- A sealed vault is pending: its completion stands in the journal and its release does not (R255, R274). -/
def State.sealPending (s : State) : Bool :=
  match s.journaled 0x0002 0 with
  | none => false
  | some p =>
    match s.journaled 0x0003 0 with
    | some q => field q 0 8 < field p 0 8
    | none => true

/-! ## Cold start -/

/-- What the Signal Box holds outside embedded flash is as after power-on (R456, R464, R467, R494). -/
def State.clearSignalBox (s : State) (address : Nat) : State :=
  let s := { s with
    clock := 0
    ctl := { s.ctl with stopped := false, serviceLoop := false, romFailed := false, resetPending := false }
    boot := { t0 := 0, reached := 0, held := none, retryHold := false, storedTraining := false, temperature := 0, afterLoss := false, returned := false }
    pins := { s.pins with vsbEarly := false, crystal := true }
    zop := { s.zop with sessions := [], mixed := [], eids := [] }
    out := { zop := none, mailbox := none, host := [], mctp := none, twoWire := [], busSent := none, msix := [], fm := [], ide := 0 }
    eflash := { s.eflash with busy := none, waiting := [] }
    cores := { s.cores with restarts := 0, smExpiries := [], restartCause := 0, deferredReset := 0, deferredPorters := [],
                            sram := [], codeFault := none }
    log := { s.log with queue := [], ring := [], seqReport := none }
    power := Power.initial
    gauge := Gauge.initial
    monitors := { sensors := [] }
    margin := { Margin.initial with order := s.margin.order }
    bus := Bus.initial
    saves := { s.saves with run := none } }
  let s := { s with update := { s.update with paused := false, serviceSince := none, bootFails := 0, t2Fails := 0 } }
  s.loadSettings.put OD.twoWireAddress (0x48 + address)

/-- The stationmaster has started: OFF, or VAULT when a sealed vault is pending; BOOT at once where the Main die has power
and RESET_N is high (R55, R592). -/
def State.coldMode (s : State) : State :=
  if s.sealPending then (s.putFlag OD.vaultVaultPending true).enterVault 0x00
  else
    let s := (s.putFlag OD.vaultVaultPending false).enterOff 0x00
    if s.pins.mdPwrgd && s.pins.resetN && !s.ctl.serviceLoop then s.enterBoot 0x01 else s

/-- Failed-device marks and channel states are those of which the settings area holds a record (R299, R309, R333, R520). -/
def State.loadChannels (s : State) : State :=
  let mc := fun (c : Nat) (x : Chan) =>
    { x with failed := if s.hasRecord 0x0111 c then x.failed else []
             state := if x.state == .offline && !s.hasRecord 0x0112 c then .absent else x.state }
  let fc := fun (c : Nat) (x : FChan) => if s.hasRecord 0x0112 (flashStateKey c) then x else { x with state := 0, cause := 0 }
  { s with dram := { s.dram with chans := mapMap (fun _ => Chan.initial) mc s.dram.chans }
           flash := { s.flash with chans := mapMap (fun _ => FChan.initial) fc s.flash.chans } }

/-- The scans and loads of a cold start, in the order of R496. -/
def State.coldScan (s : State) : State :=
  let s := s.classify.loadBanks.scanAll
  let s := s.loadProgress.loadKeys.loadChannels.loadLearning.updateReserve
  s.skipSeq

/-- SIGNAL_BOX_COLD_START (R496). -/
def execSignalBoxColdStart (romOk bankAOk bankBOk : Bool) (address : BitVec 3) (s : State)
    (corrected bad : List (Nat × Nat) := []) : Out :=
  if !s.ctl.stopped then .next s.unlist
  else
    let s := s.clearSignalBox address.toNat
    let s := { s with margin := { s.margin with target := s.get OD.marginVtrimOffset } }
    if !romOk then .next (State.enterOff { s with ctl := { s.ctl with romFailed := true } } 0x10)
    else
      let s := s.classify.loadBanks
      let a := s.activeBank = 0
      let s := (s.chooseBank (if a then bankAOk else bankBOk) (if a then bankBOk else bankAOk)).loadItcm
      .next (s.readErrors corrected bad).coldScan.coldMode

/-! ## Restart (R495) -/

/-- The code of a restart's cause in the retention register. -/
def restartCode : RestartCause → Nat
  | .watchdog => 1 | .resetN => 2 | .sramError => 3 | .codeFault _ => 5

/-- A second uncorrectable error in the same code word marks the bank damaged (R507). -/
def State.faultsAgain (s : State) : RestartCause → Bool
  | .codeFault w => s.cores.codeFault == some w
  | .watchdog => false | .resetN => false | .sramError => false

/-- The code word that a restart was for is remembered. -/
def State.keepFault (s : State) : RestartCause → State
  | .codeFault w => { s with cores := { s.cores with codeFault := some w } }
  | .watchdog => s | .resetN => s | .sramError => s

/-- STATIONMASTER_RESTART (R495): the mode of the retention register is resumed. -/
def execStationmasterRestart (cause : RestartCause) (imageOk : Bool) (s : State) (corrected bad : List (Nat × Nat) := []) : Out :=
  if s.ctl.stopped || s.ctl.romFailed then .next s.unlist
  else
    let s := (s.when (cause == .sramError) (·.note 0x6210)).eflashDone
    let again := s.faultsAgain cause
    let s := (s.smRestart (restartCode cause)).keepFault cause
    let s := if again then s.setBank s.activeBank { s.bank s.activeBank with damaged := true } else s
    let s := (s.chooseBank (imageOk && !again) true).loadItcm.readErrors corrected bad
    .next s.scanAll.loadProgress.loadLearning.resumeApply

end Sys2Proof.Machine
end

