-- ==== Sys2Proof/Machine/Read.lean ====
section
/-! DEFINITION. What a READ returns (12, R424 to R441): the value of every object, those that report a table, a queue or a
counter among them, and the DESCRIBE descriptor (R442). -/
namespace Sys2Proof.Machine

/-! ## Bytes of reports -/

/-- FirmwareVersions (R455). -/
def State.versionBytes (s : State) : List Byte :=
  let a := (s.bank s.activeBank).record
  let o := s.inactiveBank
  let v := s.holdsImage o
  let r := (s.bank o).record
  toBytes 4 a.smVer ++ toBytes 4 a.ptVer ++ toBytes 4 s.cores.romVer ++ toBytes 1 s.activeBank ++
  [if v then 1#8 else 0#8, 0#8, 0#8] ++ toBytes 4 (if v then r.smVer else 0) ++ toBytes 4 (if v then r.ptVer else 0) ++
  toBytes 8 a.time

/-- The staged entry at a cursor, the committed set first (R460). -/
def State.stagedEntry (s : State) (n : Nat) : List Byte :=
  let rows := s.zop.committed.map (fun x => (1, x)) ++ s.zop.uncommitted.map (fun x => (0, x))
  match rows[n]? with
  | some (set, x) =>
    toBytes 2 (x.key / 256) ++ toBytes 1 (x.key % 256) ++ toBytes 1 set ++ toBytes 2 x.value.length ++ toBytes 2 0 ++ x.value
  | none => []

/-- A sensor's report (R420). -/
def State.sensorBytes (s : State) (n : Nat) : List Byte :=
  let r := s.sensor n
  let path := 64 ≤ n
  toBytes 1 (if path then 1 else 0) ++ toBytes 1 (sensorRegion n) ++ toBytes 2 0 ++ toBytes 2 (ofSigned 16 r.driftBase) ++
  toBytes 2 (ofSigned 16 r.driftReplan) ++ toBytes 2 (if path then ofSigned 16 r.slack else 0x7FFF) ++ toBytes 2 (ofSigned 16 r.temp)

/-- A tally entry (R318). -/
def tallyBytes (e : TallyEntry) : List Byte := toBytes 1 e.rank ++ toBytes 1 e.bank ++ toBytes 2 0 ++ toBytes 4 e.row ++ toBytes 4 e.count

/-! ## Windows (R568, R574, R579, R584) -/

/-- A record placed by its SEQ. -/
def insertBySeq (r : LogRec) : List LogRec → List LogRec
  | [] => [r]
  | x :: xs => if r.seq ≤ x.seq then r :: x :: xs else x :: insertBySeq r xs

/-- The first 16 records from a cursor on, in ascending SEQ, of at least a severity. -/
def windowOf (cursor sev : Nat) (rs : List LogRec) : List LogRec :=
  ((rs.filter (fun r => cursor ≤ r.seq && sev ≤ r.severity)).foldr insertBySeq []).take 16

/-- The records of the session's Window. -/
def State.logWindow (s : State) (src : Transport) : List LogRec :=
  windowOf (s.sel src OD.logbookCursor) (s.sel src OD.logbookFilter) s.log.records

def recordsBytes (rs : List LogRec) : List Byte := padTo 1024 ((rs.map LogRec.bytes).flatten)

/-- The 128 bytes of a ticket (R578). -/
def Ticket.bytes (t : Ticket) : List Byte :=
  toBytes 8 t.ingress ++ toBytes 1 t.ld ++ toBytes 1 t.op ++ toBytes 1 t.cls ++ toBytes 1 t.flags ++ toBytes 2 t.carriage ++
  toBytes 1 t.mc ++ toBytes 1 t.fc ++ toBytes 4 t.page ++ toBytes 1 t.line ++ toBytes 1 t.pipe ++ toBytes 2 0 ++
  ((List.range 12).map (fun i => toBytes 4 (t.stamps.getD i 0))).flatten ++ toBytes 2 t.tracker ++ toBytes 2 t.bankq ++
  List.replicate 48 0#8 ++ toBytes 4 t.tseq

/-- The window of 8 tickets: stored ones are kept newest first. -/
def State.ticketWindow (s : State) (cursor : Nat) : List Byte :=
  padTo 1024 (((((s.tickets.stored.filter (fun t => cursor ≤ t.tseq)).reverse).take 8).map Ticket.bytes).flatten)

/-- A sample of the ring (R574). -/
def sampleBytes (x : Sample) : List Byte := toBytes 8 x.time ++ toBytes 2 x.counter ++ toBytes 2 0 ++ toBytes 4 x.overflows

/-- 64 samples from a ring entry on, the oldest held being entry 0. -/
def State.sampleWindow (s : State) (first : Nat) : List Byte :=
  padTo 1024 ((((s.perf.samples.drop first).take 64).map sampleBytes).flatten)

/-- 128 counters of the snapshot (R575). -/
def State.snapshotBlock (s : State) (block : Nat) : List Byte :=
  ((List.range 128).map (fun i => toBytes 6 (mapGet (fun _ => 0) s.perf.snapshot (128 * block + i)))).flatten

/-! ## Reported values, by chapter -/

/-- What an object reports: a number in the width of its type, or bytes. -/
inductive Report where
  | num (n : Nat)
  | bytes (b : List Byte)
  deriving DecidableEq, Repr

def boolReport (b : Bool) : Report := .num (if b then 1 else 0)

/-- The coupling at the cursors; zeros beyond the last (R113). -/
def State.couplingBytes (s : State) (ld n : Nat) : List Byte :=
  match (s.tables.couplings.filter (fun c => c.ld = ld))[n]? with
  | some c => toBytes 16 c.entry.toNat
  | none => toBytes 16 (15 * 2 ^ 104)

/-- Ports and couplings (03). -/
def State.reportHost (s : State) (src : Transport) (k : Nat) : Option Report :=
  if 0x2400 ≤ k / 256 && k / 256 ≤ 0x241F && k % 256 = 9 then
    some (.num (s.tables.couplings.countP (fun c => c.ld = k / 256 - 0x2400)))
  else if k = OD.couplingEntry then
    some (.bytes (s.couplingBytes (s.sel src OD.couplingCursorLd) (s.sel src OD.couplingCursor)))
  else none

/-- Pages done and pages in all of a park or recall of a carriage (R196). -/
def State.moveProgress (s : State) (cid : Nat) : Nat × Nat :=
  match s.terms.parks.find? (fun p => p.id = cid), s.terms.recalls.find? (fun r => r.id = cid) with
  | some p, _ => (if p.term.isSome then p.copies.length else 0, p.total)
  | none, some r => (r.total - (s.leafList cid).countP (fun l => l.flashOnly && !l.pois), r.total)
  | none, none => (0, 0)

/-- The logical space, carriages, sidings and terms (04, 05). -/
def State.reportMap (s : State) (src : Transport) (k : Nat) : Option Report :=
  if k = OD.spaceLogicalBytes then some (.num (2 ^ 52))
  else if k = OD.spaceExtentsTotal then some (.num 4194304)
  else if k = OD.spaceExtentsUsed then some (.num s.extentsInUse.length)
  else if k = OD.spaceExtentsReserved then
    some (.num (s.tables.carriages.map (fun e => if e.2.reserve then s.extentsOf e.1 else 0)).sum)
  else if k = OD.spaceFramesFree then some (.num s.framesFree)
  else if k = OD.spaceTableNodesUsed then some (.num s.nodesUsed)
  else if k = OD.spaceBackingPagesUsed then some (.num s.backingUsed)
  else if k = OD.spacePoisonedPages then some (.num s.poisonedPages)
  else if k = OD.spaceCarriagesInUse then some (.num (s.tables.carriages.countP (fun e => !(e.2.state == .free))))
  else if k = OD.spaceKeyGenNext then some (.num s.crypt.keyGen)
  else if k = OD.carriageDescriptor then some (.bytes (s.descriptorBytes (s.sel src OD.carriageCursor)))
  else if k = OD.carriageCommandBusy then some (boolReport s.carriageBusy)
  else if k = OD.depotDepotPages then some (.num s.depotPages)
  else if k = OD.depotEntry then some (.bytes (s.depotEntryBytes (s.sel src OD.depotCursor)))
  else if k = OD.sidingProgressDone then some (.num (s.moveProgress (s.sel src OD.sidingProgressCursor)).1)
  else if k = OD.sidingProgressTotal then some (.num (s.moveProgress (s.sel src OD.sidingProgressCursor)).2)
  else if k = OD.sidingParkResidual then some (.num (mapGet (fun _ => 0) s.terms.residuals (s.sel src OD.sidingProgressCursor)))
  else if k = OD.transferImportPublicKey then some (.bytes (ecBytes (ecMul 384 s.importScalar (some p384Base) none)))
  else if k = OD.termGlobalTerm then some (.num s.tables.globalTerm)
  else if k = OD.termSnapshotPages then some (.num s.snapshotPages)
  else if k = OD.termSnapshotDropped then some (boolReport (s.tables.dropped.contains (s.sel src OD.termSnapshotCursor)))
  else none

/-- F in 1/1,000 (R231). -/
def State.fractionNow (s : State) : Nat :=
  let c := s.get OD.plannerEffectiveCeiling
  if c = 0 then 0xFFFF else min (s.residue * 1000 / c) 0xFFFF

/-- The planner's live values, the vault's outcomes and the memories (06 to 09). -/
def State.reportStore (s : State) (src : Transport) (k : Nat) : Option Report :=
  if k = OD.plannerResidue then some (.num s.residue)
  else if k = OD.plannerResidueFraction then some (.num s.fractionNow)
  else if k = OD.plannerFlushRate then some (.num (s.flushRate / 1000000))
  else if k = OD.plannerMetaDirty then some (.num s.metaDirty)
  else if k = OD.plannerOldestDirtyAge then
    some (.num (match s.flush.age with | a :: _ => (s.uptime - a.time) / 1000000 | [] => 0))
  else if k = OD.vaultCarriageOutcome then
    some (.num (mapGet (fun _ => 0) s.saves.restore.outcomes (s.sel src OD.vaultOutcomeCursor)))
  else if k = OD.dramChannelsInService then some (.num ((List.range 16).countP (fun c => (s.chan c).state == .inService)))
  else if k = OD.dramStoredTrainingValid then some (boolReport s.dram.training.isSome)
  else if k = OD.dramFramesPerChannel then some (.num s.framesPerChannel)
  else if k = OD.dramFramesTotal then
    some (.num (s.framesPerChannel * (List.range 16).countP (fun c => (s.chan c).state == .inService)))
  else if k = OD.tallyMitigation then
    some (.num ((List.range 16).map (fun c =>
      if (s.chan c).state == .absent then 0 else if (s.chan c).drfm ≠ 0 then 2 ^ (2 * c) else 2 ^ (2 * c + 1))).sum)
  else if k = OD.tallyEntry then
    let n := s.sel src OD.tallySubchannel
    some (.bytes (match (s.tally (n / 2) (n % 2)).entries[s.sel src OD.tallyCursor]? with
      | some e => tallyBytes e
      | none => List.replicate 12 0#8))
  else if k = OD.tallyInFallback then
    some (.num ((List.range 32).map (fun n => if (s.tally (n / 2) (n % 2)).fallback then 2 ^ n else 0)).sum)
  else if k = OD.freezeRecordLow then some (.bytes ((s.chan (s.sel src OD.freezeRecordChannel)).record.take 1024))
  else if k = OD.freezeRecordHigh then some (.bytes ((s.chan (s.sel src OD.freezeRecordChannel)).record.drop 1024))
  else if k = OD.flashDiesPopulated then some (.num s.diesPopulated)
  else if k = OD.flashDiesInService then some (.num s.diesInService)
  else if k = OD.flashChannelsInService then some (.num s.channelsInService)
  else if k = OD.flashSaveRegionUsable then some (.num (s.slotsUsable * 2 ^ 20))
  else if k = OD.flashSaveFree then some (.num s.saveFree)
  else none

/-- Channels: OD 0x4000 + 0x10 × n and OD 0x6100 + n (R316, R347). -/
def State.reportChannels (s : State) (k : Nat) : Option Report :=
  let i := k / 256
  let sub := k % 256
  if 0x4000 ≤ i && i ≤ 0x40F0 && i % 16 = 0 then
    let c := s.chan ((i - 0x4000) / 16)
    if sub = 1 then some (.num (match c.state with
      | .absent => 0 | .inService => 1 | .frozen => 2 | .salvageInit => 3 | .thawing => 4 | .salvageSave => 5 | .offline => 6))
    else if sub = 9 then some (.bytes c.failedBytes)
    else none
  else if 0x6100 ≤ i && i ≤ 0x613F then
    let c := s.fchan (i - 0x6100)
    if sub = 1 then some (.num c.state)
    else if sub = 2 then some (.num (popcount 16 c.dies.toNat))
    else if sub = 3 then some (.num c.cause)
    else none
  else none

/-- Key slots, passes and pipes (10). -/
def State.reportCrypt (s : State) (src : Transport) (k : Nat) : Option Report :=
  let i := k / 256
  let sub := k % 256
  if 0x7000 ≤ i && i ≤ 0x70FF then
    let x := s.slot (i - 0x7000)
    if sub = 2 then some (.num x.type)
    else if sub = 3 then some (.num (if x.type = 0 then 0 else x.check % 2 ^ 24))
    else if sub = 4 then some (.num x.gen)
    else if sub = 5 then some (.num x.mark)
    else if sub = 6 then some (.num x.counter)
    else none
  else if k = OD.passesPasses then some (.bytes (toBytes 32 (s.passRow (s.sel src OD.passesCursor)).toNat))
  else if k = OD.pipesPipesUsable then some (.num s.pipesUsable)
  else if k = OD.pipesPipesQuarantined then some (.num (s.crypt.quarantined ||| s.crypt.untilBoot).toNat)
  else if k = OD.pipesTranscryptRate then some (.num (6 * s.pipesUsable))
  else none

/-- The Signal Box's measurements and identity (11, 12, 13). -/
def State.reportBox (s : State) (src : Transport) (k : Nat) : Option Report :=
  let ratio := s.get OD.railDividerRatio
  if k = OD.monitorSensor then some (.bytes (s.sensorBytes (s.sel src OD.monitorCursor)))
  else if k = OD.railRailVoltage then some (.num s.pins.rail)
  else if k = OD.railEffectiveLevels then
    some (.bytes ([OD.thresholdWarnLevel, OD.thresholdCommitLevel, OD.thresholdReleaseLevel].flatMap
      (fun t => toBytes 2 (effectiveLevel (s.get t) ratio))))
  else if k = OD.railPwrfailLevel then some (boolReport s.pins.pwrfailN)
  else if k = OD.railBatselState then some (.num s.power.batsel)
  else if k = OD.railReleaseHoldElapsed then
    some (.num (match s.power.holdSince with | some t => min ((s.uptime - t) / 1000000) 0xFFFF | none => 0))
  else if k = OD.identityFirmwareVersions then some (.bytes s.versionBytes)
  else if k = OD.modeMode then some (.num s.ctl.mode.code)
  else if k = OD.stagingPendingCount then some (.num s.zop.uncommitted.length)
  else if k = OD.stagingCommittedCount then some (.num s.zop.committed.length)
  else if k = OD.stagingEntry then some (.bytes (s.stagedEntry (s.sel src OD.stagingCursor)))
  else if k = OD.notifyPending then some (.num s.bus.queue.length)
  else none

/-- SERVICE time left in the trial (R545). -/
def State.trialLeft (s : State) : Nat :=
  if s.update.state == .trial then
    let run := match s.update.serviceSince with | some t => s.uptime - t | none => 0
    s.get OD.bankConfirmPeriod - (s.update.trialTime + run) / 1000000000
  else 0

/-- Update, logbook, counters, tickets and perturbation (15, 16). -/
def State.reportFleet (s : State) (src : Transport) (k : Nat) : Option Report :=
  if k = OD.updateUpdateState then some (.num s.update.state.code)
  else if k = OD.updateTargetVersions then some (.bytes (slice s.update.header 24 8))
  else if k = OD.bankActiveBank then some (.num s.activeBank)
  else if k = OD.bankBankA then some (.bytes s.update.bankA.record.bytes)
  else if k = OD.bankBankB then some (.bytes s.update.bankB.record.bytes)
  else if k = OD.bankTrialRemaining then some (.num s.trialLeft)
  else if k = OD.logbookRecords then some (.num s.log.records.length)
  else if k = OD.logbookWindow then some (.bytes (recordsBytes (s.logWindow src)))
  else if k = OD.logbookWindowCount then some (.num (s.session src).windowCount)
  else if k = OD.logbookNextSeq then some (.num s.log.nextSeq)
  else if k = OD.logbookOldestSeq then some (.num (match s.log.records with | [] => 0 | r :: rs => (rs.map (·.seq)).foldl min r.seq))
  else if k = OD.logbookFatalRecords then some (.num (s.log.records.countP (fun r => r.severity = 3 && r.part = 0)))
  else if k = OD.summaryWindow then some (.bytes (recordsBytes (windowOf (s.sel src OD.summaryCursor) 0 s.summaryRecs)))
  else if k = OD.summaryCopies then some (.num s.summaryCopies.length)
  else if k = OD.summaryFreeSectors then some (.num s.eflash.summary.freeSectors)
  else if k = OD.counterSnapshotData then some (.bytes (s.snapshotBlock (s.sel src OD.counterSnapshotBlock)))
  else if k = OD.counterSampleWindow then some (.bytes (s.sampleWindow (s.sel src OD.counterSampleCursor)))
  else if k = OD.ticketWindow then some (.bytes (s.ticketWindow (s.sel src OD.ticketCursor)))
  else if k = OD.ticketTickets then some (.num s.tickets.stored.length)
  else if k = OD.perturbUnlocked then some (boolReport s.ctl.unlocked)
  else if k = OD.perturbArmed then some (boolReport s.ctl.armed)
  else none

/-- What an object reports, where its value stands in a table or counter. -/
def State.report (s : State) (src : Transport) (k : Nat) : Option Report :=
  (s.reportHost src k).orElse fun _ => (s.reportMap src k).orElse fun _ => (s.reportStore src k).orElse fun _ =>
  (s.reportChannels k).orElse fun _ => (s.reportCrypt src k).orElse fun _ => (s.reportBox src k).orElse fun _ =>
  s.reportFleet src k

/-- The bytes that a READ of an object returns. -/
def State.readBytes (s : State) (src : Transport) (o : ObjRow) (k : Nat) : List Byte :=
  match s.report src k with
  | some (.num n) => toBytes o.type.size n
  | some (.bytes b) => b
  | none => s.lastWritten src o k

/-- A READ (R441); one of the Window notes how many records it returned (R568). -/
def readAct (src : Transport) (k : Nat) : Act := fun s =>
  match findObj (k / 256) (k % 256) with
  | none => fail s stNoSubindex
  | some o =>
    let v := s.readBytes src o k
    if k = OD.logbookWindow then
      okWith (s.setSession { s.session src with windowCount := (s.logWindow src).length }) v
    else okWith s v

/-- ZOP_READ (R441). -/
def execZopRead (q : Req) (index : BitVec 16) (sub : BitVec 8) (s : State) : Out :=
  runReq (.zopRead q index sub) q opRead index.toNat sub.toNat [] (readAct q.src (keyOf index.toNat sub.toNat)) s

/-! ## DESCRIBE (R442) -/

/-- The access code of R427. -/
def accessCode : Access → Nat
  | .ro => 1 | .rw => 2 | .wo => 3 | .rws => 4 | .rwi => 5 | .cmd => 6

/-- The FLAGS byte. -/
def describeFlags (o : ObjRow) (index : Nat) : Nat :=
  (if o.persistent then 1 else 0) + (if o.selector then 2 else 0) + (if heldInSignalBox index o.sub then 4 else 0)
  + (if o.maintOnly then 8 else 0) + (if o.deferred then 16 else 0)

/-- A bound of a numeric type in 8 bytes, sign-extended; 0 for the other types. -/
def boundBytes (o : ObjRow) (v : Int) : List Byte := toBytes 8 (if o.type.size = 0 then 0 else (v % 2 ^ 64).toNat)

/-- The 64-byte descriptor. -/
def describeBytes (index : Nat) (o : ObjRow) : List Byte :=
  let d := odDefault (keyOf index o.sub)
  toBytes 1 o.type.code ++ toBytes 1 (accessCode o.access) ++ toBytes 1 (describeFlags o index) ++ toBytes 1 0 ++
  toBytes 2 o.minLen ++ toBytes 2 o.maxLen ++ boundBytes o o.lo ++ boundBytes o o.hi ++
  boundBytes o (if o.type.signed then toSigned (8 * o.type.size) d else d) ++ padTo 32 (strBytes o.name)

/-- DESCRIBE (R442). -/
def describeAct (index sub : Nat) : Act := fun s =>
  match findObj index sub with
  | none => fail s stNoSubindex
  | some o => okWith s (describeBytes index o)

def execDescribe (q : Req) (index : BitVec 16) (sub : BitVec 8) (s : State) : Out :=
  runReq (.describe q index sub) q opDescribe index.toNat sub.toNat [] (describeAct index.toNat sub.toNat) s

/-! ## FETCH and the timers of sessions (R444, R448) -/

/-- FETCH (R444). -/
def execFetch (q : Req) (s : State) : Out := runReq (.fetch q) q opFetch 0 0 [] (fetchAct q.src q.tag.toNat) s

/-- EXECUTE_PENDING_TIMEOUT (R444). -/
def execExecutePendingTimeout (src : Transport) (tag : BitVec 8) (s : State) : Out :=
  match (findSession src s.zop.sessions).bind (·.active) with
  | some a => if a.tag = tag.toNat then .next (s.answerPending src) else .next s.unlist
  | none => .next s.unlist

/-- PENDING_RESULT_EXPIRY (R444): only a completed result expires. -/
def execPendingResultExpiry (src : Transport) (tag : BitVec 8) (s : State) : Out :=
  match findSession src s.zop.sessions with
  | none => .next s.unlist
  | some x =>
    match findResult tag.toNat x.results with
    | some p =>
      if p.reply.isSome then
        .next ((s.setSession { x with results := dropResult tag.toNat x.results }).raise 0x7012 0
          [(.u16, sessionNumber src), (.u8, tag.toNat)])
      else .next s.unlist
    | none => .next s.unlist

/-- SESSION_IDLE_TIMEOUT (R448). -/
def execSessionIdleTimeout (src : Transport) (s : State) : Out :=
  .next { s with zop := { s.zop with sessions := s.zop.sessions.filter (fun x => x.src ≠ src) } }

end Sys2Proof.Machine
end

