-- ==== Sys2Proof/Machine/Mailbox.lean ====
section
/-! DEFINITION. The CXL mailbox of each LD (03, R88 to R92, R108 to R110, R155, R544, R571): the CXL-defined commands.
The layouts of their payloads and their return codes are CXL's (PRESUMED, log 14); what no rule gives a value is a free value. -/
namespace Sys2Proof.Machine

/-! ## Return codes (PRESUMED: CXL) -/

def rcSuccess : Nat := 0
def rcBackground : Nat := 1
def rcInvalidInput : Nat := 2
def rcInternal : Nat := 4
def rcUnsupported : Nat := 3
def rcBusy : Nat := 6
def rcInvalidHandle : Nat := 14
def rcInvalidAddress : Nat := 15

/-- What a mailbox command does: the state after it, its return code and its output. -/
abbrev MailAct := State → State × Nat × List Byte

/-- A command whose output is a function of the state. -/
def reads (f : State → List Byte) : MailAct := fun s => (s, rcSuccess, f s)

/-- A mailbox that operates executes a command and completes it (R74, R108); one that does not operate sees none. -/
def runMail (ld : Ld) (act : MailAct) (s : State) : Out :=
  if s.mailboxUp ld.val then
    let r := act s
    .next { r.1 with out := { r.1.out with mailbox := some { ld := ld.val, code := r.2.1, payload := r.2.2 } } }
  else .next s

/-- Bytes that no rule gives. -/
def openBytes (len : Nat) (s : State) : List Byte × State := (freeBytes len s.free, s.draw)

/-! ## Identity, capacity and logs (R88, R108, R544) -/

/-- The decimal digits of a number below 1,000. -/
def decimal (n : Nat) : List Byte :=
  let d := fun (x : Nat) => BitVec.ofNat 8 (48 + x % 10)
  if n < 10 then [d n] else if n < 100 then [d (n / 10), d n] else [d (n / 100), d (n / 10), d n]

/-- A version as the text a.b.c.d, the major number first (R455, R544). -/
def versionText (v : Nat) : List Byte :=
  let dot : List Byte := [0x2E#8]
  decimal (v / 2 ^ 24 % 256) ++ dot ++ decimal (v / 2 ^ 16 % 256) ++ dot ++ decimal (v / 2 ^ 8 % 256) ++ dot ++ decimal (v % 256)

/-- The LD's capacity in units of 256 MiB (R81). -/
def State.ldCapacity (s : State) (ld : Nat) : Nat := s.get (OD.ldWindowSize ld) / 2 ^ 28

/-- Identify Memory Device: all capacity is persistent and the LSA is 128 KiB (R88); each event log holds 128 (R571). -/
def identifyAct (ld : Nat) : MailAct := fun s =>
  let cap := s.ldCapacity ld
  let (tail, t) := openBytes 7 s
  (t, rcSuccess, padTo 16 (versionText (s.bank s.activeBank).record.smVer) ++ toBytes 8 cap ++ toBytes 8 0 ++ toBytes 8 cap ++
    toBytes 8 0 ++ [128, 128, 128, 128].flatMap (toBytes 2) ++ toBytes 4 131072 ++ tail)

/-- MBX_IDENTIFY_MEMORY_DEVICE. -/
def execMbxIdentifyMemoryDevice (ld : Ld) (s : State) : Out := runMail ld (identifyAct ld.val) s

/-- MBX_GET_PARTITION_INFO: active and next capacities, volatile 0 (R88). -/
def execMbxGetPartitionInfo (ld : Ld) (s : State) : Out :=
  runMail ld (reads (fun s => [0, s.ldCapacity ld.val, 0, s.ldCapacity ld.val].flatMap (toBytes 8))) s

/-- The UUID of the command effects log (PRESUMED: CXL), first byte first. -/
def effectsUuid : List Byte :=
  [0x0D#8, 0xA9#8, 0xC0#8, 0xB5#8, 0xBF#8, 0x41#8, 0x4B#8, 0x78#8, 0x8F#8, 0x79#8, 0x96#8, 0xB1#8, 0x62#8, 0x3B#8, 0x3F#8, 0x17#8]

/-- The opcodes that each LD's mailbox executes (R108, R109). -/
def mailboxOpcodes : List Nat :=
  [0x0100, 0x0101, 0x0102, 0x0103, 0x0200, 0x0300, 0x0301, 0x0400, 0x0401, 0x4000, 0x4100, 0x4102, 0x4103, 0x4200, 0x4201,
   0x4202, 0x4203, 0x4204, 0x4300, 0x4301, 0x4302, 0x4303, 0x4304, 0x4305, 0xC000, 0xC001, 0xC002, 0xC010, 0xC020, 0xC0FF]

/-- MBX_GET_SUPPORTED_LOGS: one log, the command effects log, with its size. -/
def execMbxGetSupportedLogs (ld : Ld) (s : State) : Out :=
  runMail ld (reads (fun _ => toBytes 2 1 ++ toBytes 6 0 ++ effectsUuid ++ toBytes 4 (4 * mailboxOpcodes.length))) s

/-- Entries of the command effects log: the opcode, and effects that no rule gives. -/
def effectsEntries (n : Nat) : List Nat → List Byte
  | [] => []
  | o :: os => toBytes 2 o ++ freeBytes 2 n ++ effectsEntries (n + 1) os

/-- MBX_GET_LOG: the command effects log. -/
def execMbxGetLog (ld : Ld) (s : State) : Out :=
  runMail ld (fun s => ({ s with free := s.free + mailboxOpcodes.length }, rcSuccess, effectsEntries s.free mailboxOpcodes)) s

/-- MBX_GET_FW_INFO (R544). -/
def execMbxGetFwInfo (ld : Ld) (s : State) : Out :=
  runMail ld (reads (fun s =>
    let active := s.activeBank + 1
    let staged := if s.update.state == .scheduled then s.inactiveBank + 1 else 0
    toBytes 1 2 ++ toBytes 1 (active + 8 * staged) ++ toBytes 14 0 ++ padTo 16 (versionText s.update.bankA.record.smVer) ++
      padTo 16 (versionText s.update.bankB.record.smVer) ++ List.replicate 32 0#8)) s

/-! ## Event records (R571) -/

/-- The UUID of the records (R92), first byte first. -/
def recordUuid : List Byte :=
  [0x5E#8, 0x8C#8, 0x71#8, 0xA2#8, 0x94#8, 0xD0#8, 0x4B#8, 0x3F#8, 0x8A#8, 0x61#8, 0x0C#8, 0x27#8, 0xD9#8, 0x5E#8, 0x4F#8, 0x18#8]

/-- A CXL event record of 128 bytes: UUID, length, severity, two handles that no rule gives, LAST as its timestamp, and the
64-byte logbook record with 16 zero bytes. -/
def cxlRecord (severity n : Nat) (r : LogRec) : List Byte :=
  recordUuid ++ toBytes 1 128 ++ toBytes 3 severity ++ freeBytes 4 n ++ toBytes 8 r.last ++ List.replicate 16 0#8 ++
  padTo 64 r.bytes ++ List.replicate 16 0#8

def cxlRecords (severity n : Nat) : List LogRec → List Byte
  | [] => []
  | r :: rs => cxlRecord severity n r ++ cxlRecords severity (n + 1) rs

/-- Get Event Records: up to 15 of a log's records, the oldest first, which stay in the log; bit 0 tells of an overflow,
whose count follows and whose times no rule gives, bit 1 that more records wait. -/
def getEventsAct (ld log : Nat) : MailAct := fun s =>
  let c := s.cxlLogs ld
  let rs := c.nth log
  let lost := c.overflow.getD log 0
  let out := rs.take 15
  ({ s with free := s.free + 16 }, rcSuccess,
    toBytes 1 ((if lost = 0 then 0 else 1) + (if 15 < rs.length then 2 else 0)) ++ toBytes 1 0 ++ toBytes 2 (min lost 65535) ++
    (if lost = 0 then List.replicate 16 0#8 else freeBytes 16 s.free) ++ toBytes 2 out.length ++ List.replicate 10 0#8 ++
    cxlRecords log (s.free + 1) out)

/-- MBX_GET_EVENT_RECORDS. -/
def execMbxGetEventRecords (ld : Ld) (log : Fin 4) (s : State) : Out := runMail ld (getEventsAct ld.val log.val) s

/-- Clear Event Records: the oldest records leave the CXL log only; the overflow indication goes when the log is empty. -/
def clearEventsAct (ld log count : Nat) : MailAct := fun s =>
  let c := s.cxlLogs ld
  let rs := c.nth log
  if rs.length < count then (s, rcInvalidHandle, [])
  else
    let c := c.setNth log (rs.drop count)
    (s.setCxlLogs ld (if rs.length = count then { c with overflow := c.overflow.set log 0 } else c), rcSuccess, [])

/-- MBX_CLEAR_EVENT_RECORDS. -/
def execMbxClearEventRecords (ld : Ld) (log : Fin 4) (count : Nat) (s : State) : Out :=
  runMail ld (clearEventsAct ld.val log.val count) s

/-! ## Settings of a mailbox (R108) -/

/-- MBX_GET_EVENT_INTERRUPT_POLICY. -/
def execMbxGetEventInterruptPolicy (ld : Ld) (s : State) : Out :=
  runMail ld (reads (fun s => toBytes 4 (s.mail ld.val).policy.toNat)) s

/-- MBX_SET_EVENT_INTERRUPT_POLICY. -/
def execMbxSetEventInterruptPolicy (ld : Ld) (policy : BitVec 32) (s : State) : Out :=
  runMail ld (fun s => (s.setMail ld.val { s.mail ld.val with policy := policy }, rcSuccess, [])) s

/-- MBX_GET_ALERT_CONFIGURATION: as last set; the settings of a mailbox that has set none no rule gives. -/
def execMbxGetAlertConfiguration (ld : Ld) (s : State) : Out :=
  runMail ld (fun s =>
    let a := (s.mail ld.val).alerts
    if a.isEmpty then (s.draw, rcSuccess, freeBytes 12 s.free) else (s, rcSuccess, a)) s

/-- MBX_SET_ALERT_CONFIGURATION: 12 bytes. -/
def execMbxSetAlertConfiguration (ld : Ld) (config : List Byte) (s : State) : Out :=
  runMail ld (fun s =>
    if config.length ≠ 12 then (s, rcInvalidInput, [])
    else (s.setMail ld.val { s.mail ld.val with alerts := config }, rcSuccess, [])) s

/-- MBX_GET_TIMESTAMP (R456). -/
def execMbxGetTimestamp (ld : Ld) (s : State) : Out := runMail ld (reads (fun s => toBytes 8 s.clock)) s

/-- MBX_SET_TIMESTAMP (R456). -/
def execMbxSetTimestamp (ld : Ld) (time : BitVec 64) (s : State) : Out :=
  runMail ld (fun s => (s.setClock time.toNat, rcSuccess, [])) s

/-! ## Health and shutdown state (R90, R91) -/

/-- MBX_GET_HEALTH_INFO: the dirty shutdown count; the other fields no rule gives. -/
def execMbxGetHealthInfo (ld : Ld) (s : State) : Out :=
  runMail ld (fun s =>
    ({ s with free := s.free + 2 }, rcSuccess,
      freeBytes 6 s.free ++ toBytes 4 (s.get OD.vaultDirtyShutdowns) ++ freeBytes 8 (s.free + 1))) s

/-- MBX_GET_SHUTDOWN_STATE. -/
def execMbxGetShutdownState (ld : Ld) (s : State) : Out :=
  runMail ld (reads (fun s => toBytes 1 (s.get (OD.ldShutdownState ld.val)))) s

/-- MBX_SET_SHUTDOWN_STATE: kept across power loss. -/
def execMbxSetShutdownState (ld : Ld) (dirty : Bool) (s : State) : Out :=
  runMail ld (fun s => (s.keep (OD.ldShutdownState ld.val) (if dirty then 1 else 0), rcSuccess, [])) s

/-! ## Poison (R155, R298) -/

/-- A run of bytes in pieces of at most 128 GiB, which the 4-byte length of a media error record can give. -/
def rangePieces : Nat → Nat → Nat → List (Nat × Nat)
  | 0, _, _ => []
  | n + 1, dpa, len => if len ≤ 2 ^ 37 then [(dpa, len)] else (dpa, 2 ^ 37) :: rangePieces n (dpa + 2 ^ 37) (len - 2 ^ 37)

/-- Poisoned pages and poisoned interior ranges under one coupling, as DPA and length in bytes. -/
def State.poisonUnder (s : State) (c : Coupling) : List (Nat × Nat) :=
  let size := min (s.carriage c.cid).size c.length
  let pages := (s.tables.leaves.filter (fun e => leafCid e.1 = c.cid && e.2.pois && leafPage e.1 < size * 512)).map
    (fun e => (c.dpa + 4096 * leafPage e.1, 4096))
  let ranges := (s.tables.interior.filter (fun e => e.1 / 2 ^ 20 = c.cid && e.2.pois
      && 0 < pagesWithin (interiorFirst e.1) (interiorSpan e.1) size)).flatMap
    (fun e => rangePieces 8 (c.dpa + 4096 * interiorFirst e.1) (4096 * pagesWithin (interiorFirst e.1) (interiorSpan e.1) size))
  pages ++ ranges

/-- The poison list of an LD. -/
def State.poisonList (s : State) (ld : Nat) : List (Nat × Nat) :=
  (s.tables.couplings.filter (fun c => c.ld = ld)).flatMap s.poisonUnder

/-- A media error record: DPA, length in 64-byte units. -/
def mediaRecord (e : Nat × Nat) : List Byte := toBytes 8 e.1 ++ toBytes 4 (e.2 / 64) ++ toBytes 4 0

/-- Get Poison List: 126 entries fill a payload; a longer list goes on at the next command. -/
def poisonListAct (ld : Nat) : MailAct := fun s =>
  let m := s.mail ld
  let all := s.poisonList ld
  let rest := all.drop m.poisonNext
  let out := rest.take 126
  let more := 126 < rest.length
  (s.setMail ld { m with poisonNext := if more then m.poisonNext + 126 else 0 }, rcSuccess,
    toBytes 1 (if more then 1 else 0) ++ toBytes 1 0 ++ toBytes 8 0 ++ toBytes 2 out.length ++ List.replicate 20 0#8 ++
    out.flatMap mediaRecord)

/-- MBX_GET_POISON_LIST. -/
def execMbxGetPoisonList (ld : Ld) (s : State) : Out := runMail ld (poisonListAct ld.val) s

/-- The page under a DPA of an LD: its coupling, its key and its line; none beyond the coupling or the carriage's size. -/
def State.pageAt (s : State) (ld dpa : Nat) : Option (Coupling × Nat × Nat) :=
  match s.couplingAt ld dpa with
  | none => none
  | some c =>
    let off := dpa - c.dpa
    if (s.carriage c.cid).size * 2 ^ 21 ≤ off then none
    else some (c, leafKey c.cid (off / 4096), off / 64 % 64)

/-- Clear Poison (R155): a page that finds no frame, node or backing is answered as a retry would be, Busy. -/
def clearPoisonAct (ld dpa : Nat) (data : Line) : MailAct := fun s =>
  match s.pageAt ld dpa with
  | none => (s, rcInvalidAddress, [])
  | some (_, key, line) =>
    if (s.carriage (leafCid key)).damaged then (s, rcInternal, [])
    else match s.clearPoison key line data with
    | (t, .done) => (t.resume, rcSuccess, [])
    | (_, _) => (s, rcBusy, [])

/-- MBX_CLEAR_POISON. -/
def execMbxClearPoison (ld : Ld) (dpa : BitVec 64) (data : Line) (s : State) : Out :=
  (runMail ld (clearPoisonAct ld.val dpa.toNat data)) s.freshAnswers

/-- Inject Poison (R74, R298): in MAINTENANCE only; the line is written with the poison encoding, as a write whose
completion nobody awaits, and the page's poison bit is set (R153; DEDUCED, log 173). -/
def injectPoisonAct (ld dpa : Nat) : MailAct := fun s =>
  if !(s.ctl.mode == .maintenance) then (s, rcUnsupported, [])
  else match s.pageAt ld dpa with
  | none => (s, rcInvalidAddress, [])
  | some (_, key, _) => ((s.hostWrite ld dpa 0 .injected).poisonLeaf key, rcSuccess, [])

/-- MBX_INJECT_POISON. -/
def execMbxInjectPoison (ld : Ld) (dpa : BitVec 64) (s : State) : Out :=
  (runMail ld (injectPoisonAct ld.val dpa.toNat)) s.freshAnswers

/-! ## Media scan (R74, R108) -/

/-- The pages of a range of an LD's DPA that are poisoned, or hold a poisoned line. -/
def State.scanRange (s : State) (ld dpa units : Nat) : List Nat :=
  let hit := fun (a : Nat) => dpa ≤ a + 4095 && a < dpa + 64 * units
  let listed := ((s.poisonList ld).flatMap (fun e => if e.2 = 4096 then [e.1] else [])).filter hit
  let lines := (s.tables.couplings.filter (fun c => c.ld = ld)).flatMap (fun c =>
    (s.tables.leaves.filter (fun e => leafCid e.1 = c.cid && !e.2.pois && e.2.res && (s.residentImage e.1).bad != 0)).map
      (fun e => c.dpa + 4096 * leafPage e.1))
  listed ++ lines.filter hit

/-- MBX_GET_SCAN_MEDIA_CAPABILITIES: the estimated time, which no rule gives. -/
def execMbxGetScanMediaCapabilities (ld : Ld) (s : State) : Out :=
  runMail ld (fun s => (s.draw, rcSuccess, freeBytes 4 s.free)) s

/-- Scan Media: a background command, whose end no row tells: it ends as it starts (DESIGN CHOICE, log 15). -/
def scanMediaAct (ld dpa units : Nat) : MailAct := fun s =>
  let m := s.mail ld
  if m.background.1 = 0xC001 && m.background.2.1 < 100 then (s, rcBusy, [])
  else if s.get (OD.ldWindowSize ld) < dpa + 64 * units then (s, rcInvalidAddress, [])
  else (s.setMail ld { m with background := (0x4304, 100, 0), scan := s.scanRange ld dpa units, scanned := true }, rcBackground, [])

/-- MBX_SCAN_MEDIA: `length` in 64-byte units. -/
def execMbxScanMedia (ld : Ld) (dpa length : BitVec 64) (s : State) : Out :=
  runMail ld (scanMediaAct ld.val dpa.toNat length.toNat) s

/-- MBX_GET_SCAN_MEDIA_RESULTS: what the last scan found, 126 pages to a payload; each page leaves the results as it is
read. -/
def execMbxGetScanMediaResults (ld : Ld) (s : State) : Out :=
  runMail ld (fun s =>
    let m := s.mail ld.val
    let out := m.scan.take 126
    (s.setMail ld.val { m with scan := m.scan.drop 126 }, rcSuccess,
      toBytes 16 0 ++ toBytes 1 (if 126 < m.scan.length then 1 else 0) ++ toBytes 1 0 ++ toBytes 2 out.length ++
      List.replicate 12 0#8 ++ out.flatMap (fun a => mediaRecord (a, 4096)))) s

/-! ## Label storage area (R88) -/

/-- The label storage area of an LD. -/
def State.lsa (s : State) (ld : Nat) : SMap Byte := mapGet (fun _ => []) s.tables.lsa ld

/-- MBX_GET_LSA: at most the mailbox payload of 2 KiB (R74). An unreadable block answers Internal Error (R330; PRESUMED, log 168). -/
def execMbxGetLsa (ld : Ld) (offset length : Nat) (s : State) : Out :=
  runMail ld (fun s =>
    if 131072 < offset + length || 2048 < length then (s, rcInvalidInput, [])
    else if s.flash.lsaLost.any (fun a => ld.val * 131072 + offset ≤ a && a < ld.val * 131072 + offset + length) then (s, rcInternal, [])
    else (s, rcSuccess, (List.range length).map (fun i => mapGet (fun _ => 0) (s.lsa ld.val) (offset + i)))) s

/-- Bytes stored from an offset on. -/
def storeRun (m : SMap Byte) (off : Nat) : List Byte → SMap Byte
  | [] => m
  | b :: bs => storeRun (mapSet (fun _ => 0) m off b) (off + 1) bs

/-- The area is held in the flash tier: the image that a start without a vault loads has it at once (R88, R266). -/
def State.storeLsa (s : State) (ld : Nat) (area : SMap Byte) : State :=
  { s with tables := { s.tables with lsa := mapSet (fun _ => []) s.tables.lsa ld area }
           flush := { s.flush with image := { s.flush.image with lsa := mapSet (fun _ => []) s.flush.image.lsa ld area } } }

/-- MBX_SET_LSA: the area is updated before the command completes. -/
def execMbxSetLsa (ld : Ld) (offset : Nat) (data : List Byte) (s : State) : Out :=
  runMail ld (fun s =>
    if 131072 < offset + data.length || 2048 < data.length + 8 then (s, rcInvalidInput, [])
    else
      let first := ld.val * 131072 + offset
      let s := { s with flash := { s.flash with lsaLost := s.flash.lsaLost.filter (fun a => a < first || first + data.length ≤ a) } }
      (s.storeLsa ld.val (storeRun (s.lsa ld.val) offset data), rcSuccess, [])) s

/-! ## Opcodes outside the set, and the vendor opcodes without a frame (R75, R108 to R110) -/

/-- MBX_UNSUPPORTED_OPCODE: an opcode of the set is another row's. -/
def execMbxUnsupportedOpcode (ld : Ld) (opcode : BitVec 16) (s : State) : Out :=
  if mailboxOpcodes.contains opcode.toNat then .next s.unlist
  else runMail ld (fun s => (s, rcUnsupported, [])) s

/-- A vendor opcode of a minimum access level: beyond the LD's level it is refused with ACCESS in a response frame (R110). -/
def leveled (ld least : Nat) (act : MailAct) : MailAct := fun s =>
  if s.get (OD.ldMgmtAccess ld) < least then
    (s.raise 0x7011 0 [(.u16, ld), (.u24, 0)], rcSuccess, frameBytes 128 0 0 0 stAccess [])
  else act s

/-- GET_ZOP_LIMITS (R109). -/
def execGetZopLimits (ld : Ld) (s : State) : Out :=
  runMail ld (leveled ld.val 1 (reads (fun s =>
    toBytes 2 1024 ++ toBytes 2 2048 ++ toBytes 1 (s.get (OD.ldMgmtAccess ld.val))))) s

/-- GET_PERSISTENCE_SNAPSHOT (R109). -/
def execGetPersistenceSnapshot (ld : Ld) (s : State) : Out :=
  runMail ld (leveled ld.val 1 (reads (fun s =>
    toBytes 8 s.residue ++ toBytes 8 (s.get OD.plannerEffectiveCeiling) ++ toBytes 1 (s.get OD.qosThrottleState) ++
    toBytes 1 s.host.band ++ [if s.armedPower then 1#8 else 0#8]))) s

/-- GET_COUPLING_MAP (R109, R110): below level 3 only this LD's couplings. -/
def execGetCouplingMap (ld : Ld) (first : BitVec 16) (s : State) : Out :=
  runMail ld (leveled ld.val 1 (reads (fun s =>
    let all := s.get (OD.ldMgmtAccess ld.val) = 3
    let cs := ((s.tables.couplings.filter (fun c => all || c.ld = ld.val)).drop first.toNat).take 64
    toBytes 2 cs.length ++ cs.flatMap (fun c => toBytes 1 c.ld ++ toBytes 16 c.entry.toNat)))) s

/-- GET_VENDOR_IDENTITY (R109, R454). -/
def execGetVendorIdentity (ld : Ld) (s : State) : Out :=
  runMail ld (leveled ld.val 0 (reads (fun s =>
    let text := fun (k : Nat) => toBytes 1 (s.blob k).length ++ s.blob k
    text OD.identityVendor ++ text OD.identityPart ++ text OD.identityStepping ++ toBytes 8 (s.get OD.identityUnitId) ++
    s.versionBytes))) s

end Sys2Proof.Machine
end

