-- ==== Sys2Proof/Machine/Fabric.lean ====
section
/-! DEFINITION. The CXL FM API commands of a port's FM-owned LD (03, R93): they read and write the objects OD 0x2400+n.05 and
.06 of the port's LDs. Payload layouts are CXL's where the rules give none (PRESUMED, log 14). -/
namespace Sys2Proof.Machine

/-- The FM-owned LD of a port answers: the port is a multi-logical device on a linked, operating port (R74, R79). -/
def State.fabricUp (s : State) (p : Nat) : Bool := s.ioMode && s.linkUp p && s.get (OD.hpTopology p) = 1

/-- A command of the FM API is executed and answered; without an FM-owned LD there is nobody to execute it. -/
def runFabric (p : Port) (act : State → State × List Byte) (s : State) : Out :=
  if s.fabricUp p.val then
    let r := act s
    .next { r.1 with out := { r.1.out with fm := r.2 } }
  else .next s

/-- The values of one member of a run of LDs of a port, those beyond the sixteenth left out. -/
def State.ldValues (s : State) (f : Nat → Nat) (p first count : Nat) : List Byte :=
  (List.range (min count (16 - first))).map (fun i => BitVec.ofNat 8 (s.get (f (16 * p + first + i))))

/-- Writes one byte of each LD of a run, kept as a write of the object would be; bytes beyond the sixteenth LD are ignored. -/
def State.setLdValues (s : State) (f : Nat → Nat) (ld last : Nat) : List Byte → State
  | [] => s
  | b :: bs => if last < ld then s else State.setLdValues (s.keep (f ld) b.toNat) f (ld + 1) last bs

/-- The answer to a Set of a run: number of LDs, first, values in force. -/
def State.ldAnswer (s : State) (f : Nat → Nat) (p first count : Nat) : List Byte :=
  let vs := s.ldValues f p first count
  toBytes 1 vs.length ++ toBytes 1 first ++ vs

/-- A Set of a run of LDs of a port. FREEZE permits no such write (R49): the answer gives the values in force. -/
def setRun (f : Nat → Nat) (p first : Nat) (vs : List Byte) (s : State) : State × List Byte :=
  let s := if s.ctl.mode == .freeze then s else s.setLdValues f (16 * p + first) (16 * p + 15) vs
  (s, s.ldAnswer f p first vs.length)

/-- FM_GET_LD_ALLOCATIONS. -/
def execFmGetLdAllocations (p : Port) (s : State) : Out :=
  runFabric p (fun s => (s, s.ldAnswer OD.ldAllocatedBw p.val 0 16)) s

/-- FM_SET_LD_ALLOCATIONS. -/
def execFmSetLdAllocations (p : Port) (first : Fin 16) (fractions : List Byte) (s : State) : Out :=
  runFabric p (setRun OD.ldAllocatedBw p.val first.val fractions) s

/-- FM_GET_QOS_CONTROL: as last set; before that, no rule gives it. -/
def execFmGetQosControl (p : Port) (s : State) : Out :=
  runFabric p (fun s =>
    let c := mapGet (fun _ => []) s.host.qos p.val
    if c.isEmpty then (s.draw, freeBytes 7 s.free) else (s, c)) s

/-- FM_SET_QOS_CONTROL. -/
def execFmSetQosControl (p : Port) (control : List Byte) (s : State) : Out :=
  runFabric p (fun s => ({ s with host := { s.host with qos := mapSet (fun _ => []) s.host.qos p.val control } }, control)) s

/-- FM_GET_QOS_STATUS: one byte, the average backpressure, which no rule gives. -/
def execFmGetQosStatus (p : Port) (s : State) : Out := runFabric p (fun s => (s.draw, freeBytes 1 s.free)) s

/-- FM_GET_QOS_ALLOCATED_BW. -/
def execFmGetQosAllocatedBw (p : Port) (first : Fin 16) (count : Nat) (s : State) : Out :=
  runFabric p (fun s => (s, s.ldAnswer OD.ldAllocatedBw p.val first.val count)) s

/-- FM_SET_QOS_ALLOCATED_BW. -/
def execFmSetQosAllocatedBw (p : Port) (first : Fin 16) (fractions : List Byte) (s : State) : Out :=
  runFabric p (setRun OD.ldAllocatedBw p.val first.val fractions) s

/-- FM_GET_QOS_BW_LIMIT. -/
def execFmGetQosBwLimit (p : Port) (first : Fin 16) (count : Nat) (s : State) : Out :=
  runFabric p (fun s => (s, s.ldAnswer OD.ldBwLimit p.val first.val count)) s

/-- FM_SET_QOS_BW_LIMIT. -/
def execFmSetQosBwLimit (p : Port) (first : Fin 16) (limits : List Byte) (s : State) : Out :=
  runFabric p (setRun OD.ldBwLimit p.val first.val limits) s

end Sys2Proof.Machine
end

