-- ==== Sys2Proof/Machine/FlashRead.lean ====
section
/-! DEFINITION. Reads of flash and their recovery (09, R329, R330): the step at which a read ended, and what becomes of the holder of
an unreadable codeword. -/
namespace Sys2Proof.Machine

/-- An unreadable table-image block: the entries that its node holds in the flash-tier image are lost (R258, R330). The current
tables lie in DRAM and keep theirs. -/
def State.loseImageBlock (s : State) (offset : Nat) : State :=
  let t := (List.range 64).foldl (fun t line => t.loseTableLine (s.poolTop + offset) line) { s with tables := s.flush.image }
  { t with tables := s.tables, flush := { t.flush with image := t.tables } }

/-- An unreadable segment of a vault in use: the pages of a page segment are not found, and without its header or a segment of its
metadata stream the vault is restored as class 4 (R266, R330). What it held is known by the segment's KIND in stream order. -/
def State.loseSegment (s : State) (seal20 segnum : Nat) : State :=
  match s.saves.vaults.find? (fun v => v.seq % 2 ^ 20 = seal20) with
  | none => s
  | some v =>
    let kinds := v.directory.map (·.1)
    let kind := kinds.getD segnum 3
    let r := s.saves.restore
    if kind = 2 then
      let n := (kinds.take segnum).count 2
      if r.metaDone then
        let keys := (v.stream.drop (252 * n)).take 252
        (keys.filter (fun k => mapGet (fun _ => 0) r.locations k = v.seq)).foldl State.fetchFails s
      else s.changeVault v.seq (·.without [n])
    else if kind ≠ 3 && !r.metaDone && r.seq = v.seq && 0 < r.cls && r.cls < 4 then
      { s with saves := { s.saves with restore := { r with cls := 4 } } }.put OD.vaultVaultClass 4
    else s

/-- The names whose entries point to a codeword in a block: its stored name or, for a type-0x0 name, the type-0xA one of the same LPN
(R328, R343). -/
def State.pointingAt (s : State) (name block : Nat) : List Nat :=
  let names := if name / 2 ^ 44 = 0 then [name, name + 10 * 2 ^ 44] else [name]
  names.filter (fun n => (s.flashCopy n).present && (s.flashCopy n).block == block)

/-- The holder of an unreadable codeword (R330). The spec does not say which lines a metadata log block holds; the model's image is
that of whole checkpoints, so that its loss leaves no line behind (DESIGN CHOICE, log 166). -/
def State.unreadable (s : State) (name block : Nat) : State :=
  let type := name / 2 ^ 44
  let n := name % 2 ^ 44
  if type ≤ 1 || type = 10 then (s.pointingAt name block).foldl State.loseCopy s
  else if type = 2 then s.loseImageBlock n
  else if type = 5 then
    let first := n / 2 ^ 38 * 131072 + n % 2 ^ 38 * 4096
    { s with flash := { s.flash with lsaLost := s.flash.lsaLost ++ (List.range 4096).map (first + ·) } }
  else if type = 6 then s.loseSegment (n / 2 ^ 24) (n % 2 ^ 24)
  else s

/-- A retry level has recovered a read: it becomes the block's hint, and is counted for the margin plan (R329, R414). Which of
the profile's levels it is, the command does not say: a free value. -/
def State.levelRecovered (s : State) (c block : Nat) : State :=
  let level := (Config.freeBits 6 s.free).toNat % Nat.max 1 (s.profile 45 1)
  let k := c * 64 + level
  let n := mapGet (fun _ => 0) s.margin.recovered k
  let s := s.draw.setBlock block { s.block block with hint := level + 1 }
  { s with margin := { s.margin with recovered := mapSet (fun _ => 0) s.margin.recovered k (n + 1) } }

/-- A read passed at step `k` (R329): the later steps are counted and reported, and a codeword that needed step 4 or 5 is rewritten
elsewhere and its block queued for refresh. -/
def State.readPassed (s : State) (c block name k : Nat) : State :=
  let s := s.when (2 ≤ k) (fun s => (s.bump (OD.fcRetryReads c) 1).count 0xF043 c 1)
  let s := s.when (3 ≤ k) (fun s => (s.bump (OD.fcSoftDecodes c) 1).raise 0x4010 0 [(.u8, c)])
  let s := s.when (k = 5) (fun s => (s.bump (OD.fcRebuilds c) 1).raise 0x4011 0 [(.u8, c), (.u40, name)])
  let s := s.when (k = 4) (·.levelRecovered c block)
  if 4 ≤ k then
    let s := s.setBlock block { s.block block with refresh := true }
    ((s.pointingAt name block).map (fun n => (n, s.flashCopy n))).foldl (fun s e => s.moveCopy (s.writeBlock 1) e) s
  else s

/-- The flash tier's names: the save region and the system area are not striped (R326, R327). -/
def striped (type : Nat) : Bool := type != 6 && type != 7 && type != 9

/-- FLASH_READ_COMPLETE (R329, R330): the step of recovery at which the read ended. `block` is the block's key. A codeword of a type
that is not stored is treated as unreadable (R326), and one outside the flash tier has no stripe to be rebuilt from. -/
def execFlashReadComplete (c : Fc) (block : Nat) (name : BitVec 48) (outcome : ReadOutcome) (s : State) : Out :=
  if !s.mainDieRuns then .next s.unlist
  else
  let b := s.block block
  let reads := b.reads + 1
  let due := s.disturbLimit ≤ reads
  let s := s.count 0xF040 c.val 1
  let s := s.setBlock block { b with reads := reads, refresh := b.refresh || due }
  let lost := (s.raise 0x4012 0 [(.u8, c.val), (.u40, name.toNat)]).unreadable name.toNat block
  match outcome with
  | .step n => .next (if storedType (name.toNat / 2 ^ 44) && (n.val < 4 || striped (name.toNat / 2 ^ 44)) then s.readPassed c.val block name.toNat (n.val + 1) else lost)
  | .unreadable => .next lost

end Sys2Proof.Machine
end

