-- ==== Sys2Proof/Machine/Loop.lean ====
section
/-! DEFINITION. The Loop Line and the die bridge (01, R22 to R31, R37). -/
namespace Sys2Proof.Machine

/-! ## Links -/

/-- A packet's header as bytes, without PCRC: bits 95:0 (R23). -/
def packetHead (k : Packet) : List Byte :=
  let w : BitVec 96 := k.dst ++ k.src ++ k.cls ++ k.opc ++ k.len ++ k.pois ++ k.tag ++ (0 : BitVec 2) ++ k.addr
  toBytes 12 w.toNat

/-- PCRC matches the header and the payload (R23, R24). -/
def packetGood (k : Packet) : Bool := k.pcrc = crc32c (packetHead k ++ k.payload)

/-- A packet leaves on a link: numbered, and kept in the replay buffer of 32 (R25). -/
def State.sendOn (s : State) (n : Nat) (k : Packet) : State :=
  let l := s.link n
  s.setLink n { l with txSeq := l.txSeq + 1, buffer := (k :: l.buffer).take 32 }

/-- A packet goes on from a stop: on its ring, or on the other one where that link has failed (R26). -/
def State.sendFrom (s : State) (ringE : Bool) (stop : Nat) (k : Packet) : State :=
  let n := nextLink ringE stop
  s.sendOn (if (s.link n).failed then nextLink (!ringE) stop else n) k

/-! ## Stops without a path (R27) -/

/-- A stop that has lost its paths is isolated, with its event. -/
def State.isolateStop (s : State) (x : Nat) : State :=
  { s with loop := { s.loop with isolated := s.loop.isolated ||| (1#8 <<< x) } }.raise 0x8103 0 [(.u8, x)]

/-- The stops that have lost their paths are isolated together, and then their prefects ask for decisions (R27). -/
def State.isolateStops (s : State) : State :=
  let lost := (List.range 8).filter (fun x => !s.loop.isolated.getLsbD x && s.stopLost x)
  lost.foldl (fun s x => s.requestDecision (regionOfStop x)) (lost.foldl State.isolateStop s)

/-! ## A failed link (R26) -/

/-- A link is declared failed: its replay buffer is sent again on the other ring in its original order, and stops without a
path are isolated. A drill under way is spoiled (R223), and the planner recomputes (R218). -/
def State.failLink (s : State) (n : Nat) : State :=
  let l := s.link n
  if l.failed then s
  else
    let s := (s.setLink n { l with failed := true, buffer := [], replays := 0 }).raise 0x8102 0 [(.u8, n)]
    let s := match s.flush.drill with
      | some d => { s with flush := { s.flush with drill := some { d with spoiled := true } } }
      | none => s
    let s := l.buffer.reverse.foldl (fun s k => s.sendFrom (n < 8) (linkStart n) k) s
    s.isolateStops.replan

/-- A receiver asks for a replay (R25): counted, and the link fails after three failed replays of one packet or 16 replays
within 1 ms (R26). -/
def State.replayLink (s : State) (n : Nat) : State :=
  let l := s.link n
  let times := (s.uptime :: l.times).take 16
  let burst := times.length = 16 && s.uptime ≤ times.getLastD 0 + 1000000
  let s := ((s.setLink n { l with replays := l.replays + 1, times := times }).countFixed n).raise 0x8101 1 [(.u8, n)]
  if 3 ≤ l.replays || burst then s.failLink n else s

/-- A packet that its own stop has injected is numbered and kept by the first link it takes as it leaves (R25): when it arrives first,
and not when a replay asked for brings it again. -/
def State.injected (s : State) (n : Nat) (k : Packet) : State :=
  if k.src.toNat = linkStart n && (s.link n).replays = 0 then (s.count 0xF070 (linkStart n) 1).sendOn n k else s

/-- LOOP_LINE_PACKET (R25): PCRC and sequence are checked, and the packet is delivered or passed on. `sent` is the packet as it left
the sending interface, where it arrives altered. -/
def execLoopLinePacket (link : Link) (seq : BitVec 8) (packet : Packet) (s : State) (sent : Option Packet := none) : Out :=
  let n := link.val
  if !s.mainDieRuns || (s.link n).failed then .next s.unlist
  else
  let s := s.injected n (sent.getD packet)
  let l := s.link n
  if !packetGood packet then .next (s.replayLink n)
  else
  if seq ≠ l.rxSeq then .next (((s.countFixed 17).raise 0x8110 0 [(.u8, n)]).replayLink n)
  else
    let s := s.setLink n { l with rxSeq := l.rxSeq + 1, replays := 0 }
    let stop := linkEnd n
    if packet.dst.toNat = stop then .next { s with loop := { s.loop with delivered := (packet :: s.loop.delivered).take 64 } }
    else .next (s.sendFrom (n < 8) stop packet)

/-- LINK_FAILURE (R26). -/
def execLinkFailure (link : Link) (s : State) : Out :=
  if s.mainDieRuns then .next (s.failLink link.val) else .next s.unlist

/-- So many replays of one transfer over the die bridge, each counted and reported (R47, R573). -/
def State.bridgeReplays (s : State) (n : Nat) : State :=
  let s := (List.range n).foldl (fun s _ => (s.countFixed 16).note 0x8130) s
  { s with loop := { s.loop with bridgeReplays := n } }

/-- DIE_BRIDGE_FAILURE (R37): a transfer is replayed. Eight failed replays declare the bridge failed; the Signal Box has no isolation, and
a decision is asked for (R16). With `good` the transfer passed at its replay `good + 1`, and the bridge stands. -/
def execDieBridgeFailure (s : State) (good : Option (Fin 8) := none) : Out :=
  if s.mainDieRuns && !s.loop.bridgeFailed then
    match good with
    | some k => .next (s.bridgeReplays (k.val + 1))
    | none =>
      let s := (s.bridgeReplays 8).note 0x8131
      .next (State.requestDecision { s with loop := { s.loop with bridgeFailed := true } } .signalBox)
  else .next s.unlist

end Sys2Proof.Machine
end

