-- ==== Sys2Proof/Machine/Notify.lean ====
section
/-! DEFINITION. The two-wire port as controller (13, R473 to R477): Host Notify messages and MCTP packets, their loss and their
retries; TestNotify. -/
namespace Sys2Proof.Machine

/-- The bus is free: the speed and the slope that were written take effect (R478). -/
def State.busFree (s : State) : State :=
  { s with bus := { s.bus with speed := s.get OD.twoWireBusSpeed, slope := s.get OD.twoWireSlope } }

/-- A Host Notify message (R474): address 0x08 for a write, the port's own address, the event code. -/
def State.noticeBytes (s : State) (code : Nat) : List Byte :=
  [0x10#8, BitVec.ofNat 8 (2 * s.get OD.twoWireAddress)] ++ toBytes 2 code

/-- What the port sends next: a Host Notify message before an MCTP packet (R473). -/
inductive Sending where
  | notice (n : Notice) (rest : List Notice)
  | packet (dest : Nat) (bytes : List Byte) (rest : List (Nat × List Byte))
  | nothing
  deriving DecidableEq, Repr

def State.sending (s : State) : Sending :=
  match s.bus.queue, s.bus.packets with
  | n :: ns, _ => .notice n ns
  | [], (d, p) :: ps => .packet d p ps
  | [], [] => .nothing

/-- What is left of the packets when a packet is dropped: the rest of its message is dropped too (R477). -/
def dropMessage : List (Nat × List Byte) → List (Nat × List Byte)
  | [] => []
  | (_, p) :: ps => if field p 0 1 / 64 % 2 = 1 then ps else dropMessage ps

/-- Another attempt failed (R477): after Attempts of them the message is dropped, otherwise its backoff begins. -/
def State.attemptFailed (s : State) (nack : Bool) : State :=
  let limit := s.get OD.notifyAttempts
  let cause := if nack then 2 else 3
  match s.sending with
  | .nothing => s
  | .notice n rest =>
    if limit ≤ n.attempts + 1 then
      State.noticeLost { s with bus := { s.bus with queue := rest, waiting := false } } n.code cause
    else { s with bus := { s.bus with queue := { n with attempts := n.attempts + 1 } :: rest, waiting := true, lastNack := nack } }
  | .packet _ _ _ =>
    if limit ≤ s.bus.packetAttempts + 1 then
      ((State.put { s with bus := { s.bus with packets := dropMessage s.bus.packets, packetAttempts := 0, waiting := false } }
        OD.notifyLastResult cause).bump OD.notifyDropped 1).raise 0x6102 0 [(.u16, 0), (.u8, cause)]
    else { s with bus := { s.bus with packetAttempts := s.bus.packetAttempts + 1, waiting := true, lastNack := nack } }

/-- HOST_NOTIFY_SEND (R474, R477): the message at the head of the queue, or the next packet, goes out; its receiver acknowledges
every byte, or not. -/
def execHostNotifySend (acknowledged : Bool) (s : State) : Out :=
  if s.ctl.stopped || s.bus.waiting then .next s.unlist
  else match s.sending with
  | .nothing => .next s.unlist
  | .notice n rest =>
    let s := { s with out := { s.out with busSent := some (s.noticeBytes n.code) } }
    if acknowledged then
      .next ((((State.bump { s with bus := { s.bus with queue := rest } } OD.notifySent 1).put OD.notifyLastCode n.code).put
        OD.notifyLastResult 1).busFree)
    else .next ((s.bump OD.notifyNacked 1).attemptFailed true).busFree
  | .packet _ p rest =>
    let s := { s with out := { s.out with busSent := some p } }
    if acknowledged then .next (State.busFree { s with bus := { s.bus with packets := rest, packetAttempts := 0 } })
    else .next ((s.bump OD.notifyNacked 1).attemptFailed true).busFree

/-- ARBITRATION_LOST (R476): during the address byte the port goes on as a target, and what it then hears is a transaction of its
own. -/
def execArbitrationLost (inAddress : Bool) (s : State) : Out :=
  if s.ctl.stopped || s.bus.waiting || s.sending = .nothing then .next s.unlist
  else
    let t := ((s.bump OD.notifyArbitrationLost 1).note 0x6105).attemptFailed false
    .next (if inAddress then t else t.busFree)

/-- HOST_NOTIFY_RETRY (R477): the backoff ends; a message whose failed attempts have reached Attempts by now is dropped, any
other may be sent again from its first byte. -/
def execHostNotifyRetry (s : State) : Out :=
  if !s.bus.waiting then .next s.unlist
  else
    let t := { s with bus := { s.bus with waiting := false } }
    let limit := s.get OD.notifyAttempts
    let cause := if s.bus.lastNack then 2 else 3
    match s.sending with
    | .notice n rest =>
      if limit ≤ n.attempts then .next (State.noticeLost { t with bus := { t.bus with queue := rest } } n.code cause) else .next t
    | .packet _ _ _ =>
      if limit ≤ s.bus.packetAttempts then
        .next (((State.put { t with bus := { t.bus with packets := dropMessage s.bus.packets, packetAttempts := 0 } }
          OD.notifyLastResult cause).bump OD.notifyDropped 1).raise 0x6102 0 [(.u16, 0), (.u8, cause)])
      else .next t
    | .nothing => .next t

/-- TEST_NOTIFY (R475, R489): a message of severity WARN, whatever Enable and MinSeverity are. -/
def execTestNotify (q : Req) (code : BitVec 16) (s : State) : Out :=
  runCmd (.testNotify q code) q OD.notifyTestNotify (toBytes 2 code.toNat) (fun s =>
    if noticeNever code.toNat then fail s stRange
    else ok (s.queueMessage code.toNat 1 (noticeFirst code.toNat))) s

end Sys2Proof.Machine
end

