-- ==== Sys2Proof/Machine/Tap.lean ====
section
/-! DEFINITION. The JTAG TAP (17, R603). -/
namespace Sys2Proof.Machine

/-- The condition in which the boundary-scan instructions drive balls: OFF, the Main die powered, RESET_N low. -/
def State.scanOpen (s : State) : Bool := s.ctl.mode == .off && s.pins.mdPwrgd && !s.pins.resetN

/-- The instructions that drive balls. -/
def scanInstruction : TapInstruction → Bool
  | .samplePreload => true | .extest => true | .extestPulse => true | .extestTrain => true
  | .bypass => false | .idcode => false | .other => false | .reset => false

/-- IDCODE: bits [27:12] are 0x9640 and bit 0 is 1; the others no rule gives. -/
def idcode : BitVec 32 := BitVec.ofNat 32 ((Config.freeBits 4 0).toNat * 2 ^ 28 + 0x9640 * 2 ^ 12 + (Config.freeBits 11 1).toNat * 2 + 1)

/-- TAP_INSTRUCTION: outside its condition a boundary-scan instruction acts as BYPASS, and so does every instruction that the TAP
does not execute. -/
def execTapInstruction (i : TapInstruction) (s : State) : Out :=
  match i with
  | .idcode => .next { s with tap := { instruction := .idcode, drives := false, idcode := some idcode } }
  | .bypass => .next { s with tap := { s.tap with instruction := .bypass, drives := false } }
  | .other => .next { s with tap := { s.tap with instruction := .bypass, drives := false } }
  | .reset => .next { s with tap := { s.tap with instruction := .reset, drives := false } }
  | i =>
    let live := s.scanOpen && scanInstruction i
    .next { s with tap := { s.tap with instruction := if live then i else .bypass, drives := live } }

/-- The TAP drives balls now: the condition holds still. -/
def State.tapDrives (s : State) : Bool := s.tap.drives && s.scanOpen

end Sys2Proof.Machine
end

