-- ==== Sys2Proof/Machine/Zop.lean ====
section
/-! DEFINITION. The transports' whole ZOP requests (12, R439 to R450; 03, R109, R110): a frame is read, and the command it spells
is executed; MCTP messages and their control commands. -/
namespace Sys2Proof.Machine

/-! ## The command that a frame spells -/

/-- A request whose payload no command of its object has: it fails one of the checks, LENGTH at the latest. -/
def misfit (q : Req) (f : ReqFrame) (s : State) : Out :=
  runNow q f.opcode f.index f.sub f.payload (fun s => fail s stLength) s

/-- A field of the payload as a word. -/
def ReqFrame.word (f : ReqFrame) (w off n : Nat) : BitVec w := BitVec.ofNat w (field f.payload off n)

/-- The 16-bit numbers from an offset on. -/
def wordsFrom (bs : List Byte) (off count : Nat) : List (BitVec 16) :=
  (List.range count).map (fun i => BitVec.ofNat 16 (field bs (off + 2 * i) 2))

/-- WRITE (R441), to the objects that have a row of their own and to all others. -/
def writeFrame (q : Req) (f : ReqFrame) (s : State) : Out :=
  let k := keyOf f.index f.sub
  let n := f.payload.length
  if 0x7000 ≤ f.index && f.index ≤ 0x70FF && f.sub = 1 then execKeyLoad q (BitVec.ofNat 8 (f.index - 0x7000)) f.payload s
  else if k = 0xA00003 then execBlockPart q f.payload s
  else if k = OD.clockNow && n = 8 then execTimeSet q (f.word 64 0 8) s
  else if k = OD.flashSaveCeilingMax && n = 8 then execSaveCeilingMaxWrite q (f.word 64 0 8) s
  else if k = OD.railDividerRatio && n = 2 then execDividerRatioWrite q (f.word 16 0 2) s
  else if f.index = 0x5100 && 1 ≤ f.sub && f.sub ≤ 3 && n = 2 then execThresholdWrite q (BitVec.ofNat 8 f.sub) (f.word 16 0 2) s
  else if f.index = 0x9400 && (f.sub = 2 || f.sub = 3) && n = 2 then
    execCounterSourceWrite q (BitVec.ofNat 8 f.sub) (f.word 16 0 2) s
  else if k = OD.ticketSeed && n = 4 then execTicketSeedWrite q (f.word 32 0 4) s
  else match findObj f.index f.sub with
  | some o =>
    if o.access == .rws then execStagedObjectWrite q (BitVec.ofNat 16 f.index) (BitVec.ofNat 8 f.sub) f.payload s
    else execObjectWrite q (BitVec.ofNat 16 f.index) (BitVec.ofNat 8 f.sub) f.payload s
  | none => misfit q f s

/-- EXECUTE of a command without a payload; none when the object is no such command. -/
def executeBare (q : Req) (k : Nat) (s : State) : Option Out :=
  if k = OD.stagingDiscard then some (execDiscardStaged q s)
  else if k = OD.carriageAdvance then some (execCarriageAdvance q s)
  else if k = OD.termEndGlobalTerm then some (execEndGlobalTerm q s)
  else if k = OD.drillDrillStart then some (execDrillStart q s)
  else if k = OD.vaultClearOutcomes then some (execClearOutcomes q s)
  else if k = OD.dramForceFullTraining then some (execForceFullTraining q s)
  else if 0x7000 ≤ k / 256 && k / 256 ≤ 0x70FF && k = OD.slotErase (k / 256 - 0x7000) then
    some (execKeySlotErase q (BitVec.ofNat 8 (k / 256 - 0x7000)) s)
  else if k = OD.pipesPipeRetest then some (execPipeRetest q (Config.freeBits 40 s.free) s.draw)
  else if k = OD.learningRelearn then some (execRelearn q s)
  else if k = OD.marginReplanNow then some (execReplanNow q s)
  else if k = OD.updateSubmitBlock then some (execSubmitBlock q s)
  else if k = OD.updateAbort then some (execUpdateAbort q s)
  else if k = OD.updateApply then some (execApplyPackage q s)
  else if k = OD.departureCancel then some (execScheduleCancel q s)
  else if k = OD.bankRollback then some (execRollback q s)
  else if k = OD.counterSnapshot then some (execCounterSnapshot q s)
  else if k = OD.ticketClear then some (execTicketClear q s)
  else if k = OD.perturbArm then some (execPerturbationArm q s)
  else if k = OD.perturbDisarm then some (execPerturbationDisarm q s)
  else none

/-- EXECUTE of a command whose payload has one length: the carriage and coupling commands. -/
def executeCarriage (q : Req) (f : ReqFrame) (k n : Nat) (s : State) : Option Out :=
  if k = OD.couplingCouple && n = 17 then some (execCouple q (f.word 8 0 1) (f.word 128 1 16) s)
  else if k = OD.couplingUncouple && n = 9 then some (execUncouple q (f.word 8 0 1) (f.word 64 1 8) s)
  else if k = OD.carriageCreate && n = 15 then
    some (execCarriageCreate q (f.word 16 0 2) (f.word 8 2 1) (f.word 32 3 4) (f.word 64 7 8) s)
  else if k = OD.carriageDelete && n = 2 then some (execCarriageDelete q (f.word 16 0 2) s)
  else if k = OD.carriageResize && n = 6 then some (execCarriageResize q (f.word 16 0 2) (f.word 32 2 4) s)
  else if k = OD.carriageSetSeal && n = 3 then some (execSetSeal q (f.word 16 0 2) (f.word 8 2 1) s)
  else if k = OD.carriageSetLabel && n = 10 then some (execSetLabel q (f.word 16 0 2) (f.word 64 2 8) s)
  else if k = OD.carriageClearPagePoison && n = 6 then some (execClearPagePoison q (f.word 16 0 2) (f.word 32 2 4) s)
  else if k = OD.depotAdmit && n = 11 then
    some (execAdmission q (f.word 16 0 2) (f.word 32 2 4) (f.word 32 6 4) (f.word 8 10 1) s)
  else if k = OD.depotMapDepot && n = 14 then
    some (execMapDepot q (f.word 16 0 2) (f.word 32 2 4) (f.word 32 6 4) (f.word 32 10 4) s)
  else if k = OD.sidingPark && n = 2 then some (execPark q (f.word 16 0 2) s)
  else if k = OD.sidingRecall && n = 2 then some (execRecall q (f.word 16 0 2) s)
  else if k = OD.transferExport && 12 ≤ n then
    some (execExportCarriage q (f.word 16 0 2) (f.word 16 2 2) (f.word 64 4 8) (f.payload.drop 12) s)
  else if k = OD.transferImport && n = 5 then some (execImportCarriage q (f.word 16 0 2) (f.word 16 2 2) (f.word 8 4 1) s)
  else if k = OD.termEndCarriageTerm && n = 2 then some (execEndCarriageTerm q (f.word 16 0 2) s)
  else if k = OD.termRevert && n = 2 then some (execRevert q (f.word 16 0 2) s)
  else none

/-- Seal, Unseal and PlanLoad, whose payloads give lengths of their own. -/
def executeListed (q : Req) (f : ReqFrame) (k n : Nat) (s : State) : Option Out :=
  let p := f.payload
  let a := field p 1 1
  let m := field p 2 2
  if k = OD.sealingSeal && 4 ≤ n && n = 4 + a + m then
    some (execSealBlob q (f.word 8 0 1) (slice p 4 a) (slice p (4 + a) m) s)
  else if k = OD.sealingUnseal && 4 ≤ n && n = 32 + a + m then
    some (execUnsealBlob q (f.word 8 0 1) (slice p 4 a) (slice p (4 + a) 12) (slice p (16 + a) m) (slice p (16 + a + m) 16) s)
  else if k = OD.restorePlanLoad && 4 ≤ n && n = 4 + 2 * m then
    some (execPlanLoad q (f.word 16 0 2) (wordsFrom p 4 m) s)
  else none

/-- EXECUTE of the other commands whose payload has one length. -/
def executeOther (q : Req) (f : ReqFrame) (k n : Nat) (s : State) : Option Out :=
  if k = OD.modeRequest && n = 1 then some (execModeRequest q (f.word 8 0 1) s)
  else if k = OD.stagingCommit && n = 1 then some (execCommitStaged q (f.word 8 0 1) s)
  else if k = OD.freezeFreezeChannel && n = 1 then some (execFreezeChannel q (f.word 8 0 1) s)
  else if k = OD.freezeReturnChannel && n = 1 then some (execDramReturnChannel q (f.word 8 0 1) s)
  else if k = OD.flashReturnChannel && n = 1 then some (execFlashReturnChannel q (f.word 8 0 1) s)
  else if k = OD.passesGrant && n = 3 then some (execPassGrant q (f.word 16 0 2) (f.word 8 2 1) s)
  else if k = OD.passesRevoke && n = 3 then some (execPassRevoke q (f.word 16 0 2) (f.word 8 2 1) s)
  else if k = OD.passesRevokeSlot && n = 1 then some (execRevokeSlot q (f.word 8 0 1) s)
  else if k = OD.departureSchedule && n = 9 then some (execSchedule q (f.word 64 0 8) (f.word 8 8 1) s)
  else if k = OD.logbookClearFatal && n = 8 then some (execClearFatal q (f.word 64 0 8) s)
  else if k = OD.perturbUnlock && n = 12 then some (execPerturbationUnlock q (f.word 64 0 8) (f.word 32 8 4) s)
  else if k = OD.notifyTestNotify && n = 2 then some (execTestNotify q (f.word 16 0 2) s)
  else none

/-- EXECUTE (R441). -/
def executeFrame (q : Req) (f : ReqFrame) (s : State) : Out :=
  let k := keyOf f.index f.sub
  let n := f.payload.length
  let bare := if n = 0 then executeBare q k s else none
  (bare.orElse fun _ => (executeCarriage q f k n s).orElse fun _ => (executeOther q f k n s).orElse fun _ =>
    executeListed q f k n s).getD (misfit q f s)

/-- The command of a request's opcode (R441); an opcode that does not exist ends in OPCODE. -/
def requestFrame (q : Req) (f : ReqFrame) (s : State) : Out :=
  let i := BitVec.ofNat 16 f.index
  let b := BitVec.ofNat 8 f.sub
  if f.opcode = opWrite then writeFrame q f s
  else if f.opcode = opExecute then executeFrame q f s
  else if f.opcode = opFetch then runNow q opFetch f.index f.sub f.payload (fetchAct q.src q.tag.toNat) s
  else if f.opcode = opCompareWrite then execCompareWrite q i b f.payload s
  else if !f.payload.isEmpty then misfit q f s
  else if f.opcode = opRead then execZopRead q i b s
  else if f.opcode = opDescribe then execDescribe q i b s
  else if f.opcode = opReadStaged then execReadStaged q i b s
  else misfit q f s

/-- The fields of a frame of any length, those beyond its end zero. -/
def looseFrame (bs : List Byte) : ReqFrame :=
  { opcode := field bs 0 1, index := field bs 2 2, sub := field bs 4 1, payload := (bs.drop 8).take (bs.length - 12) }

/-- A frame arrives from a session: one that is not whole, or whose CRC fails, gets FRAME (R443). -/
def serveFrame (src : Transport) (bs : List Byte) (s : State) : Out :=
  let f := looseFrame bs
  let whole := frameLengthOk bs && crc32c (bs.take (bs.length - 4)) = BitVec.ofNat 32 (field bs (bs.length - 4) 4)
  let crc := frameCrc f.opcode (field bs 1 1) f.index f.sub 0 f.payload
  if whole then requestFrame { src := src, tag := BitVec.ofNat 8 (field bs 1 1), crc := crc } f s
  else .next (s.serve src (field bs 1 1) crc false f ok)

/-! ## ZOP over the mailbox (R109, R110, R449) -/

/-- The length of a mailbox input suits a frame. -/
def mailFrameOk (bs : List Byte) : Bool := 12 ≤ bs.length && bs.length ≤ 1036 && bs.length = 12 + field bs 6 2

/-- A refusal by level, in a response frame (R110). -/
def State.levelRefused (s : State) (ld : Nat) (bs : List Byte) : State × Nat × List Byte :=
  let f := looseFrame bs
  (s.raise 0x7011 0 [(.u16, ld), (.u24, keyOf f.index f.sub)], rcSuccess,
    frameBytes (f.opcode % 128 + 128) (field bs 1 1) f.index f.sub stAccess [])

/-- ZOP_REQUEST: opcode 0xC000. -/
def execZopRequest (ld : Ld) (frame : List Byte) (s : State) : Out :=
  if !mailFrameOk frame then runMail ld (fun s => (s, rcInvalidInput, [])) s
  else if s.get (OD.ldMgmtAccess ld.val) < 1 then runMail ld (fun s => s.levelRefused ld.val frame) s
  else if s.mailboxUp ld.val then serveFrame (.mailbox ld) frame s
  else .next s

/-- The frame names an EXECUTE of a command object. -/
def namesCommand (bs : List Byte) : Bool :=
  let f := looseFrame bs
  f.opcode = opExecute && ((findObj f.index f.sub).map (fun o => o.access == .cmd)).getD false

/-- The background command's frame has been served: what it answered at once is held under its TAG, and a command that goes on
is pending; the mailbox answers Background Command Started. -/
def State.background (s : State) (ld : Ld) (tag key : Nat) : State :=
  let src := Transport.mailbox ld
  let x := s.session src
  let m := s.mail ld.val
  let t :=
    if x.active.isSome then (s.answerPending src).setMail ld.val { m with background := (0xC001, 0, 0) }
    else
      let r : Reply := (s.out.zop.map (·.reply)).getD { status := stInternal, payload := [] }
      let x := if (findResult tag x.results).isSome then x
               else { x with results := x.results ++ [{ tag := tag, key := key, reply := some r, time := s.uptime }] }
      (s.setSession x).setMail ld.val { m with background := (0xC001, 100, 0) }
  { t with out := { t.out with mailbox := some { ld := ld.val, code := rcBackground, payload := [] } } }

/-- ZOP_REQUEST_IN_BACKGROUND: opcode 0xC001. -/
def execZopRequestInBackground (ld : Ld) (frame : List Byte) (s : State) : Out :=
  let m := s.mail ld.val
  let src := Transport.mailbox ld
  if !mailFrameOk frame || !namesCommand frame then runMail ld (fun s => (s, rcInvalidInput, [])) s
  else if s.get (OD.ldMgmtAccess ld.val) < 2 then runMail ld (fun s => s.levelRefused ld.val frame) s
  else if m.background.1 = 0xC001 && m.background.2.1 < 100 || 16 ≤ (s.session src).results.length then
    runMail ld (fun s => (s, rcBusy, [])) s
  else if !s.mailboxUp ld.val then .next s
  else match serveFrame src frame { s with out := { s.out with zop := none } } with
  | .next t => .next (t.background ld (field frame 1 1) (keyOf (field frame 2 2) (field frame 4 1)))
  | .fault f => .fault f
  | .refused r => .refused r

/-! ## MCTP (R450) -/

/-- The number under which an endpoint's EID is held: its port, or 2 for the two-wire port. -/
def endpointOf : Transport → Option Nat
  | .vdm p _ => some p.val
  | .smbus _ => some 2
  | .mailbox _ => none
  | .proxy => none

/-- The data of a control command's response after its completion code, with the EID after it (the layouts are MCTP's,
PRESUMED, log 14). Completion codes: 0 success, 2 invalid data, 3 invalid length, 5 unsupported command. -/
def controlAnswer (cmd eid : Nat) (data : List Byte) (s : State) : List Byte × Nat :=
  match cmd with
  | 1 =>
    let e := field data 1 1
    if data.length ≠ 2 then ([3#8], eid)
    else if 1 < field data 0 1 % 4 || e = 0 || e = 255 then ([2#8], eid)
    else ([0#8, 0#8, BitVec.ofNat 8 e, 0#8], e)
  | 2 => ([0#8, BitVec.ofNat 8 eid, 0#8, Config.freeBits 8 s.free], eid)
  | 3 => (0#8 :: toBytes 16 (Config.freeBits 128 (s.get OD.identityUnitId)).toNat, eid)
  | 4 =>
    if data.length ≠ 1 then ([3#8], eid)
    else if data = [0xFF#8] || data = [0#8] || data = [0x7E#8] then ([0#8, 1#8] ++ freeBytes 4 0, eid)
    else ([0x80#8], eid)
  | 5 => ([0#8, 2#8, 0#8, 0x7E#8], eid)
  | 6 =>
    if data.length ≠ 1 then ([3#8], eid)
    else if data ≠ [0#8] then ([2#8], eid)
    else ([0#8, 0xFF#8, 0#8] ++ (toBytes 2 (s.get OD.identityPciVendorId)).reverse ++ freeBytes 2 1, eid)
  | _ => ([5#8], eid)

/-- A control message: requests are answered; a response or a datagram asks for no answer. -/
def State.mctpControl (s : State) (src : Transport) (ep : Nat) (body : List Byte) : State :=
  let h := field body 0 1
  if body.length < 2 || h < 128 || h / 64 % 2 = 1 then s
  else
    let r := controlAnswer (field body 1 1) (mapGet (fun _ => 0) s.zop.eids ep) (body.drop 2) s
    let t := { s.draw with zop := { s.zop with eids := mapSet (fun _ => 0) s.zop.eids ep r.2 } }
    t.sendMctp src ([0#8, BitVec.ofNat 8 (h % 32), BitVec.ofNat 8 (field body 1 1)] ++ r.1)

/-- The frame in a message body of the vendor-defined type; none when it is not Igver's. -/
def State.frameIn (s : State) (body : List Byte) : Option (List Byte) :=
  if body.take 3 = (toBytes 2 (s.get OD.identityPciVendorId)).reverse ++ [0x5A#8] then some (body.drop 3) else none

/-- MCTP_MESSAGE: a message of any other type, or one that asks for an integrity check, is dropped unanswered. -/
def execMctpMessage (source : Transport) (msgType : BitVec 8) (body : List Byte) (s : State) : Out :=
  match endpointOf source with
  | none => .next s.unlist
  | some ep =>
    if !s.transportUp source then .next s
    else if msgType = 0 then .next (s.mctpControl source ep body)
    else if msgType = 0x7E#8 then
      match s.frameIn body with
      | some frame => serveFrame source frame s
      | none => .next s
    else .next s

end Sys2Proof.Machine
end

