-- ==== Sys2Proof/Machine/TwoWire.lean ====
section
/-! DEFINITION. The two-wire port as target (13, R462 to R472, R481 to R487): the register window, its snapshots, transactions,
and the ZOP proxy mailbox. -/
namespace Sys2Proof.Machine

/-! ## Output pins -/

/-- SAVE_ACTIVE is high (R51): from the commit fence to the end of the seal. -/
def State.saveActive (s : State) : Bool :=
  s.ctl.mode == .save && match s.saves.run with | some r => !r.sealed | none => false

/-- VAULT_OK is high (R51, R255): in VAULT when COMPLETE is set in the last completion record. -/
def State.vaultOk (s : State) : Bool := s.ctl.mode == .vault && s.get OD.vaultSealFlags % 2 = 1

/-! ## What the window mirrors (R481 to R487) -/

/-- The bytes of an object, cut or padded to a field. -/
def State.mirror (s : State) (k len : Nat) : List Byte :=
  match findObj (k / 256) (k % 256) with
  | some o => padTo len (s.readBytes .proxy o k)
  | none => List.replicate len 0#8

/-- A mode in which the stretch limit is 1 ms (R471); recovery has no limit. -/
def State.stretchBounded (s : State) : Bool :=
  s.inMode [.off, .restore, .service, .save, .vault] && !s.bus.recovery

/-- STATUS but for STALE (R483). -/
def State.statusByte (s : State) : Byte :=
  let b := fun (x : Bool) (n : Nat) => if x then 2 ^ n else 0
  BitVec.ofNat 8 (b s.pins.mdPwrgd 7 + b (s.flag OD.clockTimeValid) 5 + b s.vaultPending 4 + b s.vaultOk 3 + b s.saveActive 2
    + b s.armedPower 1 + b (!s.stretchBounded) 0)

/-- Range 0x0000: identity and mode status (R482). -/
def State.identityRange (s : State) : List Byte :=
  padTo 256 (toBytes 2 1 ++ s.mirror OD.modeMode 1 ++ s.mirror OD.modeLastCause 1 ++ [s.statusByte] ++
    s.mirror OD.modeBootFailures 1 ++ s.mirror OD.modeBootFailStep 1 ++ s.mirror OD.twoWireAddress 1 ++ s.mirror OD.identityUnitId 8 ++
    s.mirror OD.identityFirmwareVersions 32 ++ s.mirror OD.identityVendor 32 ++ s.mirror OD.identityPart 16 ++
    s.mirror OD.identityStepping 4 ++ s.mirror OD.identityPciVendorId 2 ++ [0#8, 0#8] ++ s.mirror OD.clockNow 8 ++
    s.mirror OD.vaultSealSeq 8 ++ s.mirror OD.vaultVaultClass 1 ++ s.mirror OD.vaultChainDepth 1 ++ s.mirror OD.vaultSealFlags 2 ++
    s.mirror OD.vaultSaveDuration 4)

/-- FLAGS of the battery summary (R484). -/
def State.batteryFlags (s : State) : Byte :=
  let b := fun (k n : Nat) => if s.flag k then 2 ^ n else 0
  BitVec.ofNat 8 (b OD.gaugeAtRest 0 + b OD.gaugeDisagreement 1 + b OD.learningDerated 2 + b OD.learningForcedRelearn 3)

/-- Range 0x0100: battery summary (R484). -/
def State.batteryRange (s : State) : List Byte :=
  padTo 256 (s.mirror OD.gaugePackState 1 ++ s.mirror OD.gaugeEstimate 1 ++ [s.batteryFlags] ++ s.mirror OD.railBatselState 1 ++
    s.mirror OD.gaugePackVoltage 2 ++ s.mirror OD.railRailVoltage 2 ++ s.mirror OD.gaugeCurrent 4 ++ s.mirror OD.gaugeCellVoltages 8 ++
    s.mirror OD.gaugeTemperatures 4 ++ s.mirror OD.gaugeSocPlanning 2 ++ s.mirror OD.gaugeSocCoulomb 2 ++
    s.mirror OD.gaugeSocVoltage 2 ++ s.mirror OD.marginReserveShare 1 ++ s.mirror OD.railPwrfailLevel 1 ++
    s.mirror OD.gaugeUsableEnergy 4 ++ s.mirror OD.learningLearnedCapacity 4 ++ s.mirror OD.learningLearnedR25 4 ++
    s.mirror OD.gaugeDesignCapacity 4 ++ s.mirror OD.railEffectiveLevels 6 ++ s.mirror OD.railReleaseHoldElapsed 2)

/-- A buffer byte; beyond offset 1,035 there is none (R485). -/
def Proxy.byte (p : Proxy) (off : Nat) : Byte := if 1035 < off then 0#8 else mapGet (fun _ => 0#8) p.buffer off

/-- PXSTAT (R485). -/
def ProxyState.code : ProxyState → Nat
  | .idle => 0 | .loading => 1 | .busy => 2 | .ready => 3 | .error => 4

/-- Range 0x0200: the proxy (R485). PXCTRL reads zero. -/
def Proxy.range (p : Proxy) : List Byte :=
  padTo 64 ([0#8] ++ toBytes 1 p.state.code ++ toBytes 2 p.len ++ toBytes 2 p.off ++ [p.seq]) ++
  (List.range 192).map (fun i => p.byte (p.off + i))

/-- Range 0x0300: Host Notify, live (R469, R487). -/
def State.notifyRange (s : State) : List Byte :=
  padTo 256 (s.mirror OD.notifyEnable 1 ++ s.mirror OD.notifyMinSeverity 1 ++ s.mirror OD.notifyAttempts 1 ++
    s.mirror OD.notifyPending 1 ++ s.mirror OD.notifySent 4 ++ s.mirror OD.notifyDropped 4 ++ s.mirror OD.notifyArbitrationLost 4 ++
    s.mirror OD.notifyNacked 4 ++ s.mirror OD.notifyLastCode 2 ++ s.mirror OD.notifyLastResult 1)

/-! ## Snapshots (R469) -/

/-- WINDOW_SNAPSHOT_REFRESH: both ranges, while the Signal Box runs and is not in recovery. -/
def execWindowSnapshotRefresh (s : State) : Out :=
  if s.ctl.stopped || s.bus.recovery then .next s.unlist
  else .next { s with bus := { s.bus with
    old0 := s.bus.snap0, old1 := s.bus.snap1, oldTime0 := s.bus.time0, oldTime1 := s.bus.time1,
    snap0 := s.identityRange, snap1 := s.batteryRange, time0 := s.uptime, time1 := s.uptime } }

/-- STALE is set in a range 0 that was more than 20 ms old when latched (R483). -/
def markStale (age : Nat) (r : List Byte) : List Byte :=
  if 20000000 < age then r.set 4 (r.getD 4 0#8 ||| 0x40#8) else r

/-- UNBOUNDED is 1 during recovery, when no snapshot is refreshed: the port gives it (R483; DEDUCED, log 194). -/
def markUnbounded (r : List Byte) : List Byte := r.set 4 (r.getD 4 0#8 ||| 1#8)

/-- The window as one read transaction latches it (R469, R471). -/
structure Window where
  identity : List Byte
  battery : List Byte
  proxy : List Byte
  notify : List Byte
  deriving DecidableEq, Repr

def State.window (s : State) : Window :=
  let b := s.bus
  let r := if b.serveOld0 then markStale (s.uptime - b.oldTime0) b.old0 else markStale (s.uptime - b.time0) b.snap0
  { identity := if b.recovery then markUnbounded r else r
    battery := if b.serveOld1 then b.old1 else b.snap1
    proxy := b.proxy.range
    notify := s.notifyRange }

/-- The byte at a pointer; reserved pointers read zero (R481). -/
def Window.byte (w : Window) (p : Nat) : Byte :=
  match p / 256 with
  | 0 => w.identity.getD p 0#8
  | 1 => w.battery.getD (p - 256) 0#8
  | 2 => w.proxy.getD (p - 512) 0#8
  | 3 => w.notify.getD (p - 768) 0#8
  | _ => 0#8

/-! ## Reads (R467) -/

/-- The port answers to its address: the Signal Box is powered (R464). -/
def State.portRuns (s : State) : Bool := !s.ctl.stopped

/-- The port takes part in one more transaction. -/
def State.addressed (s : State) : State := s.bump OD.twoWireTransactions 1

/-- A read of some bytes: the pointer passes them, from 0xFFFF on to 0x0000; a range's previous snapshot serves one transaction. -/
def State.readWindow (s : State) (count : Nat) : State :=
  let w := s.window
  let at' := fun (i : Nat) => (s.bus.pointer + i) % 65536
  let ps := (List.range count).map at'
  let s := { s with out := { s.out with twoWire := ps.map w.byte } }
  { s with bus := { s.bus with
      pointer := at' count
      serveOld0 := s.bus.serveOld0 && !ps.any (fun p => p / 256 = 0)
      serveOld1 := s.bus.serveOld1 && !ps.any (fun p => p / 256 = 1) } }

/-- TWO_WIRE_READ. -/
def execTwoWireRead (count : Nat) (s : State) : Out :=
  if s.portRuns then .next (s.addressed.readWindow count).busFree else .next s

/-! ## The proxy (R486) -/

/-- PXCTRL 0x02. -/
def State.proxyClear (s : State) : State :=
  match s.bus.proxy.state with
  | .loading => { s with bus := { s.bus with proxy := { s.bus.proxy with state := .idle, buffer := [], len := 0, off := 0 } } }
  | .error => { s with bus := { s.bus with proxy := { s.bus.proxy with state := .idle, buffer := [], len := 0, off := 0 } } }
  | .ready => { s with bus := { s.bus with proxy := { s.bus.proxy with state := .idle, buffer := [], len := 0, off := 0 } } }
  | .idle => s.unlist
  | .busy => s

/-- PXCTRL 0x01: the request goes to ZOP, or its length is out of range. -/
def submitProxy (s : State) : Out :=
  let p := s.bus.proxy
  if p.state = .idle ∨ p.state = .loading then
    if 12 ≤ p.len && p.len ≤ 1036 then
      serveFrame .proxy ((List.range p.len).map p.byte)
        { s with bus := { s.bus with proxy := { p with state := .busy, response := none } } }
    else .next (State.note { s with bus := { s.bus with proxy := { p with state := .error } } } 0x6106)
  else if p.state = .error then .next s.unlist
  else .next s

/-- PROXY_SUBMIT. -/
def execProxySubmit (s : State) : Out := if s.portRuns then submitProxy s else .next s

/-- PROXY_CLEAR. -/
def execProxyClear (s : State) : Out := if s.portRuns then .next s.proxyClear else .next s

/-- Bytes placed in the proxy's buffer from an offset on. -/
def placeBytes (m : SMap Byte) (off : Nat) : List Byte → SMap Byte
  | [] => m
  | b :: bs => placeBytes (mapSet (fun _ => 0#8) m off b) (off + 1) bs

/-- PROXY_RESPONSE_READY. -/
def execProxyResponseReady (s : State) : Out :=
  let p := s.bus.proxy
  match p.response with
  | some r =>
    if p.state = .busy then
      .next { s with bus := { s.bus with proxy := { p with
        state := .ready, buffer := placeBytes p.buffer 0 r, len := r.length, off := 0, seq := p.seq + 1, response := none } } }
    else .next s.unlist
  | none => .next s.unlist

/-! ## Writes (R465, R466, R468) -/

/-- The positions that a write stores to, with their bytes: from the pointer on, wrapping in its 64-byte page. -/
def writePlaces (page off : Nat) : List Byte → List (Nat × Byte)
  | [] => []
  | b :: bs => (64 * page + off % 64, b) :: writePlaces page (off + 1) bs

/-- The last byte written to a position, if any was. -/
def lastAt (p : Nat) (ws : List (Nat × Byte)) : Option Byte := (ws.reverse.find? (fun w => w.1 = p)).map (·.2)

/-- A 16-bit register of which one byte or both are written. -/
def mergeWord (old p : Nat) (ws : List (Nat × Byte)) : Nat :=
  ((lastAt p ws).map (·.toNat)).getD (old % 256) + 256 * ((lastAt (p + 1) ws).map (·.toNat)).getD (old / 256)

/-- PXLEN, in Idle or Loading, and PXOFF, whose bits [5:0] are ignored and whose values above 1,024 are. -/
def Proxy.writeRegs (p : Proxy) (ws : List (Nat × Byte)) : Proxy :=
  let len := if p.state = .idle ∨ p.state = .loading then mergeWord p.len 0x202 ws else p.len
  let off := mergeWord p.off 0x204 ws
  { p with len := len, off := if 1024 < off then p.off else off / 64 * 64 }

/-- PXDATA in Idle or Loading. -/
def Proxy.writeData (p : Proxy) (ws : List (Nat × Byte)) : Proxy :=
  { p with state := .loading
           buffer := ws.foldl (fun m w => let o := p.off + (w.1 - 0x240); if 1035 < o then m else mapSet (fun _ => 0#8) m o w.2) p.buffer }

/-- A byte written to the Host Notify page (R487). -/
def State.writeNotify (s : State) (sub : Nat) (b : Byte) : State :=
  let k := keyOf 0xC100 sub
  if !s.flag OD.twoWireWindowWrites || (s.reach .proxy opWrite 0xC100 sub).isSome then s
  else match findObj 0xC100 sub with
  | none => s
  | some o => if rangeOk o [b] then s.storeScalar o k b.toNat else s.bump OD.twoWireDiscardedBytes 1

/-- The Host Notify settings take effect in ascending pointer order. -/
def State.writeNotifyPage (s : State) (ws : List (Nat × Byte)) : State :=
  [1, 2, 3].foldl (fun s n => match lastAt (0x2FF + n) ws with | some b => s.writeNotify n b | none => s) s

/-- The data of a write take effect together, PXCTRL after every other byte. -/
def storeWindow (s : State) (page : Nat) (ws : List (Nat × Byte)) : Out :=
  if page = 8 then
    let s := { s with bus := { s.bus with proxy := s.bus.proxy.writeRegs ws } }
    match lastAt 0x200 ws with
    | some b => if b = 1#8 then submitProxy s else if b = 2#8 then .next s.proxyClear else .next s
    | none => .next s
  else if 9 ≤ page && page ≤ 11 then .next { s with bus := { s.bus with proxy := s.bus.proxy.writeData ws } }
  else if page = 12 then .next (s.writeNotifyPage ws)
  else .next s

/-- A window write after its PEC is gone: one byte is discarded; two set the pointer; the others are data. PXDATA written while the
proxy is Busy, Ready or in Error is not acknowledged. -/
def windowWrite (bytes : List Byte) (s : State) : Out :=
  match bytes with
  | [] => .next s
  | [_] => .next (s.bump OD.twoWireDiscardedBytes 1)
  | ph :: pl :: data =>
    let ptr := ph.toNat * 256 + pl.toNat
    let page := ptr / 64
    let open' := s.bus.proxy.state = .idle ∨ s.bus.proxy.state = .loading
    let s := { s with bus := { s.bus with pointer := ptr } }
    if data.isEmpty then .next s
    else if 9 ≤ page && page ≤ 11 && !Decidable.decide open' then .next (s.bump OD.twoWireNackedBytes 1)
    else
      let s := { s with bus := { s.bus with pointer := 64 * page + (ptr + data.length) % 64 } }
      storeWindow s page (writePlaces page ptr data)

/-- The PEC of a write is its last byte, over the address byte and the bytes before it (R468). -/
def State.pecMatches (s : State) (bytes : List Byte) : Bool :=
  bytes.getLast? = some (pec (BitVec.ofNat 8 (2 * s.get OD.twoWireAddress) :: bytes.dropLast))

/-- A write or a packet whose PEC does not match is discarded. -/
def State.pecFailed (s : State) : State := (s.bump OD.twoWirePecFailures 1).note 0x6104

/-- A write transaction by its bytes (R465): an MCTP packet only joins its message, whose end is MCTP_MESSAGE. -/
def writeTransaction (bytes : List Byte) (s : State) : Out :=
  match bytes with
  | [] => .next s
  | b :: _ =>
    if b = 0x0F#8 then .next (if s.pecMatches bytes then s else s.pecFailed)
    else if s.flag OD.twoWirePecRequired && 2 ≤ bytes.length then
      if s.pecMatches bytes then windowWrite bytes.dropLast s else .next s.pecFailed
    else windowWrite bytes s

/-- TWO_WIRE_WRITE: its bytes after the address byte. -/
def execTwoWireWrite (bytes : List Byte) (s : State) : Out :=
  if s.portRuns then writeTransaction bytes s.addressed.busFree else .next s

/-- QUICK_COMMAND (R463, R465): acknowledged, without effect. -/
def execQuickCommand (s : State) : Out := if s.portRuns then .next s.addressed.busFree else .next s

/-! ## Bus conditions (R471, R472) -/

/-- TWO_WIRE_BUS_CONDITION: `bytes` are the bytes complete before the condition: those of a write take effect, those of a read
count by their number. -/
def execTwoWireBusCondition (at' : BusCondition) (bytes : List Byte) (s : State) : Out :=
  if !s.portRuns then .next s
  else match at' with
  | .startInWriteData => writeTransaction bytes s.addressed
  | .stopInWriteData => writeTransaction bytes s.addressed.busFree
  | .startInReadData => .next (s.addressed.readWindow bytes.length)
  | .stopInReadData => .next (s.addressed.readWindow bytes.length).busFree
  | .restartAtAckRead => .next (s.addressed.readWindow (bytes.length + 1))
  | .restartAtAckWrite => writeTransaction bytes (s.addressed.bump OD.twoWireNackedBytes 1)
  | .inAddressByte => .next s

/-- STRETCH_LIMIT_EXPIRY: in a bounded mode the read goes on from the previous snapshot of its range. -/
def execStretchLimitExpiry (second : Bool) (s : State) : Out :=
  if !s.portRuns || !s.stretchBounded then .next s.unlist
  else
    let s := (s.bump OD.twoWireStaleReads 1).note 0x6103
    .next (if second then { s with bus := { s.bus with serveOld1 := true } } else { s with bus := { s.bus with serveOld0 := true } })

/-- SMBUS_CLOCK_LOW_TIMEOUT: the transaction is abandoned with what it had not committed. -/
def execSmbusClockLowTimeout (s : State) : Out :=
  if s.portRuns && s.flag OD.twoWireSmbusTimeout then .next ((s.bump OD.twoWireTimeouts 1).note 0x6101).busFree
  else .next s.unlist

end Sys2Proof.Machine
end

