-- ==== Sys2Proof/Machine/Dispatch.lean ====
section
/-! DEFINITION. The dispatch: one arm per command of the table. -/
namespace Sys2Proof.Machine

/-- The effect of a command on everything but the queue. -/
def exec (i : Instr) (s : State) : Host.Outcome State Fault Refusal :=
  match i with
  | .signalBoxColdStart romOk bankAOk bankBOk address corrected bad => Sys2Proof.Machine.execSignalBoxColdStart romOk bankAOk bankBOk address s corrected bad
  | .powerOnReset => Sys2Proof.Machine.execPowerOnReset s
  | .vsbEarlyWarning recovered => Sys2Proof.Machine.execVsbEarlyWarning recovered s
  | .crystalFail => Sys2Proof.Machine.execCrystalFail s
  | .mainDiePowerGood => Sys2Proof.Machine.execMainDiePowerGood s
  | .mdPwrgdLost => Sys2Proof.Machine.execMdPwrgdLost s
  | .resetNAssert => Sys2Proof.Machine.execResetNAssert s
  | .resetNRelease => Sys2Proof.Machine.execResetNRelease s
  | .perstNAssert p => Sys2Proof.Machine.execPerstNAssert p s
  | .perstNDeassert p => Sys2Proof.Machine.execPerstNDeassert p s
  | .linkUp p rate width flit bound => Sys2Proof.Machine.execLinkUp p rate width flit bound s
  | .surpriseLinkDown p => Sys2Proof.Machine.execSurpriseLinkDown p s
  | .ideKmMessage p stream key => Sys2Proof.Machine.execIdeKmMessage p stream key s
  | .ideMacFailure p => Sys2Proof.Machine.execIdeMacFailure p s
  | .warn => Sys2Proof.Machine.execWarn s
  | .commit source => Sys2Proof.Machine.execCommit source s
  | .disarm => Sys2Proof.Machine.execDisarm s
  | .powerReturnEvent => Sys2Proof.Machine.execPowerReturnEvent s
  | .powerSignalChangeInSave => Sys2Proof.Machine.execPowerSignalChangeInSave s
  | .chipDecisionRequest region => Sys2Proof.Machine.execChipDecisionRequest region s
  | .stationmasterWatchdogExpiry => Sys2Proof.Machine.execStationmasterWatchdogExpiry s
  | .porterWatchdogExpiry pt segment => Sys2Proof.Machine.execPorterWatchdogExpiry pt s segment
  | .stationmasterRestart cause imageOk corrected bad => Sys2Proof.Machine.execStationmasterRestart cause imageOk s corrected bad
  | .porterReloadComplete pt hashOk => Sys2Proof.Machine.execPorterReloadComplete pt hashOk s
  | .bootStart mainDieTemp => Sys2Proof.Machine.execBootStart mainDieTemp s
  | .portersLoaded hashUnitOk signaturesOk digestsOk => Sys2Proof.Machine.execPortersLoaded hashUnitOk signaturesOk digestsOk s
  | .vaultKeyDerived check pipesPass badSlots => Sys2Proof.Machine.execVaultKeyDerived check pipesPass badSlots s
  | .flashChannelsReady rate badDies failedTraining factoryBad => Sys2Proof.Machine.execFlashChannelsReady rate badDies failedTraining s factoryBad
  | .dramChannelsTrained mismatched failed deviceRate drfm => Sys2Proof.Machine.execDramChannelsTrained mismatched failed s deviceRate drfm
  | .sealRecordsRead copy1 copy2 header metaMark unreadable => Sys2Proof.Machine.execSealRecordsRead copy1 copy2 header metaMark unreadable s
  | .bootComplete => Sys2Proof.Machine.execBootComplete s
  | .bootStepTimeout step => Sys2Proof.Machine.execBootStepTimeout step s
  | .bootRetryDelayExpiry => Sys2Proof.Machine.execBootRetryDelayExpiry s
  | .saveThenRestoreEntry => Sys2Proof.Machine.execSaveThenRestoreEntry s
  | .modeRequest q mode => Sys2Proof.Machine.execModeRequest q mode s
  | .saveDrainComplete faults => Sys2Proof.Machine.execSaveDrainComplete s faults
  | .saveHeaderProgrammed => Sys2Proof.Machine.execSaveHeaderProgrammed s
  | .saveMetadataProgrammed => Sys2Proof.Machine.execSaveMetadataProgrammed s
  | .saveStreamProgrammed faults => Sys2Proof.Machine.execSaveStreamProgrammed s faults
  | .saveLogProgrammed => Sys2Proof.Machine.execSaveLogProgrammed s
  | .sealComplete copy1 copy2 energy => Sys2Proof.Machine.execSealComplete copy1 copy2 energy s
  | .vaultRecordComplete => Sys2Proof.Machine.execVaultRecordComplete s
  | .salvageInitComplete c => Sys2Proof.Machine.execSalvageInitComplete c s
  | .salvageInitTimeout c => Sys2Proof.Machine.execSalvageInitTimeout c s
  | .thawPassComplete c failedLines => Sys2Proof.Machine.execThawPassComplete c failedLines s
  | .restoreMetadataPhaseComplete => Sys2Proof.Machine.execRestoreMetadataPhaseComplete s
  | .restoreComplete unreadable faults => Sys2Proof.Machine.execRestoreComplete unreadable s faults
  | .restoreCheckpointDue step planPosition segment => Sys2Proof.Machine.execRestoreCheckpointDue step planPosition segment s
  | .cxlMemRead ld dpa fault => Sys2Proof.Machine.execCxlMemRead ld dpa fault s
  | .cxlMemWrite ld dpa data fault => Sys2Proof.Machine.execCxlMemWrite ld dpa data fault s
  | .nonresidentFetchComplete name outcome slow => Sys2Proof.Machine.execNonresidentFetchComplete name outcome slow s
  | .frameWaitTimeout ld dpa isWrite => Sys2Proof.Machine.execFrameWaitTimeout ld dpa isWrite s
  | .evictionSweep => Sys2Proof.Machine.execEvictionSweep s
  | .gpfPhase2Request p => Sys2Proof.Machine.execGpfPhase2Request p s
  | .residueUpdate => Sys2Proof.Machine.execResidueUpdate s
  | .expressPanicChange p occupancy age => Sys2Proof.Machine.execExpressPanicChange p occupancy age s
  | .panicPacket p raised => Sys2Proof.Machine.execPanicPacket p raised s
  | .mbxIdentifyMemoryDevice ld => Sys2Proof.Machine.execMbxIdentifyMemoryDevice ld s
  | .mbxGetPartitionInfo ld => Sys2Proof.Machine.execMbxGetPartitionInfo ld s
  | .mbxGetSupportedLogs ld => Sys2Proof.Machine.execMbxGetSupportedLogs ld s
  | .mbxGetLog ld => Sys2Proof.Machine.execMbxGetLog ld s
  | .mbxGetEventRecords ld log => Sys2Proof.Machine.execMbxGetEventRecords ld log s
  | .mbxClearEventRecords ld log count => Sys2Proof.Machine.execMbxClearEventRecords ld log count s
  | .mbxGetEventInterruptPolicy ld => Sys2Proof.Machine.execMbxGetEventInterruptPolicy ld s
  | .mbxSetEventInterruptPolicy ld policy => Sys2Proof.Machine.execMbxSetEventInterruptPolicy ld policy s
  | .mbxGetAlertConfiguration ld => Sys2Proof.Machine.execMbxGetAlertConfiguration ld s
  | .mbxSetAlertConfiguration ld config => Sys2Proof.Machine.execMbxSetAlertConfiguration ld config s
  | .mbxGetTimestamp ld => Sys2Proof.Machine.execMbxGetTimestamp ld s
  | .mbxSetTimestamp ld time => Sys2Proof.Machine.execMbxSetTimestamp ld time s
  | .mbxGetFwInfo ld => Sys2Proof.Machine.execMbxGetFwInfo ld s
  | .mbxGetHealthInfo ld => Sys2Proof.Machine.execMbxGetHealthInfo ld s
  | .mbxGetShutdownState ld => Sys2Proof.Machine.execMbxGetShutdownState ld s
  | .mbxSetShutdownState ld dirty => Sys2Proof.Machine.execMbxSetShutdownState ld dirty s
  | .mbxGetPoisonList ld => Sys2Proof.Machine.execMbxGetPoisonList ld s
  | .mbxClearPoison ld dpa data => Sys2Proof.Machine.execMbxClearPoison ld dpa data s
  | .mbxInjectPoison ld dpa => Sys2Proof.Machine.execMbxInjectPoison ld dpa s
  | .mbxGetScanMediaCapabilities ld => Sys2Proof.Machine.execMbxGetScanMediaCapabilities ld s
  | .mbxScanMedia ld dpa length => Sys2Proof.Machine.execMbxScanMedia ld dpa length s
  | .mbxGetScanMediaResults ld => Sys2Proof.Machine.execMbxGetScanMediaResults ld s
  | .mbxGetLsa ld offset length => Sys2Proof.Machine.execMbxGetLsa ld offset length s
  | .mbxSetLsa ld offset data => Sys2Proof.Machine.execMbxSetLsa ld offset data s
  | .fmGetLdAllocations p => Sys2Proof.Machine.execFmGetLdAllocations p s
  | .fmSetLdAllocations p first fractions => Sys2Proof.Machine.execFmSetLdAllocations p first fractions s
  | .fmGetQosControl p => Sys2Proof.Machine.execFmGetQosControl p s
  | .fmSetQosControl p control => Sys2Proof.Machine.execFmSetQosControl p control s
  | .fmGetQosStatus p => Sys2Proof.Machine.execFmGetQosStatus p s
  | .fmGetQosAllocatedBw p first count => Sys2Proof.Machine.execFmGetQosAllocatedBw p first count s
  | .fmSetQosAllocatedBw p first fractions => Sys2Proof.Machine.execFmSetQosAllocatedBw p first fractions s
  | .fmGetQosBwLimit p first count => Sys2Proof.Machine.execFmGetQosBwLimit p first count s
  | .fmSetQosBwLimit p first limits => Sys2Proof.Machine.execFmSetQosBwLimit p first limits s
  | .mbxUnsupportedOpcode ld opcode => Sys2Proof.Machine.execMbxUnsupportedOpcode ld opcode s
  | .zopRequest ld frame => Sys2Proof.Machine.execZopRequest ld frame s
  | .zopRequestInBackground ld frame => Sys2Proof.Machine.execZopRequestInBackground ld frame s
  | .getZopLimits ld => Sys2Proof.Machine.execGetZopLimits ld s
  | .getPersistenceSnapshot ld => Sys2Proof.Machine.execGetPersistenceSnapshot ld s
  | .getCouplingMap ld first => Sys2Proof.Machine.execGetCouplingMap ld first s
  | .getVendorIdentity ld => Sys2Proof.Machine.execGetVendorIdentity ld s
  | .mctpMessage source msgType body => Sys2Proof.Machine.execMctpMessage source msgType body s
  | .zopRead q index sub => Sys2Proof.Machine.execZopRead q index sub s
  | .objectWrite q index sub value => Sys2Proof.Machine.execObjectWrite q index sub value s
  | .stagedObjectWrite q index sub value => Sys2Proof.Machine.execStagedObjectWrite q index sub value s
  | .compareWrite q index sub payload => Sys2Proof.Machine.execCompareWrite q index sub payload s
  | .fetch q => Sys2Proof.Machine.execFetch q s
  | .describe q index sub => Sys2Proof.Machine.execDescribe q index sub s
  | .readStaged q index sub => Sys2Proof.Machine.execReadStaged q index sub s
  | .executePendingTimeout src tag => Sys2Proof.Machine.execExecutePendingTimeout src tag s
  | .pendingResultExpiry src tag => Sys2Proof.Machine.execPendingResultExpiry src tag s
  | .sessionIdleTimeout src => Sys2Proof.Machine.execSessionIdleTimeout src s
  | .persistentWriteRecord => Sys2Proof.Machine.execPersistentWriteRecord s
  | .timeSet q time => Sys2Proof.Machine.execTimeSet q time s
  | .thresholdWrite q sub level => Sys2Proof.Machine.execThresholdWrite q sub level s
  | .dividerRatioWrite q ratio => Sys2Proof.Machine.execDividerRatioWrite q ratio s
  | .saveCeilingMaxWrite q size => Sys2Proof.Machine.execSaveCeilingMaxWrite q size s
  | .commitStaged q point => Sys2Proof.Machine.execCommitStaged q point s
  | .discardStaged q => Sys2Proof.Machine.execDiscardStaged q s
  | .couple q ld entry => Sys2Proof.Machine.execCouple q ld entry s
  | .uncouple q ld dpa => Sys2Proof.Machine.execUncouple q ld dpa s
  | .uncoupleComplete => Sys2Proof.Machine.execUncoupleComplete s
  | .carriageAdvance q => Sys2Proof.Machine.execCarriageAdvance q s
  | .carriageCreate q id flags size label => Sys2Proof.Machine.execCarriageCreate q id flags size label s
  | .carriageDelete q id => Sys2Proof.Machine.execCarriageDelete q id s
  | .carriageReleaseComplete id => Sys2Proof.Machine.execCarriageReleaseComplete id s
  | .carriageResize q id size => Sys2Proof.Machine.execCarriageResize q id size s
  | .resizeReleaseComplete => Sys2Proof.Machine.execResizeReleaseComplete s
  | .setSeal q id on => Sys2Proof.Machine.execSetSeal q id on s
  | .setLabel q id label => Sys2Proof.Machine.execSetLabel q id label s
  | .clearPagePoison q id page => Sys2Proof.Machine.execClearPagePoison q id page s
  | .admission q id first count slot => Sys2Proof.Machine.execAdmission q id first count slot s
  | .admissionComplete => Sys2Proof.Machine.execAdmissionComplete s
  | .mapDepot q id page depot count => Sys2Proof.Machine.execMapDepot q id page depot count s
  | .park q id => Sys2Proof.Machine.execPark q id s
  | .parkCopyComplete id faults => Sys2Proof.Machine.execParkCopyComplete id s faults
  | .parkReleasePassComplete id => Sys2Proof.Machine.execParkReleasePassComplete id s
  | .recall q id => Sys2Proof.Machine.execRecall q id s
  | .recallComplete id faults => Sys2Proof.Machine.execRecallComplete id s faults
  | .parkQueueDequeue => Sys2Proof.Machine.execParkQueueDequeue s
  | .exportCarriage q source output unit key => Sys2Proof.Machine.execExportCarriage q source output unit key s
  | .exportComplete pairings => Sys2Proof.Machine.execExportComplete s pairings
  | .importCarriage q input result flags => Sys2Proof.Machine.execImportCarriage q input result flags s
  | .importRecordVerified record pairings => Sys2Proof.Machine.execImportRecordVerified record s pairings
  | .endCarriageTerm q id => Sys2Proof.Machine.execEndCarriageTerm q id s
  | .termEndCommit id => Sys2Proof.Machine.execTermEndCommit id s
  | .endGlobalTerm q => Sys2Proof.Machine.execEndGlobalTerm q s
  | .globalTermEnd => Sys2Proof.Machine.execGlobalTermEnd s
  | .retagPassComplete id => Sys2Proof.Machine.execRetagPassComplete id s
  | .revert q id => Sys2Proof.Machine.execRevert q id s
  | .snapshotReleaseComplete id => Sys2Proof.Machine.execSnapshotReleaseComplete id s
  | .flushClaim pairings => Sys2Proof.Machine.execFlushClaim s pairings
  | .flushSetAsideRetry => Sys2Proof.Machine.execFlushSetAsideRetry s
  | .flushConfirm id page => Sys2Proof.Machine.execFlushConfirm id page s
  | .metadataCheckpointStart => Sys2Proof.Machine.execMetadataCheckpointStart s
  | .metadataCheckpointComplete => Sys2Proof.Machine.execMetadataCheckpointComplete s
  | .plannerCompute => Sys2Proof.Machine.execPlannerCompute s
  | .wearIntervalBoundary => Sys2Proof.Machine.execWearIntervalBoundary s
  | .drillStart q => Sys2Proof.Machine.execDrillStart q s
  | .drillDue => Sys2Proof.Machine.execDrillDue s
  | .drillStreamComplete rate => Sys2Proof.Machine.execDrillStreamComplete rate s
  | .drillSealComplete sealTime power dieRate => Sys2Proof.Machine.execDrillSealComplete sealTime power dieRate s
  | .drillBoundTimeout => Sys2Proof.Machine.execDrillBoundTimeout s
  | .drillOverdue => Sys2Proof.Machine.execDrillOverdue s
  | .planLoad q first ids => Sys2Proof.Machine.execPlanLoad q first ids s
  | .clearOutcomes q => Sys2Proof.Machine.execClearOutcomes q s
  | .dramReadDecode frame line source first second => Sys2Proof.Machine.execDramReadDecode frame line source first second s
  | .dramAlert c held => Sys2Proof.Machine.execDramAlert c s held
  | .refreshDue c bank => Sys2Proof.Machine.execRefreshDue c bank s
  | .refreshDeadlineMiss c bank => Sys2Proof.Machine.execRefreshDeadlineMiss c bank s
  | .mr4Poll c rank mr4 => Sys2Proof.Machine.execMr4Poll c rank mr4 s
  | .activateTallyUpdate c subch rank bank row => Sys2Proof.Machine.execActivateTallyUpdate c subch rank bank row s
  | .tallyWindowEnd c subch => Sys2Proof.Machine.execTallyWindowEnd c subch s
  | .closePageTimeout c bank => Sys2Proof.Machine.execClosePageTimeout c bank s
  | .zqCalibrationDue c => Sys2Proof.Machine.execZqCalibrationDue c s
  | .dqsOscillatorRead c rank drift => Sys2Proof.Machine.execDqsOscillatorRead c rank drift s
  | .patrolScrubRead c result ecs => Sys2Proof.Machine.execPatrolScrubRead c result s ecs
  | .freezeChannel q c => Sys2Proof.Machine.execFreezeChannel q c s
  | .dramReturnChannel q c => Sys2Proof.Machine.execDramReturnChannel q c s
  | .forceFullTraining q => Sys2Proof.Machine.execForceFullTraining q s
  | .flashReadComplete c block name outcome => Sys2Proof.Machine.execFlashReadComplete c block name outcome s
  | .flashProgramComplete c die block bytes ok pairings stream => Sys2Proof.Machine.execFlashProgramComplete c die block bytes ok s pairings stream
  | .flashEraseComplete c die block ok => Sys2Proof.Machine.execFlashEraseComplete c die block ok s
  | .stripeCloseTimeout group stream => Sys2Proof.Machine.execStripeCloseTimeout group s stream
  | .lunTimeout c die => Sys2Proof.Machine.execLunTimeout c die s
  | .channelStatusTimeout c => Sys2Proof.Machine.execChannelStatusTimeout c s
  | .flashZqShortDue c => Sys2Proof.Machine.execFlashZqShortDue c s
  | .backingRecompute => Sys2Proof.Machine.execBackingRecompute s
  | .gcRelocation block bad => Sys2Proof.Machine.execGcRelocation block s bad
  | .flashReturnChannel q c => Sys2Proof.Machine.execFlashReturnChannel q c s
  | .saveSlotErase => Sys2Proof.Machine.execSaveSlotErase s
  | .keyLoad q slot blob => Sys2Proof.Machine.execKeyLoad q slot blob s
  | .keySlotErase q slot => Sys2Proof.Machine.execKeySlotErase q slot s
  | .sealBlob q slot aad plaintext pairings => Sys2Proof.Machine.execSealBlob q slot aad plaintext s pairings
  | .unsealBlob q slot aad nonce ciphertext tag pairings => Sys2Proof.Machine.execUnsealBlob q slot aad nonce ciphertext tag s pairings
  | .nonceMarkRecorded context => Sys2Proof.Machine.execNonceMarkRecorded context s
  | .pipeSelftestComplete pipe pass => Sys2Proof.Machine.execPipeSelftestComplete pipe pass s
  | .pipeRetest q pass => Sys2Proof.Machine.execPipeRetest q pass s
  | .passGrant q id slot => Sys2Proof.Machine.execPassGrant q id slot s
  | .passRevoke q id slot => Sys2Proof.Machine.execPassRevoke q id slot s
  | .revokeSlot q slot => Sys2Proof.Machine.execRevokeSlot q slot s
  | .loopLinePacket link seq packet sent => Sys2Proof.Machine.execLoopLinePacket link seq packet s sent
  | .linkFailure link => Sys2Proof.Machine.execLinkFailure link s
  | .dieBridgeFailure good => Sys2Proof.Machine.execDieBridgeFailure s good
  | .batselNoCurrent => Sys2Proof.Machine.execBatselNoCurrent s
  | .packResistanceMeasured resistance => Sys2Proof.Machine.execPackResistanceMeasured resistance s
  | .gaugeSample reading => Sys2Proof.Machine.execGaugeSample reading s
  | .packAbsent => Sys2Proof.Machine.execPackAbsent s
  | .restPoint => Sys2Proof.Machine.execRestPoint s
  | .learningRecordWrite => Sys2Proof.Machine.execLearningRecordWrite s
  | .energyRecompute => Sys2Proof.Machine.execEnergyRecompute s
  | .relearn q => Sys2Proof.Machine.execRelearn q s
  | .monitorSample readings => Sys2Proof.Machine.execMonitorSample readings s
  | .replan cause => Sys2Proof.Machine.execReplan cause s
  | .replanDue => Sys2Proof.Machine.execReplanDue s
  | .replanNow q => Sys2Proof.Machine.execReplanNow q s
  | .vtrimStep => Sys2Proof.Machine.execVtrimStep s
  | .dayCount => Sys2Proof.Machine.execDayCount s
  | .thermalThreshold mainDie temp => Sys2Proof.Machine.execThermalThreshold mainDie temp s
  | .eflashOperationComplete => Sys2Proof.Machine.execEflashOperationComplete s
  | .eflashRecordWrite region type key payload mismatches => Sys2Proof.Machine.execEflashRecordWrite region type key payload mismatches s
  | .eflashSectorErase sector passAt => Sys2Proof.Machine.execEflashSectorErase sector passAt s
  | .journalCompaction => Sys2Proof.Machine.execJournalCompaction s
  | .marginReadDue weak => Sys2Proof.Machine.execMarginReadDue weak s
  | .blockPart q bytes => Sys2Proof.Machine.execBlockPart q bytes s
  | .submitBlock q => Sys2Proof.Machine.execSubmitBlock q s
  | .updateAbort q => Sys2Proof.Machine.execUpdateAbort q s
  | .applyPackage q => Sys2Proof.Machine.execApplyPackage q s
  | .applySectorComplete readBacks => Sys2Proof.Machine.execApplySectorComplete readBacks s
  | .bankVerificationComplete digestOk signatureOk regionsOk => Sys2Proof.Machine.execBankVerificationComplete digestOk signatureOk regionsOk s
  | .schedule q time mode => Sys2Proof.Machine.execSchedule q time mode s
  | .scheduleCancel q => Sys2Proof.Machine.execScheduleCancel q s
  | .trialConfirmation => Sys2Proof.Machine.execTrialConfirmation s
  | .rollback q => Sys2Proof.Machine.execRollback q s
  | .logbookRecord => Sys2Proof.Machine.execLogbookRecord s
  | .logbookMirror => Sys2Proof.Machine.execLogbookMirror s
  | .clearFatal q seq => Sys2Proof.Machine.execClearFatal q seq s
  | .counterSourceWrite q sub value => Sys2Proof.Machine.execCounterSourceWrite q sub value s
  | .counterOverflow n => Sys2Proof.Machine.execCounterOverflow n s
  | .counterSnapshot q => Sys2Proof.Machine.execCounterSnapshot q s
  | .ticketSeedWrite q seed => Sys2Proof.Machine.execTicketSeedWrite q seed s
  | .ticketClear q => Sys2Proof.Machine.execTicketClear q s
  | .perturbationUnlock q unit word => Sys2Proof.Machine.execPerturbationUnlock q unit word s
  | .perturbationArm q => Sys2Proof.Machine.execPerturbationArm q s
  | .perturbationDisarm q => Sys2Proof.Machine.execPerturbationDisarm q s
  | .twoWireWrite bytes => Sys2Proof.Machine.execTwoWireWrite bytes s
  | .twoWireRead count => Sys2Proof.Machine.execTwoWireRead count s
  | .quickCommand => Sys2Proof.Machine.execQuickCommand s
  | .twoWireBusCondition a bytes => Sys2Proof.Machine.execTwoWireBusCondition a bytes s
  | .proxySubmit => Sys2Proof.Machine.execProxySubmit s
  | .proxyResponseReady => Sys2Proof.Machine.execProxyResponseReady s
  | .proxyClear => Sys2Proof.Machine.execProxyClear s
  | .windowSnapshotRefresh => Sys2Proof.Machine.execWindowSnapshotRefresh s
  | .stretchLimitExpiry second => Sys2Proof.Machine.execStretchLimitExpiry second s
  | .smbusClockLowTimeout => Sys2Proof.Machine.execSmbusClockLowTimeout s
  | .hostNotifySend acknowledged => Sys2Proof.Machine.execHostNotifySend acknowledged s
  | .arbitrationLost inAddress => Sys2Proof.Machine.execArbitrationLost inAddress s
  | .hostNotifyRetry => Sys2Proof.Machine.execHostNotifyRetry s
  | .testNotify q code => Sys2Proof.Machine.execTestNotify q code s
  | .releaseComparatorCrossing rail pwrfailHigh => Sys2Proof.Machine.execReleaseComparatorCrossing rail pwrfailHigh s
  | .configurationRequest p r => Sys2Proof.Machine.execConfigurationRequest p r s
  | .tapInstruction chosen => Sys2Proof.Machine.execTapInstruction chosen s
  | .selfCheckFailure b => Sys2Proof.Machine.execSelfCheckFailure b s
  | .porterMemoryError pt => Sys2Proof.Machine.execPorterMemoryError pt s
  | .revertComplete id => Sys2Proof.Machine.execRevertComplete id s
  | .stripeRebuildComplete c => Sys2Proof.Machine.execStripeRebuildComplete c s
  | .expressPanicHeld p => Sys2Proof.Machine.execExpressPanicHeld p s
  | .replanDeferralOverdue => Sys2Proof.Machine.execReplanDeferralOverdue s

end Sys2Proof.Machine
end

