-- ==== Sys2Proof/Machine/Step.lean ====
section
/-! DEFINITION. One step: the command at the front of the queue takes its effect, and an idle block lets time pass. -/
namespace Sys2Proof.Machine

/-- The command at the front of the queue runs with the queue's rest. On an empty queue time passes, and the first command that
waits for a porter or for a checkpoint is tried again (DESIGN CHOICE, log 1). -/
def step (s : State) : Host.Outcome State Fault Refusal :=
  match s.pending with
  | [] => match s.work.delayed with
    | [] => .next s.tick
    | c :: rest => exec c (State.tick { s with work := { s.work with delayed := rest } })
  | c :: rest => exec c { s with pending := rest }

/-- The command a word spells put at the front of the queue. -/
def State.withFetchWord (s : State) (nbits w : Nat) : State :=
  match decodeTableWord nbits w with
  | some c => { s with pending := c :: s.pending }
  | none => s

end Sys2Proof.Machine
end

