-- ==== Sys2Proof/Machine/Requests.lean ====
section
/-! DEFINITION. The request frame of every row that is a ZOP request (12, R439 to R441): its opcode, its object and its
payload, as a management agent puts them on a transport. Every other row is no request. -/
namespace Sys2Proof.Machine

/-- The frame of an EXECUTE of the command object of a key. -/
def cmdFrame (key : Nat) (payload : List Byte) : ReqFrame :=
  { opcode := opExecute, index := key / 256, sub := key % 256, payload := payload }

/-- The frame of a WRITE. -/
def writeTo (index sub : Nat) (payload : List Byte) : ReqFrame :=
  { opcode := opWrite, index := index, sub := sub, payload := payload }

/-- A row's session and TAG, and its frame without TAG and CRC; none for a row that is no ZOP request. -/
def requestOf : Instr → Option (Req × ReqFrame)
  | .zopRead q i b => some (q, { opcode := opRead, index := i.toNat, sub := b.toNat, payload := [] })
  | .objectWrite q i b v => some (q, writeTo i.toNat b.toNat v)
  | .stagedObjectWrite q i b v => some (q, writeTo i.toNat b.toNat v)
  | .compareWrite q i b p => some (q, { opcode := opCompareWrite, index := i.toNat, sub := b.toNat, payload := p })
  | .fetch q => some (q, { opcode := opFetch, index := 0, sub := 0, payload := [] })
  | .describe q i b => some (q, { opcode := opDescribe, index := i.toNat, sub := b.toNat, payload := [] })
  | .readStaged q i b => some (q, { opcode := opReadStaged, index := i.toNat, sub := b.toNat, payload := [] })
  | .timeSet q t => some (q, writeTo 0x1010 1 (toBytes 8 t.toNat))
  | .thresholdWrite q b l => some (q, writeTo 0x5100 b.toNat (toBytes 2 l.toNat))
  | .dividerRatioWrite q r => some (q, writeTo 0x8400 1 (toBytes 2 r.toNat))
  | .saveCeilingMaxWrite q n => some (q, writeTo 0x6000 3 (toBytes 8 n.toNat))
  | .counterSourceWrite q b v => some (q, writeTo 0x9400 (if b = 3#8 then 3 else 2) (toBytes 2 v.toNat))
  | .ticketSeedWrite q v => some (q, writeTo 0x9800 3 (toBytes 4 v.toNat))
  | .keyLoad q n blob => some (q, writeTo (0x7000 + n.toNat) 1 blob)
  | .blockPart q bytes => some (q, writeTo 0xA000 3 bytes)
  | .modeRequest q m => some (q, cmdFrame OD.modeRequest (toBytes 1 m.toNat))
  | .commitStaged q p => some (q, cmdFrame OD.stagingCommit (toBytes 1 p.toNat))
  | .discardStaged q => some (q, cmdFrame OD.stagingDiscard [])
  | .couple q ld e => some (q, cmdFrame OD.couplingCouple (toBytes 1 ld.toNat ++ toBytes 16 e.toNat))
  | .uncouple q ld a => some (q, cmdFrame OD.couplingUncouple (toBytes 1 ld.toNat ++ toBytes 8 a.toNat))
  | .carriageAdvance q => some (q, cmdFrame OD.carriageAdvance [])
  | .carriageCreate q id fl size label => some (q, cmdFrame OD.carriageCreate
      (toBytes 2 id.toNat ++ toBytes 1 fl.toNat ++ toBytes 4 size.toNat ++ toBytes 8 label.toNat))
  | .carriageDelete q id => some (q, cmdFrame OD.carriageDelete (toBytes 2 id.toNat))
  | .carriageResize q id size => some (q, cmdFrame OD.carriageResize (toBytes 2 id.toNat ++ toBytes 4 size.toNat))
  | .setSeal q id on => some (q, cmdFrame OD.carriageSetSeal (toBytes 2 id.toNat ++ toBytes 1 on.toNat))
  | .setLabel q id label => some (q, cmdFrame OD.carriageSetLabel (toBytes 2 id.toNat ++ toBytes 8 label.toNat))
  | .clearPagePoison q id page =>
    some (q, cmdFrame OD.carriageClearPagePoison (toBytes 2 id.toNat ++ toBytes 4 page.toNat))
  | .admission q id first count slot => some (q, cmdFrame OD.depotAdmit
      (toBytes 2 id.toNat ++ toBytes 4 first.toNat ++ toBytes 4 count.toNat ++ toBytes 1 slot.toNat))
  | .mapDepot q id page depot count => some (q, cmdFrame OD.depotMapDepot
      (toBytes 2 id.toNat ++ toBytes 4 page.toNat ++ toBytes 4 depot.toNat ++ toBytes 4 count.toNat))
  | .park q id => some (q, cmdFrame OD.sidingPark (toBytes 2 id.toNat))
  | .recall q id => some (q, cmdFrame OD.sidingRecall (toBytes 2 id.toNat))
  | .exportCarriage q a b unit key => some (q, cmdFrame OD.transferExport
      (toBytes 2 a.toNat ++ toBytes 2 b.toNat ++ toBytes 8 unit.toNat ++ key))
  | .importCarriage q a b fl => some (q, cmdFrame OD.transferImport
      (toBytes 2 a.toNat ++ toBytes 2 b.toNat ++ toBytes 1 fl.toNat))
  | .endCarriageTerm q id => some (q, cmdFrame OD.termEndCarriageTerm (toBytes 2 id.toNat))
  | .endGlobalTerm q => some (q, cmdFrame OD.termEndGlobalTerm [])
  | .revert q id => some (q, cmdFrame OD.termRevert (toBytes 2 id.toNat))
  | .drillStart q => some (q, cmdFrame OD.drillDrillStart [])
  | .planLoad q first ids => some (q, cmdFrame OD.restorePlanLoad
      (toBytes 2 first.toNat ++ toBytes 2 ids.length ++ (ids.map (fun i => toBytes 2 i.toNat)).flatten))
  | .clearOutcomes q => some (q, cmdFrame OD.vaultClearOutcomes [])
  | .freezeChannel q c => some (q, cmdFrame OD.freezeFreezeChannel (toBytes 1 c.toNat))
  | .dramReturnChannel q c => some (q, cmdFrame OD.freezeReturnChannel (toBytes 1 c.toNat))
  | .forceFullTraining q => some (q, cmdFrame OD.dramForceFullTraining [])
  | .flashReturnChannel q c => some (q, cmdFrame OD.flashReturnChannel (toBytes 1 c.toNat))
  | .keySlotErase q n => some (q, cmdFrame (OD.slotErase n.toNat) [])
  | .sealBlob q n aad plain _ => some (q, cmdFrame OD.sealingSeal
      (toBytes 1 n.toNat ++ toBytes 1 aad.length ++ toBytes 2 plain.length ++ aad ++ plain))
  | .unsealBlob q n aad nonce sealed' tag _ => some (q, cmdFrame OD.sealingUnseal
      (toBytes 1 n.toNat ++ toBytes 1 aad.length ++ toBytes 2 sealed'.length ++ aad ++ nonce ++ sealed' ++ tag))
  | .pipeRetest q _ => some (q, cmdFrame OD.pipesPipeRetest [])
  | .passGrant q id n => some (q, cmdFrame OD.passesGrant (toBytes 2 id.toNat ++ toBytes 1 n.toNat))
  | .passRevoke q id n => some (q, cmdFrame OD.passesRevoke (toBytes 2 id.toNat ++ toBytes 1 n.toNat))
  | .revokeSlot q n => some (q, cmdFrame OD.passesRevokeSlot (toBytes 1 n.toNat))
  | .relearn q => some (q, cmdFrame OD.learningRelearn [])
  | .replanNow q => some (q, cmdFrame OD.marginReplanNow [])
  | .submitBlock q => some (q, cmdFrame OD.updateSubmitBlock [])
  | .updateAbort q => some (q, cmdFrame OD.updateAbort [])
  | .applyPackage q => some (q, cmdFrame OD.updateApply [])
  | .schedule q t m => some (q, cmdFrame OD.departureSchedule (toBytes 8 t.toNat ++ toBytes 1 m.toNat))
  | .scheduleCancel q => some (q, cmdFrame OD.departureCancel [])
  | .rollback q => some (q, cmdFrame OD.bankRollback [])
  | .clearFatal q n => some (q, cmdFrame OD.logbookClearFatal (toBytes 8 n.toNat))
  | .counterSnapshot q => some (q, cmdFrame OD.counterSnapshot [])
  | .ticketClear q => some (q, cmdFrame OD.ticketClear [])
  | .perturbationUnlock q unit word => some (q, cmdFrame OD.perturbUnlock (toBytes 8 unit.toNat ++ toBytes 4 word.toNat))
  | .perturbationArm q => some (q, cmdFrame OD.perturbArm [])
  | .perturbationDisarm q => some (q, cmdFrame OD.perturbDisarm [])
  | .testNotify q code => some (q, cmdFrame OD.notifyTestNotify (toBytes 2 code.toNat))
  | _ => none

/-- A write whose frame is one of a row of its own: a key blob, a block part, the clock, SaveCeilingMax, the divider ratio, a
counter's source or qualifier, the ticket seed. -/
def writtenElsewhere (index sub : Nat) (v : List Byte) : Bool :=
  (0x7000 ≤ index && index ≤ 0x70FF && sub = 1) || keyOf index sub = 0xA00003
  || (keyOf index sub = OD.clockNow && v.length = 8) || (keyOf index sub = OD.flashSaveCeilingMax && v.length = 8)
  || (keyOf index sub = OD.railDividerRatio && v.length = 2) || (index = 0x9400 && (sub = 2 || sub = 3) && v.length = 2)
  || (keyOf index sub = OD.ticketSeed && v.length = 4)

/-- The row is the one that its own frame spells: a plain write names an object and no row of its own has it; a threshold is one
of the three; what a frame does not carry, the outcome of a retest and what the pipes meet, is left out. -/
def ownsFrame : Instr → Bool
  | .objectWrite _ i b v => (findObj i.toNat b.toNat).isSome && !writtenElsewhere i.toNat b.toNat v
  | .stagedObjectWrite _ i b v => (findObj i.toNat b.toNat).isSome && !writtenElsewhere i.toNat b.toNat v
  | .thresholdWrite _ b _ => 1 ≤ b.toNat && b.toNat ≤ 3
  | .pipeRetest _ _ => false
  | .sealBlob _ _ _ _ ps => ps.isEmpty
  | .unsealBlob _ _ _ _ _ _ ps => ps.isEmpty
  | _ => true

/-- The bytes of a row's frame, TAG and CRC in place (R439). -/
def requestBytes (q : Req) (f : ReqFrame) : List Byte := frameHead f.opcode q.tag.toNat f.index f.sub 0 f.payload ++ toBytes 4 q.crc.toNat

end Sys2Proof.Machine
end

