-- ==== Sys2Proof/WellFormed.lean ====
section
/-! DEFINITION. Which commands can be sent at all: the bounds of the payloads and frames that carry them (12, R439, R441; 03, R74,
R93, R95; 01, R23; 14, R513; 10, R379), and of the quantities that an event may report. A command that is not well-formed has a
meaning like any other; no channel can carry it. -/
namespace Sys2Proof

/-- The ZOP payload limit (R439). -/
def payloadLimit : Nat := 1024

/-- The mailbox payload limit (R74). -/
def mailboxLimit : Nat := 2048

/-- The transports that carry MCTP (R450). -/
def carriesMctp : Transport → Bool
  | .vdm _ _ => true | .smbus _ => true | .mailbox _ => false | .proxy => false

/-- A Loop Line packet carries LEN lines, at most 4 (R23). -/
def Packet.wf (p : Packet) : Bool := p.len.toNat ≤ 4 && p.payload.length = 64 * p.len.toNat

/-- The bounds of a command's operands. -/
def Instr.wf : Instr → Bool
  | .linkUp _ rate width _ _ => [8, 16, 32, 64].contains rate && [1, 2, 4, 8, 16].contains width
  | .expressPanicChange _ occupancy _ => occupancy ≤ 512
  | .dramChannelsTrained _ _ rate _ => [5600, 6400, 7200, 8000, 8800].contains rate
  | .mbxClearEventRecords _ _ count => count ≤ 255
  | .mbxSetAlertConfiguration _ config => config.length ≤ mailboxLimit
  | .mbxGetLsa _ offset length => offset < 2 ^ 32 && length < 2 ^ 32
  | .mbxSetLsa _ offset data => offset < 2 ^ 32 && data.length + 8 ≤ mailboxLimit
  | .fmSetLdAllocations _ first fractions => first.val + fractions.length ≤ 16
  | .fmSetQosControl _ control => control.length ≤ mailboxLimit
  | .fmGetQosAllocatedBw _ first count => first.val + count ≤ 16
  | .fmSetQosAllocatedBw _ first fractions => first.val + fractions.length ≤ 16
  | .fmGetQosBwLimit _ first count => first.val + count ≤ 16
  | .fmSetQosBwLimit _ first limits => first.val + limits.length ≤ 16
  | .zopRequest _ frame => frame.length ≤ mailboxLimit
  | .zopRequestInBackground _ frame => frame.length ≤ mailboxLimit
  | .mctpMessage source _ _ => carriesMctp source
  | .objectWrite _ _ _ value => value.length ≤ payloadLimit
  | .stagedObjectWrite _ _ _ value => value.length ≤ payloadLimit
  | .compareWrite _ _ _ payload => payload.length ≤ payloadLimit
  | .exportCarriage _ _ _ _ key => 12 + key.length ≤ payloadLimit
  | .planLoad _ _ ids => 4 + 2 * ids.length ≤ payloadLimit
  | .keyLoad _ _ blob => blob.length ≤ payloadLimit
  | .sealBlob _ _ aad plaintext _ => aad.length ≤ 255 && 4 + aad.length + plaintext.length ≤ payloadLimit
  | .unsealBlob _ _ aad nonce ciphertext tag _ => aad.length ≤ 255 && nonce.length = 12 && tag.length = 16 && 32 + aad.length + ciphertext.length ≤ payloadLimit
  | .loopLinePacket _ _ packet sent => packet.wf && sent.all Packet.wf
  | .gaugeSample reading => reading.cell1 < 65536 && reading.cell2 < 65536 && reading.cell3 < 65536 && reading.cell4 < 65536
  | .monitorSample readings => readings.length ≤ 96
  | .eflashRecordWrite _ _ _ payload _ => payload.length ≤ 104
  | .blockPart _ bytes => bytes.length ≤ payloadLimit
  | .applySectorComplete readBacks => !readBacks.isEmpty
  | .twoWireRead count => count ≤ 65536
  | .releaseComparatorCrossing rail _ => rail < 65536
  | .signalBoxColdStart .. | .powerOnReset .. | .vsbEarlyWarning .. | .crystalFail .. | .mainDiePowerGood ..
  | .mdPwrgdLost .. | .resetNAssert .. | .resetNRelease .. | .perstNAssert .. | .perstNDeassert ..
  | .surpriseLinkDown .. | .ideKmMessage .. | .ideMacFailure .. | .warn .. | .commit .. | .disarm ..
  | .powerReturnEvent .. | .powerSignalChangeInSave .. | .chipDecisionRequest .. | .stationmasterWatchdogExpiry ..
  | .porterWatchdogExpiry .. | .stationmasterRestart .. | .porterReloadComplete .. | .bootStart ..
  | .portersLoaded .. | .vaultKeyDerived .. | .flashChannelsReady .. | .sealRecordsRead ..
  | .bootComplete .. | .bootStepTimeout .. | .bootRetryDelayExpiry .. | .saveThenRestoreEntry .. | .modeRequest ..
  | .saveDrainComplete .. | .saveHeaderProgrammed .. | .saveMetadataProgrammed .. | .saveStreamProgrammed ..
  | .saveLogProgrammed .. | .sealComplete .. | .vaultRecordComplete .. | .salvageInitComplete ..
  | .salvageInitTimeout .. | .thawPassComplete .. | .restoreMetadataPhaseComplete .. | .restoreComplete ..
  | .restoreCheckpointDue .. | .cxlMemRead .. | .cxlMemWrite .. | .nonresidentFetchComplete .. | .frameWaitTimeout ..
  | .evictionSweep .. | .gpfPhase2Request .. | .residueUpdate .. | .panicPacket .. | .mbxIdentifyMemoryDevice ..
  | .mbxGetPartitionInfo .. | .mbxGetSupportedLogs .. | .mbxGetLog .. | .mbxGetEventRecords ..
  | .mbxGetEventInterruptPolicy .. | .mbxSetEventInterruptPolicy .. | .mbxGetAlertConfiguration ..
  | .mbxGetTimestamp .. | .mbxSetTimestamp .. | .mbxGetFwInfo .. | .mbxGetHealthInfo .. | .mbxGetShutdownState ..
  | .mbxSetShutdownState .. | .mbxGetPoisonList .. | .mbxClearPoison .. | .mbxInjectPoison ..
  | .mbxGetScanMediaCapabilities .. | .mbxScanMedia .. | .mbxGetScanMediaResults .. | .fmGetLdAllocations ..
  | .fmGetQosControl .. | .fmGetQosStatus .. | .mbxUnsupportedOpcode .. | .getZopLimits ..
  | .getPersistenceSnapshot .. | .getCouplingMap .. | .getVendorIdentity .. | .zopRead .. | .fetch .. | .describe ..
  | .readStaged .. | .executePendingTimeout .. | .pendingResultExpiry .. | .sessionIdleTimeout ..
  | .persistentWriteRecord .. | .timeSet .. | .thresholdWrite .. | .dividerRatioWrite .. | .saveCeilingMaxWrite ..
  | .commitStaged .. | .discardStaged .. | .couple .. | .uncouple .. | .uncoupleComplete .. | .carriageAdvance ..
  | .carriageCreate .. | .carriageDelete .. | .carriageReleaseComplete .. | .carriageResize ..
  | .resizeReleaseComplete .. | .setSeal .. | .setLabel .. | .clearPagePoison .. | .admission ..
  | .admissionComplete .. | .mapDepot .. | .park .. | .parkCopyComplete .. | .parkReleasePassComplete .. | .recall ..
  | .recallComplete .. | .parkQueueDequeue .. | .exportComplete .. | .importCarriage .. | .importRecordVerified ..
  | .endCarriageTerm .. | .termEndCommit .. | .endGlobalTerm .. | .globalTermEnd .. | .retagPassComplete ..
  | .revert .. | .snapshotReleaseComplete .. | .flushClaim .. | .flushSetAsideRetry .. | .flushConfirm ..
  | .metadataCheckpointStart .. | .metadataCheckpointComplete .. | .plannerCompute .. | .wearIntervalBoundary ..
  | .drillStart .. | .drillDue .. | .drillStreamComplete .. | .drillSealComplete .. | .drillBoundTimeout ..
  | .drillOverdue .. | .clearOutcomes .. | .dramReadDecode .. | .dramAlert .. | .refreshDue ..
  | .refreshDeadlineMiss .. | .mr4Poll .. | .activateTallyUpdate .. | .tallyWindowEnd .. | .closePageTimeout ..
  | .zqCalibrationDue .. | .dqsOscillatorRead .. | .patrolScrubRead .. | .freezeChannel .. | .dramReturnChannel ..
  | .forceFullTraining .. | .flashReadComplete .. | .flashProgramComplete .. | .flashEraseComplete ..
  | .stripeCloseTimeout .. | .lunTimeout .. | .channelStatusTimeout .. | .flashZqShortDue .. | .backingRecompute ..
  | .gcRelocation .. | .flashReturnChannel .. | .saveSlotErase .. | .keySlotErase .. | .nonceMarkRecorded ..
  | .pipeSelftestComplete .. | .pipeRetest .. | .passGrant .. | .passRevoke .. | .revokeSlot .. | .linkFailure ..
  | .dieBridgeFailure .. | .batselNoCurrent .. | .packResistanceMeasured .. | .packAbsent .. | .restPoint ..
  | .learningRecordWrite .. | .energyRecompute .. | .relearn .. | .replan .. | .replanDue .. | .replanNow ..
  | .vtrimStep .. | .dayCount .. | .thermalThreshold .. | .eflashOperationComplete .. | .eflashSectorErase ..
  | .journalCompaction .. | .marginReadDue .. | .submitBlock .. | .updateAbort .. | .applyPackage ..
  | .bankVerificationComplete .. | .schedule .. | .scheduleCancel .. | .trialConfirmation .. | .rollback ..
  | .logbookRecord .. | .logbookMirror .. | .clearFatal .. | .counterSourceWrite .. | .counterOverflow ..
  | .counterSnapshot .. | .ticketSeedWrite .. | .ticketClear .. | .perturbationUnlock .. | .perturbationArm ..
  | .perturbationDisarm .. | .twoWireWrite .. | .quickCommand .. | .twoWireBusCondition .. | .proxySubmit ..
  | .proxyResponseReady .. | .proxyClear .. | .windowSnapshotRefresh .. | .stretchLimitExpiry ..
  | .smbusClockLowTimeout .. | .hostNotifySend .. | .arbitrationLost .. | .hostNotifyRetry .. | .testNotify ..
  | .configurationRequest .. | .tapInstruction .. | .selfCheckFailure .. | .porterMemoryError .. | .revertComplete ..
  | .stripeRebuildComplete .. | .expressPanicHeld .. | .replanDeferralOverdue .. => true

end Sys2Proof
end

