-- ==== Sys2Proof/Safety.lean ====
section
/-! DEFINITION. What counts as a good state and a good outcome, and when a ZOP request reaches its command, in the terms
the statements use. -/
namespace Sys2Proof.Machine

/-- A step goes on. -/
def goesOn (o : Out) : Bool :=
  match o with
  | .next _ => true
  | .fault _ => false
  | .refused _ => false

/-- Test perturbation is unlocked only in MAINTENANCE and armed only when unlocked (R582), and a drill runs only in SERVICE
(R49). -/
def State.modesAgree (s : State) : Bool :=
  (!s.ctl.unlocked || s.ctl.mode == .maintenance) && (!s.ctl.armed || s.ctl.unlocked) && (s.flush.drill.isNone || s.ctl.mode == .service)

/-- The sparse stores that commands write word by word are in canonical form: scalar objects, blobs, frames, leaf entries. -/
def State.storesWf (s : State) : Bool :=
  mapWf odDefault s.od && mapWf noEntry s.blobs && mapWf (fun _ => Cipher.zero) s.dram.frames
    && mapWf (fun _ => Leaf.empty) s.tables.leaves

/-- Every scalar object reads in `t` as it does in `s`, but those listed and the four counters of dropped log records. -/
def State.objectsAs (t s : State) (ks : List Nat) : Prop :=
  ∀ k, k ∉ ks → ¬ (OD.logbookDroppedNote ≤ k ∧ k ≤ OD.logbookDroppedNote + 3) → t.get k = s.get k

/-- The Req or RwD credits that the host holds at an LD's port (R98). -/
def State.creditsFor (s : State) (ld : Nat) (isWrite : Bool) : Nat :=
  if isWrite then s.rwdCredits (ld / 16) else s.reqCredits (ld / 16)

/-- A port takes a CXL.mem request of an LD and acts on it at once (R77, R98, R107): it admits it, the host holds a credit,
and no IDE key makes the message wait for its MAC. -/
def State.memReady (s : State) (ld : Nat) (isWrite : Bool) : Prop :=
  s.memOpen ld = true ∧ s.creditsFor ld isWrite ≠ 0 ∧ (s.hostPort (ld / 16)).keyMem = none

/-- No access to the line, received earlier on the port, is still held that the access must follow: a read follows earlier writes,
a write follows every earlier access (R150). -/
def State.lineFree (s : State) (ld dpa : Nat) (isWrite : Bool) : Prop :=
  ∀ w ∈ s.work.waiters, w.ld = ld → w.dpa / 64 = dpa / 64 → isWrite = false ∧ w.data = none

/-- The root and every node on the page's walk lie on channels in service, so that the walk neither waits nor moves a node
(R308, R311). -/
def State.walkServes (s : State) (cid page : Nat) : Prop :=
  s.chanServes (s.channelOf (s.carriage cid).root) = true
  ∧ ∀ l, l = 1 ∨ l = 2 ∨ l = 3 → s.nodeIn (· != .inService) (interiorKey cid l page) = false

/-- A request at a line's address of an LD reaches its leaf (R143, R147): a coupling covers it within the LD's window and the
carriage's size, the carriage is sound, no held access to the line goes first, the walk is served, and neither the leaf nor an
entry above it is poisoned or busy. -/
def State.leafAt (s : State) (ld dpa : Nat) (isWrite : Bool) (c : Coupling) (key line : Nat) : Prop :=
  s.reaching ld dpa = some c ∧ s.lineFree ld dpa isWrite ∧ s.walkServes c.cid ((dpa - c.dpa) / 4096)
  ∧ (s.carriage c.cid).damaged = false
  ∧ key = leafKey c.cid ((dpa - c.dpa) / 4096) ∧ line = dpa / 64 % 64
  ∧ s.poisonAbove c.cid ((dpa - c.dpa) / 4096) = none ∧ (s.leaf key).pois = false ∧ (s.leaf key).busy = false

/-- A CXL.mem request reaches its leaf: the port takes it, outside FREEZE. -/
def State.reachesLeaf (s : State) (ld dpa : Nat) (isWrite : Bool) (c : Coupling) (key line : Nat) : Prop :=
  s.memReady ld isWrite ∧ s.ctl.mode ≠ .freeze ∧ s.leafAt ld dpa isWrite c key line

/-- The page of a key needs no snapshot record before a change (R182): it has changed in this term, or the carriage keeps none
for it. -/
def State.recordFree (s : State) (key : Nat) : Prop :=
  (s.leaf key).ttag = (s.carriage (leafCid key)).term % 256 ∨ s.needsRecord (leafCid key) (leafPage key) = false

/-- The nodes and the extent of a page are there (R118, R136). -/
def State.pathGrown (s : State) (cid page : Nat) : Prop :=
  (∀ l, l = 1 ∨ l = 2 ∨ l = 3 → (s.interior (interiorKey cid l page)).valid = true)
  ∧ (s.interior (interiorKey cid 2 page)).extent ≠ 0

/-- A mailbox has completed a command with this return code and this output (R108). -/
def State.mailed (s : State) (ld : Ld) (code : Nat) (payload : List Byte) : State :=
  { s with out := { s.out with mailbox := some { ld := ld.val, code := code, payload := payload } } }

/-- A port's FM-owned LD has answered with this output (R93). -/
def State.fmAnswered (s : State) (payload : List Byte) : State := { s with out := { s.out with fm := payload } }

/-! ## Requests (R443 to R448) -/

/-- The state in which a session's next request is checked: its unanswered command has been answered PENDING, and the
session's idle time starts again. -/
def State.arrived (s : State) (src : Transport) : State :=
  let t := s.answerPending src
  t.setSession { t.session src with lastRequest := t.uptime }

/-- The request repeats the session's last one (R445). -/
def State.repeats (s : State) (q : Req) : Bool :=
  match (s.session q.src).last with
  | some l => l.tag = q.tag.toNat && l.crc = q.crc.toNat && s.uptime ≤ l.time + 1000000000
  | none => false

/-- The request reaches the checks of R443 that concern its object: the transport is up, the session exists or can be opened,
the frame is whole, and it is no repeat. -/
def State.reaches (s : State) (q : Req) (f : ReqFrame) : Bool :=
  s.transportUp q.src
  && ((findSession q.src s.zop.sessions).isSome || Decidable.decide (s.zop.sessions.length < 64))
  && q.crc == frameCrc f.opcode q.tag.toNat f.index f.sub 0 f.payload
  && !(s.arrived q.src).repeats q

/-- A request other than FETCH passes every check of R443 before its own effect: no pending result has its TAG, its object's
checks find nothing, and, for EXECUTE, fewer than 16 results are held. -/
def State.takes (s : State) (q : Req) (f : ReqFrame) : Bool :=
  let t := s.arrived q.src
  s.reaches q f && Decidable.decide (1 ≤ f.opcode) && Decidable.decide (f.opcode ≤ 7) && Decidable.decide (f.opcode ≠ opFetch)
  && (findResult q.tag.toNat (t.session q.src).results).isNone
  && (t.checkObject q.src f).isNone
  && (Decidable.decide (f.opcode ≠ opExecute) || Decidable.decide ((t.session q.src).results.length < 16))

/-- A request is not put off: no porter reloads, nothing is held at Map ingress, and no depot access of the key slot that it would load
or erase waits on a fetch (R70, R213, R369). -/
def State.served (s : State) (i : Instr) : Bool :=
  s.prompt && !s.tables.depot.any (fun e => e.2.busy && loadsSlot e.2.slot i)

/-- A row that is a ZOP request is accepted for its own effect. -/
def State.accepts (s : State) (i : Instr) : Bool :=
  match requestOf i with
  | some (q, f) => s.served i && s.takes q f
  | none => false

/-- A row's request is answered: its session keeps the response for a repeat (R445) and the frame leaves. -/
def State.answered (s : State) (i : Instr) (r : Reply) : State :=
  match requestOf i with
  | some (q, f) => s.respond q.src q.tag.toNat q.crc.toNat f r
  | none => s

/-- A row's command goes on: its session holds it, unanswered, under the key of its command (R444). -/
def State.goesOnFor (s : State) (i : Instr) (key : Nat) : State :=
  match requestOf i with
  | some (q, _) => s.setSession { s.session q.src with active := some { tag := q.tag.toNat, crc := q.crc.toNat, key := key } }
  | none => s

/-- The response OK without a payload. -/
def okReply : Reply := { status := stOk, payload := [] }

/-- The response OK with a payload. -/
def okPayload (p : List Byte) : Reply := { status := stOk, payload := p }

/-- The response REFUSED with a command's result. -/
def refusedReply (n : Nat) : Reply := { status := stRefused, payload := toBytes 1 n }

end Sys2Proof.Machine
end

