-- ==== Sys2Proof/Certificates/Slice0/Obligations.lean ====
section
/-! DEFINITION. The statements. Each says in its docstring which rules it formalises; where a choice of the model stands in
one, the docstring names its log entry. -/
open Sys2Proof Sys2Proof.Machine

/-- For every command c and state s, step of s with c at the front of its queue is exec of c on s with the queue's
rest. (95_what_each_step_holds.md) -/
def Obligations.StepRunsFront : Prop :=
  ∀ (c : Instr) (s : State), step { s with pending := c :: s.pending } = exec c s

/-- After reset the block is in OFF with an empty queue, every scalar object but the unit's identifier and the
strapped two-wire address (logs 6 and 17) at its default of the dictionary, no carriage, no coupling, no residue and
no vault, the event queue empty, the power state Normal, BATSEL released, the ticket seeds of the dictionary and its
complement loaded, and no component unlocked, armed or drilling. (02_operating_modes.md; 12_object_dictionary.md;
16_logbook_and_counters.md; 01_regions_and_islands.md) -/
def Obligations.ResetState : Prop :=
  State.reset.ctl.mode = .off ∧ State.reset.pending = [] ∧ (∀ k, k ≠ OD.identityUnitId → k ≠ OD.twoWireAddress → State.reset.get k = odDefault k)
    ∧ (∀ c, State.reset.carriage c = Carriage.free) ∧ State.reset.tables.couplings = [] ∧ State.reset.residue = 0
    ∧ State.reset.saves.vaults = [] ∧ State.reset.log.queue = [] ∧ State.reset.power.state = .normal ∧ State.reset.power.batsel = 0
    ∧ State.reset.tickets.lfsr0.toNat = State.reset.get OD.ticketSeed ∧ State.reset.tickets.lfsr1 = ~~~State.reset.tickets.lfsr0
    ∧ State.reset.ctl.unlocked = false ∧ State.reset.ctl.armed = false ∧ State.reset.flush.drill = none

/-- At reset the modes agree (R49, R582) and the sparse stores are in canonical form. (02_operating_modes.md;
16_logbook_and_counters.md) -/
def Obligations.ResetInvariants : Prop :=
  State.reset.modesAgree = true ∧ State.reset.storesWf = true

/-- WARN. In the Normal state the controller becomes Armed in the mode it is in: the Release hold stops, a drill ends,
in MAINTENANCE test perturbation is disarmed and its unlock revoked, and BOOT holds at the steps reached. In the Armed
state event 0x2805 is raised and perturbation cleared again; in the Committed state the change is counted in OD
0x5400.12. COMMIT from the Normal or the Armed state. In SERVICE, MAINTENANCE and FREEZE, and in RESTORE once CXL.mem
is admitted, the mode becomes SAVE with the Commit's cause, a save with the next SEALSEQ has reached t2, BATSEL is
driven and the power state is Committed. In BOOT the block goes to VAULT when a sealed vault is pending, else to OFF
with cause 0x0F; in RESTORE before admission it goes to VAULT. On the save-then-restore path a COMMIT leads to VAULT
with cause 0x0B once the completion record has ended, and takes the path back before. COMMIT elsewhere, WARN and
POWER_SIGNAL_CHANGE_IN_SAVE in the Committed state: the mode, the save's kind and its step stay, the power state stays
Committed, and OD 0x5400.12 counts the change. What the rules leave open stands as the model's choice: log 22, log 23,
log 172 and log 175. Answers a next state with its own effect, under conditions on the state and the operands alone:
warn, commit, powerSignalChangeInSave. (07_save_and_restore.md R236; 07_save_and_restore.md R237;
02_operating_modes.md R55; 07_save_and_restore.md R239; 07_save_and_restore.md R241; 02_operating_modes.md R57) -/
def Obligations.WarnAndCommit : Prop :=
  (∀ s : State, s.watchesPower = true →
      (s.power.state = .normal → ∃ t, exec .warn s = .next t ∧ t.power.state = .armed ∧ t.power.holdSince = none
        ∧ t.power.aboveRelease = false ∧ t.flush.drill = none ∧ t.ctl.mode = s.ctl.mode
        ∧ (s.ctl.mode = .maintenance → t.ctl.armed = false ∧ t.ctl.unlocked = false)
        ∧ (s.ctl.mode = .boot → t.boot.held = some s.boot.reached))
      ∧ (s.power.state = .armed → exec .warn s = .next (s.railFell.warnMaintenance.note 0x2805)
        ∧ (s.ctl.mode = .maintenance → s.railFell.warnMaintenance.ctl.armed = false ∧ s.railFell.warnMaintenance.ctl.unlocked = false)
        ∧ s.railFell.warnMaintenance.ctl.mode = s.ctl.mode)
      ∧ (s.power.state = .committed → ∃ t, exec .warn s = .next t ∧ t.power.state = .committed
        ∧ t.get OD.vaultSignalsInSave = (s.get OD.vaultSignalsInSave + 1) % 2 ^ 32))
  ∧ (∀ (s : State) (c : CommitSource), s.watchesPower = true → s.power.state ≠ .committed →
      ((s.ctl.mode = .service ∨ s.ctl.mode = .maintenance ∨ s.ctl.mode = .freeze
          ∨ (s.ctl.mode = .restore ∧ s.saves.restore.admitted = true)) →
        ∃ t r, exec (.commit c) s = .next t ∧ t.ctl.mode = .save ∧ t.power.state = .committed ∧ t.power.batsel = 1
          ∧ t.saves.lastSeq = s.saves.lastSeq + 1 ∧ t.saves.run = some r ∧ r.kind = .commit ∧ r.cause = commitCause c
          ∧ r.mode = s.ctl.mode ∧ r.step = 2 ∧ r.seq = s.saves.lastSeq + 1 ∧ r.t0 = s.clock)
      ∧ (s.ctl.mode = .boot → ∃ t, exec (.commit c) s = .next t ∧ t.power.state = .normal ∧ t.power.batsel = 0
          ∧ t.ctl.mode = if s.vaultPending then .vault else .off)
      ∧ (s.ctl.mode = .restore → s.saves.restore.admitted = false →
          ∃ t, exec (.commit c) s = .next t ∧ t.ctl.mode = .vault ∧ t.power.state = .normal ∧ t.power.batsel = 0))
  ∧ (∀ (s : State) (i : Instr) (c : CommitSource), s.watchesPower = true → s.power.state = .committed →
      ((i = .commit c ∧ s.restoringPath = false) ∨ i = .warn ∨ i = .powerSignalChangeInSave) →
      ∃ t, exec i s = .next t ∧ t.ctl = s.ctl ∧ t.power.state = .committed
        ∧ t.get OD.vaultSignalsInSave = (s.get OD.vaultSignalsInSave + 1) % 2 ^ 32
        ∧ t.saves.run.map (fun r => (r.kind, r.step)) = s.saves.run.map (fun r => (r.kind, r.step)))
  ∧ (∀ (s : State) (c : CommitSource) (r : SaveRun), s.watchesPower = true → s.restoringPath = true → s.saves.run = some r →
      (r.step = 9 → ∃ t, exec (.commit c) s = .next t ∧ t.ctl.mode = .vault ∧ t.power.state = .normal ∧ t.power.batsel = 0
        ∧ t.get OD.modeLastCause = 0x0B)
      ∧ (r.step ≠ 9 → ∃ t, exec (.commit c) s = .next t ∧ t.saves.run = some { r with restoring := false, powered := false } ∧ t.ctl = s.ctl))

/-- DISARM in the Armed state makes the power state Normal, lets BOOT go on and releases BATSEL that a drill left
driven. RELEASE_COMPARATOR_CROSSING records the rail and PWRFAIL_N and starts the hold's count exactly when both
conditions hold; after a trip the comparator returns only 5 mV above its threshold; in the Committed state a change is
counted in OD 0x5400.12, and outside it BATSEL that a save left driven is released in SERVICE. POWER_RETURN_EVENT
starts BOOT from VAULT and sets PWRRET in SAVE. BATSEL_NO_CURRENT, while BATSEL is driven and unconfirmed, counts in
OD 0x8400.06. What the rules leave open stands as the model's choice: log 24. Answers a next state with its own
effect, under conditions on the state and the operands alone: disarm, powerReturnEvent, batselNoCurrent,
releaseComparatorCrossing. (07_save_and_restore.md R236; 07_save_and_restore.md R238; 02_operating_modes.md R54;
11_power_battery_ageing.md R388; 11_power_battery_ageing.md R391; 11_power_battery_ageing.md R393) -/
def Obligations.ReleaseAndReturn : Prop :=
  ∀ s : State,
    (s.watchesPower = true → s.power.state = .armed →
      ∃ t, exec .disarm s = .next t ∧ t.power.state = .normal ∧ t.boot.held = none ∧ t.ctl = s.ctl
        ∧ (s.power.batsel = 2 → s.flush.drill = none → t.power.batsel = 0))
    ∧ (∀ rail high, ∃ t, exec (.releaseComparatorCrossing rail high) s = .next t ∧ t.ctl = s.ctl ∧ t.power.state = s.power.state
        ∧ t.pins = { s.pins with rail := rail, pwrfailN := high } ∧ t.power.aboveRelease = s.releaseOutput rail
        ∧ t.power.holdSince = (if s.releaseOutput rail && high then some s.uptime else none)
        ∧ (s.releaseOutput rail = true → railReaches rail (s.get OD.thresholdReleaseLevel) (s.get OD.railDividerRatio) = true)
        ∧ (s.power.aboveRelease = true → s.releaseOutput rail
            = railReaches rail (s.get OD.thresholdReleaseLevel) (s.get OD.railDividerRatio))
        ∧ (s.watchesPower = true → s.power.state = .committed →
            (s.power.aboveRelease ≠ s.releaseOutput rail ∨ s.pins.pwrfailN ≠ high) →
            t.get OD.vaultSignalsInSave = (s.get OD.vaultSignalsInSave + 1) % 2 ^ 32)
        ∧ (s.power.state ≠ .committed → s.power.batsel = 1 → s.releaseOutput rail = true → s.ctl.mode = .service →
            t.power.batsel = 0)
        ∧ (s.power.state ≠ .committed → s.power.batsel ≠ 1 →
            t = { s with pins := t.pins, power := { s.power with aboveRelease := t.power.aboveRelease, holdSince := t.power.holdSince } }))
    ∧ (s.ctl.stopped = false → s.ctl.mode = .vault →
        ∃ t, exec .powerReturnEvent s = .next t ∧ t.ctl.mode = .boot ∧ t.get OD.qosThrottleState = 2 ∧ t.boot.t0 = s.uptime)
    ∧ (∀ r, s.ctl.stopped = false → s.ctl.mode = .save → s.saves.run = some r →
        ∃ t, exec .powerReturnEvent s = .next t ∧ t.saves.run = some { r with pwrret := true, returned := r.returned || !r.sealed } ∧ t.ctl = s.ctl)
    ∧ (s.power.batsel = 1 → s.power.confirmed = false →
        exec .batselNoCurrent s = .next ((s.note 0x6001).bump OD.railBatselConfirmFails 1))

/-- POWER_ON_RESET stops the Signal Box: OFF, nothing armed, no TAP output driven. SIGNAL_BOX_COLD_START then ends in
OFF after a failed ROM self-check, with the service loop not entered, and after a good one in OFF or VAULT, or in BOOT
where the Main die has power. MAIN_DIE_POWER_GOOD starts BOOT from OFF when RESET_N is high. MD_PWRGD_LOST records the
pin and, with the Main die running and no Commit just before, raises event 0x6301. CRYSTAL_FAIL and VSB_EARLY_WARNING
record their input and raise 0x6320 and, on recovery, 0x6302. RESET_N_ASSERT: in SERVICE, MAINTENANCE and FREEZE, and
in RESTORE after admission, a save of kind reset begins with cause 0x03; in SAVE before the seal it is latched; in
BOOT and in RESTORE before admission BOOT begins again with the Main die held, once no program or erase of the
embedded flash is in progress. RESET_N_RELEASE: a held BOOT attempt starts at t0 with the Main die released. What the
rules leave open stands as the model's choice: log 25, log 26 and log 46. Answers a next state with its own effect,
under conditions on the state and the operands alone: signalBoxColdStart, powerOnReset, vsbEarlyWarning, crystalFail,
mainDiePowerGood, mdPwrgdLost, resetNAssert, resetNRelease. (17_electrical_and_package.md R591;
17_electrical_and_package.md R592; 17_electrical_and_package.md R594; 17_electrical_and_package.md R599;
14_cores_and_embedded_flash.md R496; 02_operating_modes.md R55; 02_operating_modes.md R66; 02_operating_modes.md R67;
02_operating_modes.md R68) -/
def Obligations.SuppliesAndResetPin : Prop :=
  (∀ s : State,
      (∃ t, exec .powerOnReset s = .next t ∧ t.ctl.mode = .off ∧ t.ctl.stopped = true ∧ t.ctl.unlocked = false
        ∧ t.ctl.armed = false ∧ t.power = Power.initial ∧ t.tap.drives = false ∧ t.tables = MapTables.empty)
      ∧ (∀ a b addr cor bad, s.ctl.stopped = true → ∃ t, exec (.signalBoxColdStart false a b addr cor bad) s = .next t
          ∧ t.ctl.mode = .off ∧ t.ctl.stopped = false ∧ t.ctl.romFailed = true)
      ∧ (∀ a b addr cor bad, s.ctl.stopped = true → ∃ t, exec (.signalBoxColdStart true a b addr cor bad) s = .next t
          ∧ (t.ctl.mode = .off ∨ t.ctl.mode = .vault ∨ t.ctl.mode = .boot) ∧ t.ctl.stopped = false ∧ t.ctl.romFailed = false
          ∧ (a = true → b = true → t.ctl.serviceLoop = false))
      ∧ (s.ctl.stopped = false → s.ctl.mode = .off → s.pins.resetN = true → s.ctl.romFailed = false → s.ctl.serviceLoop = false →
          ∃ t, exec .mainDiePowerGood s = .next t ∧ t.ctl.mode = .boot ∧ t.pins.mdPwrgd = true ∧ t.boot.reached = 1
            ∧ t.get OD.qosThrottleState = 2)
      ∧ (s.restoringPath = false →
          ∃ t, exec .mdPwrgdLost s = .next t ∧ t.pins.mdPwrgd = false ∧ t.ctl = s.ctl ∧ t.power.state = s.power.state
            ∧ (s.mainDieRuns = true → s.ctl.stopped = false → s.recentCommit = false → ∃ u : State, t = u.note 0x6301))
      ∧ (s.ctl.stopped = false →
          exec .crystalFail s = .next (State.note { s with pins := { s.pins with crystal := false } } 0x6320))
      ∧ exec (.vsbEarlyWarning false) s = .next { s with pins := { s.pins with vsbEarly := true } }
      ∧ ∃ t, exec (.vsbEarlyWarning true) s = .next t ∧ t.pins.vsbEarly = false ∧ t.ctl = s.ctl)
  ∧ (∀ s : State, s.ctl.stopped = false →
      ((s.ctl.mode = .service ∨ s.ctl.mode = .maintenance ∨ s.ctl.mode = .freeze
          ∨ (s.ctl.mode = .restore ∧ s.saves.restore.admitted = true)) →
        ∃ t r, exec .resetNAssert s = .next t ∧ t.ctl.mode = .save ∧ t.pins.resetN = false
          ∧ t.saves.run = some r ∧ r.kind = .reset ∧ r.cause = 0x03 ∧ r.step = 2)
      ∧ (∀ r, s.ctl.mode = .save → s.saves.run = some r → r.sealed = false →
          ∃ t, exec .resetNAssert s = .next t ∧ t.ctl = s.ctl ∧ t.saves.run = some { r with resetLatched := true, latched := true })
      ∧ (s.eflash.busy = none → (s.ctl.mode = .boot ∨ (s.ctl.mode = .restore ∧ s.saves.restore.admitted = false)) →
          ∃ t, exec .resetNAssert s = .next t ∧ t.ctl.mode = .boot ∧ t.ctl.resetPending = true ∧ t.boot.reached = 0)
      ∧ (s.ctl.mode = .boot → s.ctl.resetPending = true → s.boot.retryHold = false →
          ∃ t, exec .resetNRelease s = .next t ∧ t.ctl.mode = .boot ∧ t.pins.resetN = true ∧ t.ctl.resetPending = false
            ∧ t.boot.reached = 1 ∧ t.boot.t0 = s.uptime))

/-- Each step of BOOT that may end (BOOT runs, the steps it needs have ended, no Warn holds the sequence before it)
ends with its event, and BOOT goes on: BOOT_START takes the temperature, PORTERS_LOADED starts all eight porters when
hash unit, signatures and digests are good, VAULT_KEY_DERIVED journals a first check value or accepts the journalled
one with at least 24 pipes usable, FLASH_CHANNELS_READY and DRAM_CHANNELS_TRAINED end when no more than 8 flash
channels and no more than a quarter of the DRAM channels are out, SEAL_RECORDS_READ classifies the vault.
BOOT_COMPLETE without a vault enters SERVICE with cause 0x05 and no boot failure counted. BOOT_STEP_TIMEOUT of the
step in progress counts a failed attempt: after the first or second the attempt waits for its retry, after the third
FREEZE is entered. BOOT_RETRY_DELAY_EXPIRY starts the next attempt at t0. What the rules leave open stands as the
model's choice: log 46, log 47 and log 54. Answers a next state with its own effect, under conditions on the state and
the operands alone: bootStart, portersLoaded, vaultKeyDerived, flashChannelsReady, dramChannelsTrained,
sealRecordsRead, bootComplete, bootStepTimeout, bootRetryDelayExpiry. (02_operating_modes.md R55;
02_operating_modes.md R62; 14_cores_and_embedded_flash.md R499; 10_cipher_and_keys.md R363; 09_flash_tier.md R323;
08_dram_controller.md R303; 07_save_and_restore.md R266; 02_operating_modes.md R64; 07_save_and_restore.md R274) -/
def Obligations.Boot : Prop :=
  (∀ s : State,
      (∀ temp, s.bootMay 1 = true → ∃ t, exec (.bootStart temp) s = .next t ∧ t.reachedStep 1 = true ∧ t.boot.temperature = temp)
      ∧ (s.bootMay 2 = true → ∃ t, exec (.portersLoaded true true true) s = .next t ∧ t.reachedStep 2 = true
          ∧ (∀ n, n < 8 → (t.porter n).running = true ∧ (t.porter n).reloading = false) ∧ t.ctl = s.ctl ∧ t.tables = s.tables)
      ∧ (∀ check pass bad, s.bootMay 3 = true → (s.checkVaultKey check).2 = true → popcount 40 (~~~pass).toNat ≤ 16 →
          s.crypt.vaultMark + 2 ^ 21 < 2 ^ 64 →
          ∃ t, exec (.vaultKeyDerived check pass bad) s = .next t ∧ t.reachedStep 3 = true ∧ t.crypt.keyed = true
            ∧ t.crypt.quarantined = ~~~pass)
      ∧ (∀ marks, s.bootMay 4 = true → (∀ n, n < 64 → s.fchan n = FChan.initial) → s.namedDies ≠ 0 →
          ∃ t, exec (.flashChannelsReady (s.get OD.flashSpeedLimit) [] 0 marks) s = .next t ∧ t.reachedStep 4 = true
            ∧ t.channelsInService = 64 ∧ t.get OD.flashRate = s.get OD.flashSpeedLimit)
      ∧ (s.bootMay 5 = true → (∀ n, n < 16 → s.chan n = Chan.initial) →
          ∃ t, exec (.dramChannelsTrained 0 0) s = .next t ∧ t.reachedStep 5 = true
            ∧ (∀ n, n < 16 → s.isPopulated n = true → (t.chan n).state = .inService) ∧ t.boot.storedTraining = s.useStored)
      ∧ (∀ a b h m u, s.bootMay 6 = true → ∃ t, exec (.sealRecordsRead a b h m u) s = .next t ∧ t.reachedStep 6 = true))
  ∧ (∀ s : State,
      (s.bootMay 7 = true → s.saves.vaults = [] →
        ∃ t, exec .bootComplete s = .next t ∧ t.ctl.mode = .service ∧ t.get OD.modeLastCause = 0x05)
      ∧ (∀ n : Fin 7, s.ctl.mode = .boot → s.boot.retryHold = false → s.reachedStep (n.val + 1) = false →
          s.get OD.modeBootFailures < 2 →
          ∃ t, exec (.bootStepTimeout n) s = .next t ∧ t.ctl.mode = .boot ∧ t.boot.retryHold = true ∧ t.boot.reached = 0)
      ∧ (∀ n : Fin 7, s.ctl.mode = .boot → s.boot.retryHold = false → s.reachedStep (n.val + 1) = false →
          2 ≤ s.get OD.modeBootFailures → ∃ t, exec (.bootStepTimeout n) s = .next t ∧ t.ctl.mode = .freeze)
      ∧ (s.ctl.mode = .boot → s.boot.retryHold = true →
          ∃ t, exec .bootRetryDelayExpiry s = .next t ∧ t.boot.t0 = s.uptime ∧ t.boot.retryHold = false
            ∧ t.boot.reached = (if s.pins.resetN then 1 else 0) ∧ t.ctl.mode = .boot ∧ t.tables = s.tables ∧ t.od = s.od))

/-- STATIONMASTER_WATCHDOG_EXPIRY in RESTORE, SERVICE, MAINTENANCE or FREEZE puts the two-wire port in recovery and
keeps the mode, at once or when the operation of the embedded flash in progress ends. STATIONMASTER_RESTART keeps the
mode, counts the restart with its cause, ends recovery and closes the Signal Box's sessions. PORTER_WATCHDOG_EXPIRY in
those modes resets the porter for reload, PORTER_RELOAD_COMPLETE with a good hash runs it again and changes no table,
PORTER_MEMORY_ERROR resets a running porter. EFLASH_OPERATION_COMPLETE leaves the embedded flash idle. What the rules
leave open stands as the model's choice: log 65, log 79 and log 161. Answers a next state with its own effect, under
conditions on the state and the operands alone: stationmasterWatchdogExpiry, porterWatchdogExpiry,
stationmasterRestart, porterReloadComplete, eflashOperationComplete, porterMemoryError. (02_operating_modes.md R70;
02_operating_modes.md R71; 14_cores_and_embedded_flash.md R495; 14_cores_and_embedded_flash.md R500;
14_cores_and_embedded_flash.md R504; 01_regions_and_islands.md R37) -/
def Obligations.WatchdogsAndPorters : Prop :=
  ∀ s : State,
    ((s.ctl.mode = .restore ∨ s.ctl.mode = .service ∨ s.ctl.mode = .maintenance ∨ s.ctl.mode = .freeze) → s.ctl.stopped = false →
      s.eflash.busy = none →
      ∃ t, exec .stationmasterWatchdogExpiry s = .next t ∧ t.bus.recovery = true
        ∧ (s.update.state ≠ .trial → s.ctl.mode = .freeze → t.ctl = s.ctl ∧ t.tables = s.tables)
        ∧ (s.ctl.mode ≠ .freeze → t.terms.runs = [] ∧ t.terms.exp = none ∧ t.terms.imp = none ∧ t.terms.admission = none))
    ∧ (s.ctl.stopped = false → s.ctl.mode ≠ .save → s.eflash.busy ≠ none →
        ∃ t, exec .stationmasterWatchdogExpiry s = .next t ∧ t.cores.deferredReset = 2 ∧ (s.update.state ≠ .trial → t.ctl = s.ctl))
    ∧ (∀ cause cor bad, s.ctl.stopped = false → s.ctl.romFailed = false → s.ctl.mode ≠ .boot → s.ctl.mode ≠ .save →
        s.cores.deferredReset = 0 → s.cores.deferredPorters = [] → s.faultsAgain cause = false →
        ∃ t, exec (.stationmasterRestart cause true cor bad) s = .next t ∧ t.ctl.mode = s.ctl.mode
          ∧ t.cores.restarts = s.cores.restarts + 1 ∧ t.cores.restartCause = restartCode cause ∧ t.bus.recovery = false)
    ∧ (∀ pt : Pt, (s.ctl.mode = .restore ∨ s.ctl.mode = .service ∨ s.ctl.mode = .maintenance ∨ s.ctl.mode = .freeze) →
        (s.porter pt.val).expiries = [] → s.eflash.busy = none →
        ∃ t, exec (.porterWatchdogExpiry pt) s = .next t ∧ (t.porter pt.val).running = false
          ∧ (t.porter pt.val).reloading = true ∧ t.ctl = s.ctl)
    ∧ (∀ pt : Pt, (s.porter pt.val).reloading = true →
        ∃ t, exec (.porterReloadComplete pt true) s = .next t ∧ (t.porter pt.val).running = true
          ∧ (t.porter pt.val).reloading = false ∧ t = { s with cores := t.cores, zop := t.zop, out := t.out, bus := t.bus })
    ∧ (∀ pt : Pt, (s.porter pt.val).running = true →
        exec (.porterMemoryError pt) s = .next ((s.reloadPorter pt.val).raise 0x6211 0 [(.u8, pt.val)]))
    ∧ (s.cores.deferredReset = 0 → s.cores.deferredPorters = [] → ∃ t, exec .eflashOperationComplete s = .next t ∧ t.eflash.busy = none
        ∧ t = { s with eflash := { s.eflash with busy := none } })

/-- CHIP_DECISION_REQUEST completes in every mode, whatever region asks: in SERVICE and MAINTENANCE with the save path
usable it starts the save of kind decision with cause 0x0A, with the save path not usable it enters FREEZE with cause
0x0A; in BOOT and RESTORE it enters FREEZE with cause 0x0A; in SAVE the decision is recorded in the save and the mode
is kept; in OFF, VAULT and FREEZE mode and tables stay. SELF_CHECK_FAILURE completes in every mode: where the Main die
runs, of a flash channel in service it puts the channel out of service with cause 3, of a DRAM channel in service it
freezes the channel with cause 8 (4 where a mode register failed) at the present time, and of a port it isolates the
port; and while the region stays within its budget (8 flash channels, a quarter of the DRAM channels, one port) the
mode is kept. Where the Main die does not run, the command changes nothing but the count of commands not listed (logs
16 and 21). What the rules leave open stands as the model's choice: log 16, log 21 and log 80. Answers a next state
with its own effect, under conditions on the state and the operands alone: chipDecisionRequest, selfCheckFailure.
(01_regions_and_islands.md R15; 01_regions_and_islands.md R16; 01_regions_and_islands.md R17;
01_regions_and_islands.md R18; 03_host_ports.md R105; 08_dram_controller.md R306; 09_flash_tier.md R333) -/
def Obligations.IsolationsAndDecisions : Prop :=
  ∀ s : State,
    (∀ r : Region, s.ctl.stopped = false →
      ((s.ctl.mode = .service ∨ s.ctl.mode = .maintenance) → s.savePathUsable = true →
        ∃ t x, exec (.chipDecisionRequest r) s = .next t ∧ t.ctl.mode = .save ∧ t.get OD.modeLastCause = 0x0A
          ∧ t.saves.run = some x ∧ x.kind = .decision ∧ x.cause = 0x0A ∧ x.mode = s.ctl.mode ∧ x.step = 2)
      ∧ ((s.ctl.mode = .service ∨ s.ctl.mode = .maintenance) → s.savePathUsable = false →
        ∃ t, exec (.chipDecisionRequest r) s = .next t ∧ t.ctl.mode = .freeze ∧ t.get OD.modeLastCause = 0x0A)
      ∧ ((s.ctl.mode = .boot ∨ s.ctl.mode = .restore) →
        ∃ t, exec (.chipDecisionRequest r) s = .next t ∧ t.ctl.mode = .freeze ∧ t.get OD.modeLastCause = 0x0A)
      ∧ (∀ x, s.ctl.mode = .save → s.saves.run = some x →
        ∃ t, exec (.chipDecisionRequest r) s = .next t ∧ t.saves.run = some { x with decision := true } ∧ t.ctl = s.ctl)
      ∧ ((s.ctl.mode = .off ∨ s.ctl.mode = .vault ∨ s.ctl.mode = .freeze) →
        ∃ t, exec (.chipDecisionRequest r) s = .next t ∧ t.ctl = s.ctl ∧ t.tables = s.tables))
    ∧ (∀ c : Fc, s.mainDieRuns = true → (s.fchan c.val).state = 0 →
        ∃ t, exec (.selfCheckFailure (.flash c)) s = .next t ∧ (t.fchan c.val).state = 1 ∧ (t.fchan c.val).cause = 3
          ∧ (s.fchansOut < 8 → t.ctl = s.ctl))
    ∧ (∀ (c : Mc) (m : Bool), s.mainDieRuns = true → (s.chan c.val).state = .inService →
        ∃ t, exec (.selfCheckFailure (.dram c m)) s = .next t ∧ (t.chan c.val).freezeCause = (if m then 4 else 8)
          ∧ (t.chan c.val).freezeTime = s.clock ∧ (t.chan c.val).state ≠ .inService
          ∧ (s.isPopulated c.val = true → 4 * (s.chansOut + 1) ≤ s.populated → t.ctl = s.ctl))
    ∧ (∀ p : Port, s.mainDieRuns = true →
        ∃ t, exec (.selfCheckFailure (.port p)) s = .next t ∧ t.iso.ports.getLsbD p.val = true
          ∧ (s.iso.ports = 0 → t.get (OD.hpFenceCause p.val) = 3 ∧ t.ctl = s.ctl))
    ∧ (∀ b : SelfCheckBlock, s.mainDieRuns = false → exec (.selfCheckFailure b) s = .next s.unlist)

/-- MODE_REQUEST, accepted: the present mode changes nothing and is answered OK; SERVICE takes MAINTENANCE (unless a
drill runs), FREEZE and SAVE; MAINTENANCE takes SERVICE, FREEZE and SAVE; FREEZE takes SAVE, each with cause 0x09; a
mode that the table does not list is answered STATE with the mode kept. Answers a next state with its own effect,
under conditions on the state and the operands alone: modeRequest. (02_operating_modes.md R49; 02_operating_modes.md
R55; 02_operating_modes.md R56; 02_operating_modes.md R60) -/
def Obligations.ModeRequests : Prop :=
  ∀ (s : State) (q : Req) (m : BitVec 8), s.accepts (.modeRequest q m) = true →
    (m.toNat = s.ctl.mode.code → exec (.modeRequest q m) s = .next ((s.arrived q.src).answered (.modeRequest q m) okReply))
    ∧ (s.ctl.mode = .service → m = 7 → s.flush.drill = none →
        ∃ t, exec (.modeRequest q m) s = .next t ∧ t.ctl.mode = .maintenance ∧ t.get OD.modeLastCause = 0x09
          ∧ t.get OD.modePreviousMode = 3)
    ∧ (s.ctl.mode = .maintenance → m = 3 →
        ∃ t, exec (.modeRequest q m) s = .next t ∧ t.ctl.mode = .service ∧ t.get OD.modeLastCause = 0x09
          ∧ t.ctl.unlocked = false ∧ t.ctl.armed = false)
    ∧ ((s.ctl.mode = .service ∨ s.ctl.mode = .maintenance) → m = 6 →
        ∃ t, exec (.modeRequest q m) s = .next t ∧ t.ctl.mode = .freeze)
    ∧ ((s.ctl.mode = .service ∨ s.ctl.mode = .maintenance ∨ s.ctl.mode = .freeze) → m = 4 →
        ∃ t r, exec (.modeRequest q m) s = .next t ∧ t.ctl.mode = .save ∧ t.get OD.modeLastCause = 0x09
          ∧ t.saves.run = some r ∧ r.kind = .requested)
    ∧ (s.ctl.mode = .restore → m = 3 → exec (.modeRequest q m) s = .next
        (((s.arrived q.src).raise 0x8004 0 [(.u8, 3), (.u8, 2)]).answered (.modeRequest q m) { status := stState, payload := [] }))

/-- While the save in progress has reached step n - 1, the event of step n takes it to n and no other step event does
anything but count as unlisted. SAVE_DRAIN_COMPLETE fixes the residue and the residue list; SAVE_HEADER_PROGRAMMED
writes the header with the dirty map, the seating plan and the global term; SAVE_METADATA_PROGRAMMED the metadata,
with the tables where they are loaded; SAVE_STREAM_PROGRAMMED the pages of the list that the stream takes, as many as
the room lets; SAVE_LOG_PROGRAMMED the records, and it reports the next SEQ. SEAL_COMPLETE at t8 marks the save
sealed, and reports its vault as pending. VAULT_RECORD_COMPLETE at t9 leads to VAULT with cause 0x0B when neither a
reset nor the save-then-restore path follows, and to BOOT with cause 0x03 when a latched reset does and the embedded
flash is idle; BATSEL is released. SAVE_THEN_RESTORE_ENTRY leads to RESTORE with cause 0x0C. What the rules leave open
stands as the model's choice: log 22, log 71, log 72, log 73, log 80, log 81, log 145, log 146, log 160 and log 163.
Answers a next state with its own effect, under conditions on the state and the operands alone: saveThenRestoreEntry,
saveDrainComplete, saveHeaderProgrammed, saveMetadataProgrammed, saveStreamProgrammed, saveLogProgrammed,
sealComplete, vaultRecordComplete. (07_save_and_restore.md R241; 07_save_and_restore.md R242; 07_save_and_restore.md
R250; 07_save_and_restore.md R251; 16_logbook_and_counters.md R567; 00_scope.md R12; 07_save_and_restore.md R252;
07_save_and_restore.md R255; 07_save_and_restore.md R263; 02_operating_modes.md R55; 02_operating_modes.md R59;
02_operating_modes.md R68) -/
def Obligations.Saves : Prop :=
  (∀ (s : State) (r : SaveRun), s.ctl.mode = .save → s.saves.run = some r →
      (r.step = 2 → ∃ t x, exec .saveDrainComplete s = .next t ∧ t.saves.run = some x ∧ x.step = 3)
      ∧ (r.step = 3 → exec .saveHeaderProgrammed s = .next (((s.programSegments r 1).changeVault r.seq (fun v => { v with
          header := true, dirtyMap := s.dirtyMap, plan := s.seatingPlan, globalTerm := s.tables.globalTerm
          residue := r.residue })).setRun { r with step := 4 }))
      ∧ (r.step = 4 → ∃ t, exec .saveMetadataProgrammed s = .next t ∧ t.saves.run.map (·.step) = some 5
          ∧ (∀ v, findVault r.seq t.saves.vaults = some v → v.metaMark = true)
          ∧ (s.tablesLoaded = true →
              (∀ v, findVault r.seq t.saves.vaults = some v → v.tables = s.carriedTables ∧ v.list = r.list)
              ∧ t = { s with saves := t.saves, flash := t.flash, free := t.free }))
      ∧ (r.step = 5 → ∃ t x, exec (.saveStreamProgrammed []) s = .next t ∧ t.saves.run = some x ∧ x.step = 6 ∧ t.tables = s.tables
          ∧ ((∀ n, n < 16 → (s.chan n).state ≠ .salvageSave) → x = { r with step := 6 })
          ∧ (∀ v, findVault r.seq t.saves.vaults = some v → v.stream = (r.list.filter s.streams).take s.streamRoom))
      ∧ (∀ faults, r.step = 5 → ∃ t x, exec (.saveStreamProgrammed faults) s = .next t ∧ t.saves.run = some x ∧ x.step = 6)
      ∧ (r.step = 6 → ∃ t, exec .saveLogProgrammed s = .next t ∧ t.saves.run = some { r with step := 7 }
          ∧ t.log.seqReport = some s.log.nextSeq ∧ t = { s with saves := t.saves, log := t.log, flash := t.flash })
      ∧ (r.step ≠ 2 → exec .saveDrainComplete s = .next s.unlist)
      ∧ (r.step ≠ 3 → exec .saveHeaderProgrammed s = .next s.unlist)
      ∧ (r.step ≠ 4 → exec .saveMetadataProgrammed s = .next s.unlist)
      ∧ (∀ faults, r.step ≠ 5 → exec (.saveStreamProgrammed faults) s = .next s.unlist)
      ∧ (r.step ≠ 6 → exec .saveLogProgrammed s = .next s.unlist)
      ∧ (∀ a b e, r.step ≠ 7 → exec (.sealComplete a b e) s = .next s.unlist)
      ∧ (r.step ≠ 8 → exec .vaultRecordComplete s = .next s.unlist))
  ∧ (∀ (s : State) (r : SaveRun), s.ctl.mode = .save → s.saves.run = some r →
      (∀ c1 c2 e v, r.step = 7 → findVault r.seq s.saves.vaults = some v →
        ∃ t x, exec (.sealComplete c1 c2 e) s = .next t ∧ t.saves.run = some x ∧ x.step = 8 ∧ x.sealed = true
          ∧ t.get OD.vaultVaultPending = 1 ∧ t.get OD.vaultSealSeq = v.seq ∧ t.ctl = s.ctl)
      ∧ (r.step = 8 → r.resetLatched = false → r.restoring = false →
          ∃ t, exec .vaultRecordComplete s = .next t ∧ t.ctl.mode = .vault ∧ t.power.state = .normal ∧ t.power.batsel = 0
            ∧ t.get OD.modeLastCause = 0x0B)
      ∧ (r.step = 8 → r.resetLatched = true → s.eflash.busy = none →
          ∃ t, exec .vaultRecordComplete s = .next t ∧ t.ctl.mode = .boot ∧ t.get OD.modeLastCause = 0x03)
      ∧ (∀ v, r.step = 9 → r.restoring = true → findVault r.seq s.saves.vaults = some v →
          ∃ t, exec .saveThenRestoreEntry s = .next t ∧ t.ctl.mode = .restore ∧ t.get OD.modeLastCause = 0x0C
            ∧ t.saves.restore.seq = v.seq ∧ t.saves.restore.active = true ∧ t.get OD.qosThrottleState = 2))

/-- SALVAGE_INIT_COMPLETE takes a channel in salvage initialisation to thawing with its frames still to go, and marks
one in a save's salvage as initialised. SALVAGE_INIT_TIMEOUT takes the first offline with event 0x3043 after poisoning
what lay only there, before held requests are tried again; in a save it raises 0x2813 and loses the table lines
changed there. THAW_PASS_COMPLETE takes a thawing channel offline with event 0x3042. What the rules leave open stands
as the model's choice: log 74. Answers a next state with its own effect, under conditions on the state and the
operands alone: salvageInitComplete, salvageInitTimeout, thawPassComplete. (07_save_and_restore.md R256;
07_save_and_restore.md R259; 08_dram_controller.md R308; 08_dram_controller.md R309; 08_dram_controller.md R310;
08_dram_controller.md R311) -/
def Obligations.SalvageAndThaw : Prop :=
  ∀ (s : State) (c : Mc),
    ((s.chan c.val).state = .salvageInit → exec (.salvageInitComplete c) s = .next
      ((((s.setChan c.val { s.chan c.val with state := .thawing, initialised := true }).put OD.freezeThawTotal
          s.framesPerChannel).put OD.freezeThawDone 0).raise 0x3041 0 [(.u8, c.val)]))
    ∧ ((s.chan c.val).state = .salvageSave → exec (.salvageInitComplete c) s = .next
        (s.setChan c.val { s.chan c.val with initialised := true }))
    ∧ ((s.chan c.val).state = .salvageInit → ∃ u : State, exec (.salvageInitTimeout c) s = .next u.resume
        ∧ (u.chan c.val).state = .offline ∧ u.ctl = s.ctl)
    ∧ ((s.chan c.val).state = .salvageSave → (s.chan c.val).initialised = false →
        exec (.salvageInitTimeout c) s = .next ((s.raise 0x2813 0 [(.u8, c.val)]).loseChanged c.val))
    ∧ (∀ failed, s.prompt = true → (s.chan c.val).state = .thawing → ∃ u : State, exec (.thawPassComplete c failed) s = .next u.resume
        ∧ (u.chan c.val).state = .offline ∧ u.get OD.freezeThawDone = u.get OD.freezeThawTotal)

/-- RESTORE_METADATA_PHASE_COMPLETE of a cold restore ends the metadata phase: the background restore or early
admission follows and the planner has computed. RESTORE_COMPLETE enters SERVICE with cause 0x06 when no page is left
on its vault location, before held requests are tried again, and stays in RESTORE otherwise. RESTORE_CHECKPOINT_DUE
records the step, the plan position and the segment, and before the metadata phase has ended nothing else. PLAN_LOAD
writes its entries from the first on, and CLEAR_OUTCOMES clears every carriage's outcome. What the rules leave open
stands as the model's choice: log 76, log 77 and log 78. Answers a next state with its own effect, under conditions on
the state and the operands alone: restoreMetadataPhaseComplete, restoreComplete, restoreCheckpointDue, planLoad,
clearOutcomes. (07_save_and_restore.md R265; 07_save_and_restore.md R268; 07_save_and_restore.md R272;
07_save_and_restore.md R273; 07_save_and_restore.md R276; 07_save_and_restore.md R277; 07_save_and_restore.md R278) -/
def Obligations.RestoreEvents : Prop :=
  (∀ (s : State) (v : Vault), s.prompt = true → s.ctl.mode = .restore → s.saves.restore.metaDone = false → s.saves.restore.warm = false →
    findVault s.saves.restore.seq s.saves.vaults = some v →
    ∃ t, exec .restoreMetadataPhaseComplete s = .next t ∧ t.flush.planned = true
      ∧ (t.get OD.restoreRestoreState = 2 ∨ t.get OD.restoreRestoreState = 3))
  ∧ (∀ (s : State) (bad : List (BitVec 16 × BitVec 28)), s.prompt = true → s.ctl.mode = .restore → s.saves.restore.active = true →
      s.saves.restore.metaDone = true → ∃ u : State, exec (.restoreComplete bad) s = .next u.resume
        ∧ ((u.ctl.mode = .service ∧ u.get OD.modeLastCause = 0x06 ∧ u.saves.restore.active = false
            ∧ u.saves.restore.awaiting = true ∧ u.saves.restore.locations = [])
          ∨ (u.ctl.mode = .restore ∧ u.saves.restore.locations ≠ [])))
  ∧ (∀ (s : State) (n : Fin 4) (p : BitVec 16) (g : BitVec 32), s.prompt = true → s.ctl.mode = .restore → s.saves.restore.active = true →
      ∃ t, exec (.restoreCheckpointDue n p g) s = .next t
        ∧ t.saves.restore.step = n.val ∧ t.saves.restore.position = p.toNat ∧ t.saves.restore.segment = g.toNat
        ∧ t.get OD.restorePlanPosition = p.toNat ∧ t.ctl = s.ctl
        ∧ (s.saves.restore.metaDone = false → t.tables = s.tables
            ∧ t.saves.restore = { s.saves.restore with step := n.val, position := p.toNat, segment := g.toNat }))
  ∧ (∀ (s : State) (q : Req) (first : BitVec 16) (ids : List (BitVec 16)), s.accepts (.planLoad q first ids) = true →
      1 ≤ ids.length → ids.length ≤ 500 → first.toNat + ids.length ≤ 4096 →
      ∃ t, exec (.planLoad q first ids) s = .next t
        ∧ (∀ i, i < ids.length → mapGet (fun _ => 0xFFFF) t.saves.plan (first.toNat + i) = (ids.getD i 0).toNat)
        ∧ (∀ i, i < first.toNat ∨ first.toNat + ids.length ≤ i →
            mapGet (fun _ => 0xFFFF) t.saves.plan i = mapGet (fun _ => 0xFFFF) s.saves.plan i)
        ∧ t.tables = s.tables ∧ t.ctl = s.ctl)
  ∧ (∀ (s : State) (q : Req), s.accepts (.clearOutcomes q) = true →
      ∃ t, exec (.clearOutcomes q) s = .next t ∧ t.saves.restore = { s.saves.restore with outcomes := [] }
        ∧ t.tables = s.tables ∧ t.od = s.od)

/-- PERST_N_ASSERT in RESTORE, SERVICE, FREEZE and MAINTENANCE takes the link down, ends CXL.mem, resets decoders and
keys and counts; in BOOT after t1 it takes a link that is up down with event 0x1003; in SAVE it only counts and raises
event 0x8003; in OFF and VAULT only the pin changes. PERST_N_DEASSERT starts training when the port may train and else
only records the pin. LINK_UP with a trained width, rate and flit mode sets the port's objects, carries CXL.mem only
from 8 lanes on, with CXL.mem admitted and no fence. SURPRISE_LINK_DOWN takes the link down and counts. IDE_KM_MESSAGE
holds the key, IDE_MAC_FAILURE makes the port insecure and takes the link down. Nothing else changes but the objects
named, events and their counts, and, with a link down, held reads and tickets of the port. What the rules leave open
stands as the model's choice: log 9, log 110, log 111, log 112 and log 113. Answers a next state with its own effect,
under conditions on the state and the operands alone: perstNAssert, perstNDeassert, linkUp, surpriseLinkDown,
ideKmMessage, ideMacFailure. (02_operating_modes.md R65; 02_operating_modes.md R69; 03_host_ports.md R76;
03_host_ports.md R78; 03_host_ports.md R103; 03_host_ports.md R106; 03_host_ports.md R107) -/
def Obligations.PortEvents : Prop :=
  ∀ (s : State) (p : Port),
    ((s.ctl.mode = .restore ∨ s.ctl.mode = .service ∨ s.ctl.mode = .freeze ∨ s.ctl.mode = .maintenance) →
      ∃ t, exec (.perstNAssert p) s = .next t ∧ t.perstHigh p.val = false ∧ t.get (OD.hpLinkState p.val) = 0
        ∧ t.get (OD.hpRate p.val) = 0 ∧ t.get (OD.hpWidth p.val) = 0 ∧ t.get (OD.hpMemAdmitted p.val) = 0
        ∧ t.get (OD.hpIdeState p.val) = 0 ∧ t.get (OD.hpPerstCount p.val) = (s.get (OD.hpPerstCount p.val) + 1) % 2 ^ 32
        ∧ (t.hostPort p.val).keyMem = none ∧ (t.hostPort p.val).keyIo = none ∧ t.hostPort (1 - p.val) = s.hostPort (1 - p.val)
        ∧ t.host.decoders = s.host.decoders.filter (fun e => portOfLd (e.1 / 4) ≠ p.val)
        ∧ (∀ w ∈ s.work.waiters, w.ld / 16 ≠ p.val → w ∈ t.work.waiters)
        ∧ (∀ w ∈ s.work.waiters, w.ld / 16 = p.val → w.data.isSome → { w with quiet := true } ∈ t.work.waiters)
        ∧ (t.hostPort p.val).unverified = []
        ∧ t.objectsAs s [OD.hpLinkState p.val, OD.hpRate p.val, OD.hpWidth p.val, OD.hpMemAdmitted p.val, OD.hpIdeState p.val,
            OD.hpPerstCount p.val, OD.qosPanicCountHp0, OD.qosPanicCountHp1]
        ∧ t = { s with pins := t.pins, od := t.od, host := t.host, work := t.work, tickets := t.tickets, zop := t.zop,
                       log := t.log, perf := t.perf })
    ∧ (s.ctl.mode = .save → exec (.perstNAssert p) s
        = .next (((s.setPerst p.val false).bump (OD.hpPerstCount p.val) 1).raise 0x8003 0 [(.port, p.val)]))
    ∧ (s.ctl.mode = .boot → s.reachedStep 1 = true → ∃ t, exec (.perstNAssert p) s = .next t ∧ t.perstHigh p.val = false
        ∧ t.get (OD.hpLinkState p.val) = 0 ∧ t.get (OD.hpPerstCount p.val) = (s.get (OD.hpPerstCount p.val) + 1) % 2 ^ 32
        ∧ (2 ≤ s.get (OD.hpLinkState p.val) → ∃ u : State, t = u.raise 0x1003 0 [(.port, p)]))
    ∧ ((s.ctl.mode = .off ∨ s.ctl.mode = .vault) → exec (.perstNAssert p) s = .next (s.setPerst p.val false))
    ∧ (∃ t, exec (.perstNDeassert p) s = .next t ∧ t.perstHigh p.val = true
        ∧ ((s.setPerst p.val true).mayTrain p.val = true → t.get (OD.hpLinkState p.val) = 1 ∧ (t.hostPort p.val).training = true
            ∧ (t.hostPort p.val).maxWidth = s.get (OD.hpMaxWidth p.val))
        ∧ ((s.setPerst p.val true).mayTrain p.val = false → t = s.setPerst p.val true)
        ∧ t = { s with pins := t.pins, od := t.od, host := t.host })
    ∧ (∀ rate width (flit : Fin 3) (sw : Option (BitVec 16)), s.get (OD.hpLinkState p.val) = 1 → trainable (s.hostPort p.val).maxWidth rate width flit.val = true →
        ∃ t, exec (.linkUp p rate width flit sw) s = .next t ∧ t.get (OD.hpRate p.val) = rate ∧ t.get (OD.hpWidth p.val) = width
          ∧ t.get (OD.hpFlitMode p.val) = flit.val ∧ t.get (OD.hpTopology p.val) = (if sw.isSome then 1 else 0)
          ∧ (t.hostPort p.val).bound = sw.getD 0
          ∧ t.get (OD.hpLinkState p.val) = (if s.get (OD.hpFenceCause p.val) ≠ 0 then 4
              else if 8 ≤ width ∧ s.memAdmission = true then 3 else 2)
          ∧ (width < 8 → t.get (OD.hpMemAdmitted p.val) = 0)
          ∧ t.objectsAs s [OD.hpLinkState p.val, OD.hpRate p.val, OD.hpWidth p.val, OD.hpFlitMode p.val, OD.hpTopology p.val,
              OD.hpMemAdmitted p.val]
          ∧ t = { s with od := t.od, host := t.host, log := t.log, perf := t.perf })
    ∧ (s.portUp p.val = true → ∃ t, exec (.surpriseLinkDown p) s = .next t
        ∧ t.get (OD.hpSurpriseDowns p.val) = (s.get (OD.hpSurpriseDowns p.val) + 1) % 2 ^ 32 ∧ t.get (OD.hpMemAdmitted p.val) = 0
        ∧ (s.perstHigh p.val = false → t.get (OD.hpLinkState p.val) = 0)
        ∧ (s.perstHigh p.val = true → s.mainDieRuns = true → s.reachedStep 1 = true → s.ctl.mode ≠ .save →
            (s.get (OD.hpFenceCause p.val) = 0 ∨ s.get (OD.hpFenceCause p.val) = 2) → t.get (OD.hpLinkState p.val) = 1)
        ∧ (t.hostPort p.val).keyMem = none ∧ (t.hostPort p.val).keyIo = none
        ∧ t = { s with od := t.od, host := t.host, work := t.work, tickets := t.tickets, zop := t.zop, log := t.log, perf := t.perf })
    ∧ (∀ key, s.portUp p.val = true → s.reachedStep 2 = true →
        (∃ t, exec (.ideKmMessage p .mem key) s = .next t ∧ t.hostPort p.val = { s.hostPort p.val with keyMem := some key }
          ∧ t.get (OD.hpIdeState p.val) = (t.hostPort p.val).ideState ∧ t.hostPort (1 - p.val) = s.hostPort (1 - p.val)
          ∧ t.objectsAs s [OD.hpIdeState p.val] ∧ t = { s with od := t.od, host := t.host, log := t.log, perf := t.perf })
        ∧ ∃ t, exec (.ideKmMessage p .io key) s = .next t ∧ t.hostPort p.val = { s.hostPort p.val with keyIo := some key }
          ∧ t.get (OD.hpIdeState p.val) = (t.hostPort p.val).ideState ∧ t.hostPort (1 - p.val) = s.hostPort (1 - p.val)
          ∧ t.objectsAs s [OD.hpIdeState p.val] ∧ t = { s with od := t.od, host := t.host, log := t.log, perf := t.perf })
    ∧ (s.portUp p.val = true → (s.hostPort p.val).ideState ≠ 0 →
        ∃ t, exec (.ideMacFailure p) s = .next t ∧ t.get (OD.hpIdeState p.val) = 4 ∧ t.get (OD.hpMemAdmitted p.val) = 0
          ∧ (t.hostPort p.val).keyMem = none ∧ (t.hostPort p.val).keyIo = none ∧ t.get (OD.hpLinkState p.val) ≤ 1
          ∧ t = { s with od := t.od, host := t.host, work := t.work, tickets := t.tickets, zop := t.zop, log := t.log, perf := t.perf })

/-- GPF_PHASE2_REQUEST tries the held requests again and, on an unfenced port, signals completion once no accepted
write is held. RESIDUE_UPDATE carries residue, effective ceiling and flush rate to the Host region, and while CXL.mem
is admitted the throttle moves by the table of R100. EXPRESS_PANIC_CHANGE raises and clears the port's panic at its
thresholds, by the larger of its operand and the express requests known to wait; EXPRESS_PANIC_HELD reports it once,
PANIC_PACKET records the port's panic and, when none is left, issues the refreshes owed. CONFIGURATION_REQUEST is
answered Retry Status before BOOT step t2; after it an HDM decoder of a visible LD is programmed, the capabilities of
a visible LD are reported as R74, R75 and R89 fix them, and the IDE mode is set. What the rules leave open stands as
the model's choice: log 18, log 114, log 115, log 117, log 158 and log 159. Answers a next state with its own effect,
under conditions on the state and the operands alone: gpfPhase2Request, residueUpdate, expressPanicChange,
panicPacket, configurationRequest, expressPanicHeld. (02_operating_modes.md R65; 03_host_ports.md R89;
03_host_ports.md R96; 03_host_ports.md R97; 03_host_ports.md R100; 03_host_ports.md R101; 08_dram_controller.md R287)
-/
def Obligations.HostMessages : Prop :=
  (∀ (s : State) (p : Port), s.portUp p.val = true → s.get (OD.hpFenceCause p.val) = 0 →
      ∃ t, exec (.gpfPhase2Request p) s = .next t
        ∧ t = (s.freshAnswers.setHostPort p.val { s.hostPort p.val with gpf := true }).resume
        ∧ (s.work.waiters = [] → .gpfDone p.val ∈ t.out.host ∧ (t.hostPort p.val).gpf = false))
  ∧ (∀ (s : State) (below : Nat → Bool), s.mainDieRuns = true →
      (∀ n, below n = (s.get OD.plannerEffectiveCeiling ≠ 0 && s.residue * 100 < n * s.get OD.plannerEffectiveCeiling)) →
      ∃ t, exec .residueUpdate s = .next t ∧ t.host.residue = s.residue ∧ t.host.ceiling = s.get OD.plannerEffectiveCeiling
        ∧ t.host.flushRate = s.flushRate
        ∧ (s.memAdmission = false → t.get OD.qosThrottleState = s.get OD.qosThrottleState ∧ t.host.band = s.host.band)
        ∧ (s.memAdmission = true → s.get OD.qosThrottleState = 0 →
            t.get OD.qosThrottleState = (if below 90 then 0 else if below 100 then 1 else 2)
            ∧ t.host.band = (if below 75 then 0 else if below 90 then 2 else 3))
        ∧ (s.memAdmission = true → s.get OD.qosThrottleState = 1 →
            t.get OD.qosThrottleState = (if !below 100 then 2 else if below 88 then 0 else 1))
        ∧ (s.memAdmission = true → s.get OD.qosThrottleState = 2 →
            t.get OD.qosThrottleState = (if below 98 then 1 else 2))
        ∧ t.objectsAs s [OD.qosThrottleState]
        ∧ t = { s with host := t.host, od := t.od, log := t.log, perf := t.perf })
  ∧ (∀ (s : State) (p : Port) (n occupancy age : Nat), s.get (OD.hpFenceCause p.val) = 0 → occupancy = max n (s.expressHeld p.val) →
      ((s.hostPort p.val).panic = false → (s.get OD.qosPanicHigh ≤ occupancy ∨ s.get OD.qosPanicAgeHigh ≤ age) →
        ∃ t, exec (.expressPanicChange p n age) s = .next t ∧ (t.hostPort p.val).panic = true
          ∧ (t.hostPort p.val).panicSince = s.uptime ∧ t.objectsAs s [OD.qosPanicCountHp0, OD.qosPanicCountHp1]
          ∧ t = { s with host := t.host, od := t.od, log := t.log, perf := t.perf })
      ∧ ((s.hostPort p.val).panic = true → occupancy ≤ s.get OD.qosPanicLow → age ≤ s.get OD.qosPanicAgeLow →
        ∃ t, exec (.expressPanicChange p n age) s = .next t ∧ (t.hostPort p.val).panic = false
          ∧ t = { s with host := t.host, od := t.od })
      ∧ ((s.hostPort p.val).panic = false → occupancy < s.get OD.qosPanicHigh → age < s.get OD.qosPanicAgeHigh →
          exec (.expressPanicChange p n age) s = .next s)
      ∧ ((s.hostPort p.val).panic = true → (s.get OD.qosPanicLow < occupancy ∨ s.get OD.qosPanicAgeLow < age) →
          exec (.expressPanicChange p n age) s = .next s))
  ∧ (∀ (s : State) (p : Port), (s.hostPort p.val).panic = true → (s.hostPort p.val).heldReported = false →
      exec (.expressPanicHeld p) s = .next ((s.setHostPort p.val { s.hostPort p.val with heldReported := true }).raise 0x1021 0
        [(.port, p.val)]))
  ∧ (∀ (s : State) (p : Port) (raised : Bool), ∃ t, exec (.panicPacket p raised) s = .next t
      ∧ (∀ i : Nat, i < 2 → t.dram.panic.getLsbD i = if i = p.val then raised else s.dram.panic.getLsbD i)
      ∧ (t.dram.panic ≠ 0 → t.dram.chans = s.dram.chans)
      ∧ (t.dram.panic = 0 → ∀ e ∈ t.dram.chans, ∀ b ∈ e.2.banks, b.2.due = 0)
      ∧ (t.dram.panic ≠ 0 ∨ s.dram.panic = 0 → t = { s with dram := t.dram })
      ∧ t = { s with dram := t.dram, od := t.od, log := t.log, perf := t.perf } ∧ t.dram = { s.dram with panic := t.dram.panic, chans := t.dram.chans })
  ∧ (∀ (s : State) (p : Port) (r : ConfigRequest), s.portUp p.val = true → s.reachedStep 2 = false →
      exec (.configurationRequest p r) s = .next { s with out := { s.out with host := [.retryStatus p.val], ide := 0 } })
  ∧ (∀ (s : State) (p : Port) (ld : Ld) (d : Fin 4) (base size : BitVec 64) (ways gran : Nat), s.portUp p.val = true →
      s.reachedStep 2 = true → portOfLd ld.val = p.val → s.ldVisible ld.val = true → interleaves ways gran = true →
      ∃ t, exec (.configurationRequest p (.hdmDecoder ld d base size ways gran)) s = .next t
        ∧ mapGet (fun _ => HdmDecoder.initial) t.host.decoders (ld.val * 4 + d.val)
            = { base := base, size := size, ways := ways, granularity := gran }
        ∧ (∀ k, k ≠ ld.val * 4 + d.val → mapGet (fun _ => HdmDecoder.initial) t.host.decoders k
            = mapGet (fun _ => HdmDecoder.initial) s.host.decoders k)
        ∧ t.out.host = [.config p.val 0] ∧ t = { s with out := t.out, host := t.host })
  ∧ (∀ (s : State) (p : Port), s.portUp p.val = true → s.reachedStep 2 = true →
      ∃ t v, exec (.configurationRequest p (.readSpace 0)) s = .next t
        ∧ t.out.host = [.config p.val (v * 65536 + s.get OD.identityPciVendorId)] ∧ t = { s with out := t.out, free := t.free })
  ∧ (∀ (s : State) (p : Port) (ld : Ld) (f : CapField) (skid : Bool), s.portUp p.val = true → s.reachedStep 2 = true →
      (portOfLd ld.val = p.val → s.ldVisible ld.val = true →
        exec (.configurationRequest p (.readField ld f)) s
          = .next { s with out := { s.out with host := [.config p.val (s.capability ld.val f)], ide := 0 } })
      ∧ (portOfLd ld.val ≠ p.val → exec (.configurationRequest p (.readField ld f)) s
          = .next { s with out := { s.out with host := [.refusedConfig p.val], ide := 0 } })
      ∧ (∃ t, exec (.configurationRequest p (.ideMode skid)) s = .next t
          ∧ t.hostPort p.val = { s.hostPort p.val with skid := skid } ∧ t = { s with out := t.out, host := t.host }))
  ∧ (∀ (s : State) (ld : Nat), s.capability ld .deviceType = 3 ∧ s.capability ld .cxlMem = 1 ∧ s.capability ld .cxlCache = 0
      ∧ s.capability ld .backInvalidate = 0 ∧ s.capability ld .dynamicCapacity = 0 ∧ s.capability ld .gpfPhase2Duration = 10
      ∧ s.capability ld .gpfPhase2Power = 0 ∧ s.capability ld .memoryActiveTimeout = 64)

/-- CXL_MEM_READ that no fault meets, at the DPA that the HDM decoders give: a line of a Resident page on a channel
that serves returns the page's data, or poison where the line is marked; of a Depot page that passes its checks the
depot page's data; of an Unallocated page zeros; a page only in flash starts its fetch and the read waits. A read
waits for earlier writes to its line, a write for every earlier access to it, and both for the nodes of their walk.
Where no coupling covers the address, and in FREEZE, the read completes with poison, and a double-bit error in the
port's buffers poisons it. With an IDE key on the port the message waits for its MAC. No other leaf and no frame's
content changes. What the rules leave open stands as the model's choice: log 9, log 44, log 118, log 140, log 158 and
log 159. Answers a next state with its own effect, under conditions on the state and the operands alone: cxlMemRead.
(03_host_ports.md R82; 03_host_ports.md R86; 03_host_ports.md R98; 03_host_ports.md R104; 03_host_ports.md R105;
03_host_ports.md R107; 04_carriages_and_translation.md R143; 04_carriages_and_translation.md R144;
04_carriages_and_translation.md R145; 04_carriages_and_translation.md R150; 04_carriages_and_translation.md R154;
05_depot_sidings_terms.md R166) -/
def Obligations.ReadCompletes : Prop :=
  ∀ (s : State) (ld : Ld) (dpa : BitVec 64) (a : Nat), a = s.dpaOf ld.val dpa →
    (∀ c key line, s.reachesLeaf ld.val a false c key line → (s.leaf key).depot = false →
      ((s.leaf key).res = true → s.frameServes (s.leaf key).ptr = true →
        ∃ t, exec (.cxlMemRead ld dpa .none) s = .next t
          ∧ t.out.host = (if (s.residentImage key).bad.getLsbD line then [.poison ld.val a (s.readLoad ld.val)]
              else [.data ld.val a ((s.residentImage key).line line) (s.readLoad ld.val)])
          ∧ t.leaf key = { s.leaf key with acc := true } ∧ (∀ k, k ≠ key → t.leaf k = s.leaf k)
          ∧ t.objectsAs s [OD.ticketSkipped, OD.ticketNextTicket, OD.ticketGeneration]
          ∧ (s.ctl.mode ≠ .save → t.host = s.host)
          ∧ t = { s with od := t.od, log := t.log, perf := t.perf, tickets := t.tickets, free := t.free, tables := t.tables,
                         work := t.work, host := t.host, out := t.out })
      ∧ ((s.leaf key).res = false → (s.leaf key).flc = false →
        ∃ t, exec (.cxlMemRead ld dpa .none) s = .next t ∧ t.out.host = [.zeros ld.val a (s.readLoad ld.val)]
          ∧ (s.ctl.mode ≠ .save → t.host = s.host)
          ∧ t = { s with od := t.od, log := t.log, perf := t.perf, tickets := t.tickets, free := t.free, work := t.work, host := t.host,
                         out := t.out })
      ∧ ((s.leaf key).res = false → (s.leaf key).flc = true → s.framesFree ≠ 0 → s.fetchRoom = true →
        (s.flashCopy (s.pageName c.cid ((a - c.dpa) / 4096))).lost = false →
        ∃ t w, exec (.cxlMemRead ld dpa .none) s = .next t ∧ t.out.host = [] ∧ t.leaf key = { s.leaf key with busy := true }
          ∧ (∀ k, k ≠ key → t.leaf k = s.leaf k) ∧ t.work.waiters = s.work.waiters ++ [w] ∧ w.ld = c.ld ∧ w.dpa = a ∧ w.cid = c.cid
          ∧ w.page = (a - c.dpa) / 4096 ∧ w.data = none
          ∧ (s.ctl.mode ≠ .save → t.host = s.host)
          ∧ t = { s with od := t.od, log := t.log, perf := t.perf, tickets := t.tickets, free := t.free, tables := t.tables,
                         work := t.work, host := t.host, out := t.out }))
    ∧ (∀ c key line i, s.reachesLeaf ld.val a false c key line → (s.leaf key).depot = true → (s.leaf key).res = false →
        i = (s.leaf key).ptr → s.checkDepot c.cid i = .ok → (s.depotEntry i).pois = false → (s.depotEntry i).damaged = false →
        s.work.delayed.any (loadsSlot (s.depotEntry i).slot) = false → (s.depotEntry i).res = true → s.frameServes (s.depotEntry i).frame = true → (s.depotImage i).bad.getLsbD line = false →
        ∃ t, exec (.cxlMemRead ld dpa .none) s = .next t
          ∧ t.out.host = [.data ld.val a ((s.depotImage i).line line) (s.readLoad ld.val)] ∧ t.tables.leaves = s.tables.leaves
          ∧ t.dram = s.dram)
    ∧ (s.memReady ld.val false → s.ctl.mode ≠ .freeze → s.reaching ld.val a = none →
        ∃ t, exec (.cxlMemRead ld dpa .none) s = .next t ∧ t.out.host = [.poison ld.val a (s.readLoad ld.val)]
          ∧ t.get (OD.ldRefusedAccesses ld.val) = (s.get (OD.ldRefusedAccesses ld.val) + 1) % 2 ^ 32
          ∧ (s.ctl.mode ≠ .save → t.host = s.host)
          ∧ t = { s with od := t.od, log := t.log, perf := t.perf, tickets := t.tickets, free := t.free, host := t.host, out := t.out })
    ∧ (s.memReady ld.val false → s.ctl.mode = .freeze →
        ∃ t, exec (.cxlMemRead ld dpa .none) s = .next t ∧ t.out.host = [.poison ld.val a (s.readLoad ld.val)] ∧ t.tables = s.tables)
    ∧ (s.memReady ld.val false → (s.hostPort (ld.val / 16)).bufferError = 0 →
        ∃ t, exec (.cxlMemRead ld dpa .portBuffer) s = .next t ∧ t.out.host = [.poison ld.val a (s.readLoad ld.val)]
          ∧ t.tables = s.tables ∧ (t.hostPort (ld.val / 16)).bufferError = s.uptime + 1 ∧ t.iso = s.iso)
    ∧ (∀ f, s.memOpen ld.val = true → s.creditsFor ld.val false ≠ 0 → (s.hostPort (ld.val / 16)).keyMem ≠ none →
        ∃ t, exec (.cxlMemRead ld dpa f) s = .next t ∧ t.out.host = []
          ∧ (t.hostPort (ld.val / 16)).unverified
              = (s.hostPort (ld.val / 16)).unverified ++ [{ ld := ld.val, dpa := a, data := none, fault := f }]
          ∧ t = { s with host := t.host, out := t.out })

/-- CXL_MEM_WRITE that no fault meets, at the DPA that the HDM decoders give: a write to a Resident page that needs no
snapshot record writes its line into the page's frame under the carriage's key, sets DIRTY, ACC and TTAG and
completes; a line that met a transport error is written with the poison encoding. A write to an Unallocated page with
its nodes takes a frame filled with zeros, a write to a Depot leaf takes one with the depot page's content, and the
line is written there. A write without a coupling, through a read-only coupling, to a damaged carriage or to a
poisoned page completes and changes no page. A write to a carriage whose term is ending is held. With an IDE key on
the port the message waits for its MAC. What the rules leave open stands as the model's choice: log 9, log 72, log
118, log 142 and log 158. Answers a next state with its own effect, under conditions on the state and the operands
alone: cxlMemWrite. (03_host_ports.md R82; 03_host_ports.md R86; 03_host_ports.md R87; 03_host_ports.md R98;
03_host_ports.md R107; 04_carriages_and_translation.md R120; 04_carriages_and_translation.md R146;
04_carriages_and_translation.md R147; 05_depot_sidings_terms.md R167; 05_depot_sidings_terms.md R169;
05_depot_sidings_terms.md R177; 08_dram_controller.md R296) -/
def Obligations.WriteCompletes : Prop :=
  ∀ (s : State) (ld : Ld) (dpa : BitVec 64) (d : Line) (a : Nat), a = s.dpaOf ld.val dpa →
    (∀ c key line, s.reachesLeaf ld.val a true c key line → c.rdonly = false → s.termHolds c.cid = false → s.flush.metaHold = false →
      ((s.leaf key).res = true → s.frameServes (s.leaf key).ptr = true → s.recordFree key →
        ∃ t u, exec (.cxlMemWrite ld dpa d .none) s = .next t ∧ exec (.cxlMemWrite ld dpa d .transport) s = .next u
          ∧ t.out.host = [.written ld.val a (s.writeLoad ld.val)] ∧ u.out.host = [.written ld.val a (s.writeLoad ld.val)]
          ∧ t.frame (s.leaf key).ptr = s.pageCipher key ((s.residentImage key).write line d)
          ∧ u.frame (s.leaf key).ptr = s.pageCipher key ((s.residentImage key).poison line)
          ∧ t.leaf key = { s.leaf key with dirty := true, acc := true, ttag := (s.carriage (leafCid key)).term % 256 }
          ∧ (∀ k, k ≠ key → t.leaf k = s.leaf k) ∧ (∀ f, f ≠ (s.leaf key).ptr → t.frame f = s.frame f)
          ∧ ((s.leaf key).inResidue = true → t.flush.age = s.flush.age)
          ∧ ((s.leaf key).inResidue = false → t.flush.age = s.flush.age.filter (fun e => e.key ≠ key)
              ++ [{ key := key, time := (s.uptime + 9999999) / 10000000 * 10000000, retry := 0 }])
          ∧ t.objectsAs s [OD.ticketSkipped, OD.ticketNextTicket, OD.ticketGeneration]
          ∧ (s.get OD.qosThrottleState = 0 → s.ctl.mode ≠ .save → t.host = s.host)
          ∧ t = { s with od := t.od, log := t.log, perf := t.perf, tickets := t.tickets, free := t.free, tables := t.tables,
                         work := t.work, flush := t.flush, dram := t.dram, host := t.host, out := t.out })
      ∧ (∀ f s', (s.leaf key).res = false → (s.leaf key).flc = false → (s.leaf key).depot = false →
          s.backingUsed < s.get OD.spaceBackingPagesTotal → s.pathGrown c.cid ((a - c.dpa) / 4096) → s.takeFrame = some (f, s') →
          ∃ t, exec (.cxlMemWrite ld dpa d .none) s = .next t ∧ t.out.host = [.written ld.val a (s.writeLoad ld.val)]
            ∧ t.leaf key = { Leaf.empty with res := true, ptr := f, dirty := true, acc := true,
                                              ttag := (s.carriage (leafCid key)).term % 256 }
            ∧ t.frame f = s.pageCipher key (Image.zero.write line d) ∧ (∀ k, k ≠ key → t.leaf k = s.leaf k)
            ∧ (∀ g, g ≠ f → t.frame g = s.frame g))
      ∧ (∀ i f s', (s.leaf key).res = false → (s.leaf key).depot = true → i = (s.leaf key).ptr →
          s.checkDepot c.cid i = .ok → (s.depotEntry i).pois = false → (s.depotEntry i).damaged = false →
          s.work.delayed.any (loadsSlot (s.depotEntry i).slot) = false → (s.depotEntry i).res = true → s.frameServes (s.depotEntry i).frame = true →
          s.backingUsed < s.get OD.spaceBackingPagesTotal → s.pathGrown c.cid ((a - c.dpa) / 4096) → s.takeFrame = some (f, s') →
          ∃ t, exec (.cxlMemWrite ld dpa d .none) s = .next t ∧ t.out.host = [.written ld.val a (s.writeLoad ld.val)]
            ∧ t.leaf key = { Leaf.empty with res := true, ptr := f, dirty := true, acc := true,
                                              ttag := (s.carriage (leafCid key)).term % 256 }
            ∧ t.frame f = s.pageCipher key ((s.depotImage i).write line d) ∧ (∀ k, k ≠ key → t.leaf k = s.leaf k)
            ∧ (∀ g, g ≠ f → t.frame g = s.frame g)))
    ∧ (∀ c, s.memReady ld.val true → s.ctl.mode ≠ .freeze → s.reaching ld.val a = some c →
        (c.rdonly = true → ∃ t, exec (.cxlMemWrite ld dpa d .none) s = .next t
          ∧ t.out.host = [.written ld.val a (s.writeLoad ld.val)]
          ∧ t.get (OD.ldRefusedAccesses ld.val) = (s.get (OD.ldRefusedAccesses ld.val) + 1) % 2 ^ 32
          ∧ t = { s with od := t.od, log := t.log, perf := t.perf, tickets := t.tickets, free := t.free, host := t.host, out := t.out })
        ∧ (c.rdonly = false → s.termHolds c.cid = false → (s.carriage c.cid).damaged = true → ∃ t, exec (.cxlMemWrite ld dpa d .none) s = .next t
          ∧ t.out.host = [.written ld.val a (s.writeLoad ld.val)] ∧ t.work.discarded = s.work.discarded + 1
          ∧ t = { s with od := t.od, log := t.log, perf := t.perf, tickets := t.tickets, free := t.free, work := t.work, host := t.host,
                         out := t.out })
        ∧ (c.rdonly = false → (s.termHolds c.cid = true → ∃ t w, exec (.cxlMemWrite ld dpa d .none) s = .next t
              ∧ t.out.host = [] ∧ t.tables = s.tables ∧ t.dram = s.dram ∧ t.work.waiters = s.work.waiters ++ [w]
              ∧ w.ld = c.ld ∧ w.dpa = a ∧ w.cid = c.cid ∧ w.page = (a - c.dpa) / 4096 ∧ w.data = some (d, .plain) ∧ w.held = true)
            ∧ (s.termHolds c.cid = false → (s.carriage c.cid).damaged = false → s.lineFree ld.val a true →
                s.walkServes c.cid ((a - c.dpa) / 4096) →
                (s.leaf (leafKey c.cid ((a - c.dpa) / 4096))).pois = true → (s.leaf (leafKey c.cid ((a - c.dpa) / 4096))).res = false →
                ∃ t, exec (.cxlMemWrite ld dpa d .none) s = .next t ∧ t.out.host = [.written ld.val a (s.writeLoad ld.val)]
                  ∧ t.work.discarded = s.work.discarded + 1 ∧ t.tables = s.tables ∧ t.dram = s.dram)))
    ∧ (s.memReady ld.val true → s.ctl.mode ≠ .freeze → s.reaching ld.val a = none →
        ∃ t, exec (.cxlMemWrite ld dpa d .none) s = .next t ∧ t.out.host = [.written ld.val a (s.writeLoad ld.val)]
          ∧ t.get (OD.ldRefusedAccesses ld.val) = (s.get (OD.ldRefusedAccesses ld.val) + 1) % 2 ^ 32
          ∧ t = { s with od := t.od, log := t.log, perf := t.perf, tickets := t.tickets, free := t.free, host := t.host, out := t.out })
    ∧ (∀ f, s.memOpen ld.val = true → s.ctl.mode ≠ .freeze → s.creditsFor ld.val true ≠ 0 →
        (s.hostPort (ld.val / 16)).keyMem ≠ none →
        ∃ t, exec (.cxlMemWrite ld dpa d f) s = .next t ∧ t.out.host = []
          ∧ (t.hostPort (ld.val / 16)).unverified
              = (s.hostPort (ld.val / 16)).unverified ++ [{ ld := ld.val, dpa := a, data := some d, fault := f }]
          ∧ t = { s with host := t.host, out := t.out })

/-- For every state in which a CXL.mem write reaches a Resident page that needs no snapshot record: the write
completes, a read of the same address in the state after it returns exactly the line written, every other line of the
page decrypts as before, and so does every other page whose frame is another one. Answers a next state with its own
effect, under conditions on the state and the operands alone: cxlMemRead, cxlMemWrite.
(04_carriages_and_translation.md R143; 04_carriages_and_translation.md R144; 04_carriages_and_translation.md R146;
10_cipher_and_keys.md R357) -/
def Obligations.ReadAfterWrite : Prop :=
  ∀ (s : State) (ld : Ld) (dpa : BitVec 64) (d : Line) (a : Nat) (c : Coupling) (key line : Nat), a = s.dpaOf ld.val dpa →
    s.reachesLeaf ld.val a true c key line → s.creditsFor ld.val false ≠ 0 → c.rdonly = false → s.termHolds c.cid = false →
    s.flush.metaHold = false →
    (s.leaf key).depot = false → (s.leaf key).res = true → s.frameServes (s.leaf key).ptr = true → s.recordFree key →
    ∃ t u load, exec (.cxlMemWrite ld dpa d .none) s = .next t ∧ exec (.cxlMemRead ld dpa .none) t = .next u
      ∧ u.out.host = [.data ld.val a d load]
      ∧ (∀ n, n ≠ line → (t.residentImage key).line n = (s.residentImage key).line n)
      ∧ (∀ k, k ≠ key → (s.leaf k).ptr ≠ (s.leaf key).ptr → t.residentImage k = s.residentImage k)

/-- NONRESIDENT_FETCH_COMPLETE of a page that is fetched, with a frame to take, makes it Resident with the flash
copy's plaintext before held requests are tried again; a copy that is unreadable, or that mismatches its page seal
twice, poisons it; a depot page likewise; a double-bit error in staging leaves the page to be fetched again.
FRAME_WAIT_TIMEOUT completes the request that has waited: a read with poison, a write after poisoning its page.
EVICTION_SWEEP does nothing while no sweep is under way and FreeLow frames are free; else it clears ACC or takes the
frame of clean pages with a flash copy, changes no other entry and no frame's content, before held requests are tried
again. What the rules leave open stands as the model's choice: log 9, log 90 and log 140. Answers a next state with
its own effect, under conditions on the state and the operands alone: nonresidentFetchComplete, frameWaitTimeout,
evictionSweep. (01_regions_and_islands.md R37; 04_carriages_and_translation.md R141; 04_carriages_and_translation.md
R142; 04_carriages_and_translation.md R145; 04_carriages_and_translation.md R153; 05_depot_sidings_terms.md R168) -/
def Obligations.FetchesAndEviction : Prop :=
  (∀ (s : State) (cid : BitVec 16) (page : BitVec 28) (slow : Bool) (key name : Nat), key = leafKey cid.toNat page.toNat →
      name = s.pageName (leafCid key) (leafPage key) → (s.leaf key).busy = true → (s.leaf key).flashOnly = true →
      s.flush.metaHold = false → (s.carriage cid.toNat).state ≠ .deleting →
      (∀ f s', (s.setLeaf key { s.leaf key with busy := false }).takeFrame = some (f, s') → ∃ u : State,
          exec (.nonresidentFetchComplete (.page cid page) .ok slow) s = .next u.resume ∧ (u.leaf key).res = true
          ∧ (u.leaf key).busy = false ∧ (u.leaf key).acc = true ∧ (u.leaf key).ptr = f
          ∧ u.residentImage key = s.flashImage name name ∧ (∀ k, k ≠ key → u.leaf k = s.leaf k)
          ∧ (∀ g, g ≠ f → u.frame g = s.frame g) ∧ u.ctl = s.ctl)
      ∧ (s.saves.restore.locations.find? (fun e => e.1 = key) = none → ∃ v : State,
          exec (.nonresidentFetchComplete (.page cid page) .unreadable slow) s = .next (State.resume
            (v.raise 0x2020 0 [(.carriage, leafCid key), (.u32, leafPage key)]))
          ∧ v.leaf key = { s.leaf key with busy := false, pois := true } ∧ (∀ k, k ≠ key → v.leaf k = s.leaf k)
          ∧ v.dram = s.dram ∧ v.ctl = s.ctl)
      ∧ ((s.leaf key).sealed = true → (s.carriage (leafCid key)).sealOn = true →
          exec (.nonresidentFetchComplete (.page cid page) .mismatchTwice slow) s = .next (State.resume
            ((s.setLeaf key { s.leaf key with busy := false, pois := true }).raise 0x8141 0
              [(.carriage, leafCid key), (.u32, leafPage key)])))
      ∧ exec (.nonresidentFetchComplete (.page cid page) .staging slow) s = .next s.resume)
  ∧ (∀ (s : State) (i : BitVec 32) (slow : Bool), (s.depotEntry i.toNat).valid = true → (s.depotEntry i.toNat).busy = true →
      (s.depotEntry i.toNat).res = false → s.flush.metaHold = false →
      (∀ f s', (s.setDepot i.toNat { s.depotEntry i.toNat with busy := false }).takeFrame = some (f, s') → ∃ u : State,
          exec (.nonresidentFetchComplete (.depot i) .ok slow) s = .next u.resume
          ∧ u.depotEntry i.toNat = { s.depotEntry i.toNat with busy := false, res := true, acc := true, frame := f }
          ∧ u.depotImage i.toNat = s.flashImage (flashName 1 i.toNat) (flashName 1 i.toNat)
          ∧ u.tables.leaves = s.tables.leaves ∧ (∀ g, g ≠ f → u.frame g = s.frame g))
      ∧ exec (.nonresidentFetchComplete (.depot i) .mismatchTwice slow) s = .next (State.resume
          ((s.setDepot i.toNat { s.depotEntry i.toNat with busy := false, pois := true }).raise 0x2104 0 [(.u32, i.toNat)])))
  ∧ (∀ (s : State) (ld : Ld) (dpa : BitVec 64) (w : Waiter) (ws : List Waiter) (key : Nat),
      key = leafKey w.cid w.page → s.flush.metaHold = false →
      (takeWaiter ld.val dpa.toNat false s.work.waiters = some (w, ws) → w.quiet = false →
        exec (.frameWaitTimeout ld dpa false) s = .next ((({ s with work := { s.work with waiters := ws } }.raise 0x2053 0
          [(.carriage, w.cid)])).completePoison w.ld w.dpa))
      ∧ (takeWaiter ld.val dpa.toNat true s.work.waiters = some (w, ws) →
        ∃ t, exec (.frameWaitTimeout ld dpa true) s = .next t ∧ t.work.waiters = ws ∧ t.work.discarded = s.work.discarded + 1
          ∧ t.leaf key = { s.leaf key with pois := true } ∧ (∀ k, k ≠ key → t.leaf k = s.leaf k) ∧ t.dram = s.dram ∧ t.ctl = s.ctl))
  ∧ (∀ s : State, s.flush.metaHold = false →
      (s.work.sweeping = false → s.get OD.spaceFreeLow ≤ s.framesFree → exec .evictionSweep s = .next s)
      ∧ ((s.work.sweeping = true ∨ s.framesFree < s.get OD.spaceFreeLow) → ∃ u : State, exec .evictionSweep s = .next u.resume
          ∧ (∀ k, u.leaf k = s.leaf k ∨ u.leaf k = { s.leaf k with acc := false }
              ∨ ((s.leaf k).dirty = false ∧ (s.leaf k).fq = false ∧ (s.leaf k).busy = false ∧ (s.leaf k).pois = false
                  ∧ (s.leaf k).flc = true ∧ u.leaf k = { s.leaf k with acc := false, res := false, ptr := 0 }))
          ∧ u.dram = s.dram ∧ u = { s with tables := u.tables, work := u.work, flush := u.flush, od := u.od, log := u.log,
                                            perf := u.perf }))

/-- FLUSH_CLAIM leaves a young page at the head of the age list alone while F is below FlushPressure; else, in a mode
that flushes and with fewer than 4,096 claims, a dirty page that can be read becomes claimed, its copy taken, and a
busy one is set aside for 10 microseconds; FLUSH_SET_ASIDE_RETRY tries it then. FLUSH_CONFIRM makes the claimed copy
the page's flash copy and ends the claim; at MetaCeiling it is held. METADATA_CHECKPOINT_START fixes the tables of the
checkpoint, METADATA_CHECKPOINT_COMPLETE makes them the tier's image, and the first one in SERVICE after a restore
releases the vault chain. What the rules leave open stands as the model's choice: log 41 and log 83. Answers a next
state with its own effect, under conditions on the state and the operands alone: flushClaim, flushSetAsideRetry,
flushConfirm, metadataCheckpointStart, metadataCheckpointComplete. (04_carriages_and_translation.md R149;
06_residue_and_flush.md R206; 06_residue_and_flush.md R207; 06_residue_and_flush.md R208; 06_residue_and_flush.md
R210; 06_residue_and_flush.md R211; 06_residue_and_flush.md R212; 06_residue_and_flush.md R213; 07_save_and_restore.md
R274) -/
def Obligations.FlushSteps : Prop :=
  (∀ (s : State) (e : AgeEntry) (rest : List AgeEntry), s.flush.age = e :: rest → e.retry ≤ s.uptime →
      s.flush.metaHold = false → s.claimRoom = true → (s.carriage (leafCid e.key)).state ≠ .deleting →
      (s.chan (s.channelOf (s.leaf e.key).ptr)).state ≠ .thawing →
      (s.flushPressed = false → s.ageOf e < s.horizon → ∀ ps, exec (.flushClaim ps) s = .next s)
      ∧ ((s.flushPressed = true ∨ s.horizon ≤ s.ageOf e) →
        ((s.leaf e.key).busy = false → (s.leaf e.key).dirty = true → (s.leaf e.key).fq = false → s.claimable e.key = true →
          ∃ t x, exec (.flushClaim []) s = .next t ∧ t.flush.age = rest ∧ t.flush.claims = s.flush.claims ++ [x] ∧ x.key = e.key
            ∧ x.content = flashCipher (s.pageName (leafCid e.key) (leafPage e.key)) (s.residentImage e.key)
            ∧ (t.leaf e.key).fq = true ∧ (t.leaf e.key).dirty = false ∧ (t.leaf e.key).ptr = (s.leaf e.key).ptr
            ∧ (∀ k, k ≠ e.key → t.leaf k = s.leaf k) ∧ t.objectsAs s []
            ∧ t = { s with flush := t.flush, tables := t.tables, work := t.work, od := t.od, log := t.log, perf := t.perf })
        ∧ ((s.leaf e.key).busy = true → ∃ t, exec (.flushClaim []) s = .next t
            ∧ t.flush.age = s.flush.age.map (fun x => if x = e then { x with retry := s.uptime + 10000 } else x)
            ∧ t = { s with flush := t.flush, od := t.od, log := t.log, perf := t.perf })))
  ∧ (∀ (s : State) (e : AgeEntry), s.flush.metaHold = false →
      ((∀ x ∈ s.flush.age, x.retry = 0 ∨ s.uptime < x.retry) → exec .flushSetAsideRetry s = .next s)
      ∧ (s.flush.age.find? (fun x => x.retry ≠ 0 && x.retry ≤ s.uptime) = some e → s.claimRoom = true →
          (s.flushPressed = true ∨ s.horizon ≤ s.ageOf e) → (s.carriage (leafCid e.key)).state ≠ .deleting →
          (s.leaf e.key).busy = false → (s.leaf e.key).dirty = true → (s.leaf e.key).fq = false → s.claimable e.key = true →
          ∃ t x, exec .flushSetAsideRetry s = .next t ∧ t.flush.age = s.flush.age.erase e
            ∧ t.flush.claims = s.flush.claims ++ [x] ∧ x.key = e.key ∧ (t.leaf e.key).fq = true ∧ (t.leaf e.key).dirty = false
            ∧ (∀ k, k ≠ e.key → t.leaf k = s.leaf k)))
  ∧ (∀ (s : State) (id : BitVec 16) (page : BitVec 28) (c : Claim) (key : Nat), key = leafKey id.toNat page.toNat →
      s.flushMode = true → s.flush.claims.find? (fun c => c.key = key) = some c →
      (s.flush.metaHold = true → (s.leaf key).fq = true → (s.leaf key).flc = false →
          exec (.flushConfirm id page) s = .next (s.delay (.flushConfirm id page)))
      ∧ (s.flush.metaHold = false → (s.leaf key).fq = true → ∃ t, exec (.flushConfirm id page) s = .next t
          ∧ t.leaf key = { s.leaf key with flc := true, sided := false, fq := false, sealed := c.sealed && (s.carriage (leafCid key)).sealOn,
                                            pageSeal := if c.sealed && (s.carriage (leafCid key)).sealOn then c.pageSeal else 0 }
          ∧ (t.flashCopy (s.pageName (leafCid key) (leafPage key))).content = c.content
          ∧ (t.flashCopy (s.pageName (leafCid key) (leafPage key))).present = true
          ∧ t.flush.claims = s.flush.claims.filter (fun x => x.key ≠ key)
          ∧ ((s.leaf key).dirty = false → t.flush.age = s.flush.age)
          ∧ (∀ k, k ≠ key → t.leaf k = s.leaf k) ∧ t.dram = s.dram ∧ t.ctl = s.ctl))
  ∧ (∀ s : State, s.flushMode = true → s.prompt = true →
      (s.flush.checkpoint = none → exec .metadataCheckpointStart s = .next { s with
        flush := { s.flush with checkpoint := some (s.work.changed, s.uptime), nextImage := s.tables, lastCheckpoint := s.uptime }
        work := { s.work with changed := [], unwritten := [] } })
      ∧ (∀ c, s.flush.checkpoint = some c →
          (s.saves.restore.awaiting = false ∨ s.ctl.mode ≠ .service →
            ∃ t, exec .metadataCheckpointComplete s = .next t ∧ t.flush.image = { s.flush.nextImage with lsa := s.tables.lsa }
              ∧ t.flush.checkpoint = none ∧ t.tables = { s.tables with interval := s.tables.interval + 64 * c.1.length }
              ∧ t = { s with flush := t.flush, tables := t.tables, flash := t.flash })
          ∧ (s.saves.restore.awaiting = true → s.ctl.mode = .service →
            ∃ t, exec .metadataCheckpointComplete s = .next t ∧ t.flush.image = { s.flush.nextImage with lsa := s.tables.lsa }
              ∧ t.saves.restore.awaiting = false ∧ t.saves.vaults = [] ∧ t.get OD.vaultVaultPending = 0
              ∧ t.get OD.restoreRestoreState = 5 ∧ t.ctl = s.ctl
              ∧ t.tables = { s.tables with interval := s.tables.interval + 64 * c.1.length })))

/-- PLANNER_COMPUTE, once the planner runs, reports the four bounds, and takes their least, in whole MiB, as the
planned ceiling: at once when it falls, and when it rises only by 1 % or more; before that it does nothing.
WEAR_INTERVAL_BOUNDARY closes the interval of 15 min, sums the last 96 into V24, and moves the wear step by one up
above FlushBudget (to 4 at most) and by one down below 80 % of it. What the rules leave open stands as the model's
choice: log 39, log 66, log 143 and log 155. Answers a next state with its own effect, under conditions on the state
and the operands alone: plannerCompute, wearIntervalBoundary. (06_residue_and_flush.md R215; 06_residue_and_flush.md
R218; 06_residue_and_flush.md R226; 06_residue_and_flush.md R227; 06_residue_and_flush.md R228) -/
def Obligations.PlannerAndWear : Prop :=
  (∀ (s : State) (least : Nat), s.prompt = true → (s.plannerRuns = false → exec .plannerCompute s = .next s)
    ∧ (s.plannerRuns = true → least = min (min s.targetCeiling s.energyBound) (min s.slcBound s.poolBound) / 2 ^ 20 * 2 ^ 20 →
      ∃ t, exec .plannerCompute s = .next t ∧ t.get OD.plannerTargetCeiling = s.targetCeiling
        ∧ t.get OD.plannerEnergyBound = s.energyBound ∧ t.get OD.plannerSlcBound = s.slcBound
        ∧ t.get OD.plannerPoolBound = s.poolBound
        ∧ t.get OD.plannerPlannedCeiling = (if s.flush.planned = false ∨ least < s.get OD.plannerPlannedCeiling
            ∨ s.get OD.plannerPlannedCeiling ≤ (least - s.get OD.plannerPlannedCeiling) * 100
            then least else s.get OD.plannerPlannedCeiling)
        ∧ t.get OD.plannerEffectiveCeiling ≤ t.get OD.plannerPlannedCeiling + t.get OD.plannerPlannedCeiling * t.get OD.ceilingArmedShare / 100
        ∧ t.host.ceiling = t.get OD.plannerEffectiveCeiling ∧ t.host.residue = s.residue
        ∧ t = { s with od := t.od, flush := t.flush, host := t.host, log := t.log, perf := t.perf }))
  ∧ (∀ (s : State) (v24 k : Nat), s.prompt = true →
      v24 = ((s.tables.interval :: s.tables.volumes).take 96).sum → k = s.flush.wearStep → k ≤ 4 →
      ∃ t, exec .wearIntervalBoundary s = .next t ∧ t.volume24 = v24
        ∧ t.flush.wearStep = (if s.get OD.ceilingFlushBudget * 2 ^ 30 < v24 ∧ k < 4 then k + 1
            else if 5 * v24 < 4 * (s.get OD.ceilingFlushBudget * 2 ^ 30) ∧ 0 < k then k - 1 else k)
        ∧ t.objectsAs s [OD.wearGcAmplification]
        ∧ t = { s with od := t.od, tables := t.tables, flush := t.flush, log := t.log, perf := t.perf }
        ∧ t.tables = { s.tables with volumes := (s.tables.interval :: s.tables.volumes).take 96, interval := 0, payload := 0
                                     payloads := (s.tables.payload :: s.tables.payloads).take 96 })

/-- DRILL_START and DRILL_DUE in SERVICE without a drill start one at t0 when nothing defers it, with BATSEL driven
for a drill on battery, and else note the deferral and its reason. DRILL_STREAM_COMPLETE records the rate.
DRILL_SEAL_COMPLETE of an unspoiled drill ends it with its figures accepted; a spoiled one and DRILL_BOUND_TIMEOUT end
it with result 3. DRILL_OVERDUE raises event 0x2703. What the rules leave open stands as the model's choice: log 9 and
log 85. Answers a next state with its own effect, under conditions on the state and the operands alone: drillStart,
drillDue, drillStreamComplete, drillSealComplete, drillBoundTimeout, drillOverdue. (06_residue_and_flush.md R220;
06_residue_and_flush.md R221; 06_residue_and_flush.md R222; 06_residue_and_flush.md R223; 06_residue_and_flush.md
R224; 10_cipher_and_keys.md R375) -/
def Obligations.Drills : Prop :=
  (∀ (s : State) (i : Instr) (q : Req), (i = .drillDue ∧ s.prompt = true ∧ (s.get OD.drillDrillPeriod ≠ 0 ∨ s.get OD.drillDrillState = 2) ∨ i = .drillStart q ∧ s.accepts i = true) →
      s.ctl.mode = .service → s.flush.drill = none →
      (s.drillDeferral = 0 → ∃ t d, exec i s = .next t ∧ t.flush.drill = some d ∧ d.step = 1 ∧ d.start = s.uptime ∧ d.spoiled = false
          ∧ t.ctl = s.ctl ∧ t.get OD.drillDrillState = 1
          ∧ (s.flag OD.drillDrillOnBattery = true → t.power.batsel = 2) ∧ (s.flag OD.drillDrillOnBattery = false → t.power = s.power)
          ∧ t.objectsAs s [OD.drillDrillState]
          ∧ t = { s with zop := t.zop, out := t.out, bus := t.bus, od := t.od, flush := t.flush, flash := t.flash, ctl := t.ctl,
                         power := t.power })
      ∧ (s.drillDeferral ≠ 0 → ∃ t, exec i s = .next t ∧ t.flush.drill = none ∧ t.get OD.drillDrillState = 2
          ∧ t.get OD.drillLastResult = s.drillDeferral ∧ t.flush.drillRetry = s.uptime + 600000000000
          ∧ t = { s with zop := t.zop, out := t.out, bus := t.bus, od := t.od, flush := t.flush, unrecorded := t.unrecorded }))
  ∧ (∀ (s : State) (d : DrillRun) (rate sealTime power dieRate : Nat), s.flush.drill = some d → s.prompt = true →
      (d.step = 1 → exec (.drillStreamComplete rate) s = .next { s with flush := { s.flush with
          drill := some { d with step := 2, streamRate := rate, streamEnd := s.uptime } } })
      ∧ (d.step = 2 → d.spoiled = false → ∃ t, exec (.drillSealComplete sealTime power dieRate) s = .next t
          ∧ t.flush.drill = none ∧ t.ctl = s.ctl ∧ t.get OD.drillDrillState = 0
          ∧ t.get OD.drillLastResult = 0 ∧ t.get OD.drillLastDieRate = dieRate ∧ t.get OD.drillLastStreamRate = d.streamRate
          ∧ t.get OD.drillLastFixedTime = max (sealTime + 20000) 40000
          ∧ t.get OD.drillDrillsAccepted = (s.get OD.drillDrillsAccepted + 1) % 2 ^ 32
          ∧ t.flush.drillPopulation = some s.diesPopulated ∧ (s.power.batsel = 2 → t.power.batsel = 0)
          ∧ t.crypt.vaultCounter = s.crypt.vaultCounter + 1 ∧ t.tables = s.tables)
      ∧ (∃ t, exec .drillBoundTimeout s = .next t ∧ t.flush.drill = none ∧ t.ctl = s.ctl
          ∧ t.get OD.drillLastResult = 3 ∧ t.get OD.drillDrillState = 0 ∧ t.tables = s.tables)
      ∧ (d.step = 2 → d.spoiled = true → ∃ t, exec (.drillSealComplete sealTime power dieRate) s = .next t ∧ t.flush.drill = none
          ∧ t.get OD.drillLastResult = 3 ∧ t.get OD.drillDrillsAccepted = s.get OD.drillDrillsAccepted))
  ∧ (∀ s : State, s.prompt = true → exec .drillOverdue s = .next (s.raise 0x2703 0 [(.u8, s.get OD.drillLastResult)]))

/-- Each command of an operating mailbox that only reports completes with its output, changes nothing else, and takes
at most free values: the identity and partition of the LD's window, the command effects log and its list, the two
banks with their versions, the interrupt policy, the clock, the dirty shutdown count, the shutdown state, the scan
time, and the label storage area byte by byte. An opcode outside the set completes as unsupported. GET_ZOP_LIMITS,
GET_PERSISTENCE_SNAPSHOT and GET_COUPLING_MAP of an LD of level 1 or more complete with the limits, the residue with
its ceiling, throttle, band and armed state, and up to 64 couplings from the one named on: all at level 3, the LD's
own below it. GET_VENDOR_IDENTITY completes at every level. Below its level an opcode is answered with ACCESS and
event 0x7011. What the rules leave open stands as the model's choice: log 14, log 123 and log 128. Answers a next
state with its own effect, under conditions on the state and the operands alone: mbxIdentifyMemoryDevice,
mbxGetPartitionInfo, mbxGetSupportedLogs, mbxGetLog, mbxGetEventInterruptPolicy, mbxGetTimestamp, mbxGetFwInfo,
mbxGetHealthInfo, mbxGetShutdownState, mbxGetScanMediaCapabilities, mbxGetLsa, mbxUnsupportedOpcode, getZopLimits,
getPersistenceSnapshot, getCouplingMap, getVendorIdentity. (03_host_ports.md R74; 03_host_ports.md R81;
03_host_ports.md R88; 03_host_ports.md R90; 03_host_ports.md R91; 03_host_ports.md R108; 15_firmware_update.md R544;
16_logbook_and_counters.md R571; 03_host_ports.md R109; 03_host_ports.md R110; 12_object_dictionary.md R454) -/
def Obligations.MailboxReports : Prop :=
  (∀ (s : State) (ld : Ld), s.mailboxUp ld.val = true →
      (∃ tail, exec (.mbxIdentifyMemoryDevice ld) s = .next ({ s with free := s.free + 1 }.mailed ld 0
        (padTo 16 (versionText (s.bank s.activeBank).record.smVer) ++ toBytes 8 (s.get (OD.ldWindowSize ld.val) / 2 ^ 28) ++ toBytes 8 0
          ++ toBytes 8 (s.get (OD.ldWindowSize ld.val) / 2 ^ 28) ++ toBytes 8 0 ++ toBytes 2 128 ++ toBytes 2 128 ++ toBytes 2 128
          ++ toBytes 2 128 ++ toBytes 4 131072 ++ tail)) ∧ tail.length = 7)
      ∧ exec (.mbxGetPartitionInfo ld) s = .next (s.mailed ld 0 (toBytes 8 0 ++ toBytes 8 (s.get (OD.ldWindowSize ld.val) / 2 ^ 28)
          ++ toBytes 8 0 ++ toBytes 8 (s.get (OD.ldWindowSize ld.val) / 2 ^ 28)))
      ∧ exec (.mbxGetSupportedLogs ld) s = .next (s.mailed ld 0 (toBytes 2 1 ++ toBytes 6 0 ++ effectsUuid ++ toBytes 4 120))
      ∧ (∃ t p, exec (.mbxGetLog ld) s = .next t ∧ t = { s with free := t.free }.mailed ld 0 p ∧ p.length = 120
          ∧ ∀ i, i < 30 → field p (4 * i) 2 = mailboxOpcodes.getD i 0)
      ∧ exec (.mbxGetFwInfo ld) s = .next (s.mailed ld 0 (toBytes 1 2
          ++ toBytes 1 (s.activeBank + 1 + 8 * (if s.update.state = .scheduled then s.inactiveBank + 1 else 0)) ++ toBytes 14 0
          ++ padTo 16 (versionText s.update.bankA.record.smVer) ++ padTo 16 (versionText s.update.bankB.record.smVer)
          ++ List.replicate 32 0#8))
      ∧ exec (.mbxGetEventInterruptPolicy ld) s = .next (s.mailed ld 0 (toBytes 4 (s.mail ld.val).policy.toNat))
      ∧ exec (.mbxGetTimestamp ld) s = .next (s.mailed ld 0 (toBytes 8 s.clock))
      ∧ (∃ t p, exec (.mbxGetHealthInfo ld) s = .next t ∧ t = { s with free := t.free }.mailed ld 0 p
          ∧ p.length = 18 ∧ (p.drop 6).take 4 = toBytes 4 (s.get OD.vaultDirtyShutdowns))
      ∧ exec (.mbxGetShutdownState ld) s = .next (s.mailed ld 0 (toBytes 1 (s.get (OD.ldShutdownState ld.val))))
      ∧ (∃ p, exec (.mbxGetScanMediaCapabilities ld) s = .next ({ s with free := s.free + 1 }.mailed ld 0 p) ∧ p.length = 4)
      ∧ (∀ off len, off + len ≤ 131072 → len ≤ 2048 →
          (∀ a ∈ s.flash.lsaLost, a < ld.val * 131072 + off ∨ ld.val * 131072 + off + len ≤ a) → ∃ p, exec (.mbxGetLsa ld off len) s = .next (s.mailed ld 0 p)
          ∧ p.length = len ∧ ∀ i, i < len → p.getD i 0 = mapGet (fun _ => 0) (s.lsa ld.val) (off + i))
      ∧ (∀ off len, (131072 < off + len ∨ 2048 < len) → exec (.mbxGetLsa ld off len) s = .next (s.mailed ld 2 [])))
  ∧ (∀ (s : State) (ld : Ld), s.mailboxUp ld.val = true →
      (∀ o : BitVec 16, mailboxOpcodes.contains o.toNat = false → exec (.mbxUnsupportedOpcode ld o) s = .next (s.mailed ld 3 []))
      ∧ (∃ p, exec (.getVendorIdentity ld) s = .next (s.mailed ld 0 p)
          ∧ p.take (1 + (s.blob OD.identityVendor).length) = toBytes 1 (s.blob OD.identityVendor).length ++ s.blob OD.identityVendor)
      ∧ (1 ≤ s.get (OD.ldMgmtAccess ld.val) →
          exec (.getZopLimits ld) s = .next (s.mailed ld 0 (toBytes 2 1024 ++ toBytes 2 2048 ++ toBytes 1 (s.get (OD.ldMgmtAccess ld.val))))
          ∧ exec (.getPersistenceSnapshot ld) s = .next (s.mailed ld 0 (toBytes 8 s.residue ++ toBytes 8 (s.get OD.plannerEffectiveCeiling)
              ++ toBytes 1 (s.get OD.qosThrottleState) ++ toBytes 1 s.host.band ++ [if s.armedPower then 1#8 else 0#8]))
          ∧ (∀ first : BitVec 16, ∃ p cs, exec (.getCouplingMap ld first) s = .next (s.mailed ld 0 p)
              ∧ cs = ((s.tables.couplings.filter (fun c => s.get (OD.ldMgmtAccess ld.val) = 3 || c.ld = ld.val)).drop first.toNat).take 64
              ∧ p.length = 2 + 17 * cs.length ∧ field p 0 2 = cs.length
              ∧ ∀ c rest, cs = c :: rest → (p.drop 3).take 16 = toBytes 16 c.entry.toNat))
      ∧ (∀ i first, s.get (OD.ldMgmtAccess ld.val) = 0 → (i = .getZopLimits ld ∨ i = .getPersistenceSnapshot ld ∨ i = .getCouplingMap ld first) →
          exec i s = .next ((s.raise 0x7011 0 [(.u16, ld.val), (.u24, 0)]).mailed ld 0 (frameBytes 128 0 0 0 4 []))))

/-- Set Event Interrupt Policy and Set Alert Configuration are returned by their Get commands; Set Timestamp sets the
clock; Set Shutdown State writes the LD's object; Set LSA stores its bytes, in the flash tier's image too, which Get
LSA returns, and leaves every other byte. Get Event Records reports up to 15 of a log's records, the oldest first, and
leaves them; Clear Event Records removes the oldest from that log only, and with a count beyond the log is refused.
What the rules leave open stands as the model's choice: log 14, log 18, log 126 and log 168. Answers a next state with
its own effect, under conditions on the state and the operands alone: mbxGetEventRecords, mbxClearEventRecords,
mbxSetEventInterruptPolicy, mbxGetAlertConfiguration, mbxSetAlertConfiguration, mbxSetTimestamp, mbxSetShutdownState,
mbxSetLsa. (03_host_ports.md R88; 03_host_ports.md R91; 03_host_ports.md R108; 12_object_dictionary.md R456;
16_logbook_and_counters.md R571) -/
def Obligations.MailboxSettings : Prop :=
  ∀ (s : State) (ld : Ld), s.mailboxUp ld.val = true →
    (∀ policy, exec (.mbxSetEventInterruptPolicy ld policy) s
      = .next ((s.setMail ld.val { s.mail ld.val with policy := policy }).mailed ld 0 []))
    ∧ (∀ config, config.length = 12 → ∃ t, exec (.mbxSetAlertConfiguration ld config) s = .next t
        ∧ t = (s.setMail ld.val { s.mail ld.val with alerts := config }).mailed ld 0 []
        ∧ exec (.mbxGetAlertConfiguration ld) t = .next (t.mailed ld 0 config))
    ∧ ((s.mail ld.val).alerts = [] → ∃ p, exec (.mbxGetAlertConfiguration ld) s = .next ({ s with free := s.free + 1 }.mailed ld 0 p)
        ∧ p.length = 12)
    ∧ (∀ config, config.length ≠ 12 → exec (.mbxSetAlertConfiguration ld config) s = .next (s.mailed ld 2 []))
    ∧ (∀ time : BitVec 64, ∃ t, exec (.mbxSetTimestamp ld time) s = .next t ∧ t.clock = time.toNat ∧ t.get OD.clockTimeValid = 1
        ∧ t.get OD.clockLastSet = time.toNat ∧ t.objectsAs s [OD.clockTimeValid, OD.clockLastSet]
        ∧ t = { s with clock := t.clock, od := t.od, log := t.log, perf := t.perf, out := t.out })
    ∧ (∀ dirty, ∃ t, exec (.mbxSetShutdownState ld dirty) s = .next t
        ∧ t.get (OD.ldShutdownState ld.val) = (if dirty then 1 else 0) ∧ (∀ k, k ≠ OD.ldShutdownState ld.val → t.get k = s.get k)
        ∧ t = { s with od := t.od, unrecorded := t.unrecorded, out := t.out } ∧ t.out.mailbox = some { ld := ld.val, code := 0, payload := [] })
    ∧ (∀ off data, off + data.length ≤ 131072 → data.length + 8 ≤ 2048 → ∃ t, exec (.mbxSetLsa ld off data) s = .next t
        ∧ (∀ i, i < data.length → mapGet (fun _ => 0) (t.lsa ld.val) (off + i) = data.getD i 0)
        ∧ (∀ a, a < off ∨ off + data.length ≤ a → mapGet (fun _ => 0) (t.lsa ld.val) a = mapGet (fun _ => 0) (s.lsa ld.val) a)
        ∧ (∀ n, n ≠ ld.val → t.lsa n = s.lsa n) ∧ mapGet (fun _ => []) t.flush.image.lsa ld.val = t.lsa ld.val
        ∧ t = { s with tables := t.tables, flush := t.flush, flash := t.flash, out := t.out }
        ∧ t.tables = { s.tables with lsa := t.tables.lsa }
        ∧ t.flush = { s.flush with image := { s.flush.image with lsa := t.flush.image.lsa } }
        ∧ t.flash = { s.flash with lsaLost := t.flash.lsaLost } ∧ t.out.mailbox = some { ld := ld.val, code := 0, payload := [] })
    ∧ (∀ log : Fin 4, ∃ t p, exec (.mbxGetEventRecords ld log) s = .next t ∧ t = { s with free := s.free + 16 }.mailed ld 0 p
        ∧ field p 20 2 = min 15 ((s.cxlLogs ld.val).nth log.val).length
        ∧ ∀ r rest, (s.cxlLogs ld.val).nth log.val = r :: rest → (p.drop 80).take 64 = padTo 64 r.bytes)
    ∧ (∀ (log : Fin 4) count, count ≤ ((s.cxlLogs ld.val).nth log.val).length → ∃ t, exec (.mbxClearEventRecords ld log count) s = .next t
        ∧ (t.cxlLogs ld.val).nth log.val = ((s.cxlLogs ld.val).nth log.val).drop count
        ∧ (∀ m : Fin 4, m ≠ log → (t.cxlLogs ld.val).nth m.val = (s.cxlLogs ld.val).nth m.val)
        ∧ (∀ n, n ≠ ld.val → t.cxlLogs n = s.cxlLogs n) ∧ t = { s with log := { s.log with cxl := t.log.cxl }, out := t.out }
        ∧ t.out.mailbox = some { ld := ld.val, code := 0, payload := [] })
    ∧ (∀ (log : Fin 4) count, ((s.cxlLogs ld.val).nth log.val).length < count →
        exec (.mbxClearEventRecords ld log count) s = .next (s.mailed ld 14 []))

/-- Get Poison List reports the LD's poisoned pages and ranges, 126 at a time. Clear Poison of a poisoned page makes
it Resident and dirty, with the given line and zeros elsewhere; of a page that is not poisoned it changes nothing, and
in a carriage with a damaged descriptor it ends with an internal error (log 148). Inject Poison in MAINTENANCE writes
the line of a resident page with the poison encoding and poisons the page, and elsewhere it is unsupported. Scan Media
notes the range's pages with poison, which Get Scan Media Results returns once. What the rules leave open stands as
the model's choice: log 14, log 15, log 124, log 125 and log 173. Answers a next state with its own effect, under
conditions on the state and the operands alone: mbxGetPoisonList, mbxClearPoison, mbxInjectPoison, mbxScanMedia,
mbxGetScanMediaResults. (03_host_ports.md R74; 03_host_ports.md R108; 04_carriages_and_translation.md R153;
04_carriages_and_translation.md R155; 08_dram_controller.md R298) -/
def Obligations.MailboxPoison : Prop :=
  ∀ (s : State) (ld : Ld), s.mailboxUp ld.val = true →
    (∃ t p, exec (.mbxGetPoisonList ld) s = .next t ∧ t.out.mailbox = some { ld := ld.val, code := 0, payload := p }
        ∧ p.length = 32 + 16 * min 126 ((s.poisonList ld.val).length - (s.mail ld.val).poisonNext)
        ∧ ((s.mail ld.val).poisonNext = 0 → ∀ e es, s.poisonList ld.val = e :: es → field p 32 8 = e.1 % 2 ^ 64)
        ∧ t = { s with host := t.host, out := t.out })
    ∧ (∀ (dpa : BitVec 64) (d : Line) c key line, s.pageAt ld.val dpa.toNat = some (c, key, line) →
        s.poisonAbove (leafCid key) (leafPage key) = none →
        ((s.leaf key).pois = true → (s.carriage (leafCid key)).damaged = false → s.pathGrown (leafCid key) (leafPage key) → s.backingUsed < s.get OD.spaceBackingPagesTotal →
          ∀ f s', s.takeFrame = some (f, s') → ∃ u : State,
            exec (.mbxClearPoison ld dpa d) s = .next (u.resume.mailed ld 0 [])
            ∧ u.leaf key = { Leaf.empty with res := true, ptr := f, dirty := true, acc := true,
                                              ttag := (s.carriage (leafCid key)).term % 256 }
            ∧ u.residentImage key = Image.zero.write line d ∧ (∀ k, k ≠ key → u.leaf k = s.leaf k)
            ∧ (∀ g, g ≠ f → u.frame g = s.frame g) ∧ u.ctl = s.ctl)
        ∧ ((s.leaf key).pois = false → (s.carriage (leafCid key)).damaged = false → exec (.mbxClearPoison ld dpa d) s
            = .next (s.freshAnswers.resume.mailed ld 0 [])))
    ∧ (∀ (dpa : BitVec 64) (d : Line) c key line, s.pageAt ld.val dpa.toNat = some (c, key, line) →
        (s.carriage (leafCid key)).damaged = true → exec (.mbxClearPoison ld dpa d) s = .next (s.freshAnswers.mailed ld 4 []))
    ∧ (∀ (dpa : BitVec 64) (d : Line), s.pageAt ld.val dpa.toNat = none →
        exec (.mbxClearPoison ld dpa d) s = .next (s.freshAnswers.mailed ld 15 []))
    ∧ (∀ dpa : BitVec 64, s.ctl.mode ≠ .maintenance →
        exec (.mbxInjectPoison ld dpa) s = .next (s.freshAnswers.mailed ld 3 []))
    ∧ (∀ (dpa : BitVec 64) c key line, s.ctl.mode = .maintenance → s.leafAt ld.val dpa.toNat true c key line →
        s.termHolds c.cid = false → s.flush.metaHold = false → (s.leaf key).res = true → s.frameServes (s.leaf key).ptr = true →
        s.recordFree key → ∃ t, exec (.mbxInjectPoison ld dpa) s = .next t
          ∧ t.frame (s.leaf key).ptr = s.pageCipher key ((s.residentImage key).poison line) ∧ t.out.host = []
          ∧ (t.leaf key).pois = true
          ∧ (∀ k, k ≠ key → t.leaf k = s.leaf k) ∧ (∀ f, f ≠ (s.leaf key).ptr → t.frame f = s.frame f))
    ∧ (∀ dpa length : BitVec 64, (s.mail ld.val).background.1 ≠ 0xC001 → dpa.toNat + 64 * length.toNat ≤ s.get (OD.ldWindowSize ld.val) →
        ∃ t, exec (.mbxScanMedia ld dpa length) s = .next t ∧ (t.mail ld.val).scan = s.scanRange ld.val dpa.toNat length.toNat
          ∧ (t.mail ld.val).background = (0x4304, 100, 0) ∧ t.out.mailbox = some { ld := ld.val, code := 1, payload := [] }
          ∧ (∀ n, n ≠ ld.val → t.mail n = s.mail n) ∧ t = { s with host := t.host, out := t.out })
    ∧ (∃ t p, exec (.mbxGetScanMediaResults ld) s = .next t ∧ t.out.mailbox = some { ld := ld.val, code := 0, payload := p }
        ∧ p.length = 32 + 16 * min 126 (s.mail ld.val).scan.length ∧ (t.mail ld.val).scan = (s.mail ld.val).scan.drop 126
        ∧ t = { s with host := t.host, out := t.out })

/-- On a port with an FM-owned LD, Get LD Allocations and Get QoS Allocated BW report OD 0x2400+n.05 of the port's
LDs, Get QoS BW Limit reports .06; the Set commands write them from the first LD named on, ignore bytes beyond the
sixteenth LD, and leave every other object, but in FREEZE. Set QoS Control is returned by Get QoS Control; Get QoS
Status answers one byte, a free value. What the rules leave open stands as the model's choice: log 14 and log 127.
Answers a next state with its own effect, under conditions on the state and the operands alone: fmGetLdAllocations,
fmSetLdAllocations, fmGetQosControl, fmSetQosControl, fmGetQosStatus, fmGetQosAllocatedBw, fmSetQosAllocatedBw,
fmGetQosBwLimit, fmSetQosBwLimit. (03_host_ports.md R74; 03_host_ports.md R79; 03_host_ports.md R93) -/
def Obligations.FabricCommands : Prop :=
  ∀ (s : State) (p : Port), s.fabricUp p.val = true →
    exec (.fmGetLdAllocations p) s = .next (s.fmAnswered (toBytes 1 16 ++ toBytes 1 0
      ++ (List.range 16).map (fun i => BitVec.ofNat 8 (s.get (OD.ldAllocatedBw (16 * p.val + i))))))
    ∧ (∀ (first : Fin 16) (count : Nat), first.val + count ≤ 16 →
        exec (.fmGetQosAllocatedBw p first count) s = .next (s.fmAnswered (toBytes 1 count ++ toBytes 1 first.val
          ++ (List.range count).map (fun i => BitVec.ofNat 8 (s.get (OD.ldAllocatedBw (16 * p.val + first.val + i))))))
        ∧ exec (.fmGetQosBwLimit p first count) s = .next (s.fmAnswered (toBytes 1 count ++ toBytes 1 first.val
          ++ (List.range count).map (fun i => BitVec.ofNat 8 (s.get (OD.ldBwLimit (16 * p.val + first.val + i)))))))
    ∧ (∀ (first : Fin 16) (vs : List Byte), first.val + vs.length ≤ 16 → s.ctl.mode ≠ .freeze →
        (∀ i, (i = .fmSetLdAllocations p first vs ∨ i = .fmSetQosAllocatedBw p first vs) → ∃ t, exec i s = .next t
          ∧ (∀ n, n < vs.length → t.get (OD.ldAllocatedBw (16 * p.val + first.val + n)) = (vs.getD n 0).toNat)
          ∧ (∀ k, (∀ n, n < vs.length → k ≠ OD.ldAllocatedBw (16 * p.val + first.val + n)) → t.get k = s.get k)
          ∧ t.out.fm = toBytes 1 vs.length ++ toBytes 1 first.val ++ vs
          ∧ t = { s with od := t.od, unrecorded := t.unrecorded, out := t.out })
        ∧ ∃ t, exec (.fmSetQosBwLimit p first vs) s = .next t
          ∧ (∀ n, n < vs.length → t.get (OD.ldBwLimit (16 * p.val + first.val + n)) = (vs.getD n 0).toNat)
          ∧ (∀ k, (∀ n, n < vs.length → k ≠ OD.ldBwLimit (16 * p.val + first.val + n)) → t.get k = s.get k)
          ∧ t.out.fm = toBytes 1 vs.length ++ toBytes 1 first.val ++ vs
          ∧ t = { s with od := t.od, unrecorded := t.unrecorded, out := t.out })
    ∧ (∀ control : List Byte, control ≠ [] → ∃ t, exec (.fmSetQosControl p control) s = .next t
        ∧ t = { s with host := t.host, out := t.out } ∧ t.out.fm = control
        ∧ exec (.fmGetQosControl p) t = .next (t.fmAnswered control))
    ∧ (mapGet (fun _ => []) s.host.qos p.val = [] → ∃ b, exec (.fmGetQosControl p) s = .next ({ s with free := s.free + 1 }.fmAnswered b)
        ∧ b.length = 7)
    ∧ ∃ b, exec (.fmGetQosStatus p) s = .next ({ s with free := s.free + 1 }.fmAnswered b) ∧ b.length = 1

/-- For every row that is a ZOP request: while the porter of its session is being reloaded it waits; otherwise on a
transport that is not up nothing happens; where the session would be the 65th it is answered BUSY; after the session's
unanswered command has been answered PENDING, a wrong CRC is answered FRAME with event 0x7010, a TAG that names a
pending result TAG_IN_USE, a failed object check with the first failing status, and an EXECUTE beyond 16 pending
results BUSY; none of them has any effect of its own. What the rules leave open stands as the model's choice: log 129.
(02_operating_modes.md R70; 12_object_dictionary.md R439; 12_object_dictionary.md R440; 12_object_dictionary.md R443;
12_object_dictionary.md R444; 12_object_dictionary.md R447; 12_object_dictionary.md R448; 12_object_dictionary.md
R450) -/
def Obligations.RequestOrder : Prop :=
  ∀ (i : Instr) (q : Req) (f : ReqFrame) (s : State), requestOf i = some (q, f) →
    (byPorters q.src = true → s.reloads 0 = true → exec i s = .next (s.delay i))
    ∧ (s.served i = true → (s.transportUp q.src = false → exec i s = .next s)
    ∧ (s.transportUp q.src = true → findSession q.src s.zop.sessions = none → 64 ≤ s.zop.sessions.length →
        exec i s = .next (s.transmit q.src f.opcode q.tag.toNat f.index f.sub { status := 0x0C, payload := [] }))
    ∧ (s.transportUp q.src = true → (findSession q.src s.zop.sessions ≠ none ∨ s.zop.sessions.length < 64) →
        (q.crc ≠ frameCrc f.opcode q.tag.toNat f.index f.sub 0 f.payload →
          exec i s = .next (((s.arrived q.src).raise 0x7010 1 [(.u16, sessionNumber q.src)]).transmit q.src f.opcode q.tag.toNat
            f.index f.sub { status := 0x0A, payload := [] }))
        ∧ (q.crc = frameCrc f.opcode q.tag.toNat f.index f.sub 0 f.payload → (s.arrived q.src).repeats q = false → f.opcode ≠ opFetch →
          ((findResult q.tag.toNat ((s.arrived q.src).session q.src).results).isSome = true →
            exec i s = .next ((s.arrived q.src).answered i { status := 0x11, payload := [] }))
          ∧ (findResult q.tag.toNat ((s.arrived q.src).session q.src).results = none →
            (∀ st, (s.arrived q.src).checkObject q.src f = some st →
              exec i s = .next (((s.arrived q.src).reportStatus q.src f st).answered i { status := st, payload := [] }))
            ∧ ((s.arrived q.src).checkObject q.src f = none → f.opcode = opExecute →
                16 ≤ ((s.arrived q.src).session q.src).results.length →
                exec i s = .next ((s.arrived q.src).answered i { status := 0x0C, payload := [] }))))))

/-- For every row that is a ZOP request, with a good CRC, on a transport that is up: where the last response of its
session was to the same TAG and the same CRC at most 1 s ago, the stored response leaves again and nothing is
executed; every response of a request is stored with its TAG, CRC and time, over the one before it; a request with
another TAG or another CRC, or later than 1 s, is no repeat. (12_object_dictionary.md R445) -/
def Obligations.RepeatReturnsStored : Prop :=
  (∀ (i : Instr) (q : Req) (f : ReqFrame) (s : State) (l : LastExchange), requestOf i = some (q, f) → s.served i = true →
    s.transportUp q.src = true → (findSession q.src s.zop.sessions ≠ none ∨ s.zop.sessions.length < 64) →
    q.crc = frameCrc f.opcode q.tag.toNat f.index f.sub 0 f.payload →
    ((s.arrived q.src).session q.src).last = some l → l.tag = q.tag.toNat → l.crc = q.crc.toNat →
    s.uptime ≤ l.time + 1000000000 →
    exec i s = .next ((s.arrived q.src).transmit q.src l.opcode q.tag.toNat f.index f.sub l.reply))
  ∧ (∀ (i : Instr) (q : Req) (f : ReqFrame) (t : State) (r : Reply), requestOf i = some (q, f) →
      ((t.answered i r).session q.src).last
        = some { tag := q.tag.toNat, crc := q.crc.toNat, opcode := f.opcode, reply := r, time := t.uptime })
  ∧ (∀ (q : Req) (s : State) (l : LastExchange), (s.session q.src).last = some l →
      (l.tag ≠ q.tag.toNat ∨ l.crc ≠ q.crc.toNat ∨ l.time + 1000000000 < s.uptime) → s.repeats q = false)

/-- An accepted READ is answered with the object's bytes, DESCRIBE with its 64-byte descriptor, READ_STAGED with the
staged value or NO_DATA; none of them changes any object. FETCH of a completed result returns it and releases it, of
one still executing PENDING, and without a result UNKNOWN_TAG. EXECUTE_PENDING_TIMEOUT of the session's unanswered
command answers it PENDING and holds its result under its TAG. PENDING_RESULT_EXPIRY drops a completed result with
event 0x7012. SESSION_IDLE_TIMEOUT closes the session and no other. PERSISTENT_WRITE_RECORD records the oldest value
owed in both settings regions, when the embedded flash is ready, and compacts a region that has run short of free
sectors. What the rules leave open stands as the model's choice: log 62, log 63 and log 109. Answers a next state with
its own effect, under conditions on the state and the operands alone: zopRead, fetch, describe, readStaged,
executePendingTimeout, pendingResultExpiry, sessionIdleTimeout, persistentWriteRecord. (12_object_dictionary.md R441;
12_object_dictionary.md R442; 12_object_dictionary.md R444; 12_object_dictionary.md R435; 12_object_dictionary.md
R432; 12_object_dictionary.md R448) -/
def Obligations.ReportsAndTimers : Prop :=
  ((∀ (s : State) (q : Req) (index : BitVec 16) (sub : BitVec 8) (o : ObjRow), findObj index.toNat sub.toNat = some o →
        (s.accepts (.zopRead q index sub) = true → keyOf index.toNat sub.toNat ≠ OD.logbookWindow →
          exec (.zopRead q index sub) s = .next ((s.arrived q.src).answered (.zopRead q index sub)
            (okPayload ((s.arrived q.src).readBytes q.src o (keyOf index.toNat sub.toNat)))))
        ∧ (s.accepts (.describe q index sub) = true → exec (.describe q index sub) s
            = .next ((s.arrived q.src).answered (.describe q index sub) (okPayload (describeBytes index.toNat o))))
        ∧ (describeBytes index.toNat o).length = 64
        ∧ (s.accepts (.readStaged q index sub) = true →
            (∀ v, s.stagedValue (keyOf index.toNat sub.toNat) = some v → exec (.readStaged q index sub) s
              = .next ((s.arrived q.src).answered (.readStaged q index sub) (okPayload v)))
            ∧ (s.stagedValue (keyOf index.toNat sub.toNat) = none → exec (.readStaged q index sub) s
              = .next ((s.arrived q.src).answered (.readStaged q index sub) { status := 0x10, payload := [] }))))
    ∧ (∀ (s : State) (q : Req) (f : ReqFrame), requestOf (.fetch q) = some (q, f) → s.prompt = true → s.reaches q f = true →
        (∀ p r, findResult q.tag.toNat ((s.arrived q.src).session q.src).results = some p → p.reply = some r →
          exec (.fetch q) s = .next (((s.arrived q.src).setSession { (s.arrived q.src).session q.src with
            results := dropResult q.tag.toNat ((s.arrived q.src).session q.src).results }).answered (.fetch q) r))
        ∧ (∀ p, findResult q.tag.toNat ((s.arrived q.src).session q.src).results = some p → p.reply = none →
            exec (.fetch q) s = .next ((s.arrived q.src).answered (.fetch q) { status := 0x01, payload := [] }))
        ∧ (findResult q.tag.toNat ((s.arrived q.src).session q.src).results = none →
            exec (.fetch q) s = .next ((s.arrived q.src).answered (.fetch q) { status := 0x0D, payload := [] })))
    ∧ (∀ (s : State) (i : Instr) (r : Reply), ∃ z o b, s.answered i r = { s with zop := z, out := o, bus := b }))
  ∧ (∀ (s : State) (src : Transport) (tag : BitVec 8),
      (∀ x a, findSession src s.zop.sessions = some x → x.active = some a → a.tag = tag.toNat →
        ∃ t, exec (.executePendingTimeout src tag) s = .next t ∧ (t.session src).active = none
          ∧ (t.session src).results = x.results ++ [{ tag := a.tag, key := a.key, reply := none, time := s.uptime }]
          ∧ (∀ y, y ≠ src → findSession y t.zop.sessions = findSession y s.zop.sessions)
          ∧ t = { s with zop := t.zop, out := t.out, bus := t.bus })
      ∧ (∀ x p r, findSession src s.zop.sessions = some x → findResult tag.toNat x.results = some p → p.reply = some r →
          ∃ t, exec (.pendingResultExpiry src tag) s = .next t ∧ (t.session src).results = dropResult tag.toNat x.results
            ∧ (∀ y, y ≠ src → findSession y t.zop.sessions = findSession y s.zop.sessions)
            ∧ t.objectsAs s [] ∧ t = { s with zop := t.zop, od := t.od, log := t.log, perf := t.perf })
      ∧ (∃ t, exec (.sessionIdleTimeout src) s = .next t ∧ findSession src t.zop.sessions = none
          ∧ (∀ y, y ≠ src → findSession y t.zop.sessions = findSession y s.zop.sessions) ∧ t = { s with zop := t.zop })
      ∧ (∀ k ks, s.unrecorded = k :: ks → s.eflashReady = true → ∃ t u : State, exec .persistentWriteRecord s = .next t
          ∧ t = u.compactSettings ∧ u = { s with unrecorded := ks, eflash := u.eflash }
          ∧ u.eflash = { s.eflash with settings0 := s.eflash.settings0.recordValue k (s.valueBytes k),
                                        settings1 := s.eflash.settings1.recordValue k (s.valueBytes k) }
          ∧ (8 ≤ u.eflash.settings0.freeSectors → 8 ≤ u.eflash.settings1.freeSectors → t = u))
      ∧ (s.unrecorded = [] → exec .persistentWriteRecord s = .next s))

/-- An accepted WRITE of a scalar RW or RWI object that no rule of its chapter singles out stores the value and leaves
every other object, owes its record when it is persistent, and is answered OK; a broken constraint is answered RANGE
with nothing stored. A WRITE of an RWS object joins the uncommitted set, and no object's live value changes.
COMPARE_WRITE of another value is answered MISMATCH with the value it found; of the same value it writes. What the
rules leave open stands as the model's choice: log 29. Answers a next state with its own effect, under conditions on
the state and the operands alone: objectWrite, stagedObjectWrite, compareWrite. (12_object_dictionary.md R427;
12_object_dictionary.md R428; 12_object_dictionary.md R429; 12_object_dictionary.md R430; 12_object_dictionary.md
R432; 12_object_dictionary.md R435; 12_object_dictionary.md R441; 12_object_dictionary.md R443) -/
def Obligations.Writes : Prop :=
  ∀ (s : State) (q : Req) (index : BitVec 16) (sub : BitVec 8) (v : List Byte) (o : ObjRow) (k : Nat), k = keyOf index.toNat sub.toNat →
    findObj index.toNat sub.toNat = some o →
    (s.accepts (.objectWrite q index sub v) = true → (o.access = .rw ∨ o.access = .rwi) → o.selector = false → o.type.size ≠ 0 →
      k / 256 ≠ 0x5000 → k ∉ [OD.clockNow, OD.counterSource, OD.counterQualifier, OD.counterValue, OD.counterPreset,
        OD.counterSampleEnable, OD.restorePlanEntry, OD.restorePlanLength, OD.ticketSeed, OD.ticketBufferMode, OD.flashSaveCeilingMax,
        OD.railDividerRatio, OD.gaugeDesignCapacity, OD.gaugeDesignR25, OD.marginReserveMin] →
      (s.constraintOk k v = true → ∃ u : State, exec (.objectWrite q index sub v) s = .next (u.answered (.objectWrite q index sub v) okReply)
        ∧ u.get k = ofBytes v ∧ (∀ j, j ≠ k → u.get j = s.get j) ∧ (o.persistent = true → k ∈ u.unrecorded)
        ∧ u = { s.arrived q.src with od := u.od, zop := u.zop, unrecorded := u.unrecorded })
      ∧ (s.constraintOk k v = false → exec (.objectWrite q index sub v) s
          = .next ((s.arrived q.src).answered (.objectWrite q index sub v) { status := 0x06, payload := [] })))
    ∧ (s.accepts (.objectWrite q index sub v) = true → o.selector = true → o.access ≠ .rws → exec (.objectWrite q index sub v) s
        = .next (((s.arrived q.src).setSel q.src k (ofBytes v)).answered (.objectWrite q index sub v) okReply))
    ∧ (s.accepts (.stagedObjectWrite q index sub v) = true → o.access = .rws →
        ((s.withStaged s.zop.committed).withStaged s.zop.uncommitted).constraintOk k v = true →
        stagingFits (stageIn k v s.zop.uncommitted) s.zop.committed = true →
        ∃ u : State, exec (.stagedObjectWrite q index sub v) s = .next (u.answered (.stagedObjectWrite q index sub v) okReply)
          ∧ u.zop.uncommitted = stageIn k v s.zop.uncommitted ∧ u.zop.committed = s.zop.committed
          ∧ u = { s.arrived q.src with zop := u.zop })
    ∧ (s.accepts (.compareWrite q index sub v) = true →
        ((s.arrived q.src).comparedValue q.src o k ≠ v.take o.maxLen → exec (.compareWrite q index sub v) s
          = .next ((s.arrived q.src).answered (.compareWrite q index sub v)
            { status := 0x0F, payload := (s.arrived q.src).comparedValue q.src o k }))
        ∧ ((s.arrived q.src).comparedValue q.src o k = v.take o.maxLen → exec (.compareWrite q index sub v) s
          = .next (match writeAct q.src k (v.drop o.maxLen) (s.arrived q.src) with
            | (t, .reply r) => t.answered (.compareWrite q index sub v) r
            | (t, .later n) => t.goesOnFor (.compareWrite q index sub v) n)))

/-- TIME_SET sets the clock. THRESHOLD_WRITE and DIVIDER_RATIO_WRITE store their value when the distances of R233 and
R389 hold, and are answered RANGE with nothing stored otherwise; with the ratio the rail reading is rescaled.
SAVE_CEILING_MAX_WRITE stores the size with result 0, or notes result 5 and is answered RANGE. COUNTER_SOURCE_WRITE
gives a programmable counter its source or qualifier and clears it, and refuses the fixed counters. TICKET_SEED_WRITE
loads the seed and its complement. What the rules leave open stands as the model's choice: log 27, log 30, log 37, log
51 and log 144. Answers a next state with its own effect, under conditions on the state and the operands alone:
timeSet, thresholdWrite, dividerRatioWrite, saveCeilingMaxWrite, counterSourceWrite, ticketSeedWrite.
(06_residue_and_flush.md R233; 09_flash_tier.md R334; 11_power_battery_ageing.md R389; 12_object_dictionary.md R456;
16_logbook_and_counters.md R573; 16_logbook_and_counters.md R576; 16_logbook_and_counters.md R581) -/
def Obligations.WritesWithRules : Prop :=
  ∀ (s : State) (q : Req),
    (∀ time, s.accepts (.timeSet q time) = true → ∃ u : State, exec (.timeSet q time) s = .next (u.answered (.timeSet q time) okReply)
      ∧ u = (s.arrived q.src).setClock time.toNat ∧ u.clock = time.toNat ∧ u.get OD.clockTimeValid = 1)
    ∧ (∀ sub level k, s.accepts (.thresholdWrite q sub level) = true → 1 ≤ sub.toNat → sub.toNat ≤ 3 → k = 0x5100 * 256 + sub.toNat →
        ((s.thresholdOk k level.toNat = true ∧ s.railOk k level.toNat = true) → ∃ u : State,
          exec (.thresholdWrite q sub level) s = .next (u.answered (.thresholdWrite q sub level) okReply)
          ∧ u.get k = level.toNat ∧ (∀ j, j ≠ k → u.get j = s.get j) ∧ k ∈ u.unrecorded)
        ∧ ((s.thresholdOk k level.toNat = false ∨ s.railOk k level.toNat = false) → exec (.thresholdWrite q sub level) s
            = .next ((s.arrived q.src).answered (.thresholdWrite q sub level) { status := 0x06, payload := [] })))
    ∧ (∀ ratio, s.accepts (.dividerRatioWrite q ratio) = true →
        ((s.pinsOk ratio.toNat = true ∧ s.railOk OD.railDividerRatio ratio.toNat = true) → ∃ u : State,
          exec (.dividerRatioWrite q ratio) s = .next (u.answered (.dividerRatioWrite q ratio) okReply)
          ∧ u.get OD.railDividerRatio = ratio.toNat ∧ (∀ j, j ≠ OD.railDividerRatio → u.get j = s.get j)
          ∧ u.pins = { s.pins with rail := s.pins.rail * ratio.toNat / s.get OD.railDividerRatio })
        ∧ ((s.pinsOk ratio.toNat = false ∨ s.railOk OD.railDividerRatio ratio.toNat = false) → exec (.dividerRatioWrite q ratio) s
            = .next ((s.arrived q.src).answered (.dividerRatioWrite q ratio) { status := 0x06, payload := [] })))
    ∧ (∀ size, s.accepts (.saveCeilingMaxWrite q size) = true →
        ((size.toNat % 2 ^ 34 = 0 ∧ s.saveRegionOk size.toNat = true) → ∃ u : State,
          exec (.saveCeilingMaxWrite q size) s = .next (u.answered (.saveCeilingMaxWrite q size) okReply)
          ∧ u.get OD.flashSaveCeilingMax = size.toNat ∧ u.get OD.flashLastResult = 0
          ∧ (∀ j, j ≠ OD.flashSaveCeilingMax → j ≠ OD.flashLastResult → u.get j = s.get j))
        ∧ ((size.toNat % 2 ^ 34 ≠ 0 ∨ s.saveRegionOk size.toNat = false) → exec (.saveCeilingMaxWrite q size) s
            = .next (((s.arrived q.src).put OD.flashLastResult 5).answered (.saveCeilingMaxWrite q size) { status := 0x06, payload := [] })))
    ∧ (∀ sub value n, (sub = 2#8 ∨ sub = 3#8) → s.accepts (.counterSourceWrite q sub value) = true →
        n = (s.arrived q.src).sel q.src OD.counterSelect →
        (n < 18 → exec (.counterSourceWrite q sub value) s = .next (((s.arrived q.src).put OD.counterLastResult 1).answered
          (.counterSourceWrite q sub value) (refusedReply 1)))
        ∧ (18 ≤ n → sub = 2#8 → sourceOk value.toNat (s.counter n).qualifier = true → ∃ u : State,
          exec (.counterSourceWrite q sub value) s = .next (u.answered (.counterSourceWrite q sub value) okReply)
          ∧ u.counter n = { s.counter n with source := value.toNat, value := 0 } ∧ (∀ m, m ≠ n → u.counter m = s.counter m))
        ∧ (18 ≤ n → sub = 3#8 → sourceOk (s.counter n).source value.toNat = true → ∃ u : State,
          exec (.counterSourceWrite q sub value) s = .next (u.answered (.counterSourceWrite q sub value) okReply)
          ∧ u.counter n = { s.counter n with qualifier := value.toNat, value := 0 } ∧ (∀ m, m ≠ n → u.counter m = s.counter m)))
    ∧ (∀ seed, s.accepts (.ticketSeedWrite q seed) = true → seed ≠ 0#32 → seed ≠ 0xFFFFFFFF#32 → ∃ u : State,
        exec (.ticketSeedWrite q seed) s = .next (u.answered (.ticketSeedWrite q seed) okReply) ∧ u.get OD.ticketSeed = seed.toNat
        ∧ u.tickets = { s.tickets with lfsr0 := seed, lfsr1 := ~~~seed } ∧ (∀ j, j ≠ OD.ticketSeed → u.get j = s.get j))

/-- The code of a threshold is level times 1,000 by the ratio, on a scale of 1,024 steps to 1,500 mV, rounded to the
nearest (a half up); the effective level is the code's level at the rail, rounded to the nearest mV; READ of OD
0x8400.03 returns the three of them, Warn, Commit and Release; 11,000 mV at the ratio 10.000 gives code 751 and 11,001
mV. (11_power_battery_ageing.md R387) -/
def Obligations.EffectiveLevels : Prop :=
  (∀ level ratio : Nat, 0 < ratio →
      (2 * dacCode level ratio * 1500 * ratio ≤ 2 * level * 1000 * 1024 + 1500 * ratio
        ∧ 2 * level * 1000 * 1024 < 2 * dacCode level ratio * 1500 * ratio + 1500 * ratio)
      ∧ (2 * effectiveLevel level ratio * 1024 * 1000 ≤ 2 * dacCode level ratio * 1500 * ratio + 1024 * 1000
        ∧ 2 * dacCode level ratio * 1500 * ratio < 2 * effectiveLevel level ratio * 1024 * 1000 + 1024 * 1000))
  ∧ (∀ (s : State) (q : Req), s.accepts (.zopRead q 0x8400 3) = true → exec (.zopRead q 0x8400 3) s
      = .next ((s.arrived q.src).answered (.zopRead q 0x8400 3) (okPayload
        (toBytes 2 (effectiveLevel (s.get OD.thresholdWarnLevel) (s.get OD.railDividerRatio))
          ++ toBytes 2 (effectiveLevel (s.get OD.thresholdCommitLevel) (s.get OD.railDividerRatio))
          ++ toBytes 2 (effectiveLevel (s.get OD.thresholdReleaseLevel) (s.get OD.railDividerRatio))))))
  ∧ dacCode 11000 10000 = 751 ∧ effectiveLevel 11000 10000 = 11001

/-- COUPLE with no uncouple running, when no condition of R84 fails, adds exactly its entry to the table with result
0, and is refused with the first failing condition otherwise. UNCOUPLE of an entry takes exactly it from the table at
once, and is answered later; without an entry it is refused with result 8. A coupling command that meets a running
uncouple waits behind it. UNCOUPLE_COMPLETE ends the uncouple when no accepted request lies in its range, and waits
otherwise. What the rules leave open stands as the model's choice: log 60, log 147 and log 149. Answers a next state
with its own effect, under conditions on the state and the operands alone: couple, uncouple, uncoupleComplete.
(03_host_ports.md R83; 03_host_ports.md R84; 03_host_ports.md R85; 04_carriages_and_translation.md R122) -/
def Obligations.Couplings : Prop :=
  (∀ (s : State) (q : Req) (ld : BitVec 8) (e : BitVec 128), s.accepts (.couple q ld e) = true → ld.toNat < 32 →
      (s.terms.uncoupling = [] → s.coupleRefusal ld.toNat e = 0 → ∃ u : State,
          exec (.couple q ld e) s = .next (u.answered (.couple q ld e) okReply) ∧ u.get OD.couplingLastResult = 0
          ∧ u.tables = { s.tables with couplings := s.tables.couplings
              ++ [Coupling.mk ld.toNat (entryDpa e) (entryCid e) (entryLength e) (entryRdonly e) (entryClass e)] }
          ∧ u.objectsAs s [OD.couplingLastResult]
          ∧ u = { s.arrived q.src with tables := u.tables, work := u.work, flush := u.flush, od := u.od, log := u.log, perf := u.perf })
      ∧ (s.terms.uncoupling = [] → s.coupleRefusal ld.toNat e ≠ 0 → exec (.couple q ld e) s
          = .next (((s.arrived q.src).put OD.couplingLastResult (s.coupleRefusal ld.toNat e)).answered (.couple q ld e)
              (refusedReply (s.coupleRefusal ld.toNat e))))
      ∧ (s.terms.uncoupling ≠ [] → ∃ u : State, exec (.couple q ld e) s = .next (u.goesOnFor (.couple q ld e) OD.couplingCouple)
          ∧ u.host.queue = s.host.queue ++ [.couple q ld e] ∧ u = { s.arrived q.src with host := u.host }))
  ∧ (∀ (s : State) (q : Req) (ld : BitVec 8) (dpa : BitVec 64), s.accepts (.uncouple q ld dpa) = true → ld.toNat < 32 →
      s.terms.uncoupling = [] →
      (∀ c, s.tables.couplings.find? (fun c => c.ld = ld.toNat && c.dpa = dpa.toNat) = some c → ∃ u : State,
          exec (.uncouple q ld dpa) s = .next (u.goesOnFor (.uncouple q ld dpa) OD.couplingUncouple)
          ∧ u.tables = { s.tables with couplings := s.tables.couplings.filter (· ≠ c) } ∧ u.objectsAs s []
          ∧ u = { s.arrived q.src with tables := u.tables, terms := { s.terms with uncoupling := [(c, askerOf q)] }
                                       work := u.work, flush := u.flush, od := u.od, log := u.log, perf := u.perf })
      ∧ (s.tables.couplings.find? (fun c => c.ld = ld.toNat && c.dpa = dpa.toNat) = none → exec (.uncouple q ld dpa) s
          = .next (((s.arrived q.src).put OD.couplingLastResult 8).answered (.uncouple q ld dpa) (refusedReply 8))))
  ∧ (∀ (s : State) (c : Coupling) (a : Asker), s.terms.uncoupling = [(c, a)] → s.prompt = true →
      (s.work.waiters.any (fun w => w.ld = c.ld && c.dpa ≤ w.dpa && w.dpa < c.dpa + c.length * 2 ^ 21) = true →
        exec .uncoupleComplete s = .next s)
      ∧ (s.work.waiters.any (fun w => w.ld = c.ld && c.dpa ≤ w.dpa && w.dpa < c.dpa + c.length * 2 ^ 21) = false →
          s.host.queue = [] → ∃ t, exec .uncoupleComplete s = .next t ∧ t.terms = { s.terms with uncoupling := [] }
          ∧ t.get OD.couplingLastResult = 0 ∧ (∀ k, k ≠ OD.couplingLastResult → t.get k = s.get k)
          ∧ t = { s with terms := t.terms, od := t.od, zop := t.zop, out := t.out, bus := t.bus, host := t.host }))

/-- CARRIAGE_CREATE whose conditions hold writes an Active carriage with the next key generation, its size, label and
seal, at term 0, and leaves every other carriage and every leaf; it is refused with the first failing condition
otherwise, and with result 10 while a resize runs. CARRIAGE_DELETE of an Active or Parked carriage that is not coupled
makes it Deleting; of a coupled one it is refused with result 5. CARRIAGE_RELEASE_COMPLETE frees a Deleting carriage
with its pages and its snapshot, before held requests are tried again. What the rules leave open stands as the model's
choice: log 86, log 87 and log 90. Answers a next state with its own effect, under conditions on the state and the
operands alone: carriageCreate, carriageDelete, carriageReleaseComplete. (04_carriages_and_translation.md R118;
04_carriages_and_translation.md R121; 04_carriages_and_translation.md R123; 04_carriages_and_translation.md R124;
04_carriages_and_translation.md R126; 04_carriages_and_translation.md R127) -/
def Obligations.CarriageLives : Prop :=
  (∀ (s : State) (q : Req) (id : BitVec 16) (flags : BitVec 8) (size : BitVec 32) (label : BitVec 64) (i : Instr),
      i = .carriageCreate q id flags size label → s.accepts i = true →
      (s.carriageBusy = true → exec i s = .next (((s.arrived q.src).put OD.carriageLastResult 10).answered i (refusedReply 10)))
      ∧ (s.carriageBusy = false → ∀ cid, s.createId id.toNat (flags.toNat.testBit 0) = some cid →
        (s.createRefusal cid flags.toNat size.toNat = 0 → s.crypt.keyGen < s.crypt.keyMark + 1024 → ∃ u : State,
          exec i s = .next (u.answered i okReply) ∧ u.get OD.carriageLastResult = 0 ∧ u.get OD.carriageLastId = cid
          ∧ (u.carriage cid).state = .active ∧ (u.carriage cid).term = 0 ∧ (u.carriage cid).size = size.toNat
          ∧ (u.carriage cid).label = label ∧ (u.carriage cid).keygen = s.crypt.keyGen ∧ (u.carriage cid).created = s.clock
          ∧ (u.carriage cid).sealOn = flags.toNat.testBit 1 ∧ (u.carriage cid).reserve = flags.toNat.testBit 2
          ∧ u.crypt.keyGen = s.crypt.keyGen + 1 ∧ (∀ c, c ≠ cid → u.carriage c = s.carriage c)
          ∧ u.tables.leaves = s.tables.leaves ∧ u.tables.couplings = s.tables.couplings ∧ u.dram = s.dram ∧ u.ctl = s.ctl)
        ∧ (∀ r, s.createRefusal cid flags.toNat size.toNat = r → r ≠ 0 → r ≠ 8 →
          exec i s = .next (((s.arrived q.src).put OD.carriageLastResult r).answered i (refusedReply r)))))
  ∧ (∀ (s : State) (q : Req) (id : BitVec 16), s.accepts (.carriageDelete q id) = true → s.carriageBusy = false →
      s.exists? id.toNat = true → s.termsHold id.toNat = false →
      ((s.carriage id.toNat).state = .active ∨ (s.carriage id.toNat).state = .parked) →
      (s.isCoupled id.toNat = false → ∃ u : State, exec (.carriageDelete q id) s = .next (u.answered (.carriageDelete q id) okReply)
          ∧ u.carriage id.toNat = { s.carriage id.toNat with state := .deleting }
          ∧ (∀ c, c ≠ id.toNat → u.carriage c = s.carriage c) ∧ u.tables.leaves = s.tables.leaves
          ∧ u.objectsAs s [OD.carriageLastResult] ∧ u.get OD.carriageLastResult = 0
          ∧ u = { s.arrived q.src with tables := u.tables, terms := u.terms, work := u.work, flush := u.flush, od := u.od, log := u.log, perf := u.perf })
      ∧ (s.isCoupled id.toNat = true → exec (.carriageDelete q id) s
          = .next (((s.arrived q.src).put OD.carriageLastResult 5).answered (.carriageDelete q id) (refusedReply 5))))
  ∧ (∀ (s : State) (id : BitVec 16), (s.carriage id.toNat).state = .deleting → s.prompt = true →
      s.inMode [.restore, .service, .maintenance] = true →
      ∃ u : State, exec (.carriageReleaseComplete id) s = .next u.resume ∧ u.carriage id.toNat = Carriage.free
        ∧ (∀ c, c ≠ id.toNat → u.carriage c = s.carriage c) ∧ (∀ k, leafCid k = id.toNat → u.leaf k = Leaf.empty)
        ∧ (∀ k, leafCid k ≠ id.toNat → u.leaf k = s.leaf k) ∧ u.snapRecords id.toNat = [] ∧ u.ctl = s.ctl)

/-- CARRIAGE_RESIZE whose conditions hold drops the snapshot and gives a larger size at once; a smaller one stands at
RESIZE_RELEASE_COMPLETE, when the pages beyond it have been released. SET_SEAL sets SEALPEND, SET_LABEL the label, and
neither changes another carriage. CARRIAGE_ADVANCE moves the session's cursor to the next carriage and is refused with
result 7 at the end. CLEAR_PAGE_POISON makes a poisoned page Resident and dirty with zeros, leaves a page that is not
poisoned, and refuses a page beyond the size with result 3. What the rules leave open stands as the model's choice:
log 60, log 88, log 89 and log 148. Answers a next state with its own effect, under conditions on the state and the
operands alone: carriageAdvance, carriageResize, resizeReleaseComplete, setSeal, setLabel, clearPagePoison.
(04_carriages_and_translation.md R123; 04_carriages_and_translation.md R125; 04_carriages_and_translation.md R128;
04_carriages_and_translation.md R155; 04_carriages_and_translation.md R157; 05_depot_sidings_terms.md R183) -/
def Obligations.CarriageChanges : Prop :=
  (∀ (s : State) (q : Req) (id : BitVec 16) (size : BitVec 32) (i : Instr), i = .carriageResize q id size → s.accepts i = true →
      s.carriageBusy = false →
      (s.resizeRefusal id.toNat size.toNat = 0 → (s.carriage id.toNat).size ≤ size.toNat → ∃ u : State,
          exec i s = .next (u.answered i okReply) ∧ u.carriage id.toNat = { s.carriage id.toNat with size := size.toNat }
          ∧ (∀ c, c ≠ id.toNat → u.carriage c = s.carriage c) ∧ u.get OD.carriageLastResult = 0
          ∧ u.tables.dropped.contains id.toNat = true ∧ (s.tables.dropped.contains id.toNat = false → u.snapRecords id.toNat = [])
          ∧ u.tables.leaves = s.tables.leaves)
      ∧ (s.resizeRefusal id.toNat size.toNat = 0 → size.toNat < (s.carriage id.toNat).size → ∃ u : State,
          exec i s = .next (u.goesOnFor i OD.carriageResize)
          ∧ u.work.resize = some { id := id.toNat, size := size.toNat, old := (s.carriage id.toNat).size }
          ∧ u.tables.carriages = s.tables.carriages ∧ u.tables.leaves = s.tables.leaves)
      ∧ (s.resizeRefusal id.toNat size.toNat ≠ 0 → exec i s = .next (((s.arrived q.src).put OD.carriageLastResult
          (s.resizeRefusal id.toNat size.toNat)).answered i (refusedReply (s.resizeRefusal id.toNat size.toNat)))))
  ∧ (∀ (s : State) (r : ResizeRun), s.work.resize = some r → s.prompt = true → ∃ u : State, exec .resizeReleaseComplete s = .next u.resume
      ∧ (u.carriage r.id).size = r.size ∧ u.work.resize = none ∧ u.get OD.carriageLastResult = 0
      ∧ (∀ k, leafCid k = r.id → r.size * 512 ≤ leafPage k → u.leaf k = Leaf.empty)
      ∧ (∀ k, leafCid k ≠ r.id ∨ leafPage k < r.size * 512 → u.leaf k = s.leaf k) ∧ (∀ c, c ≠ r.id → u.carriage c = s.carriage c))
  ∧ (∀ (s : State) (q : Req) (id : BitVec 16) (on : BitVec 8), s.accepts (.setSeal q id on) = true → s.carriageBusy = false →
      on.toNat ≤ 1 → s.exists? id.toNat = true → (s.carriage id.toNat).damaged = false → ((s.carriage id.toNat).state = .active ∨ (s.carriage id.toNat).state = .parking
        ∨ (s.carriage id.toNat).state = .parked ∨ (s.carriage id.toNat).state = .recalling) →
      ∃ u : State, exec (.setSeal q id on) s = .next (u.answered (.setSeal q id on) okReply)
        ∧ u.carriage id.toNat = { s.carriage id.toNat with sealPend := decide (on.toNat = 1) }
        ∧ (∀ c, c ≠ id.toNat → u.carriage c = s.carriage c) ∧ u.objectsAs s [OD.carriageLastResult]
        ∧ u = { s.arrived q.src with tables := u.tables, work := u.work, flush := u.flush, od := u.od, log := u.log, perf := u.perf })
  ∧ (∀ (s : State) (q : Req) (id : BitVec 16) (label : BitVec 64), s.accepts (.setLabel q id label) = true → s.carriageBusy = false →
      s.exists? id.toNat = true → (s.carriage id.toNat).damaged = false → (s.carriage id.toNat).state ≠ .shadow →
      ∃ u : State, exec (.setLabel q id label) s = .next (u.answered (.setLabel q id label) okReply)
        ∧ u.carriage id.toNat = { s.carriage id.toNat with label := label }
        ∧ (∀ c, c ≠ id.toNat → u.carriage c = s.carriage c) ∧ u.objectsAs s [OD.carriageLastResult]
        ∧ u = { s.arrived q.src with tables := u.tables, work := u.work, flush := u.flush, od := u.od, log := u.log, perf := u.perf })
  ∧ (∀ (s : State) (q : Req), s.accepts (.carriageAdvance q) = true → s.carriageBusy = false →
      (∀ e, s.tables.carriages.find? (fun e => (s.arrived q.src).sel q.src OD.carriageCursor < e.1 && e.2.state != .free) = some e →
        ∃ u : State, exec (.carriageAdvance q) s = .next (u.answered (.carriageAdvance q) okReply)
          ∧ u.sel q.src OD.carriageCursor = e.1 ∧ u = { s.arrived q.src with zop := u.zop, od := u.od })
      ∧ (s.tables.carriages.find? (fun e => (s.arrived q.src).sel q.src OD.carriageCursor < e.1 && e.2.state != .free) = none →
        exec (.carriageAdvance q) s = .next (((s.arrived q.src).put OD.carriageLastResult 7).answered (.carriageAdvance q) (refusedReply 7))))
  ∧ (∀ (s : State) (q : Req) (id : BitVec 16) (page : BitVec 32) (i : Instr) (key : Nat), i = .clearPagePoison q id page →
      key = leafKey id.toNat page.toNat → s.accepts i = true → s.carriageBusy = false → s.exists? id.toNat = true →
      (s.carriage id.toNat).damaged = false → (s.carriage id.toNat).state ≠ .shadow → ((s.carriage id.toNat).size * 512 ≤ page.toNat →
        exec i s = .next (((s.arrived q.src).put OD.carriageLastResult 3).answered i (refusedReply 3)))
      ∧ (page.toNat < (s.carriage id.toNat).size * 512 → s.poisonAbove (leafCid key) (leafPage key) = none →
        ((s.leaf key).pois = false → exec i s
          = .next (((s.arrived q.src).resume.put OD.carriageLastResult 0).answered i okReply))
        ∧ ((s.leaf key).pois = true → s.pathGrown (leafCid key) (leafPage key) → s.backingUsed < s.get OD.spaceBackingPagesTotal →
          ∀ f s', s.takeFrame = some (f, s') → ∃ u : State,
            exec i s = .next ((u.resume.put OD.carriageLastResult 0).answered i okReply)
            ∧ u.leaf key = { Leaf.empty with res := true, ptr := f, dirty := true, acc := true,
                                              ttag := (s.carriage (leafCid key)).term % 256 }
            ∧ u.residentImage key = Image.zero.write 0 0 ∧ (∀ k, k ≠ key → u.leaf k = s.leaf k))))

/-- ADMIT whose conditions hold is answered OK with AdmitBusy set and the counts at 0, and changes no table.
ADMISSION_COMPLETE runs the admission over its range and clears AdmitBusy: it changes no leaf outside the range, and
none that is Depot, Unallocated, poisoned, dirty, claimed or being fetched; a clean page of zeros alone in the range
becomes Unallocated and is counted. MAP_DEPOT whose conditions hold makes the page a Depot leaf of the named depot
page, with one reference more. Both are refused with the first failing condition. What the rules leave open stands as
the model's choice: log 91 and log 137. Answers a next state with its own effect, under conditions on the state and
the operands alone: admission, admissionComplete, mapDepot. (05_depot_sidings_terms.md R159; 05_depot_sidings_terms.md
R163; 05_depot_sidings_terms.md R164; 05_depot_sidings_terms.md R165; 05_depot_sidings_terms.md R166;
05_depot_sidings_terms.md R167) -/
def Obligations.DepotCommands : Prop :=
  (∀ (s : State) (q : Req) (id : BitVec 16) (first count : BitVec 32) (n : BitVec 8) (i : Instr), i = .admission q id first count n →
      s.accepts i = true →
      (s.admitRefusal id.toNat count.toNat n.toNat = 0 → ∃ u : State, exec i s = .next (u.answered i okReply)
          ∧ u.get OD.depotAdmitBusy = 1 ∧ u.get OD.depotLastResult = 0 ∧ u.get OD.depotAdmitExamined = 0
          ∧ u.get OD.depotAdmitMerged = 0 ∧ u.get OD.depotAdmitNew = 0 ∧ u.get OD.depotAdmitSkipped = 0
          ∧ u.get OD.depotAdmitZeroed = 0
          ∧ u.terms = { s.terms with admission := some (AdmitRun.mk id.toNat n.toNat first.toNat count.toNat false) }
          ∧ u.objectsAs s [OD.depotAdmitBusy, OD.depotLastResult, OD.depotAdmitExamined, OD.depotAdmitMerged, OD.depotAdmitNew,
              OD.depotAdmitSkipped, OD.depotAdmitZeroed]
          ∧ u = { s.arrived q.src with terms := u.terms, od := u.od })
      ∧ (s.admitRefusal id.toNat count.toNat n.toNat ≠ 0 → exec i s = .next (((s.arrived q.src).put OD.depotLastResult
          (s.admitRefusal id.toNat count.toNat n.toNat)).answered i (refusedReply (s.admitRefusal id.toNat count.toNat n.toNat)))))
  ∧ (∀ (s : State) (a : AdmitRun), s.terms.admission = some a → s.prompt = true → ∃ t, exec .admissionComplete s = .next t
      ∧ t.terms = { s.terms with admission := none } ∧ t.get OD.depotAdmitBusy = 0
      ∧ (∀ k, leafCid k ≠ a.id ∨ leafPage k < a.first ∨ a.first + a.count ≤ leafPage k ∨ (s.leaf k).depot = true
          ∨ (s.leaf k).unallocated = true ∨ (s.leaf k).pois = true ∨ (s.leaf k).dirty = true ∨ (s.leaf k).fq = true
          ∨ (s.leaf k).busy = true → t.leaf k = s.leaf k)
      ∧ (∀ key im, key = leafKey a.id a.first → leafCid key = a.id → leafPage key = a.first → a.count = 1 →
          s.admissible key = some im → im.lines = [] → s.recordFree key → s.get OD.depotAdmitZeroed = 0 →
          t.leaf key = Leaf.empty ∧ t.get OD.depotAdmitZeroed = 1 ∧ t.get OD.depotAdmitExamined = 1)
      ∧ t.ctl = s.ctl ∧ t.tables.couplings = s.tables.couplings
      ∧ t.objectsAs s [OD.depotAdmitBusy, OD.depotAdmitExamined, OD.depotAdmitMerged, OD.depotAdmitNew, OD.depotAdmitSkipped,
          OD.depotAdmitZeroed, OD.depotCollisions])
  ∧ (∀ (s : State) (q : Req) (id : BitVec 16) (page depot count : BitVec 32) (i : Instr) (key : Nat),
      i = .mapDepot q id page depot count → key = leafKey id.toNat page.toNat → s.accepts i = true →
      (s.mapRefusal id.toNat page.toNat depot.toNat count.toNat = 0 → count.toNat = 1 → s.pathGrown id.toNat page.toNat →
        ∃ u : State, exec i s = .next (u.answered i okReply) ∧ u.get OD.depotLastResult = 0
          ∧ u.leaf key = { Leaf.empty with depot := true, ptr := depot.toNat, ttag := (s.carriage id.toNat).term % 256 }
          ∧ u.depotEntry depot.toNat = { s.depotEntry depot.toNat with refs := min ((s.depotEntry depot.toNat).refs + 1) 0xFFFFFFFF }
          ∧ (∀ k, k ≠ key → u.leaf k = s.leaf k) ∧ (∀ d, d ≠ depot.toNat → u.depotEntry d = s.depotEntry d) ∧ u.dram = s.dram)
      ∧ (s.mapRefusal id.toNat page.toNat depot.toNat count.toNat ≠ 0 → (∀ d, (s.depotEntry d).damaged = false) → exec i s = .next (((s.arrived q.src).put OD.depotLastResult
          (s.mapRefusal id.toNat page.toNat depot.toNat count.toNat)).answered i
            (refusedReply (s.mapRefusal id.toNat page.toNat depot.toNat count.toNat)))))

/-- END_CARRIAGE_TERM of an eligible carriage that nothing defers begins its term end, which holds new writes, and is
answered later. TERM_END_COMMIT, once the writes accepted before have drained and nothing has come to defer it, ends
the term: TERM advances by one, TERMTIME is now, SEALON takes SEALPEND, the old snapshot is detached, before the held
writes go on. END_GLOBAL_TERM and GLOBAL_TERM_END, with no term end and no retag pass running and no accepted write
still held, advance the global term and the term of every eligible carriage that nothing defers by one, before the
held writes go on (the periodic end only while the period in force is not 0); while one runs, the command waits.
RETAG_PASS_COMPLETE gives every page of the carriage that holds data its tag. SNAPSHOT_RELEASE_COMPLETE drops the
detached snapshot and no leaf. What the rules leave open stands as the model's choice: log 60, log 93, log 95, log 150
and log 151. Answers a next state with its own effect, under conditions on the state and the operands alone:
endCarriageTerm, termEndCommit, endGlobalTerm, globalTermEnd, retagPassComplete, snapshotReleaseComplete.
(04_carriages_and_translation.md R123; 05_depot_sidings_terms.md R177; 05_depot_sidings_terms.md R179;
05_depot_sidings_terms.md R180; 05_depot_sidings_terms.md R181; 05_depot_sidings_terms.md R186) -/
def Obligations.TermEnds : Prop :=
  (∀ (s : State) (q : Req) (id : BitVec 16) (i : Instr), i = .endCarriageTerm q id → s.accepts i = true →
      (s.exists? id.toNat = true → (s.carriage id.toNat).state.eligible = true → (s.carriage id.toNat).damaged = false →
        s.deferredBy id.toNat = 0 → s.exporting id.toNat = false → ∃ u : State,
          exec i s = .next (u.goesOnFor i OD.termEndCarriageTerm)
          ∧ u.terms = { s.terms with runs := s.terms.runs ++ [TermRun.mk id.toNat (some (askerOf q))] } ∧ u.get OD.termLastResult = 0
          ∧ u = { s.arrived q.src with terms := u.terms, od := u.od })
      ∧ (s.exists? id.toNat = false → exec i s
          = .next (((s.arrived q.src).put OD.termLastResult 1).answered i (refusedReply 1))))
  ∧ (∀ (s : State) (id : BitVec 16) (r : TermRun) (rs : List TermRun), takeRun id.toNat s.terms.runs = some (r, rs) →
      s.prompt = true → s.working = true → s.termDrains id.toNat = false → s.deferredBy r.id = 0 →
      (s.carriage r.id).state.eligible = true → s.terms.parks = [] → ∃ u : State,
        exec (.termEndCommit id) s = .next u.resume.tryGlobal
        ∧ (u.carriage r.id).term = ((s.carriage r.id).term + 1) % 2 ^ 32 ∧ (u.carriage r.id).termTime = s.clock
        ∧ (u.carriage r.id).sealOn = (s.carriage r.id).sealPend ∧ u.snapRecords r.id = [] ∧ u.terms.runs = rs
        ∧ u.work.waiters = s.work.waiters ∧ (∀ c, c ≠ r.id → u.carriage c = s.carriage c)
        ∧ (((s.carriage r.id).sealOn = false ∨ (s.carriage r.id).sealPend = true) → u.tables.leaves = s.tables.leaves)
        ∧ ((s.carriage r.id).sealOn = true → (s.carriage r.id).sealPend = false → ∀ k, leafCid k = r.id → (u.leaf k).sealed = false)
        ∧ u.dram = s.dram ∧ u.ctl = s.ctl)
  ∧ (∀ (s : State) (i : Instr) (q : Req) (c : Nat), s.globalBlocked = false → s.globalDrains = false → s.zop.committed = [] → s.update.state ≠ .scheduled →
      (s.tables.carriages.map (·.1)).Nodup →
      (i = .endGlobalTerm q → s.accepts i = true → ∃ u : State, exec i s = .next (u.resume.answered i okReply)
        ∧ u.tables.globalTerm = (s.tables.globalTerm + 1) % 2 ^ 64 ∧ u.get OD.termLastBoundary = s.clock
        ∧ (c ∈ s.eligibleIds → s.deferredBy c = 0 → (u.carriage c).term = ((s.carriage c).term + 1) % 2 ^ 32)
        ∧ (c ∉ s.eligibleIds → u.carriage c = s.carriage c) ∧ u.terms.globalDue = none ∧ u.get OD.termLastResult = 0)
      ∧ (i = .globalTermEnd → s.prompt = true → s.working = true → s.terms.period ≠ 0 → ∃ t : State, exec i s = .next t.resume
        ∧ t.tables.globalTerm = (s.tables.globalTerm + 1) % 2 ^ 64 ∧ t.get OD.termLastBoundary = s.clock
        ∧ (c ∈ s.eligibleIds → s.deferredBy c = 0 → (t.carriage c).term = ((s.carriage c).term + 1) % 2 ^ 32)
        ∧ (c ∉ s.eligibleIds → t.carriage c = s.carriage c) ∧ t.terms.globalDue = none ∧ t.ctl = s.ctl))
  ∧ (∀ (s : State) (q : Req), s.accepts (.endGlobalTerm q) = true → s.globalBlocked = true → ∃ u : State,
      exec (.endGlobalTerm q) s = .next (u.goesOnFor (.endGlobalTerm q) OD.termEndGlobalTerm) ∧ u.terms.globalDue.isSome = true
      ∧ u.tables = s.tables ∧ u = { s.arrived q.src with terms := u.terms, od := u.od })
  ∧ (∀ (s : State) (id : BitVec 16), s.prompt = true → s.working = true → s.terms.retag.contains id.toNat = true → ∃ u : State,
      exec (.retagPassComplete id) s = .next u.runDeferred.tryGlobal ∧ u.terms.retag = s.terms.retag.filter (· ≠ id.toNat)
      ∧ (∀ k, leafCid k = id.toNat → (s.leaf k).allocated = true →
          u.leaf k = { s.leaf k with ttag := retagged (s.carriage id.toNat).term (s.leaf k).ttag })
      ∧ (∀ k, leafCid k ≠ id.toNat ∨ (s.leaf k).allocated = false → u.leaf k = s.leaf k)
      ∧ u.tables.carriages = s.tables.carriages ∧ u.dram = s.dram)
  ∧ (∀ (s : State) (id : BitVec 16), s.prompt = true → s.working = true → s.terms.detached.any (fun d => d.1 = id.toNat) = true → ∃ t,
      exec (.snapshotReleaseComplete id) s = .next t ∧ t.terms.detached = s.terms.detached.filter (fun d => d.1 ≠ id.toNat && !d.2.isEmpty)
      ∧ t.tables.leaves = s.tables.leaves ∧ t.tables.carriages = s.tables.carriages ∧ t.dram = s.dram
      ∧ t = { s with terms := t.terms, tables := t.tables, work := t.work, flush := t.flush, od := t.od, log := t.log, perf := t.perf })

/-- COMMIT_STAGED at apply point 0 or 1, with nothing committed and something staged, makes the staged set the
committed one for that point, with event 0x7001; at point 2 in another mode than SERVICE or MAINTENANCE it is answered
INVALID_STATE, and under load BUSY_LOAD with event 0x7004. With a set committed it is refused with result 1, with
nothing staged with result 2. DISCARD_STAGED empties the uncommitted set with event 0x7005 and leaves the committed
one. Answers a next state with its own effect, under conditions on the state and the operands alone: commitStaged,
discardStaged. (12_object_dictionary.md R435; 12_object_dictionary.md R436; 12_object_dictionary.md R438) -/
def Obligations.StagedSets : Prop :=
  ∀ (s : State) (q : Req),
    (∀ (p : BitVec 8) (i : Instr), i = .commitStaged q p → s.accepts i = true →
      (p.toNat < 2 → s.zop.committed = [] → s.zop.uncommitted ≠ [] → ∃ u : State, exec i s = .next (u.answered i okReply)
        ∧ u.zop.committed = s.zop.uncommitted ∧ u.zop.uncommitted = [] ∧ u.get OD.stagingApplyPoint = p.toNat
        ∧ u.get OD.stagingLastResult = 0 ∧ u.objectsAs s [OD.stagingApplyPoint, OD.stagingLastResult]
        ∧ u = { s.arrived q.src with zop := u.zop, od := u.od, log := u.log, perf := u.perf })
      ∧ (p.toNat < 2 → s.zop.committed ≠ [] → exec i s
          = .next (((s.arrived q.src).put OD.stagingLastResult 1).answered i (refusedReply 1)))
      ∧ (p.toNat < 2 → s.zop.committed = [] → s.zop.uncommitted = [] → exec i s
          = .next (((s.arrived q.src).put OD.stagingLastResult 2).answered i (refusedReply 2)))
      ∧ (p.toNat = 2 → s.inMode [.service, .maintenance] = false → exec i s
          = .next ((s.arrived q.src).answered i { status := 0x07, payload := [] }))
      ∧ (p.toNat = 2 → s.inMode [.service, .maintenance] = true → s.zop.committed = [] → s.zop.uncommitted ≠ [] → s.notLight ≠ 0 →
          exec i s = .next (((s.arrived q.src).raise 0x7004 0 [(.u8, s.notLight)]).answered i { status := 0x08, payload := [] })))
    ∧ (s.accepts (.discardStaged q) = true → s.zop.uncommitted ≠ [] → ∃ u : State,
        exec (.discardStaged q) s = .next (u.answered (.discardStaged q) okReply) ∧ u.zop.uncommitted = []
        ∧ u.zop.committed = s.zop.committed ∧ u.objectsAs s [OD.stagingLastResult] ∧ u.get OD.stagingLastResult = 0
        ∧ u = { s.arrived q.src with zop := u.zop, od := u.od, log := u.log, perf := u.perf })
    ∧ (s.accepts (.discardStaged q) = true → s.zop.uncommitted = [] → exec (.discardStaged q) s
        = .next (((s.arrived q.src).put OD.stagingLastResult 2).answered (.discardStaged q) (refusedReply 2)))

/-- PARK of an Active carriage begins a park while fewer than 16 other parks and recalls run and none waits, waits in
the queue of 64 behind them, and is refused with result 4 beyond it. PARK_COPY_COMPLETE makes the carriage Parked.
PARK_RELEASE_PASS_COMPLETE ends the park: a copied page not written since becomes a sided flash copy. RECALL of a
Parked carriage begins a recall or waits in the same queue; RECALL_COMPLETE with no page left makes the carriage
Active, before held requests are tried again. PARK_QUEUE_DEQUEUE begins the oldest waiting one, or reports why not.
What the rules leave open stands as the model's choice: log 60, log 93 and log 94. Answers a next state with its own
effect, under conditions on the state and the operands alone: park, parkCopyComplete, parkReleasePassComplete, recall,
recallComplete, parkQueueDequeue. (05_depot_sidings_terms.md R172; 05_depot_sidings_terms.md R173;
05_depot_sidings_terms.md R174; 05_depot_sidings_terms.md R175; 05_depot_sidings_terms.md R176) -/
def Obligations.Parks : Prop :=
  (∀ (s : State) (q : Req) (id : BitVec 16) (i : Instr), i = .park q id → s.accepts i = true → s.exists? id.toNat = true →
      (s.carriage id.toNat).takes true = true → s.reverting id.toNat = false →
      s.terms.queue.any (fun x => x.id = id.toNat) = false →
      (s.movesBeside id.toNat < 16 → s.terms.queue = [] → ∃ u : State, exec i s = .next (u.answered i okReply)
          ∧ u.carriage id.toNat = { s.carriage id.toNat with state := .parking } ∧ (∀ c, c ≠ id.toNat → u.carriage c = s.carriage c)
          ∧ u.terms.parks = s.terms.parks ++ [ParkRun.mk id.toNat none [] [] false 0] ∧ u.tables.leaves = s.tables.leaves
          ∧ u.get OD.sidingLastResult = 0)
      ∧ ((16 ≤ s.movesBeside id.toNat ∨ s.terms.queue ≠ []) → s.terms.queue.length < 64 → ∃ u : State, exec i s = .next (u.answered i okReply)
          ∧ u.terms = { s.terms with queue := s.terms.queue ++ [Queued.mk true id.toNat] } ∧ u.tables = s.tables)
      ∧ (64 ≤ s.terms.queue.length → exec i s
          = .next (((s.arrived q.src).put OD.sidingLastResult 4).answered i (refusedReply 4))))
  ∧ (∀ (s : State) (id : BitVec 16) (p : ParkRun), s.prompt = true → s.working = true →
      s.terms.parks.find? (fun p => p.id = id.toNat && p.term.isSome && !p.release) = some p → ∃ t,
        exec (.parkCopyComplete id) s = .next t ∧ t.carriage p.id = { s.carriage p.id with state := .parked }
        ∧ (∀ c, c ≠ p.id → t.carriage c = s.carriage c) ∧ t.tables.leaves = s.tables.leaves
        ∧ ({ p with release := true } ∈ t.terms.parks) ∧ t.objectsAs s []
        ∧ t = { s with terms := t.terms, tables := t.tables, flash := t.flash, work := t.work, flush := t.flush, od := t.od, log := t.log
                       perf := t.perf })
  ∧ (∀ (s : State) (id : BitVec 16) (p : ParkRun), s.prompt = true → s.working = true →
      s.terms.parks.find? (fun p => p.id = id.toNat && p.release) = some p → ∃ u : State,
        exec (.parkReleasePassComplete id) s = .next u.runDeferred.tryGlobal.resume
        ∧ p ∉ u.terms.parks ∧ u.tables.carriages = s.tables.carriages ∧ (p.copies = [] → u.tables = s.tables)
        ∧ (∀ page c key term, p.copies = [(page, c)] → key = leafKey p.id page → p.term = some term → (s.leaf key).allocated = true →
            (s.leaf key).pois = false → (s.leaf key).busy = false → (s.leaf key).fq = false →
            writtenSince term (s.carriage p.id).term (s.leaf key).ttag = false →
            (u.leaf key).sided = true ∧ (u.leaf key).flc = true ∧ (u.leaf key).res = false ∧ (u.leaf key).dirty = false
            ∧ (u.flashCopy (s.pageName p.id page)).content = c ∧ (∀ k, k ≠ key → u.leaf k = s.leaf k)))
  ∧ (∀ (s : State) (q : Req) (id : BitVec 16) (i : Instr), i = .recall q id → s.accepts i = true → s.exists? id.toNat = true →
      (s.carriage id.toNat).damaged = false → (s.carriage id.toNat).state = .parked →
      s.terms.queue.any (fun x => x.id = id.toNat) = false →
      (s.movesBeside id.toNat < 16 → s.terms.queue = [] → ∃ u : State,
        exec i s = .next (u.answered i okReply) ∧ u.carriage id.toNat = { s.carriage id.toNat with state := .recalling }
        ∧ (∀ c, c ≠ id.toNat → u.carriage c = s.carriage c) ∧ (∃ n, (RecallRun.mk id.toNat n []) ∈ u.terms.recalls)
        ∧ u.get OD.sidingLastResult = 0)
      ∧ ((16 ≤ s.movesBeside id.toNat ∨ s.terms.queue ≠ []) → s.terms.queue.length < 64 → ∃ u : State, exec i s = .next (u.answered i okReply)
          ∧ u.terms = { s.terms with queue := s.terms.queue ++ [Queued.mk false id.toNat] } ∧ u.tables = s.tables)
      ∧ (64 ≤ s.terms.queue.length → exec i s
          = .next (((s.arrived q.src).put OD.sidingLastResult 4).answered i (refusedReply 4))))
  ∧ (∀ (s : State) (id : BitVec 16), s.prompt = true → s.working = true → s.terms.recalls.any (fun r => r.id = id.toNat) = true →
      s.recallPages id.toNat = [] → ∃ u : State, exec (.recallComplete id) s = .next u.resume
        ∧ u.carriage id.toNat = { s.carriage id.toNat with state := .active } ∧ (∀ c, c ≠ id.toNat → u.carriage c = s.carriage c)
        ∧ u.terms.recalls = s.terms.recalls.filter (fun r => r.id ≠ id.toNat) ∧ u.tables.leaves = s.tables.leaves)
  ∧ (∀ (s : State) (x : Queued) (xs : List Queued), s.prompt = true → s.working = true → s.terms.queue = x :: xs →
      s.movesBeside x.id < 16 → ((s.carriage x.id).takes x.park = true → s.reverting x.id = false → ∃ t, exec .parkQueueDequeue s = .next t ∧ t.terms.queue = xs
          ∧ (t.carriage x.id).state = (if x.park then CState.parking else CState.recalling)
          ∧ (∀ c, c ≠ x.id → t.carriage c = s.carriage c))
      ∧ ((s.carriage x.id).damaged = true → exec .parkQueueDequeue s
          = .next (State.raise { s with terms := { s.terms with queue := xs } } 0x2204 0 [(.carriage, x.id), (.u8, 1)])))

/-- REVERT whose conditions hold is answered later; REVERT_COMPLETE applies the snapshot's records and ends the term,
with event 0x2304. EXPORT whose conditions hold takes the next export ID and waits for the source's term end;
EXPORT_COMPLETE ends it when its records lie in the output carriage, and drops it when they do not fit there. IMPORT
of a preamble that is intact and for this unit creates the result carriage in the Shadow state when the transfer key
unwraps, and is refused with result 8 and event 0x5041 when it does not; of a damaged one it is refused with result 6.
IMPORT_RECORD_VERIFIED of the last record publishes the carriage as Active, of another moves on, and a record that
fails releases the shadow with event 0x2403. What the rules leave open stands as the model's choice: log 59, log 60,
log 96, log 97, log 147, log 152 and log 153. Answers a next state with its own effect, under conditions on the state
and the operands alone: exportCarriage, exportComplete, importCarriage, importRecordVerified, revert, revertComplete.
(05_depot_sidings_terms.md R185; 05_depot_sidings_terms.md R190; 05_depot_sidings_terms.md R191;
05_depot_sidings_terms.md R192; 05_depot_sidings_terms.md R193; 05_depot_sidings_terms.md R197) -/
def Obligations.RevertsAndTransfers : Prop :=
  (∀ (s : State) (q : Req) (id : BitVec 16) (i : Instr), i = .revert q id → s.accepts i = true →
      (s.revertRefusal id.toNat = 0 → ∃ u : State, exec i s = .next (u.goesOnFor i OD.termRevert)
        ∧ u.terms = { s.terms with reverts := s.terms.reverts ++ [(id.toNat, askerOf q)] } ∧ u.get OD.termLastResult = 0
        ∧ u = { s.arrived q.src with terms := u.terms, od := u.od })
      ∧ (s.revertRefusal id.toNat ≠ 0 → exec i s = .next (((s.arrived q.src).put OD.termLastResult
          (s.revertRefusal id.toNat)).answered i (refusedReply (s.revertRefusal id.toNat)))))
  ∧ (∀ (s : State) (id : BitVec 16), s.prompt = true → s.working = true → s.reverting id.toNat = true →
      State.deferredBy { s with terms := { s.terms with reverts := s.terms.reverts.filter (fun r => r.1 ≠ id.toNat) } } id.toNat = 0 →
      s.terms.parks = [] → ∃ u : State, exec (.revertComplete id) s = .next (State.tryGlobal (State.runDeferred
          (u.finishAll OD.termRevert ((s.terms.reverts.filter (fun r => r.1 = id.toNat)).map (·.2)))))
        ∧ (u.carriage id.toNat).term = ((s.carriage id.toNat).term + 1) % 2 ^ 32 ∧ u.snapRecords id.toNat = []
        ∧ u.terms.reverts = s.terms.reverts.filter (fun r => r.1 ≠ id.toNat) ∧ (∀ c, c ≠ id.toNat → u.carriage c = s.carriage c)
        ∧ (((s.carriage id.toNat).sealOn = false ∨ (s.carriage id.toNat).sealPend = true) → s.snapRecords id.toNat = [] →
            u.tables.leaves = s.tables.leaves)
        ∧ (∀ page, ((s.carriage id.toNat).sealOn = false ∨ (s.carriage id.toNat).sealPend = true) → s.snapRecords id.toNat = [SnapRecord.mk page .zero] → u.leaf (leafKey id.toNat page) = Leaf.empty
            ∧ ∀ k, k ≠ leafKey id.toNat page → u.leaf k = s.leaf k))
  ∧ (∀ (s : State) (q : Req) (a b : BitVec 16) (unit : BitVec 64) (key : List Byte) (i : Instr),
      i = .exportCarriage q a b unit key → s.accepts i = true →
      (s.exportRefusal a.toNat b.toNat key = 0 → ∃ u : State, exec i s = .next (u.answered i okReply)
        ∧ u.get OD.transferNextExportId = (s.get OD.transferNextExportId + 1) % 2 ^ 64 ∧ u.get OD.transferLastResult = 0
        ∧ u.terms.exp = some (ExportRun.mk a.toNat b.toNat unit.toNat key (s.get OD.transferNextExportId) false)
        ∧ u.tables = s.tables)
      ∧ (s.exportRefusal a.toNat b.toNat key ≠ 0 → exec i s = .next (((s.arrived q.src).put OD.transferLastResult
          (s.exportRefusal a.toNat b.toNat key)).answered i (refusedReply (s.exportRefusal a.toNat b.toNat key)))))
  ∧ (∀ (s c : State) (e : ExportRun) (n : Nat), s.prompt = true → s.working = true → s.terms.exp = some e → e.begun = true →
      c = s.checkSnapshot e.source → n = recordsFor (c.exportPages e.source).length →
      exec (.exportComplete []) s = .next (if (c.carriage e.output).size * 512 < layoutPages n then c.dropExport e
        else match State.writePages e.output 0 (pieces 4096 ((c.exportBytes e).length / 4096) (c.exportBytes e)) c with
        | none => c.unlist
        | some w => State.tryGlobal (State.runDeferred ((State.put { w with free := w.free + 2, terms := { w.terms with exp := none } }
            OD.transferExportRecords n).raise 0x2401 n [(.u64, e.exportId)]))))
  ∧ (∀ (s : State) (q : Req) (a b : BitVec 16) (fl : BitVec 8) (i : Instr) (page : List Byte), i = .importCarriage q a b fl →
      s.accepts i = true → s.exists? a.toNat = true → (s.carriage a.toNat).state = .active → (s.carriage a.toNat).damaged = false →
      s.isCoupled a.toNat = false → s.terms.imp = none → (s.plainBytes a.toNat 1 0).getD [] = page →
      (parsePreamble page = none → exec i s
        = .next (((s.arrived q.src).put OD.transferLastResult 6).answered i (refusedReply 6)))
      ∧ (∀ p cid root, parsePreamble page = some p → p.unit = s.get OD.identityUnitId →
        s.createId b.toNat (fl.toNat.testBit 0) = some cid → cidOk cid = true → (s.carriage cid).state = .free →
        s.crypt.keyGen < 0xFFFFFFFF → s.crypt.keyGen < s.crypt.keyMark + 1024 → s.takeNode 1 = some root → ∃ u : State, match s.openTransfer p with
          | none => exec i s
              = .next ((((s.arrived q.src).note 0x5041).put OD.transferLastResult 8).answered i (refusedReply 8))
          | some key => exec i s = .next (u.answered i okReply) ∧ (u.carriage cid).state = .shadow
              ∧ u.get OD.transferResultId = cid ∧ u.get OD.transferImportTotal = p.records ∧ u.get OD.transferLastResult = 0
              ∧ u.terms = { s.terms with imp := some (ImportRun.mk a.toNat cid p.exportId p.records 0 key 0) }
              ∧ (∀ c, c ≠ cid → u.carriage c = s.carriage c) ∧ u.tables.leaves = s.tables.leaves))
  ∧ (∀ (s : State) (n : BitVec 32) (r : ImportRun), s.prompt = true → s.working = true → s.terms.imp = some r → n.toNat = r.next →
      exec (.importRecordVerified n []) s = .next (match s.importRecord r with
        | .inl w => if r.records ≤ r.next + 1
            then (State.setCState { w.put OD.transferImportRecords (r.next + 1) with terms := { w.terms with imp := none } }
              r.result .active).checkSpace.raise 0x2402 0 [(.carriage, r.result)]
            else { w.put OD.transferImportRecords (r.next + 1) with
              terms := { w.terms with imp := w.terms.imp.map (fun i => { i with next := r.next + 1 }) } }
        | .inr cause => s.failImport r cause))
  ∧ (∀ (s : State) (r : ImportRun) (cause : Nat), ∃ t, s.failImport r cause = t ∧ t.terms.imp = none
      ∧ (t.carriage r.result).state = .deleting ∧ t.get OD.transferFailedRecord = r.next ∧ t.get OD.transferLastResult = cause
      ∧ (∀ c, c ≠ r.result → t.carriage c = s.carriage c) ∧ t.tables.leaves = s.tables.leaves)

/-- A read that decodes good or as poison only counts; a corrected line is counted, listed with its device and kept
among the device's lines; an uncorrectable burst is read once more and the second result stands; twice uncorrectable
with no other reason poisons that line and no other frame; a failed device in the rank, a second row within 1 ms, or
an address error freezes the channel with cause 2, 1 or 3. A correction of another device than the one marked failed
counts as uncorrectable. A salvage read, or a read on a thawing channel, only poisons its line; a channel that accepts
no such read changes nothing (log 16). A read beyond the population names no frame and stops. A write alert reissues
every write in its window, is listed with the first of them, and the fifth alert on one freezes the channel with cause
5. A patrol scrub read takes the channel's next line. What the rules leave open stands as the model's choice: log 9
and log 13. Answers a next state with its own effect, under conditions on the state and the operands alone:
dramReadDecode, dramAlert, patrolScrubRead. (08_dram_controller.md R282; 08_dram_controller.md R297;
08_dram_controller.md R298; 08_dram_controller.md R300; 08_dram_controller.md R301; 08_dram_controller.md R302;
08_dram_controller.md R314) -/
def Obligations.DramReads : Prop :=
  (∀ (s : State) (fr : BitVec 31) (line : Fin 64) (src : DramSource) (first second : Decode) (eff : Decode → Decode),
      (∀ x, (∀ d, x = .corrected d → s.otherFailed fr.toNat d = true → eff x = .uncorrectable)
        ∧ ((∀ d, x = .corrected d → s.otherFailed fr.toNat d = false) → eff x = x)) →
      (fr.toNat < s.framesPopulated → s.acceptsRead (s.channelOf fr.toNat) src = false →
          exec (.dramReadDecode fr line src first second) s = .next s.unlist)
      ∧ (s.framesPopulated ≤ fr.toNat → exec (.dramReadDecode fr line src first second) s = .fault (.noSuchFrame fr.toNat))
      ∧ (fr.toNat < s.framesPopulated → ∀ c p last, c = s.channelOf fr.toNat → p = s.locate fr.toNat →
          last = (if eff first = .uncorrectable then eff second else eff first) → s.acceptsRead c src = true →
          ((last = .good ∨ last = .poison) → exec (.dramReadDecode fr line src first second) s = .next (s.count 0xF031 c 1))
          ∧ (∀ d, last = .corrected d → ∃ t, exec (.dramReadDecode fr line src first second) s = .next t
              ∧ t.get (OD.mcCorrected c) = (s.get (OD.mcCorrected c) + 1) % 2 ^ bitsOfKey (OD.mcCorrected c)
              ∧ t.objectsAs s [OD.mcCorrected c] ∧ (t.chan c).errorCount = (s.chan c).errorCount + 1
              ∧ (t.chan c).errors.head? = some { time := s.clock, source := sourceCode src, device := d.val, frame := fr.toNat, line := line.val, kind := if (BitVec.ofNat 16 (mapGet (fun _ => 0) (s.chan c).failed (rankKey p))).getLsbD d.val then 1 else 0 }
              ∧ (mapGet (fun _ => []) (t.chan c).corrections (devicePos p d.val)).head? = some (fr.toNat * 64 + line.val, s.clock)
              ∧ (t.chan c).state = (s.chan c).state ∧ (∀ n, n ≠ c → t.chan n = s.chan n) ∧ t.dram.frames = s.dram.frames
              ∧ t = { s with dram := t.dram, od := t.od, log := t.log, perf := t.perf, eflash := t.eflash, free := t.free })
          ∧ (last = .uncorrectable → (src = .salvage ∨ (s.chan c).state ≠ .inService) → s.isTableFrame fr.toNat = false → ∃ t,
              exec (.dramReadDecode fr line src first second) s = .next t ∧ (t.chan c).state = (s.chan c).state
              ∧ t.get (OD.mcUncorrectable c) = (s.get (OD.mcUncorrectable c) + 1) % 2 ^ bitsOfKey (OD.mcUncorrectable c)
              ∧ t.frame fr.toNat = { s.frame fr.toNat with image := (s.frame fr.toNat).image.poison line.val }
              ∧ (∀ g, g ≠ fr.toNat → t.frame g = s.frame g) ∧ t.tables = s.tables)
          ∧ (last = .uncorrectable → src ≠ .salvage → (s.chan c).state = .inService → 4 * (s.chansOut + 1) ≤ s.populated → ∃ t, exec (.dramReadDecode fr line src first second) s = .next t
              ∧ t.get (OD.mcUncorrectable c) = (s.get (OD.mcUncorrectable c) + 1) % 2 ^ bitsOfKey (OD.mcUncorrectable c)
              ∧ ((mapGet (fun _ => 0) (s.chan c).failed (2 * p.rank) ≠ 0 ∨ mapGet (fun _ => 0) (s.chan c).failed (2 * p.rank + 1) ≠ 0) →
                  (t.chan c).state ≠ .inService ∧ t.get (OD.mcLastFreezeCause c) = 2)
              ∧ (mapGet (fun _ => 0) (s.chan c).failed (2 * p.rank) = 0 → mapGet (fun _ => 0) (s.chan c).failed (2 * p.rank + 1) = 0 →
                  ((∃ e ∈ (s.chan c).uncorrected, s.clock ≤ e.1 + 1000000 ∧ e.2 ≠ rowKey p) →
                    (t.chan c).state ≠ .inService ∧ t.get (OD.mcLastFreezeCause c) = 1)
                  ∧ ((∀ e ∈ (s.chan c).uncorrected, s.clock ≤ e.1 + 1000000 → e.2 = rowKey p) → (t.chan c).state = .inService
                    ∧ (s.isTableFrame fr.toNat = false →
                        t.frame fr.toNat = { s.frame fr.toNat with image := (s.frame fr.toNat).image.poison line.val }
                        ∧ (∀ g, g ≠ fr.toNat → t.frame g = s.frame g) ∧ t.tables = s.tables))))
          ∧ (last = .addressError → src ≠ .salvage → s.ctl.mode ≠ .save → (s.chan c).state = .inService → 4 * (s.chansOut + 1) ≤ s.populated → ∃ t, exec (.dramReadDecode fr line src first second) s = .next t
              ∧ (t.chan c).state ≠ .inService ∧ t.get (OD.mcLastFreezeCause c) = 3 ∧ t.dram.frames = s.dram.frames
              ∧ t.tables.leaves = s.tables.leaves)))
  ∧ (∀ (s : State) (c : Mc) (n : Nat) (ws : List AlertWrite), ws = (s.chan c.val).writes.take n → ws ≠ [] →
      s.flag OD.dramWriteCrc = true → (s.chan c.val).state = .inService →
      ((∀ w ∈ ws, w.retries < 4) → ∃ t, exec (.dramAlert c n) s = .next t
        ∧ (t.chan c.val).writes = ws.map (fun w => { w with retries := w.retries + 1 })
        ∧ (t.chan c.val).state = .inService ∧ (∀ n, n ≠ c.val → t.chan n = s.chan n)
        ∧ t.get (OD.mcWriteCrcRetries c.val) = (s.get (OD.mcWriteCrcRetries c.val) + ws.length) % 2 ^ 32
        ∧ (∀ w, ws.getLast? = some w → (t.chan c.val).errors.head? = some
            { time := s.clock, kind := 4, source := sourceCode w.source, device := 0xFF, frame := w.frame, line := w.line })
        ∧ t.objectsAs s [OD.mcWriteCrcRetries c.val] ∧ t.dram.frames = s.dram.frames
        ∧ t = { s with dram := t.dram, od := t.od, log := t.log, perf := t.perf })
      ∧ ((∃ w ∈ ws, 4 ≤ w.retries) → s.isPopulated c.val = true → 4 * (s.chansOut + 1) ≤ s.populated → ∃ t, exec (.dramAlert c n) s = .next t
        ∧ (t.chan c.val).state ≠ .inService ∧ t.get (OD.mcLastFreezeCause c.val) = 5))
  ∧ (∀ (s : State) (c : Mc) (d : Decode), s.prompt = true → (s.chan c.val).state = .inService →
      (s.chan c.val).scrub + 1 < s.framesPerChannel * 64 → (d = .good ∨ d = .poison) →
      ∃ t, exec (.patrolScrubRead c d) s = .next t ∧ t.chan c.val = { s.chan c.val with scrub := (s.chan c.val).scrub + 1 }
        ∧ (∀ n, n ≠ c.val → t.chan n = s.chan n) ∧ t = { s with dram := { s.dram with chans := t.dram.chans } })

/-- A refresh falls due and is issued at once; while panic is raised it is postponed, at most 4 times, and is issued
when panic clears. A missed deadline freezes the channel with cause 6. MR4 readings, open rows, ZQ calibration and
write timing are kept per channel. An activation opens and counts its row; a row that reaches the Threshold of the
window has its neighbours refreshed, by DRFM or by activates of the rows at distance 1 and 2 that count themselves and
leave the bank closed, and starts from 0; TALLY_WINDOW_END clears the tally and applies the Threshold. FREEZE_CHANNEL
freezes a channel in MAINTENANCE while at most a quarter is out, and is refused otherwise; RETURN_CHANNEL and
FORCE_FULL_TRAINING are kept for the next start. What the rules leave open stands as the model's choice: log 9, log
52, log 53, log 54, log 162 and log 164. Answers a next state with its own effect, under conditions on the state and
the operands alone: panicPacket, refreshDue, refreshDeadlineMiss, mr4Poll, activateTallyUpdate, tallyWindowEnd,
closePageTimeout, zqCalibrationDue, dqsOscillatorRead, freezeChannel, dramReturnChannel, forceFullTraining.
(08_dram_controller.md R285; 08_dram_controller.md R287; 08_dram_controller.md R288; 08_dram_controller.md R291;
08_dram_controller.md R292; 08_dram_controller.md R293; 08_dram_controller.md R294; 08_dram_controller.md R303;
08_dram_controller.md R305; 08_dram_controller.md R306; 08_dram_controller.md R309; 08_dram_controller.md R319) -/
def Obligations.ChannelUpkeep : Prop :=
  (∀ (s : State) (c : Mc) (b : Fin 256), let d := fun (_ : Nat) => BankRefresh.mk 0 0
      ∃ t, exec (.refreshDue c b) s = .next t
        ∧ (s.dram.panic = 0 → mapGet d (t.chan c.val).banks b.val = { due := 0, last := s.uptime })
        ∧ (s.dram.panic ≠ 0 → (mapGet d (s.chan c.val).banks b.val).due < 4 →
            (mapGet d (t.chan c.val).banks b.val).due = (mapGet d (s.chan c.val).banks b.val).due + 1)
        ∧ (s.dram.panic ≠ 0 → 4 ≤ (mapGet d (s.chan c.val).banks b.val).due → (mapGet d (t.chan c.val).banks b.val).last = s.uptime)
        ∧ (∀ n, n ≠ b.val → mapGet d (t.chan c.val).banks n = mapGet d (s.chan c.val).banks n)
        ∧ (∀ n, n ≠ c.val → t.chan n = s.chan n) ∧ t = { s with dram := { s.dram with chans := t.dram.chans } }
        ∧ t.chan c.val = { s.chan c.val with banks := (t.chan c.val).banks })
  ∧ (∀ (s : State) (p : Port) (raised : Bool), ∃ t, exec (.panicPacket p raised) s = .next t
      ∧ t.dram.panic.getLsbD p.val = raised ∧ (∀ n, n ≠ p.val → t.dram.panic.getLsbD n = s.dram.panic.getLsbD n)
      ∧ t = { s with dram := t.dram, od := t.od, log := t.log, perf := t.perf }
      ∧ t.dram = { s.dram with panic := t.dram.panic, chans := t.dram.chans }
      ∧ (t.dram.panic ≠ 0 → t.dram.chans = s.dram.chans))
  ∧ (∀ (s : State) (c : Mc) (b : Fin 256), (s.chan c.val).state = .inService → s.isPopulated c.val = true → 4 * (s.chansOut + 1) ≤ s.populated → ∃ t,
      exec (.refreshDeadlineMiss c b) s = .next t
      ∧ (t.chan c.val).state ≠ .inService ∧ t.get (OD.mcLastFreezeCause c.val) = 6 ∧ t.get (OD.mcRefreshGap c.val) = 1)
  ∧ (∀ (s : State) (c : Mc) (r : Fin 4) (mr4 : BitVec 8), exec (.mr4Poll c r mr4) s
      = .next (s.setChan c.val { s.chan c.val with mr4 := mapSet (fun _ => 0) (s.chan c.val).mr4 r.val mr4.toNat }))
  ∧ (∀ (s : State) (c : Mc) (b : Fin 256), exec (.closePageTimeout c b) s
      = .next (s.setChan c.val { s.chan c.val with rows := mapErase (s.chan c.val).rows b.val }))
  ∧ (∀ (s : State) (c : Mc), exec (.zqCalibrationDue c) s = .next (s.setChan c.val { s.chan c.val with lastZq := s.uptime }))
  ∧ (∀ (s : State) (c : Mc) (r : Fin 4) (drift : Int),
      (drift.natAbs ≤ 4 → exec (.dqsOscillatorRead c r drift) s = .next s)
      ∧ (4 < drift.natAbs → ∃ t, exec (.dqsOscillatorRead c r drift) s = .next t ∧ r.val ∈ (t.chan c.val).adjust
          ∧ t.chan c.val = { s.chan c.val with adjust := (t.chan c.val).adjust } ∧ (∀ n, n ≠ c.val → t.chan n = s.chan n)
          ∧ t = { s with dram := { s.dram with chans := t.dram.chans } }))
  ∧ (∀ (s : State) (c : Mc) (sub : Fin 2) (r : Fin 4) (bank : Fin 32) (row : BitVec 18) (n : Nat → Nat),
      (∀ x, n x = rowCount r.val bank.val x (s.tally c.val sub.val).entries) → ∃ t,
      exec (.activateTallyUpdate c sub r bank row) s = .next t
      ∧ (n row.toNat + 1 < (s.tally c.val sub.val).threshold → (s.tally c.val sub.val).entries.length < 2048 →
          mapGet (fun _ => 0) (t.chan c.val).rows (bankIndex sub.val r.val bank.val) = row.toNat + 1
          ∧ rowCount r.val bank.val row.toNat (t.tally c.val sub.val).entries = n row.toNat + 1)
      ∧ ((s.tally c.val sub.val).threshold ≤ n row.toNat + 1 → (s.tally c.val sub.val).entries.length < 2048 → s.dram.panic = 0 →
          s.usesDrfm c.val r.val = true →
          rowCount r.val bank.val row.toNat (t.tally c.val sub.val).entries = 0
          ∧ t.get (OD.mcNeighbourRefreshes c.val) = (s.get (OD.mcNeighbourRefreshes c.val) + 1) % 2 ^ 64)
      ∧ ((s.tally c.val sub.val).threshold ≤ n row.toNat + 1 → (s.tally c.val sub.val).entries.length + 5 ≤ 2048 → s.dram.panic = 0 →
          s.usesDrfm c.val r.val = false →
          (∀ x ∈ s.rowsNear row.toNat, n x + 1 < (s.tally c.val sub.val).threshold) →
          rowCount r.val bank.val row.toNat (t.tally c.val sub.val).entries = 0
          ∧ (∀ x ∈ s.rowsNear row.toNat, rowCount r.val bank.val x (t.tally c.val sub.val).entries = n x + 1)
          ∧ mapGet (fun _ => 0) (t.chan c.val).rows (bankIndex sub.val r.val bank.val) = 0
          ∧ t.get (OD.mcNeighbourRefreshes c.val) = (s.get (OD.mcNeighbourRefreshes c.val) + 1) % 2 ^ 64)
      ∧ (∀ n, n ≠ c.val → t.chan n = s.chan n) ∧ (∀ n, n ≠ sub.val → t.tally c.val n = s.tally c.val n)
      ∧ t.objectsAs s [OD.mcNeighbourRefreshes c.val, OD.tallyDeferred, OD.tallyFallbacks]
      ∧ t = { s with dram := { s.dram with chans := t.dram.chans }, od := t.od, log := t.log, perf := t.perf })
  ∧ (∀ (s : State) (c : Mc) (sub : Fin 2), exec (.tallyWindowEnd c sub) s
      = .next (s.setTally c.val sub.val { entries := [], fallback := false, rolling := [], refreshes := 0, threshold := s.get OD.tallyThreshold }))
  ∧ (∀ (s : State) (q : Req) (c : BitVec 8) (i : Instr), i = .freezeChannel q c → s.accepts i = true →
      (s.isPopulated c.toNat = true → s.ctl.mode = .maintenance → (s.chan c.toNat).state = .inService → 4 * (s.chansOut + 1) ≤ s.populated →
        ∃ u : State, exec i s = .next (u.answered i okReply) ∧ (u.chan c.toNat).state ≠ .inService
          ∧ u.get (OD.mcLastFreezeCause c.toNat) = 7 ∧ (u.chan c.toNat).rows = [] ∧ (u.chan c.toNat).writes = []
          ∧ u.get OD.freezeLastResult = 0 ∧ (∀ n, n ≠ c.toNat → u.chan n = s.chan n) ∧ u.dram.frames = s.dram.frames)
      ∧ (s.isPopulated c.toNat = false → exec i s = .next (((s.arrived q.src).put OD.freezeLastResult 1).answered i (refusedReply 1)))
      ∧ (s.isPopulated c.toNat = true → s.ctl.mode ≠ .maintenance → exec i s
          = .next (((s.arrived q.src).put OD.freezeLastResult 3).answered i (refusedReply 3)))
      ∧ (s.isPopulated c.toNat = true → s.ctl.mode = .maintenance → (s.chan c.toNat).state ≠ .inService → exec i s
          = .next (((s.arrived q.src).put OD.freezeLastResult 2).answered i (refusedReply 2))))
  ∧ (∀ (s : State) (q : Req) (c : BitVec 8) (i : Instr), i = .dramReturnChannel q c → s.accepts i = true →
      (s.isPopulated c.toNat = true → (s.chan c.toNat).state = .offline → ∃ u : State, exec i s = .next (u.answered i okReply)
        ∧ u.chan c.toNat = { s.chan c.toNat with returnPending := true } ∧ u.get OD.freezeLastResult = 0
        ∧ (∀ n, n ≠ c.toNat → u.chan n = s.chan n) ∧ u.objectsAs s [OD.freezeLastResult]
        ∧ u = { s.arrived q.src with dram := { s.dram with chans := u.dram.chans }, od := u.od })
      ∧ (s.isPopulated c.toNat = true → (s.chan c.toNat).state ≠ .offline → exec i s
          = .next (((s.arrived q.src).put OD.freezeLastResult 2).answered i (refusedReply 2))))
  ∧ (∀ (s : State) (q : Req), s.accepts (.forceFullTraining q) = true → exec (.forceFullTraining q) s
      = .next ((State.answered { s.arrived q.src with dram := { s.dram with training := none, forced := true } }
          (.forceFullTraining q) okReply)))

/-- FLASH_READ_COMPLETE counts the block's reads, queues it for refresh at DISTURBLIMIT or from step 4 on, counts
retries from step 2, soft decodes from step 3 and rebuilds at step 5; an unreadable copy is marked lost in every entry
that points at the block, and an unreadable depot page is marked poisoned in its entry. A completed program fills its
block, which is the place of its stream from then on, and joins the stream's stripe in its group, which closes when
its last unit is written; a failed one retires the block. A completed erase leaves an erased block with one more
erase; a failed one retires it, and the copies still readable there move. Without the Main die, and for an erase in
SAVE, none of them happens. What the rules leave open stands as the model's choice: log 9, log 47, log 49, log 57 and
log 166. Answers a next state with its own effect, under conditions on the state and the operands alone:
flashReadComplete, flashProgramComplete, flashEraseComplete. (09_flash_tier.md R327; 09_flash_tier.md R329;
09_flash_tier.md R330; 09_flash_tier.md R331; 09_flash_tier.md R345) -/
def Obligations.FlashReads : Prop :=
  (∀ (s : State) (c : Fc) (block : Nat) (name : BitVec 48),
      s.mainDieRuns = true →
      (storedType (name.toNat / 2 ^ 44) = true → ∀ n : Fin 5, (n.val < 4 ∨ striped (name.toNat / 2 ^ 44) = true) → ∃ t, exec (.flashReadComplete c block name (.step n)) s = .next t
        ∧ (t.block block).reads = (s.block block).reads + 1
        ∧ (t.block block).refresh = ((s.block block).refresh || Decidable.decide (s.disturbLimit ≤ (s.block block).reads + 1)
            || Decidable.decide (3 ≤ n.val))
        ∧ t.get (OD.fcRetryReads c.val) = (if 1 ≤ n.val then (s.get (OD.fcRetryReads c.val) + 1) % 2 ^ 64 else s.get (OD.fcRetryReads c.val))
        ∧ t.get (OD.fcSoftDecodes c.val) = (if 2 ≤ n.val then (s.get (OD.fcSoftDecodes c.val) + 1) % 2 ^ 64 else s.get (OD.fcSoftDecodes c.val))
        ∧ t.get (OD.fcRebuilds c.val) = (if n.val = 4 then (s.get (OD.fcRebuilds c.val) + 1) % 2 ^ 32 else s.get (OD.fcRebuilds c.val))
        ∧ t.objectsAs s [OD.fcRetryReads c.val, OD.fcSoftDecodes c.val, OD.fcRebuilds c.val]
        ∧ (∀ k, k ≠ block → t.block k = s.block k) ∧ (∀ k, k ∉ s.pointingAt name.toNat block → t.flashCopy k = s.flashCopy k)
        ∧ (∀ k, (t.flashCopy k).content = (s.flashCopy k).content ∧ (t.flashCopy k).lost = (s.flashCopy k).lost) ∧ t.tables.leaves = s.tables.leaves ∧ t.dram = s.dram
        ∧ (n.val < 3 → t = { s with flash := { s.flash with blocks := t.flash.blocks }, od := t.od, log := t.log, perf := t.perf }))
      ∧ (∃ t, exec (.flashReadComplete c block name .unreadable) s = .next t
        ∧ (name.toNat / 2 ^ 44 = 1 → name.toNat ∈ s.pointingAt name.toNat block → (t.depotEntry (name.toNat % 2 ^ 44)).pois = true
            ∧ (∀ k, k ≠ name.toNat % 2 ^ 44 → t.depotEntry k = s.depotEntry k))
        ∧ ((name.toNat / 2 ^ 44 ≤ 1 ∨ name.toNat / 2 ^ 44 = 10) → ∀ k ∈ s.pointingAt name.toNat block, (t.flashCopy k).lost = true)
        ∧ (name.toNat / 2 ^ 44 ≠ 6 → (∀ k, k ∉ s.pointingAt name.toNat block → t.flashCopy k = s.flashCopy k) ∧ t.tables.leaves = s.tables.leaves
            ∧ t.dram = s.dram)
        ∧ (t.block block).reads = (s.block block).reads + 1 ∧ (∀ k, k ≠ block → t.block k = s.block k))
      ∧ (striped (name.toNat / 2 ^ 44) = false → exec (.flashReadComplete c block name (.step 4)) s
          = exec (.flashReadComplete c block name .unreadable) s))
  ∧ (∀ (s : State) (c : Fc) (die : Fin 16) (block bytes k : Nat), k = blockKey c.val die.val block → s.mainDieRuns = true →
      (∀ st : Fin 4, ∃ t, exec (.flashProgramComplete c die block bytes true [] st) s = .next t
        ∧ t.block k = { s.block k with erased := false, written := (s.block k).written + bytes
                                       oldest := if (s.block k).erased then s.clock else (s.block k).oldest
                                       isOpen := decide ((s.block k).written + bytes < (if s.isSlc k then s.slcBlockBytes else s.blockBytes)) }
        ∧ (∀ j, j ≠ k → t.block j = s.block j)
        ∧ t.get (OD.fcBytesProgrammed c.val) = (s.get (OD.fcBytesProgrammed c.val) + bytes) % 2 ^ 64
        ∧ (s.isSlc k = false → t.place st.val = k ∧ ∀ x, x = mapGet (fun _ => Stripe.initial) s.flash.stripes (stripeKey (c.val / 16) st.val) →
            (s.groupChannels (c.val / 16) - 1 ≤ x.units + 1 →
              (mapGet (fun _ => Stripe.initial) t.flash.stripes (stripeKey (c.val / 16) st.val)).units = 0
              ∧ (mapGet (fun _ => Stripe.initial) t.flash.stripes (stripeKey (c.val / 16) st.val)).number = x.number + 1)
            ∧ (x.units + 1 < s.groupChannels (c.val / 16) - 1 →
              (mapGet (fun _ => Stripe.initial) t.flash.stripes (stripeKey (c.val / 16) st.val)).units = x.units + 1
              ∧ (mapGet (fun _ => Stripe.initial) t.flash.stripes (stripeKey (c.val / 16) st.val)).number = x.number
              ∧ (x.units = 0 → (mapGet (fun _ => Stripe.initial) t.flash.stripes (stripeKey (c.val / 16) st.val)).openSince = s.uptime)))
        ∧ (s.isSlc k = true → t = { s with flash := { s.flash with blocks := t.flash.blocks, wseq := s.flash.wseq + 1 }, od := t.od, perf := t.perf }))
      ∧ (s.ctl.mode ≠ .save → ∃ t, exec (.flashEraseComplete c die block true) s = .next t
        ∧ t.block k = { FBlock.initial with erases := (s.block k).erases + 1 } ∧ (t.block k).erased = true
        ∧ (∀ j, j ≠ k → t.block j = s.block j) ∧ t.tables = s.tables ∧ t.dram = s.dram
        ∧ t.objectsAs s [OD.wearEraseAvg, OD.wearEraseMin, OD.wearEraseMax, OD.wearSlcEraseMax, OD.wearLifeUsed])
      ∧ (s.ctl.mode ≠ .save → 2 ≤ s.sparesLeft (c.val * 16 + die.val) → mapWf (fun _ => FlashCopy.none) s.tables.flash = true → ∀ i,
          (i = .flashProgramComplete c die block bytes false ∨ i = .flashEraseComplete c die block false) →
          ∃ t, exec i s = .next t ∧ (t.block k).retired = true ∧ (∀ j, j ≠ k → t.block j = s.block j)
            ∧ t.sparesLeft (c.val * 16 + die.val) + 1 = s.sparesLeft (c.val * 16 + die.val)
            ∧ t.get OD.wearGrownBadBlocks = (s.get OD.wearGrownBadBlocks + 1) % 2 ^ 32
            ∧ (∀ n, (s.flashCopy n).present = true → (s.flashCopy n).block = k → (s.flashCopy n).lost = false → (t.flashCopy n).block ≠ k
                ∧ (t.flashCopy n).content = (s.flashCopy n).content)
            ∧ (∀ n, ((s.flashCopy n).block ≠ k ∨ (s.flashCopy n).lost = true) → t.flashCopy n = s.flashCopy n) ∧ t.tables.leaves = s.tables.leaves ∧ t.dram = s.dram))

/-- STRIPE_CLOSE_TIMEOUT pads and closes an open stripe. The third LUN timeout of a die within 10 s retires it. A
channel whose status cannot be read goes out of service with cause 4, within the budget (and with no other channel of
its group rebuilding, no copy is lost); FLASH_RETURN_CHANNEL marks it for the next BOOT and is refused for a channel
in service or beyond FC63. BACKING_RECOMPUTE reports B. STRIPE_REBUILD_COMPLETE moves the copies out of reach,
contents unchanged, and ends the channel's rebuild. GC_RELOCATION moves every valid copy of a block that may be the
victim, contents unchanged, and erases it unless a superseded copy lies in it or a fetch reads it; with no copy left
in a block that changes store it ends a size conversion. SAVE_SLOT_ERASE erases the slots released first. What the
rules leave open stands as the model's choice: log 9, log 47, log 50, log 51, log 68 and log 167. Answers a next state
with its own effect, under conditions on the state and the operands alone: stripeCloseTimeout, lunTimeout,
channelStatusTimeout, flashZqShortDue, backingRecompute, gcRelocation, flashReturnChannel, saveSlotErase,
stripeRebuildComplete. (09_flash_tier.md R322; 09_flash_tier.md R327; 09_flash_tier.md R332; 09_flash_tier.md R333;
09_flash_tier.md R334; 09_flash_tier.md R336; 09_flash_tier.md R337; 09_flash_tier.md R343; 09_flash_tier.md R345) -/
def Obligations.FlashUpkeep : Prop :=
  (∀ (s : State) (g st : Fin 4) (key : Nat), key = stripeKey g.val st.val → s.prompt = true → ∀ x y, x = mapGet (fun _ => Stripe.initial) s.flash.stripes key → y = s.groupChannels g.val - 1 →
      (x.units = 0 → exec (.stripeCloseTimeout g st) s = .next s)
      ∧ (x.units ≠ 0 → ∃ t, exec (.stripeCloseTimeout g st) s = .next t
          ∧ mapGet (fun _ => Stripe.initial) t.flash.stripes key = { x with pads := x.pads + (y - x.units), units := 0, number := x.number + 1 }
          ∧ (∀ n, n ≠ key → mapGet (fun _ => Stripe.initial) t.flash.stripes n = mapGet (fun _ => Stripe.initial) s.flash.stripes n)
          ∧ t = { s with flash := { s.flash with stripes := t.flash.stripes } }))
  ∧ (∀ (s : State) (c : Fc) (die : Fin 16) (recent : List Nat),
      recent = (mapGet (fun _ => []) (s.fchan c.val).timeouts die.val).filter (fun t => s.uptime ≤ t + 10000000000) →
      (recent.length < 2 → ∃ t, exec (.lunTimeout c die) s = .next t ∧ t.fchan c.val = { s.fchan c.val with timeouts := mapSet (fun _ => []) (s.fchan c.val).timeouts die.val (s.uptime :: recent), resetting := (s.fchan c.val).resetting ||| (1#16 <<< die.val) }
        ∧ (∀ n, n ≠ c.val → t.fchan n = s.fchan n) ∧ t = { s with flash := { s.flash with chans := t.flash.chans } })
      ∧ (2 ≤ recent.length → (s.fchan c.val).retired.getLsbD die.val = false → (s.fchan c.val).dies &&& ~~~(1#16 <<< die.val) ≠ 0 →
          ∃ t, exec (.lunTimeout c die) s = .next t ∧ (t.fchan c.val).retired.getLsbD die.val = true
            ∧ (t.fchan c.val).dies = (s.fchan c.val).dies &&& ~~~(1#16 <<< die.val) ∧ (t.fchan c.val).rebuilding = true
            ∧ t.get OD.wearDiesRetired = (s.get OD.wearDiesRetired + 1) % 2 ^ 16 ∧ (∀ n, n ≠ c.val → t.fchan n = s.fchan n)
            ∧ t.tables = s.tables ∧ t.dram = s.dram))
  ∧ (∀ (s : State) (c : Fc), (s.fchan c.val).state = 0 → s.fchansOut + 1 ≤ 8 →
      (∀ n, n ≠ c.val → n / 16 = c.val / 16 → (s.fchan n).rebuilding = false) → ∃ t, exec (.channelStatusTimeout c) s = .next t
      ∧ (t.fchan c.val).state = 1 ∧ (t.fchan c.val).cause = 4 ∧ (t.fchan c.val).rebuilding = true ∧ t.fchanServes c.val = false
      ∧ (∀ n, n ≠ c.val → t.fchan n = s.fchan n) ∧ t.ctl.mode = s.ctl.mode ∧ t.tables = s.tables ∧ t.dram = s.dram)
  ∧ (∀ (s : State) (c : Fc), exec (.flashZqShortDue c) s = .next (s.setFchan c.val { s.fchan c.val with lastZq := s.uptime })
      ∧ (s.prompt = true → s.outOfReach c.val = [] → exec (.stripeRebuildComplete c) s
          = .next (s.setFchan c.val { s.fchan c.val with rebuilding := false }))
      ∧ (s.prompt = true → mapWf (fun _ => FlashCopy.none) s.tables.flash = true → ∃ t, exec (.stripeRebuildComplete c) s = .next t
          ∧ t.fchan c.val = { s.fchan c.val with rebuilding := false } ∧ (∀ n, n ≠ c.val → t.fchan n = s.fchan n)
          ∧ (∀ n, (t.flashCopy n).present = (s.flashCopy n).present ∧ (t.flashCopy n).content = (s.flashCopy n).content
              ∧ (t.flashCopy n).lost = (s.flashCopy n).lost)
          ∧ (∀ e ∈ s.outOfReach c.val, e.2.lost = false → (t.flashCopy e.1).block = s.writeBlock 1)
          ∧ t.tables.leaves = s.tables.leaves ∧ t.dram = s.dram))
  ∧ (∀ s : State, (s.gcRuns = true → s.flash.converting = none → ∃ t, exec .backingRecompute s = .next t ∧ t.get OD.spaceBackingPagesTotal = s.backingPages
        ∧ t.get OD.gcGcState = s.gcTier ∧ t.get OD.gcFreeShare = s.freeShare
        ∧ t.objectsAs s [OD.spaceBackingPagesTotal, OD.gcGcState, OD.gcFreeShare]
        ∧ t = { s with od := t.od, log := t.log, perf := t.perf, work := t.work })
      ∧ (s.gcRuns = false → exec .backingRecompute s = .next s))
  ∧ (∀ (s : State) (block : Nat), s.prompt = true → s.gcRuns = true → mapWf (fun _ => FlashCopy.none) s.tables.flash = true →
      s.isSlc block = false → (s.block block).retired = false → s.victimOk block = true →
      s.flash.superseded.any (fun c => c.block == block) = false → s.fetchedFrom block = false → ∃ t, exec (.gcRelocation block) s = .next t
        ∧ (t.block block).erased = true ∧ (t.block block).erases = (s.block block).erases + 1 ∧ (t.block block).refresh = false
        ∧ (∀ k, k ≠ block → t.block k = s.block k)
        ∧ (∀ n, (s.flashCopy n).present = true → (s.flashCopy n).block = block → (s.flashCopy n).lost = false →
            (t.flashCopy n).block ≠ block ∧ (t.flashCopy n).content = (s.flashCopy n).content ∧ (t.flashCopy n).lost = (s.flashCopy n).lost)
        ∧ (∀ n, ((s.flashCopy n).block ≠ block ∨ (s.flashCopy n).lost = true) → t.flashCopy n = s.flashCopy n) ∧ t.tables.leaves = s.tables.leaves ∧ t.dram = s.dram
        ∧ (∀ size, s.flash.converting = some size → s.tables.flash = [] → s.flash.superseded = [] → t.flash.saveMax = size ∧ t.flash.converting = none))
  ∧ (∀ (s : State) (q : Req) (c : BitVec 8) (i : Instr), i = .flashReturnChannel q c → s.accepts i = true →
      (c.toNat < 64 → (s.fchan c.toNat).state ≠ 0 → ∃ u : State, exec i s = .next (u.answered i okReply)
        ∧ u.fchan c.toNat = { s.fchan c.toNat with state := 2 } ∧ (∀ n, n ≠ c.toNat → u.fchan n = s.fchan n)
        ∧ u.get OD.flashLastResult = 0 ∧ u.objectsAs s [OD.flashLastResult]
        ∧ u = { s.arrived q.src with flash := { s.flash with chans := u.flash.chans }, od := u.od })
      ∧ (64 ≤ c.toNat → exec i s = .next (((s.arrived q.src).put OD.flashLastResult 1).answered i (refusedReply 1)))
      ∧ (c.toNat < 64 → (s.fchan c.toNat).state = 0 → exec i s
          = .next (((s.arrived q.src).put OD.flashLastResult 2).answered i (refusedReply 2))))
  ∧ (∀ s : State, s.prompt = true → (s.flash.released = [] → exec .saveSlotErase s = .next s.unlist)
      ∧ (∀ e r, s.flash.released = e :: r → s.mainDieRuns = true → s.ctl.mode ≠ .save →
          exec .saveSlotErase s = .next { s with flash := { s.flash with released := r } }))

/-- A KEY_LOAD that R366 to R369 accept stores the root key with its type and check value, advances the generation by
one, restarts the counter and the mark at 0, raises event 0x5001 and lets the held accesses go on; each refusal leaves
every slot and is answered with its result, with event 0x5003 but for result 6. An erase empties the slot and keeps
its generation; of an empty slot it does nothing. A grant, a revocation or REVOKE_SLOT changes exactly the bits it
names and is refused for a carriage in Deleting. What the rules leave open stands as the model's choice: log 69.
Answers a next state with its own effect, under conditions on the state and the operands alone: keyLoad, keySlotErase,
passGrant, passRevoke, revokeSlot. (10_cipher_and_keys.md R366; 10_cipher_and_keys.md R368; 10_cipher_and_keys.md
R369; 10_cipher_and_keys.md R371; 10_cipher_and_keys.md R372) -/
def Obligations.KeySlots : Prop :=
  (∀ (s : State) (q : Req) (slot : BitVec 8) (blob : List Byte) (i : Instr), i = .keyLoad q slot blob → s.accepts i = true →
      (∀ root, (s.arrived q.src).loadRoot slot.toNat blob = .inl root → ∃ u : State,
        exec i s = .next (((u.freeSlot slot.toNat).put (OD.slotLastResult slot.toNat) 0).answered i okReply)
        ∧ u.slot slot.toNat = { type := field blob 0 1, root := root, check := checkValue root, gen := (s.slot slot.toNat).gen + 1, counter := 0, mark := 0, exhausted := false, passed63 := false }
        ∧ (∀ n, n ≠ slot.toNat → u.slot n = s.slot n) ∧ u.tables = s.tables ∧ u.dram = s.dram ∧ u.ctl = s.ctl)
      ∧ (∀ r, (s.arrived q.src).loadRoot slot.toNat blob = .inr r → ∃ u : State, exec i s = .next (u.answered i (refusedReply r))
        ∧ u.crypt = s.crypt ∧ u.get (OD.slotLastResult slot.toNat) = r ∧ u.objectsAs s [OD.slotLastResult slot.toNat]
        ∧ u = { s.arrived q.src with od := u.od, log := u.log, perf := u.perf }
        ∧ (r = 6 → u.log = (s.arrived q.src).log)))
  ∧ (∀ (s : State) (n : Nat) (blob : List Byte),
      (blob.length ≠ 40 → blob.length ≠ 145 → s.loadRoot n blob = .inr 7)
      ∧ (∀ root, s.loadRoot n blob = .inl root → (field blob 0 1 = 1 ∨ field blob 0 1 = 2) ∧ s.slotInUse n = false
          ∧ (s.slot n).gen ≠ 0xFFFFFFFE ∧ (field blob 4 4 = 0xFFFFFFFF ∨ field blob 4 4 = checkValue root)
          ∧ (field blob 1 1 = 0 → s.ctl.mode = .maintenance ∧ s.flag OD.pipesPlainKeyLoad = true ∧ root = slice blob 8 32)))
  ∧ (∀ (s : State) (q : Req) (slot : BitVec 8) (i : Instr), i = .keySlotErase q slot → s.accepts i = true →
      ((s.arrived q.src).slotInUse slot.toNat = true → exec i s
          = .next (((s.arrived q.src).put (OD.slotLastResult slot.toNat) 5).answered i (refusedReply 5)))
      ∧ ((s.arrived q.src).slotInUse slot.toNat = false → (s.slot slot.toNat).type = 0 → exec i s
          = .next (((s.arrived q.src).put (OD.slotLastResult slot.toNat) 0).answered i okReply))
      ∧ ((s.arrived q.src).slotInUse slot.toNat = false → (s.slot slot.toNat).type ≠ 0 → ∃ u : State,
          exec i s = .next (((u.freeSlot slot.toNat).put (OD.slotLastResult slot.toNat) 0).answered i okReply)
          ∧ u.slot slot.toNat = { Slot.empty with gen := (s.slot slot.toNat).gen } ∧ (∀ n, n ≠ slot.toNat → u.slot n = s.slot n)
          ∧ u.tables = s.tables ∧ u.dram = s.dram ∧ u.ctl = s.ctl))
  ∧ (∀ (s : State) (q : Req) (id : BitVec 16) (slot : BitVec 8) (i : Instr), (i = .passGrant q id slot ∨ i = .passRevoke q id slot) →
      s.accepts i = true →
      ((s.carriage id.toNat).state = .deleting → exec i s
          = .next (((s.arrived q.src).put OD.passesLastResult 1).answered i (refusedReply 1)))
      ∧ ((s.carriage id.toNat).state ≠ .deleting → ∃ u : State, exec i s = .next (u.answered i okReply)
          ∧ (∀ n, n < 256 → (u.passRow id.toNat).getLsbD n
              = (if n = slot.toNat then Decidable.decide (i = .passGrant q id slot) else (s.passRow id.toNat).getLsbD n))
          ∧ (∀ c, c ≠ id.toNat → u.passRow c = s.passRow c) ∧ u.get OD.passesLastResult = 0
          ∧ u.objectsAs s [OD.passesLastResult] ∧ u.tables = { s.tables with passes := u.tables.passes, aux := u.tables.aux }
          ∧ u = { s.arrived q.src with tables := u.tables, work := u.work, flush := u.flush, od := u.od, log := u.log, perf := u.perf }))
  ∧ (∀ (s : State) (q : Req) (slot : BitVec 8), s.accepts (.revokeSlot q slot) = true → ∃ u : State,
      exec (.revokeSlot q slot) s = .next (u.answered (.revokeSlot q slot) okReply)
      ∧ (∀ c n, (u.passRow c).getLsbD n = ((s.passRow c).getLsbD n && Decidable.decide (n ≠ slot.toNat)))
      ∧ u.get OD.passesLastResult = 0 ∧ u.objectsAs s [OD.passesLastResult] ∧ u.tables = { s.tables with passes := u.tables.passes, aux := u.tables.aux }
      ∧ u = { s.arrived q.src with tables := u.tables, work := u.work, flush := u.flush, od := u.od, log := u.log, perf := u.perf })

/-- An accepted SEAL_BLOB under a sealing slot answers the nonce of the slot's generation and counter, the ciphertext
and the tag, and spends the counter; at the high-water mark it waits, at the limit the slot is exhausted and the
command refused. UNSEAL_BLOB of what SEAL_BLOB returned answers the plaintext while the slot keeps its generation and
its root key of 32 bytes; another generation is refused with result 4, a wrong tag with result 5 and event 0x5040, and
nothing of the plaintext leaves. NONCE_MARK_RECORDED puts the journalled mark in force. A quarantined pipe that passes
with fewer than two mismatches in the last hour returns to service, otherwise it stays until the next BOOT;
PIPE_RETEST tests every quarantined pipe in MAINTENANCE. What the rules leave open stands as the model's choice: log
58 and log 157. Answers a next state with its own effect, under conditions on the state and the operands alone:
sealBlob, unsealBlob, nonceMarkRecorded, pipeSelftestComplete, pipeRetest. (10_cipher_and_keys.md R373;
10_cipher_and_keys.md R374; 10_cipher_and_keys.md R376; 10_cipher_and_keys.md R379; 10_cipher_and_keys.md R380;
10_cipher_and_keys.md R381; 10_cipher_and_keys.md R385) -/
def Obligations.SealedBlobs : Prop :=
  (∀ (s : State) (q : Req) (slot : BitVec 8) (aad plain : List Byte) (i : Instr) (x : Slot), i = .sealBlob q slot aad plain [] →
      s.accepts i = true → x = s.slot slot.toNat →
      (x.type ≠ 2 → exec i s = .next (((s.arrived q.src).put OD.sealingLastResult 1).answered i (refusedReply 1)))
      ∧ (x.type = 2 → (64 < aad.length ∨ plain.length < 1 ∨ 896 < plain.length) → exec i s
          = .next (((s.arrived q.src).put OD.sealingLastResult 3).answered i (refusedReply 3)))
      ∧ (x.type = 2 → aad.length ≤ 64 → 1 ≤ plain.length → plain.length ≤ 896 →
          (x.exhausted = true → exec i s = .next (((s.arrived q.src).put OD.sealingLastResult 2).answered i (refusedReply 2)))
          ∧ (x.exhausted = false → 2 ^ 64 - 2 ^ 20 ≤ x.counter → ∃ u : State, exec i s = .next (u.answered i (refusedReply 2))
              ∧ u.slot slot.toNat = { x with exhausted := true } ∧ (∀ n, n ≠ slot.toNat → u.slot n = s.slot n))
          ∧ (x.exhausted = false → x.counter < 2 ^ 64 - 2 ^ 20 → x.mark + 2 ^ 20 ≤ x.counter → exec i s
              = .next (State.goesOnFor { s.arrived q.src with crypt := { s.crypt with sealWaits := s.crypt.sealWaits
                  ++ [SealWait.mk q.src q.tag.toNat slot.toNat aad plain s.uptime []] } } i OD.sealingSeal))
          ∧ (x.exhausted = false → x.counter < 2 ^ 64 - 2 ^ 20 → x.counter < x.mark + 2 ^ 20 → ∃ u : State,
              exec i s = .next (u.answered i (okPayload (gcmNonce x.gen x.counter
                ++ gcmCrypt (sealKey x.root) (gcmNonce x.gen x.counter) plain
                ++ gcmTag (sealKey x.root) (gcmNonce x.gen x.counter) aad (gcmCrypt (sealKey x.root) (gcmNonce x.gen x.counter) plain))))
              ∧ u.slot slot.toNat = { x with counter := x.counter + 1, passed63 := x.passed63 || Decidable.decide (2 ^ 63 ≤ x.counter + 1) }
              ∧ (∀ n, n ≠ slot.toNat → u.slot n = s.slot n) ∧ u.get OD.sealingLastResult = 0 ∧ u.objectsAs s [OD.sealingLastResult]
              ∧ u = { s.arrived q.src with crypt := u.crypt, eflash := u.eflash, od := u.od, log := u.log, perf := u.perf })))
  ∧ (∀ (s : State) (q : Req) (slot : BitVec 8) (aad nonce ct tag : List Byte) (i : Instr) (x : Slot),
      i = .unsealBlob q slot aad nonce ct tag [] → s.accepts i = true → x = s.slot slot.toNat → x.type = 2 → aad.length ≤ 64 →
      nonce.length = 12 → 1 ≤ ct.length → ct.length ≤ 896 → tag.length = 16 →
      (field nonce 0 4 ≠ x.gen → exec i s = .next (((s.arrived q.src).put OD.sealingLastResult 4).answered i (refusedReply 4)))
      ∧ (field nonce 0 4 = x.gen → exec i s = .next (if gcmTag (sealKey x.root) nonce aad ct = tag
          then ((s.arrived q.src).put OD.sealingLastResult 0).answered i (okPayload (gcmCrypt (sealKey x.root) nonce ct))
          else (((s.arrived q.src).raise 0x5040 0 [(.u16, slot.toNat)]).put OD.sealingLastResult 5).answered i (refusedReply 5))))
  ∧ (∀ key nonce plain : List Byte, key.length = 32 → gcmCrypt key nonce (gcmCrypt key nonce plain) = plain)
  ∧ (∀ root : List Byte, root.length = 32 → (sealKey root).length = 32)
  ∧ (∀ (s : State) (n : Fin 257), s.crypt.sealWaits = [] → ∃ t, exec (.nonceMarkRecorded n) s = .next t
      ∧ (n.val = 256 → t.crypt = { s.crypt with vaultMark := max s.crypt.vaultMark (s.markOf n.val) })
      ∧ (n.val < 256 → t.slot n.val = { s.slot n.val with mark := max (s.slot n.val).mark (s.markOf n.val) }
          ∧ ∀ m, m ≠ n.val → t.slot m = s.slot m) ∧ t = { s with crypt := t.crypt })
  ∧ (∀ (s : State) (p : Pipe) (pass : Bool), s.crypt.testing.getLsbD p.val = true → ∃ t, exec (.pipeSelftestComplete p pass) s = .next t
      ∧ (pass = true → s.recentMismatches p.val < 2 → t.crypt.quarantined = s.crypt.quarantined &&& ~~~(1#40 <<< p.val))
      ∧ ((pass = false ∨ 2 ≤ s.recentMismatches p.val) → t.crypt.quarantined = s.crypt.quarantined
          ∧ t.crypt.untilBoot.getLsbD p.val = true)
      ∧ t.crypt.testing = s.crypt.testing &&& ~~~(1#40 <<< p.val)
      ∧ t = { s with crypt := { s.crypt with testing := t.crypt.testing, quarantined := t.crypt.quarantined, untilBoot := t.crypt.untilBoot }, od := t.od, log := t.log, perf := t.perf })
  ∧ (∀ (s : State) (q : Req) (pass : BitVec 40) (i : Instr), i = .pipeRetest q pass → s.accepts i = true →
      (s.ctl.mode ≠ .maintenance → exec i s = .next (((s.arrived q.src).put OD.pipesLastResult 1).answered i (refusedReply 1)))
      ∧ (s.ctl.mode = .maintenance → ∃ u : State, exec i s = .next (u.answered i okReply) ∧ u.get OD.pipesLastResult = 0
          ∧ (∀ p, p < 40 → u.crypt.quarantined.getLsbD p
              = (s.crypt.quarantined.getLsbD p && !(pass.getLsbD p && Decidable.decide (s.recentMismatches p < 2))))
          ∧ u = { s.arrived q.src with crypt := { s.crypt with testing := u.crypt.testing, quarantined := u.crypt.quarantined, untilBoot := u.crypt.untilBoot }, od := u.od, log := u.log, perf := u.perf }))

/-- A packet whose PCRC and sequence number are right is delivered at its destination stop, and elsewhere it leaves on
the next link of its ring, or of the other ring where that link has failed, and is kept for replay; a packet whose
source is the stop the link leaves from is the link's own and is kept for replay too as it was sent, however it
arrives; the receiver's sequence number advances by one. A wrong PCRC, or a good packet with another number, is
replayed and delivers nothing. A failed link sends its replay buffer again on the other ring in its original order;
every stop without a path is isolated, and only then a decision asked for each. A failed die bridge is noted, with its
eight replays, and a decision asked for; where one of the eight succeeds, the bridge stays and the replays are noted.
What the rules leave open stands as the model's choice: log 120, log 121 and log 122. Answers a next state with its
own effect, under conditions on the state and the operands alone: loopLinePacket, linkFailure, dieBridgeFailure.
(01_regions_and_islands.md R16; 01_regions_and_islands.md R23; 01_regions_and_islands.md R24;
01_regions_and_islands.md R25; 01_regions_and_islands.md R26; 01_regions_and_islands.md R27; 01_regions_and_islands.md
R37) -/
def Obligations.LoopLine : Prop :=
  (∀ (s : State) (n : Link) (k : Packet),
      ((k.src.toNat ≠ linkStart n.val ∨ (s.link n.val).replays ≠ 0) → s.injected n.val k = s)
      ∧ (k.src.toNat = linkStart n.val → (s.link n.val).replays = 0 →
          (s.injected n.val k).link n.val = { s.link n.val with txSeq := (s.link n.val).txSeq + 1, buffer := (k :: (s.link n.val).buffer).take 32 }
          ∧ (∀ m, m ≠ n.val → (s.injected n.val k).link m = s.link m)
          ∧ s.injected n.val k = { s with loop := { s.loop with links := (s.injected n.val k).loop.links } }))
  ∧ (∀ (s : State) (n : Link) (seq : BitVec 8) (k x : Packet) (sent : Option Packet), x = sent.getD k →
      s.mainDieRuns = true → (s.link n.val).failed = false →
      (packetGood k = true → seq = (s.link n.val).rxSeq → k.dst.toNat = linkEnd n.val → ∃ t, exec (.loopLinePacket n seq k sent) s = .next t
        ∧ t.loop.delivered = (k :: s.loop.delivered).take 64
        ∧ t.link n.val = { (s.injected n.val x).link n.val with rxSeq := (s.link n.val).rxSeq + 1, replays := 0 }
        ∧ (∀ m, m ≠ n.val → t.link m = s.link m) ∧ t = { s with loop := { s.loop with links := t.loop.links, delivered := t.loop.delivered } })
      ∧ (packetGood k = true → seq = (s.link n.val).rxSeq → k.dst.toNat ≠ linkEnd n.val →
          ∀ m, m = (if (s.link (nextLink (Decidable.decide (n.val < 8)) (linkEnd n.val))).failed
                    then nextLink (!Decidable.decide (n.val < 8)) (linkEnd n.val) else nextLink (Decidable.decide (n.val < 8)) (linkEnd n.val)) →
          ∃ t, exec (.loopLinePacket n seq k sent) s = .next t
            ∧ t.link m = { s.link m with txSeq := (s.link m).txSeq + 1, buffer := (k :: (s.link m).buffer).take 32 }
            ∧ t.link n.val = { (s.injected n.val x).link n.val with rxSeq := (s.link n.val).rxSeq + 1, replays := 0 }
            ∧ (∀ j, j ≠ n.val → j ≠ m → t.link j = s.link j) ∧ t = { s with loop := { s.loop with links := t.loop.links } })
      ∧ ((packetGood k = false ∨ seq ≠ (s.link n.val).rxSeq) → (s.link n.val).replays < 3 → (s.link n.val).times.length < 15 →
          ∀ p, p = s.injected n.val x →
          ∃ t, exec (.loopLinePacket n seq k sent) s = .next t
            ∧ t.link n.val = { p.link n.val with replays := (s.link n.val).replays + 1, times := s.uptime :: (s.link n.val).times }
            ∧ t.loop.delivered = s.loop.delivered ∧ (∀ m, m ≠ n.val → t.link m = s.link m)
            ∧ t = { s with loop := t.loop, perf := t.perf, log := t.log, od := t.od }))
  ∧ (∀ (s : State) (n : Link) (seq : BitVec 8) (k : Packet) (sent : Option Packet), (s.mainDieRuns = false ∨ (s.link n.val).failed = true) →
      exec (.loopLinePacket n seq k sent) s = .next s.unlist)
  ∧ (∀ (s : State) (n : Link), s.mainDieRuns = true → (∀ m, (s.link m).failed = false) →
      ∀ m, m = nextLink (!Decidable.decide (n.val < 8)) (linkStart n.val) → ∃ t, exec (.linkFailure n) s = .next t
        ∧ t.link n.val = { s.link n.val with failed := true, buffer := [], replays := 0 }
        ∧ (t.link m).buffer.take 32 = ((s.link n.val).buffer ++ (s.link m).buffer).take 32
        ∧ (t.link m).txSeq = (s.link m).txSeq + BitVec.ofNat 8 (s.link n.val).buffer.length
        ∧ (∀ j, j ≠ n.val → j ≠ m → t.link j = s.link j) ∧ (∀ d, s.flush.drill = some d → t.flush.drill = some { d with spoiled := true })
        ∧ t = { s with loop := { s.loop with links := t.loop.links }, flush := t.flush, host := t.host, perf := t.perf, log := t.log, od := t.od })
  ∧ (∀ (s : State) (n : Link), s.mainDieRuns = true → (s.link n.val).failed = true → exec (.linkFailure n) s = .next s)
  ∧ (∀ (s : State) (lost : List Nat), lost = (List.range 8).filter (fun x => !s.loop.isolated.getLsbD x && s.stopLost x) →
      (lost = [] → s.isolateStops = s)
      ∧ ∃ u : State, s.isolateStops = lost.foldl (fun s x => s.requestDecision (regionOfStop x)) u
        ∧ (∀ x < 8, u.loop.isolated.getLsbD x = (s.loop.isolated.getLsbD x || s.stopLost x))
        ∧ u = { s with loop := { s.loop with isolated := u.loop.isolated }, perf := u.perf, log := u.log, od := u.od })
  ∧ (∀ s : State, s.mainDieRuns = true → s.loop.bridgeFailed = false → ∃ u : State, exec .dieBridgeFailure s = .next (u.requestDecision .signalBox)
      ∧ u.loop = { s.loop with bridgeFailed := true, bridgeReplays := 8 }
      ∧ u = { s with loop := u.loop, perf := u.perf, log := u.log, od := u.od })
  ∧ (∀ (s : State) (k : Fin 8), s.mainDieRuns = true → s.loop.bridgeFailed = false → ∃ t, exec (.dieBridgeFailure (some k)) s = .next t
      ∧ t.loop = { s.loop with bridgeReplays := k.val + 1 }
      ∧ t = { s with loop := t.loop, perf := t.perf, log := t.log, od := t.od })

/-- A GAUGE_SAMPLE becomes the reading and is shown in its objects; the count moves by the charge that flowed, the
quiet window goes on or begins again, rest ends at 50 mA, and the planning SOC is the one R400 names for the class. A
pack below 4 V is absent, with no planning SOC and no usable energy. A REST_POINT below 50 mA anchors the count at the
OCV lookup of the lowest cell and becomes the next learning's point A; a difference above 15 points sets Disagreement
and forces a re-learning. What the rules leave open stands as the model's choice: log 10, log 100 and log 101. Answers
a next state with its own effect, under conditions on the state and the operands alone: gaugeSample, packAbsent,
restPoint. (11_power_battery_ageing.md R395; 11_power_battery_ageing.md R396; 11_power_battery_ageing.md R397;
11_power_battery_ageing.md R398; 11_power_battery_ageing.md R399; 11_power_battery_ageing.md R400;
11_power_battery_ageing.md R401) -/
def Obligations.GaugeSamples : Prop :=
  (∀ (s : State) (r : GaugeReading), s.gauge.absent = false → ∃ t, exec (.gaugeSample r) s = .next t
      ∧ t.gauge.reading = some r ∧ t.gauge.charge = s.gauge.charge + r.charge ∧ t.gauge.anchorDue = false
      ∧ t.gauge.ocvNow = s.ocvLookup (lowestOf r) ∧ t.gauge.absent = false ∧ t.gauge.mark = s.gauge.mark
      ∧ t.gauge.warmEnough = (s.gauge.warmEnough && Decidable.decide (100 ≤ tempOf r))
      ∧ (s.gauge.anchorDue = true → t.gauge.coulomb = s.ocvLookup (lowestOf r) * 10000)
      ∧ (s.gauge.anchorDue = false → s.flag OD.gaugeAtRest = false → 0 < s.get OD.learningLearnedCapacity →
          (t.gauge.coulomb : Int) = max 0 (min 100000000
            ((s.gauge.coulomb : Int) - r.charge * 100000000 / ((360 * s.get OD.learningLearnedCapacity : Nat) : Int))))
      ∧ (50 ≤ r.current.natAbs → t.flag OD.gaugeAtRest = false ∧ t.gauge.quietSince = s.uptime)
      ∧ (r.current.natAbs < 50 → t.flag OD.gaugeAtRest = s.flag OD.gaugeAtRest)
      ∧ t.get OD.gaugePackState = t.packClass ∧ t.get OD.gaugeSocPlanning = (t.planningSoc r).1
      ∧ t.get OD.gaugeSocVoltage = t.socVoltage r ∧ t.get OD.gaugeSocCoulomb = t.gauge.coulomb / 10000
      ∧ t.blob OD.gaugeCellVoltages = (cellsOf r).flatMap (toBytes 2)
      ∧ t.ctl = s.ctl ∧ t.dram = s.dram ∧ t.flash = s.flash ∧ t.tables = s.tables)
  ∧ (∀ s : State,
      (s.packClass < 3 → ∀ r, s.planningSoc r = (0, 0) ∧ s.packEnergy = 0)
      ∧ (3 ≤ s.packClass → ∀ r,
          (s.flag OD.gaugeAtRest = true → s.planningSoc r = (s.gauge.ocvNow, 1))
          ∧ (s.flag OD.gaugeAtRest = false → (s.planningSoc r).1 = min (s.gauge.coulomb / 10000) (s.socVoltage r)))
      ∧ (s.get OD.gaugeDesignCapacity = 0 → s.packClass = 0)
      ∧ (s.get OD.gaugeDesignCapacity ≠ 0 → s.gauge.absent = true → s.packClass = 1)
      ∧ (∀ r, s.get OD.gaugeDesignCapacity ≠ 0 → s.gauge.absent = false → s.gauge.reading = some r →
          ((∃ v ∈ cellsOf r, v < 2500 ∨ 4350 < v) ∨ tempOf r < -200 → s.packClass = 2)
          ∧ ((∀ v ∈ cellsOf r, 2500 ≤ v ∧ v ≤ 4350) → -200 ≤ tempOf r → s.packClass = (if s.gauge.provisional then 3 else 4))))
  ∧ (∀ s : State, s.gauge.absent = false → (∀ r, s.gauge.reading = some r → packOf r < 4000) → s.get OD.gaugeDesignCapacity ≠ 0 →
      ∃ t, exec .packAbsent s = .next t ∧ t.gauge = { s.gauge with absent := true, unbroken := false } ∧ t.flag OD.gaugeAtRest = false
        ∧ t.get OD.gaugePackState = 1 ∧ t.get OD.gaugeUsableEnergy = 0 ∧ t.ctl = s.ctl ∧ t.dram = s.dram ∧ t.tables = s.tables)
  ∧ (∀ (s : State) (r : GaugeReading), s.gauge.reading = some r → r.current.natAbs < 50 → s.gauge.absent = false →
      s.flag OD.gaugeAtRest = false → s.gauge.mark = none → ∀ soc, soc = s.ocvLookup (lowestOf r) → ∃ t, exec .restPoint s = .next t
        ∧ t.flag OD.gaugeAtRest = true ∧ t.get OD.gaugeSocRest = soc ∧ t.gauge.coulomb = soc * 10000 ∧ t.gauge.charge = 0
        ∧ t.gauge.mark = some { soc := soc, time := s.uptime } ∧ t.gauge.provisional = false ∧ t.gauge.unbroken = true
        ∧ (1500 < max soc (s.gauge.coulomb / 10000) - min soc (s.gauge.coulomb / 10000) → t.flag OD.gaugeDisagreement = true
            ∧ t.flag OD.learningForcedRelearn = true)
        ∧ (max soc (s.gauge.coulomb / 10000) - min soc (s.gauge.coulomb / 10000) ≤ 1500 →
            t.flag OD.gaugeDisagreement = s.flag OD.gaugeDisagreement)
        ∧ t.ctl = s.ctl ∧ t.dram = s.dram ∧ t.tables = s.tables)

/-- The first resistance measurement replaces LearnedR25 and sets InitialR25, later ones enter by a quarter; a higher
value applies at once, a lower one with its record. A learning between two rest points is accepted only past every
check of R404; an accepted one enters whole when forced and by a quarter otherwise, clears the force and Disagreement,
and a lower capacity applies at once. LEARNING_RECORD_WRITE journals the 32 bytes of R408 and puts waiting values in
force. ENERGY_RECOMPUTE reports E_b. RELEARN forces a re-learning. DAY_COUNT adds a day, up to 65,535. The reserve
follows R415. What the rules leave open stands as the model's choice: log 100 and log 102. Answers a next state with
its own effect, under conditions on the state and the operands alone: packResistanceMeasured, learningRecordWrite,
energyRecompute, relearn, dayCount. (11_power_battery_ageing.md R402; 11_power_battery_ageing.md R403;
11_power_battery_ageing.md R404; 11_power_battery_ageing.md R405; 11_power_battery_ageing.md R406;
11_power_battery_ageing.md R407; 11_power_battery_ageing.md R408; 11_power_battery_ageing.md R415) -/
def Obligations.Learning : Prop :=
  (∀ (s : State) (r : GaugeReading) (res new v : Nat), s.gauge.reading = some r →
      new = ((res : Rat) / s.factor (tempOf r)).floor.toNat →
      v = (if s.get OD.learningInitialR25 = 0 then new else (3 * s.r25Now + new) / 4) →
      ∃ t, exec (.packResistanceMeasured res) s = .next t ∧ t.r25Now = v
        ∧ t.get OD.learningLearnedR25 = max (s.get OD.learningLearnedR25) v ∧ t.gauge.recordDue = true
        ∧ t.get OD.learningInitialR25 = (if s.get OD.learningInitialR25 = 0 then new else s.get OD.learningInitialR25)
        ∧ t.get OD.learningLearnedCapacity = s.get OD.learningLearnedCapacity ∧ t.get OD.marginReserveShare = t.reserveShare
        ∧ t = { s with gauge := t.gauge, od := t.od, unrecorded := t.unrecorded, host := t.host, flush := t.flush, log := t.log, perf := t.perf })
  ∧ (∀ (s : State) (a : RestMark) (soc d new : Nat), d = max soc a.soc - min soc a.soc → new = s.gauge.charge.natAbs * 10000 / (d * 360) →
      (d < s.get OD.learningLearnMinSwing * 100 → s.learnBetween a soc = s.rejectCapacity 1)
      ∧ (s.get OD.learningLearnMinSwing * 100 ≤ d →
          (s.gauge.warmEnough = false → s.learnBetween a soc = s.rejectCapacity 2)
          ∧ (s.gauge.warmEnough = true → a.time + 14 * 86400 * 1000000000 < s.uptime → s.learnBetween a soc = s.rejectCapacity 3)
          ∧ (s.gauge.warmEnough = true → s.uptime ≤ a.time + 14 * 86400 * 1000000000 →
              (s.gauge.unbroken = false → s.learnBetween a soc = s.rejectCapacity 4)
              ∧ (s.gauge.unbroken = true → (2 * new < s.get OD.gaugeDesignCapacity ∨ 11 * s.get OD.gaugeDesignCapacity < 10 * new) →
                  s.learnBetween a soc = s.rejectCapacity 5)
              ∧ (s.gauge.unbroken = true → s.get OD.gaugeDesignCapacity ≤ 2 * new → 10 * new ≤ 11 * s.get OD.gaugeDesignCapacity →
                  s.learnBetween a soc = s.acceptCapacity new))))
  ∧ (∀ (s : State) (new q : Nat), q = (if s.flag OD.learningForcedRelearn then new else (3 * s.capacityNow + new) / 4) →
      (s.acceptCapacity new).capacityNow = q ∧ (s.acceptCapacity new).flag OD.learningForcedRelearn = false
      ∧ (s.acceptCapacity new).get OD.learningLearnedCapacity = min (s.get OD.learningLearnedCapacity) q
      ∧ (s.acceptCapacity new).flag OD.gaugeDisagreement = false ∧ (s.acceptCapacity new).get OD.learningDaysSinceLearning = 0
      ∧ (s.acceptCapacity new).get OD.learningLastLearnTime = s.clock ∧ (s.acceptCapacity new).gauge.recordDue = true)
  ∧ (∀ s : State, s.gauge.recordDue = true → s.packWeak = false → s.eflash.busy = none → s.eflashReady = true →
      ∃ t, exec .learningRecordWrite s = .next t ∧ t.gauge.recordDue = false ∧ t.get OD.learningLearnedCapacity = s.capacityNow
        ∧ t.get OD.learningLearnedR25 = s.r25Now ∧ t.get OD.learningRecordSeq = (s.get OD.learningRecordSeq + 1) % 2 ^ 32
        ∧ s.learningRecord.length = 32 ∧ t.gauge = { s.gauge with recordDue := false, recordFlags := 0, waitingCapacity := none, waitingR25 := none }
        ∧ t.ctl = s.ctl ∧ t.tables = s.tables ∧ t.dram = s.dram)
  ∧ (∀ s : State, s.gauge.recordDue = true → s.packWeak = true → exec .learningRecordWrite s = .next s)
  ∧ (∀ s : State, ∃ t, exec .energyRecompute s = .next t ∧ t.get OD.gaugeUsableEnergy = s.packEnergy
      ∧ t = { s with od := t.od, flush := t.flush, host := t.host, log := t.log, perf := t.perf })
  ∧ (∀ (s : State) (q : Req), s.accepts (.relearn q) = true → exec (.relearn q) s
      = .next (((s.arrived q.src).putFlag OD.learningForcedRelearn true).answered (.relearn q) okReply))
  ∧ (∀ s : State, ∃ t, exec .dayCount s = .next t ∧ t.get OD.marginReserveShare = t.reserveShare
      ∧ t.get OD.learningDaysSinceLearning = min (s.get OD.learningDaysSinceLearning + 1) 65535
      ∧ OD.learningDaysSinceLearning ∈ t.unrecorded ∧ t.gauge = { s.gauge with dayTime := s.uptime }
      ∧ t = { s with gauge := t.gauge, od := t.od, unrecorded := t.unrecorded, host := t.host, flush := t.flush, log := t.log, perf := t.perf })

/-- A monitor sample is kept per sensor, with the worst drift, the worst slack and its time. A re-plan that is due
runs in SERVICE or MAINTENANCE while not armed and without a drill, and otherwise waits with Deferred set; it records
its time and cause, clears the drift and asks for the highest offset any domain calls for, and a domain's call is the
first matching row of R413. A wait of more than 24 h is reported once. VTRIM_STEP moves the offset 5 mV toward the
target, at most every 10 ms, and not while armed or during a drill. What the rules leave open stands as the model's
choice: log 8, log 103, log 104 and log 171. Answers a next state with its own effect, under conditions on the state
and the operands alone: monitorSample, replan, replanDue, replanNow, vtrimStep, thermalThreshold,
replanDeferralOverdue. (11_power_battery_ageing.md R410; 11_power_battery_ageing.md R411; 11_power_battery_ageing.md
R413; 11_power_battery_ageing.md R414; 11_power_battery_ageing.md R415; 11_power_battery_ageing.md R416;
11_power_battery_ageing.md R417; 17_electrical_and_package.md R610) -/
def Obligations.MarginPlan : Prop :=
  (∀ (s : State) (rs : List MonitorReading), rs.length = 96 → ∃ t, exec (.monitorSample rs) s = .next t
      ∧ (∀ n, n < 96 → t.sensor n = rs.getD n MonitorReading.initial) ∧ t.get OD.monitorWorstDrift = ofSigned (bitsOfKey OD.monitorWorstDrift) t.worstDrift
      ∧ t.get OD.monitorWorstSlack = ofSigned (bitsOfKey OD.monitorWorstSlack) (t.slackFrom 64 32) ∧ t.get OD.monitorLastSample = s.clock
      ∧ (∀ k, k ∉ [OD.monitorWorstDrift, OD.monitorWorstSlack, OD.monitorLastSample] → t.get k = s.get k)
      ∧ t = { s with monitors := t.monitors, od := t.od })
  ∧ (∀ (s : State) (cause : Nat), (s.mayReplan = true →
        (s.replanAsked cause).margin.target = calledOffset s.margin.target s.domainCalls ∧ (s.replanAsked cause).margin.due = none
        ∧ (s.replanAsked cause).get OD.marginLastReplanTime = s.clock ∧ (s.replanAsked cause).get OD.marginLastReplanCause = cause
        ∧ (s.replanAsked cause).flag OD.marginDeferred = false ∧ (s.replanAsked cause).get OD.marginVtrimOffset = s.get OD.marginVtrimOffset
        ∧ (∀ n, ((s.replanAsked cause).sensor n).driftReplan = 0)
        ∧ (s.replanAsked cause).tables = s.tables ∧ (s.replanAsked cause).ctl = s.ctl)
      ∧ (s.mayReplan = false → (s.replanAsked cause).flag OD.marginDeferred = true
        ∧ (s.replanAsked cause).margin = { s.margin with due := some (s.margin.due.getD cause), dueSince := if s.margin.due.isSome then s.margin.dueSince else s.uptime }
        ∧ (s.replanAsked cause) = { s with margin := (s.replanAsked cause).margin, od := (s.replanAsked cause).od }))
  ∧ (∀ s : State,
      ((s.get OD.monitorDriftTrigger * 100 : Nat) < s.worstDrift → exec .replanDue s = .next (s.replanAsked 2))
      ∧ (s.worstDrift ≤ (s.get OD.monitorDriftTrigger * 100 : Nat) → exec .replanDue s = .next (s.replanAsked 1))
      ∧ (∀ q : Req, s.accepts (.replanNow q) = true → exec (.replanNow q) s
          = .next (((s.arrived q.src).replanAsked 3).answered (.replanNow q) okReply))
      ∧ (∀ c : Fin 4, s.reloads 6 = false → (∀ d, s.margin.due = some d → d ≠ 0 → exec (.replan c) s = .next (s.replanAsked d))
          ∧ (s.margin.due = none → c.val ≠ 0 → exec (.replan c) s = .next (s.replanAsked c.val)))
      ∧ (s.margin.due.isSome = true → s.margin.overdue = false → exec .replanDeferralOverdue s
          = .next ({ s with margin := { s.margin with overdue := true } }.note 0x6031)))
  ∧ (∀ (slack : Int) (low top offset derate : Nat),
      (slack < (low * 100 : Nat) → offset < top → domainCall slack low top offset derate
          = { offset := some (min top (offset + if slack < (low * 100 : Nat) - 200 then 10 else 5)), derate := derate, event := 0 })
      ∧ (slack < (low * 100 : Nat) → top ≤ offset → derate < 4 → domainCall slack low top offset derate
          = { offset := none, derate := derate + 1, event := 0x6032 })
      ∧ (slack < (low * 100 : Nat) → top ≤ offset → 4 ≤ derate → domainCall slack low top offset derate
          = { offset := none, derate := derate, event := 0x6033 })
      ∧ ((low * 100 : Nat) + 700 < slack → 0 < derate → domainCall slack low top offset derate
          = { offset := none, derate := derate - 1, event := 0 })
      ∧ ((low * 100 : Nat) + 700 < slack → derate = 0 → 0 < offset → domainCall slack low top offset derate
          = { offset := some (offset - 5), derate := 0, event := 0 })
      ∧ ((low * 100 : Nat) ≤ slack → slack ≤ (low * 100 : Nat) + 700 → domainCall slack low top offset derate
          = { offset := none, derate := derate, event := 0 }))
  ∧ (∀ s : State,
      (s.armedPower = false → s.flush.drill = none → (s.margin.lastStep = 0 ∨ s.margin.lastStep + 10000000 ≤ s.uptime) →
        ∃ t, exec .vtrimStep s = .next t
          ∧ (s.get OD.marginVtrimOffset < s.margin.target → t.get OD.marginVtrimOffset = s.get OD.marginVtrimOffset + 5)
          ∧ (s.margin.target < s.get OD.marginVtrimOffset → t.get OD.marginVtrimOffset = s.get OD.marginVtrimOffset - 5)
          ∧ (s.get OD.marginVtrimOffset = s.margin.target → t = s) ∧ (∀ k, k ≠ OD.marginVtrimOffset → t.get k = s.get k)
          ∧ t = { s with margin := { s.margin with lastStep := t.margin.lastStep }, od := t.od, unrecorded := t.unrecorded })
      ∧ ((s.armedPower = true ∨ s.flush.drill.isSome = true ∨ (s.margin.lastStep ≠ 0 ∧ s.uptime < s.margin.lastStep + 10000000)) →
          exec .vtrimStep s = .next s))
  ∧ (∀ (s : State) (main : Bool) (temp : Int), ∃ t, exec (.thermalThreshold main temp) s = .next t
      ∧ (temp < 1000 → t = s) ∧ (1000 ≤ temp → temp ≤ 1050 → t = s.raise 0x6310 temp.toNat [(.u8, if main then 0 else 1)])
      ∧ t = { s with od := t.od, log := t.log, perf := t.perf })

/-- A record written in three steps becomes its item's current record in the first slot past the abandoned ones, and
every other item keeps its current record. An erase is not started while it is barred or a current record lies in the
sector; an erase that is started counts its attempts, leaves no record in the sector and changes no item's current
record; a sector that fails three times is retired. Compaction of the journal keeps the payload of every item of a
known type, and waits while an erase is barred; the rewriting of a weak record keeps every item's payload. Below the
early-warning level nothing is written. What the rules leave open stands as the model's choice: log 70, log 105 and
log 108. Answers a next state with its own effect, under conditions on the state and the operands alone:
eflashRecordWrite, eflashSectorErase, journalCompaction, marginReadDue. (14_cores_and_embedded_flash.md R505;
14_cores_and_embedded_flash.md R508; 14_cores_and_embedded_flash.md R510; 14_cores_and_embedded_flash.md R512;
14_cores_and_embedded_flash.md R514; 14_cores_and_embedded_flash.md R515; 14_cores_and_embedded_flash.md R516;
14_cores_and_embedded_flash.md R521) -/
def Obligations.EmbeddedFlash : Prop :=
  (∀ (s : State) (n : Fin 4) (type : BitVec 16) (key : BitVec 32) (payload : List Byte) (mm : Nat) (r : LogRegion), r = s.eflash.region n.val →
      s.eflashReady = true → r.nextSlot + mm ≤ 31 → (∀ x ∈ r.recs, x.seq < r.seq) →
      ∃ t, exec (.eflashRecordWrite n type key payload mm) s = .next t
        ∧ (t.eflash.region n.val).current type.toNat key.toNat = some { sector := r.headSector, slot := r.nextSlot + mm, type := type.toNat, key := key.toNat, seq := r.seq, payload := payload.take 104, mark := .valid, intact := true }
        ∧ (∀ ty ky, (ty ≠ type.toNat ∨ ky ≠ key.toNat) → (t.eflash.region n.val).current ty ky = r.current ty ky)
        ∧ (∀ m : Fin 4, m ≠ n → t.eflash.region m.val = s.eflash.region m.val) ∧ (t.eflash.region n.val).nextSlot = r.nextSlot + mm + 1
        ∧ t = { s with eflash := t.eflash })
  ∧ (∀ (s : State) (n : Fin 4) (type : BitVec 16) (key : BitVec 32) (payload : List Byte) (mm : Nat), s.pins.vsbEarly = true →
      exec (.eflashRecordWrite n type key payload mm) s = .next s)
  ∧ (∀ (s : State) (x : Fin 4096) (p : Option (Fin 3)), (s.eraseBarred = true ∨ s.sectorFree x.val = false) →
      exec (.eflashSectorErase x p) s = .next s)
  ∧ (∀ (s : State), (s.armedPower = true ∨ s.ctl.mode = .save ∨ s.pins.vsbEarly = true ∨ s.eflash.busy.isSome = true
        ∨ (s.ctl.mode = .vault ∧ 2 ≤ s.eflash.journal.freeSectors)
        ∨ (s.ctl.mode = .boot ∧ s.reachedStep 1 = true ∧ s.reachedStep 3 = false)) → s.eraseBarred = true)
  ∧ (∀ (s : State) (x : Fin 4096) (n : Nat), s.eraseBarred = false → s.sectorFree x.val = true → s.regionOfSector x.val = some n →
      (∀ k : Fin 3, ∃ t, exec (.eflashSectorErase x (some k)) s = .next t ∧ t.eflash.busy = some (.erase x.val)
        ∧ t.eflash.eraseCount x.val = s.eflash.eraseCount x.val + k.val + 1 ∧ (∀ y, y ≠ x.val → t.eflash.eraseCount y = s.eflash.eraseCount y)
        ∧ (∀ y ∈ (t.eflash.region n).recs, y.sector ≠ x.val) ∧ (∀ ty ky m, (t.eflash.region m).current ty ky = (s.eflash.region m).current ty ky)
        ∧ t = { s with eflash := t.eflash, od := t.od, log := t.log, perf := t.perf })
      ∧ (∃ t, exec (.eflashSectorErase x none) s = .next t ∧ x.val ∈ t.eflash.retired ∧ (s.eflash.spares.head? ≠ some x.val → x.val ∉ (t.eflash.region n).ring)
        ∧ t.eflash.eraseCount x.val = s.eflash.eraseCount x.val + 3
        ∧ (∀ y ys, s.eflash.spares = y :: ys → t.eflash.spares = ys ∧ y ∈ (t.eflash.region n).ring)
        ∧ t = { s with eflash := t.eflash, od := t.od, log := t.log, perf := t.perf }))
  ∧ (∀ (s : State) (oldest : Nat) (rest : List Nat) (r : LogRegion), r = s.eflash.journal → r.ring = oldest :: rest → r.ring.Nodup →
      1 < r.inUse → r.inUse < r.ring.length → r.freeSectors < 8 → (∀ x ∈ r.recs, x.payload.length ≤ 104) →
      (r.recs.filter (fun x => x.sector = oldest)).length ≤ 31 → s.regionOfSector oldest = some 2 → s.eflashReady = true → ∃ t, exec .journalCompaction s = .next t
        ∧ (∀ ty ky, knownType 2 ty = true → (t.eflash.journal.current ty ky).map (·.payload) = (r.current ty ky).map (·.payload))
        ∧ (s.eraseBarred = true → t = s)
        ∧ (s.eraseBarred = false → ∀ x ∈ t.eflash.journal.recs, x.sector ≠ oldest)
        ∧ t.eflash.settings0 = s.eflash.settings0 ∧ t.eflash.settings1 = s.eflash.settings1 ∧ t.eflash.summary = s.eflash.summary
        ∧ t = { s with eflash := t.eflash, od := t.od, log := t.log, perf := t.perf })
  ∧ (∀ s : State, (8 ≤ s.eflash.journal.freeSectors ∨ s.pins.vsbEarly = true) → exec .journalCompaction s = .next s)
  ∧ (∀ (s : State) (weak : List (Nat × Nat)), s.pins.vsbEarly = true → exec (.marginReadDue weak) s = .next s)
  ∧ (∀ (s : State) (weak : List (Nat × Nat)), ∃ t, exec (.marginReadDue weak) s = .next t ∧ t.eflash.summary = s.eflash.summary
      ∧ t = { s with eflash := t.eflash }
      ∧ (∀ x, s.eflashReady = true → weak = [(x.sector, x.slot)] → s.eflash.journal.current x.type x.key = some x →
          s.eflash.journal.recs.find? (fun y => y.sector = x.sector && y.slot = x.slot && y.counts) = some x →
          s.eflash.journal.nextSlot ≤ 31 → x.payload.length ≤ 104 →
          t.eflash.journal.current x.type x.key
            = some { x with sector := s.eflash.journal.headSector, slot := s.eflash.journal.nextSlot, mark := .valid, intact := true }
          ∧ ∀ ty ky, (ty ≠ x.type ∨ ky ≠ x.key) → t.eflash.journal.current ty ky = s.eflash.journal.current ty ky))

/-- LOGBOOK_RECORD takes the oldest occurrence: one of the same code and DETAIL within its rate period merges into
that record, otherwise a new record with the next SEQ is appended. A mirrored record is marked and written to the
summary. COUNTER_OVERFLOW loads Preset and counts the overflow; COUNTER_SNAPSHOT keeps every value; TICKET_CLEAR
empties the buffer. Unlock takes access level 3, MAINTENANCE and the unit's own words; Arm and Disarm work only while
unlocked. What the rules leave open stands as the model's choice: log 9, log 27, log 31, log 32, log 63, log 170, log
172, log 174 and log 195. Answers a next state with its own effect, under conditions on the state and the operands
alone: logbookRecord, logbookMirror, counterOverflow, counterSnapshot, ticketClear, perturbationUnlock,
perturbationArm, perturbationDisarm. (16_logbook_and_counters.md R559; 16_logbook_and_counters.md R560;
16_logbook_and_counters.md R562; 16_logbook_and_counters.md R564; 16_logbook_and_counters.md R574;
16_logbook_and_counters.md R575; 16_logbook_and_counters.md R579; 16_logbook_and_counters.md R581;
16_logbook_and_counters.md R582) -/
def Obligations.LogAndCounters : Prop :=
  (∀ s : State, s.reloads 7 = false → (s.log.queue = [] → exec .logbookRecord s = .next s)
      ∧ (∀ o os, s.log.queue = o :: os → ∃ t : State, exec .logbookRecord s = .next (t.notifyRecorded o.code)
          ∧ (s.ringTakes = false → (∀ n, mergeTarget o s.log.records = some n → t.log.records = updateRec n (fun r => r.merge o) s.log.records
                ∧ t.log.nextSeq = s.log.nextSeq)
              ∧ (mergeTarget o s.log.records = none → s.log.records.length + 1 + (attachRecs o s.log.nextSeq).length ≤ 65536 →
                  (∀ r ∈ s.log.records, r.seq < s.log.nextSeq) →
                  t.log.nextSeq = s.log.nextSeq + 1 + (attachRecs o s.log.nextSeq).length
                  ∧ t.log.records.take s.log.records.length = s.log.records
                  ∧ (∀ x, t.log.records[s.log.records.length]? = some x →
                      { x with hostSent := false } = LogRec.fresh o s.log.nextSeq (attachRecs o s.log.nextSeq).length)))
          ∧ (s.ringTakes = true → t.log.records = s.log.records ∧ ∀ n, mergeTarget o s.log.ring = some n →
              t.log.ring = updateRec n (fun r => r.merge o) s.log.ring)
          ∧ t = { s with log := t.log, od := t.od, perf := t.perf, out := t.out, eflash := t.eflash }))
  ∧ (∀ (r : LogRec) (o : Occurrence), (r.merge o).last = o.time ∧ (r.merge o).first = r.first ∧ (r.merge o).seq = r.seq
      ∧ (r.merge o).repeats = min (r.repeats + 1) 0xFFFFFFFF ∧ (r.merge o).min = min r.min o.value ∧ (r.merge o).max = max r.max o.value)
  ∧ (∀ (s : State) (r : LogRec), s.eflashReady = true → s.log.ring = [] → s.log.records = [r] → r.toMirror s.clock = true →
      s.eflash.summary.nextSlot ≤ 31 → 8 ≤ s.eflash.summary.freeSectors → (∀ x ∈ s.eflash.summary.recs, x.seq < s.eflash.summary.seq) → ∃ t, exec .logbookMirror s = .next t
        ∧ t.log.records = [{ r with mirrored := true, mirrorTime := s.clock + 1, mergedSince := false }]
        ∧ (t.eflash.summary.current 0x0200 (r.seq % 2 ^ 32)).map (·.payload) = some (r.bytes.take 104)
        ∧ t.get OD.summaryGeneration = (s.get OD.summaryGeneration + 1) % 2 ^ 64
        ∧ t = { s with log := t.log, eflash := t.eflash, od := t.od })
  ∧ (∀ s : State, (s.log.ring ++ s.log.records).filter (LogRec.toMirror s.clock) = [] → exec .logbookMirror s = .next s)
  ∧ (∀ (s : State) (n : Fin 1024), ((s.counter n.val).value < 2 ^ 48 → exec (.counterOverflow n) s = .next s)
      ∧ (2 ^ 48 ≤ (s.counter n.val).value → ∃ t, exec (.counterOverflow n) s = .next t
          ∧ t.counter n.val = { s.counter n.val with value := (s.counter n.val).preset, overflows := ((s.counter n.val).overflows + 1) % 2 ^ 32 }
          ∧ (∀ m, m ≠ n.val → t.counter m = s.counter m)
          ∧ ((s.counter n.val).sample = true → t.perf.samples.getLast? = some { time := s.clock, counter := n.val, overflows := ((s.counter n.val).overflows + 1) % 2 ^ 32 } ∧ (s.perf.samples.length ≤ 256 → t.perf.samples.length ≤ 256))
          ∧ ((s.counter n.val).sample = false → t.perf.samples = s.perf.samples ∧ t.od = s.od ∧ t.out = s.out)
          ∧ t = { s with perf := t.perf, od := t.od, out := t.out }))
  ∧ (∀ (s : State) (q : Req), s.accepts (.counterSnapshot q) = true → ∃ u : State,
      exec (.counterSnapshot q) s = .next (u.answered (.counterSnapshot q) okReply) ∧ u.get OD.counterSnapshotTime = s.clock
      ∧ (∀ n, mapWf (fun _ => Counter.initial) s.perf.counters = true →
          mapGet (fun _ => 0) u.perf.snapshot n = (s.counter n).value % 2 ^ 48)
      ∧ u.get OD.counterLastResult = 0 ∧ u.perf.counters = s.perf.counters
      ∧ u = { s.arrived q.src with perf := u.perf, od := u.od })
  ∧ (∀ (s : State) (q : Req), s.accepts (.ticketClear q) = true → ∃ u : State,
      exec (.ticketClear q) s = .next (u.answered (.ticketClear q) okReply)
      ∧ u.tickets = { s.tickets with stored := [] } ∧ u.get OD.ticketNextTicket = 1
      ∧ u.get OD.ticketGeneration = (s.get OD.ticketGeneration + 1) % 2 ^ 64
      ∧ (∀ k, k ∉ [OD.ticketNextTicket, OD.ticketGeneration] → u.get k = s.get k)
      ∧ u = { s.arrived q.src with tickets := u.tickets, od := u.od })
  ∧ (∀ (s : State) (q : Req) (unit : BitVec 64) (word : BitVec 32) (i : Instr), i = .perturbationUnlock q unit word → s.accepts i = true →
      (3 ≤ s.level q.src → s.ctl.mode = .maintenance → unit.toNat = s.get OD.identityUnitId → word = 0x54455354#32 →
        ∃ u : State, exec i s = .next (u.answered i okReply) ∧ u.ctl = { s.ctl with unlocked := true } ∧ u.get OD.perturbLastResult = 0
          ∧ u.objectsAs s [OD.perturbLastResult] ∧ u = { s.arrived q.src with ctl := u.ctl, od := u.od, log := u.log, perf := u.perf })
      ∧ (3 ≤ s.level q.src → s.ctl.mode ≠ .maintenance → exec i s
          = .next (((((s.arrived q.src).raise 0x8223 0 [(.u8, 1)])).put OD.perturbLastResult 1).answered i (refusedReply 1)))
      ∧ (3 ≤ s.level q.src → s.ctl.mode = .maintenance → (unit.toNat ≠ s.get OD.identityUnitId ∨ word ≠ 0x54455354#32) → exec i s
          = .next (((((s.arrived q.src).raise 0x8223 0 [(.u8, 2)])).put OD.perturbLastResult 2).answered i (refusedReply 2))))
  ∧ (∀ (s : State) (q : Req),
      (s.accepts (.perturbationArm q) = true → s.ctl.unlocked = true → s.ctl.mode = .maintenance → ∃ u : State,
        exec (.perturbationArm q) s = .next (u.answered (.perturbationArm q) okReply) ∧ u.ctl = { s.ctl with armed := true }
        ∧ u.objectsAs s [OD.perturbLastResult] ∧ u = { s.arrived q.src with ctl := u.ctl, od := u.od, log := u.log, perf := u.perf })
      ∧ (s.accepts (.perturbationArm q) = true → s.ctl.unlocked = false → exec (.perturbationArm q) s
          = .next (((s.arrived q.src).put OD.perturbLastResult 3).answered (.perturbationArm q) (refusedReply 3)))
      ∧ (s.accepts (.perturbationDisarm q) = true → s.ctl.unlocked = true → ∃ u : State,
        exec (.perturbationDisarm q) s = .next (u.answered (.perturbationDisarm q) okReply) ∧ u.ctl = { s.ctl with armed := false }
        ∧ u.objectsAs s [OD.perturbLastResult, OD.perturbLastClearCause]
        ∧ u = { s.arrived q.src with ctl := u.ctl, od := u.od, log := u.log, perf := u.perf })
      ∧ (s.accepts (.perturbationDisarm q) = true → s.ctl.unlocked = false → exec (.perturbationDisarm q) s
          = .next (((s.arrived q.src).put OD.perturbLastResult 3).answered (.perturbationDisarm q) (refusedReply 3))))

/-- CLEAR_FATAL with a SEQ removes that FATAL record and its attachments from the logbook, with 0 every FATAL record;
every other record stays in its order, the mirrored copies of what it removed are marked superseded and no other, and
event 0x8202 joins the queue. Below access level 3 it is answered ACCESS and changes no record; a SEQ that names no
FATAL record is refused with result 1. Answers a next state with its own effect, under conditions on the state and the
operands alone: clearFatal. (16_logbook_and_counters.md R563) -/
def Obligations.ClearFatal : Prop :=
  ∀ (s : State) (q : Req) (f : ReqFrame) (n : BitVec 64) (i : Instr), i = .clearFatal q n → requestOf i = some (q, f) →
    (s.accepts i = true → 3 ≤ s.level q.src ∧ ((n = 0 ∨ ∃ r ∈ s.log.records, r.severity = 3 ∧ r.seq - r.part = n.toNat) → ∃ u : State,
      exec i s = .next (u.answered i okReply)
      ∧ u.log.records = s.log.records.filter (fun r => !(r.severity == 3 && (n == 0 || r.seq - r.part == n.toNat)))
      ∧ u.eflash = { s.eflash with summary := { s.eflash.summary with recs := s.eflash.summary.recs.map (fun x =>
          if x.type = 0x0200 ∧ (∃ r ∈ s.log.records, r.severity = 3 ∧ (n = 0 ∨ r.seq - r.part = n.toNat) ∧ x.key = r.seq % 2 ^ 32)
          then { x with mark := .superseded } else x) } }
      ∧ (s.log.queue.length < 1024 → ∃ o, u.log.queue = s.log.queue ++ [o] ∧ o.code = 0x8202)
      ∧ u.get OD.logbookLastResult = 0 ∧ u.objectsAs s [OD.logbookLastResult, OD.logbookGeneration]
      ∧ u = { s.arrived q.src with log := u.log, eflash := u.eflash, od := u.od, perf := u.perf }))
    ∧ (s.reaches q f = true → findResult q.tag.toNat ((s.arrived q.src).session q.src).results = none →
      (s.arrived q.src).reach q.src f.opcode f.index f.sub = none → s.level q.src < 3 → ∃ u : State, exec i s = .next (u.answered i { status := 0x04, payload := [] })
      ∧ u.log.records = s.log.records ∧ u.eflash = s.eflash ∧ u.objectsAs s []
      ∧ u = { s.arrived q.src with log := u.log, od := u.od, perf := u.perf })
    ∧ (s.accepts i = true → n ≠ 0 → (∀ r ∈ s.log.records, r.severity = 3 → r.seq - r.part ≠ n.toNat) →
      exec i s = .next (((s.arrived q.src).put OD.logbookLastResult 1).answered i (refusedReply 1)))

/-- BLOCK_PART keeps the selected part of the session. SUBMIT_BLOCK takes the assembled block in RESTORE, SERVICE and
MAINTENANCE: a wrong CRC is refused with result 2; a header that passes every check starts a transfer; a block that
passes every check is stored and NextOffset advances past it, or stays for one received before; a failed check is
refused with its result and event 0x7102. UPDATE_ABORT ends what R535 lets it end. APPLY takes a received package;
each applied sector leaves the active bank alone, writes the package's bytes, and the last one begins the
verification; a broken sector record rejects the bank with result 13. What the rules leave open stands as the model's
choice: log 33, log 109 and log 169. Answers a next state with its own effect, under conditions on the state and the
operands alone: blockPart, submitBlock, updateAbort, applyPackage, applySectorComplete. (15_firmware_update.md R526;
15_firmware_update.md R529; 15_firmware_update.md R532; 15_firmware_update.md R533; 15_firmware_update.md R534;
15_firmware_update.md R535; 15_firmware_update.md R536; 15_firmware_update.md R537) -/
def Obligations.PackageTransfer : Prop :=
  (∀ (s : State) (q : Req) (bytes : List Byte), s.accepts (.blockPart q bytes) = true → ∃ u : State,
      exec (.blockPart q bytes) s = .next (u.answered (.blockPart q bytes) okReply)
      ∧ u = (s.arrived q.src).setSession { (s.arrived q.src).session q.src with
          block := mapSet (fun _ => []) (s.session q.src).block ((s.session q.src).selGet OD.updatePartSelect) bytes })
  ∧ (∀ (s : State) (q : Req) (b : List Byte) (i : Instr), i = .submitBlock q → s.accepts i = true →
      b = ((List.range 4).map (fun i => padTo 1024 (mapGet (fun _ => []) (s.session q.src).block i))).flatten →
      (s.inMode [.restore, .service, .maintenance] = true →
        ((crc32c (b.take 4092)).toNat ≠ field b 4092 4 → exec i s
            = .next ((((s.arrived q.src).raise 0x7102 0 [(.u32, blockOffset b), (.u8, 2)]).put OD.updateLastResult 2).answered i (refusedReply 2)))
        ∧ ((crc32c (b.take 4092)).toNat = field b 4092 4 →
          (s.update.state = .idle → blockOffset b = 0 → s.checkHeader b = 0 → ∃ u : State, exec i s = .next (u.answered i okReply)
              ∧ u.update.state = .receiving ∧ u.get OD.updateNextOffset = 4032 ∧ u.get OD.updatePackageId = blockPackage b
              ∧ u.get OD.updatePackageLength = hdrLength (blockPayload b) ∧ u.packageBlock 0 = b ∧ u.get OD.updateLastResult = 0
              ∧ u.update.header = (blockPayload b).take 241 ∧ u.update.bankA = s.update.bankA ∧ u.update.bankB = s.update.bankB
              ∧ u = { s.arrived q.src with update := u.update, eflash := u.eflash, od := u.od, log := u.log, perf := u.perf })
          ∧ (s.update.state = .idle → blockOffset b = 0 → ∀ r, s.checkHeader b = r → r ≠ 0 → ∃ u : State,
              exec i s = .next (u.answered i (refusedReply r)) ∧ u.update.state = .idle ∧ u.get OD.updateLastResult = r
              ∧ u.update.bankA = s.update.bankA ∧ u.update.bankB = s.update.bankB)
          ∧ (s.update.state = .receiving → blockOffset b ≠ 0 → ∀ k, s.checkBlock b = (0, k) → ∃ u : State,
              exec i s = .next (u.answered i okReply) ∧ u.packageBlock (blockOffset b / 4032) = b
              ∧ (∀ n, n ≠ blockOffset b / 4032 → u.packageBlock n = s.packageBlock n)
              ∧ u.get OD.updateNextOffset = (if blockOffset b < s.get OD.updateNextOffset then s.get OD.updateNextOffset
                  else blockOffset b + blockLength b)
              ∧ (∀ key, k = some key → u.update.contentKey = key) ∧ u.get OD.updateLastResult = 0
              ∧ (s.get OD.updateNextOffset ≤ blockOffset b → blockOffset b + blockLength b = s.get OD.updatePackageLength → u.update.state = .received)
              ∧ (blockOffset b + blockLength b ≠ s.get OD.updatePackageLength → u.update.state = .receiving)
              ∧ u = { s.arrived q.src with update := u.update, eflash := u.eflash, od := u.od, log := u.log, perf := u.perf })
          ∧ (s.update.state = .receiving → blockOffset b ≠ 0 → ∀ r k, s.checkBlock b = (r, k) → r ≠ 0 → r ≠ 6 → r ≠ 7 → exec i s
              = .next ((((s.arrived q.src).raise 0x7102 0 [(.u32, blockOffset b), (.u8, r)]).put OD.updateLastResult r).answered i (refusedReply r))))))
  ∧ (∀ (s : State) (q : Req) (i : Instr), i = .updateAbort q → s.accepts i = true →
      ((s.update.state = .receiving ∨ s.update.state = .received ∨ s.update.state = .verified
          ∨ (s.update.state = .applying ∧ s.update.paused = true)) → ∃ u : State, exec i s = .next (u.answered i okReply)
        ∧ u.update.state = .idle ∧ u.update.blocks = [] ∧ u.update.contentKey = [] ∧ u.update.bankA = s.update.bankA
        ∧ u.update.bankB = s.update.bankB ∧ u.get OD.updateLastResult = 0
        ∧ u = { s.arrived q.src with update := u.update, eflash := u.eflash, od := u.od, log := u.log, perf := u.perf })
      ∧ ((s.update.state = .idle ∨ s.update.state = .verifying ∨ s.update.state = .scheduled ∨ s.update.state = .trial) → exec i s
          = .next (((s.arrived q.src).put OD.updateLastResult 1).answered i (refusedReply 1))))
  ∧ (∀ (s : State) (q : Req) (i : Instr), i = .applyPackage q → s.accepts i = true →
      (s.update.state = .received → s.inMode [.service, .maintenance] = true → ∃ u : State, exec i s = .next (u.answered i okReply)
        ∧ u.update.state = .applying ∧ (u.bank s.inactiveBank).record.state = 1 ∧ u.bank s.activeBank = s.bank s.activeBank
        ∧ u.activeBank = s.activeBank ∧ u.get OD.updateApplySector = 0 ∧ u.update.applyOffset = 0
        ∧ u = { s.arrived q.src with update := u.update, eflash := u.eflash, od := u.od, log := u.log, perf := u.perf })
      ∧ ((s.update.state ≠ .received ∨ s.inMode [.service, .maintenance] = false) → exec i s
          = .next (((s.arrived q.src).put OD.updateLastResult 1).answered i (refusedReply 1))))
  ∧ (∀ (s : State), s.update.state = .applying → s.inMode [.service, .maintenance] = true → s.update.paused = false →
      (∀ len bytes, s.nextSector = some (len, bytes) → s.update.aborting = false → ∃ t, exec (.applySectorComplete [true]) s = .next t
        ∧ mapGet noEntry (t.bank s.inactiveBank).sectors (s.get OD.updateApplySector) = some bytes
        ∧ (∀ n, n ≠ s.get OD.updateApplySector → mapGet noEntry (t.bank s.inactiveBank).sectors n = mapGet noEntry (s.bank s.inactiveBank).sectors n)
        ∧ t.bank s.activeBank = s.bank s.activeBank ∧ t.get OD.updateApplySector = s.get OD.updateApplySector + 1
        ∧ t.update.applyOffset = s.update.applyOffset + len
        ∧ t.update.state = (if s.get OD.updateApplySector + 1 = 1536 then .verifying else .applying)
        ∧ t.cores = { s.cores with sram := mapSet (fun _ => []) s.cores.sram 0 bytes }
        ∧ t = { s with update := t.update, cores := t.cores, eflash := t.eflash, od := t.od, log := t.log, perf := t.perf })
      ∧ (s.nextSector = none → ∀ rb, ∃ t, exec (.applySectorComplete rb) s = .next t ∧ t.update.state = .idle
        ∧ (t.bank s.inactiveBank).record.state = 4 ∧ t.get OD.updateLastResult = 13 ∧ t.bank s.activeBank = s.bank s.activeBank
        ∧ t = { s with update := t.update, eflash := t.eflash, od := t.od, log := t.log, perf := t.perf }))

/-- A bank whose digest, signature and regions verify is recorded as verified with its digest; the first check that
fails rejects it with result 14, 15 or 16. SCHEDULE of a verified update waits for its departure; the refusals are
those of R540. SCHEDULE_CANCEL returns to Verified. A trial that is confirmed ends with the active bank no longer on
trial. ROLLBACK schedules the other bank when it holds an image whose security version is no lower, and nothing else
is under way. What the rules leave open stands as the model's choice: log 33, log 34, log 35 and log 196. Answers a
next state with its own effect, under conditions on the state and the operands alone: bankVerificationComplete,
schedule, scheduleCancel, trialConfirmation, rollback. (15_firmware_update.md R528; 15_firmware_update.md R535;
15_firmware_update.md R538; 15_firmware_update.md R539; 15_firmware_update.md R540; 15_firmware_update.md R541;
15_firmware_update.md R545; 15_firmware_update.md R547) -/
def Obligations.Activation : Prop :=
  (∀ (s : State) (d g r : Bool),
      ((s.update.state ≠ .verifying ∨ s.inMode [.service, .maintenance] = false) → exec (.bankVerificationComplete d g r) s = .next s.unlist)
      ∧ (s.update.state = .verifying → s.inMode [.service, .maintenance] = true → ∃ t, exec (.bankVerificationComplete d g r) s = .next t
          ∧ t.bank s.activeBank = s.bank s.activeBank
          ∧ t = { s with update := t.update, eflash := t.eflash, od := t.od, log := t.log, perf := t.perf }
          ∧ (d = true → g = true → r = true → t.update.state = .verified ∧ (t.bank s.inactiveBank).record.state = 2
              ∧ (t.bank s.inactiveBank).record.digest = slice s.update.header 96 48 ∧ t.get OD.updateLastResult = 0)
          ∧ ((d && g && r) = false → t.update.state = .idle ∧ (t.bank s.inactiveBank).record.state = 4
              ∧ t.get OD.updateLastResult = (if d then if g then 16 else 15 else 14))))
  ∧ (∀ (s : State) (q : Req) (time : BitVec 64) (mode : BitVec 8) (i : Instr), i = .schedule q time mode → s.accepts i = true →
      (s.update.state ≠ .verified → exec i s = .next (((s.arrived q.src).put OD.departureLastResult 1).answered i (refusedReply 1)))
      ∧ (s.update.state = .verified → 1 < mode.toNat → exec i s
          = .next (((s.arrived q.src).put OD.departureLastResult 17).answered i (refusedReply 17)))
      ∧ (s.update.state = .verified → mode.toNat ≤ 1 → time ≠ 0 → s.flag OD.clockTimeValid = false → exec i s
          = .next (((s.arrived q.src).put OD.departureLastResult 18).answered i (refusedReply 18)))
      ∧ (s.update.state = .verified → mode.toNat ≤ 1 → (time = 0 ∨ s.flag OD.clockTimeValid = true) → ∃ u : State,
          exec i s = .next (u.answered i okReply) ∧ u.update.state = .scheduled ∧ u.get OD.departureDepartureTime = time.toNat
          ∧ u.get OD.departureDepartureMode = mode.toNat ∧ u.get OD.departureDeferrals = 0 ∧ u.get OD.departureLastResult = 0
          ∧ u.update.bankA = s.update.bankA ∧ u.update.bankB = s.update.bankB
          ∧ u.objectsAs s [OD.departureDepartureTime, OD.departureDepartureMode, OD.departureDeferrals, OD.departureDeferCause, OD.departureLastResult]
          ∧ u = { s.arrived q.src with update := u.update, eflash := u.eflash, od := u.od, log := u.log, perf := u.perf }))
  ∧ (∀ (s : State) (q : Req) (i : Instr), i = .scheduleCancel q → s.accepts i = true →
      (s.update.state = .scheduled → ∃ u : State, exec i s = .next (u.answered i okReply) ∧ u.update = { s.update with state := .verified }
        ∧ u.get OD.departureLastResult = 0 ∧ u = { s.arrived q.src with update := u.update, eflash := u.eflash, od := u.od })
      ∧ (s.update.state ≠ .scheduled → exec i s = .next (((s.arrived q.src).put OD.departureLastResult 1).answered i (refusedReply 1))))
  ∧ (∀ s : State, (s.update.state ≠ .trial → exec .trialConfirmation s = .next s)
      ∧ (s.update.state = .trial → ∃ t, exec .trialConfirmation s = .next t ∧ t.update.state = .idle
          ∧ (t.bank s.activeBank).record = { (s.bank s.activeBank).record with trial := false }
          ∧ t.bank s.inactiveBank = s.bank s.inactiveBank ∧ t.activeBank = s.activeBank
          ∧ t = { s with update := t.update, eflash := t.eflash, od := t.od, log := t.log, perf := t.perf }))
  ∧ (∀ (s : State) (q : Req) (i : Instr), i = .rollback q → s.accepts i = true →
      (s.holdsImage s.inactiveBank = false → exec i s = .next (((s.arrived q.src).put OD.bankLastResult 1).answered i (refusedReply 1)))
      ∧ (s.holdsImage s.inactiveBank = true → (s.bank s.inactiveBank).record.secVer < (s.bank s.activeBank).record.secVer → exec i s
          = .next (((s.arrived q.src).put OD.bankLastResult 2).answered i (refusedReply 2)))
      ∧ (s.holdsImage s.inactiveBank = true → (s.bank s.activeBank).record.secVer ≤ (s.bank s.inactiveBank).record.secVer →
          (s.update.state ≠ .idle → s.update.state ≠ .verified → exec i s
            = .next (((s.arrived q.src).put OD.bankLastResult 3).answered i (refusedReply 3)))
          ∧ ((s.update.state = .idle ∨ s.update.state = .verified) → ∃ u : State, exec i s = .next (u.answered i okReply)
            ∧ u.update.state = .scheduled ∧ u.get OD.departureDepartureTime = 0 ∧ u.get OD.departureDepartureMode = 0
            ∧ u.get OD.bankLastResult = 0 ∧ u.update.bankA = s.update.bankA ∧ u.update.bankB = s.update.bankB
            ∧ u = { s.arrived q.src with update := u.update, eflash := u.eflash, od := u.od, log := u.log, perf := u.perf })))
  ∧ (∀ s : State, (s.ctl.mode ≠ .service → s.deferCause = 1) ∧ (s.ctl.mode = .service → s.armedPower = true → s.deferCause = 2)
      ∧ (s.ctl.mode = .service → s.armedPower = false → s.flush.drill.isSome = true → s.deferCause = 3))

/-- A write sets the pointer from its first two bytes, a single byte other than 0x0F is discarded and counted, a write
without bytes does nothing but count; PXDATA stores the bytes at PXOFF in the proxy's Idle and Loading states and is
not acknowledged otherwise. With PecRequired a write whose last byte is not its PEC is discarded with event 0x6104. A
read returns bytes from the pointer, which advances. The proxy passes its buffer to ZOP, becomes Ready with the
response and PXSEQ advanced, and is cleared; a length outside 12 to 1,036 is event 0x6106. A refresh takes both
snapshots; a stretch beyond its limit serves the previous one. What the rules leave open stands as the model's choice:
log 9, log 131, log 132, log 135 and log 194. Answers a next state with its own effect, under conditions on the state
and the operands alone: twoWireWrite, twoWireRead, quickCommand, twoWireBusCondition, proxySubmit, proxyResponseReady,
proxyClear, windowSnapshotRefresh, stretchLimitExpiry, smbusClockLowTimeout. (13_management_bus.md R463;
13_management_bus.md R464; 13_management_bus.md R465; 13_management_bus.md R466; 13_management_bus.md R467;
13_management_bus.md R468; 13_management_bus.md R469; 13_management_bus.md R471; 13_management_bus.md R485;
13_management_bus.md R486) -/
def Obligations.TwoWireTarget : Prop :=
  (∀ s : State, s.ctl.stopped = false → ∀ u : State, u = s.addressed.busFree →
      exec .quickCommand s = .next u ∧ exec (.twoWireWrite []) s = .next u
      ∧ u.get OD.twoWireTransactions = (s.get OD.twoWireTransactions + 1) % 2 ^ 32
      ∧ u = { s with od := u.od, bus := { s.bus with speed := s.get OD.twoWireBusSpeed, slope := s.get OD.twoWireSlope } }
      ∧ (∀ k, k ≠ OD.twoWireTransactions → u.get k = s.get k)
      ∧ (∀ b : Byte, b ≠ 0x0F → exec (.twoWireWrite [b]) s = .next (u.bump OD.twoWireDiscardedBytes 1))
      ∧ (s.flag OD.twoWirePecRequired = false → ∀ ph pl : Byte, ph ≠ 0x0F →
          exec (.twoWireWrite [ph, pl]) s = .next { u with bus := { u.bus with pointer := ph.toNat * 256 + pl.toNat } }
          ∧ (∀ data : List Byte, data ≠ [] → ph = 2 → 0x40 ≤ pl.toNat → s.bus.proxy.state ≠ .idle → s.bus.proxy.state ≠ .loading →
              exec (.twoWireWrite (ph :: pl :: data)) s
                = .next (State.bump { u with bus := { u.bus with pointer := ph.toNat * 256 + pl.toNat } } OD.twoWireNackedBytes 1))
          ∧ (∀ data : List Byte, data ≠ [] → ph = 2 → pl = 0x40 → data.length ≤ 64 → s.bus.proxy.off + 64 ≤ 1036 →
              (s.bus.proxy.state = .idle ∨ s.bus.proxy.state = .loading) → ∃ t, exec (.twoWireWrite (ph :: pl :: data)) s = .next t
              ∧ (∀ n, n < data.length → t.bus.proxy.byte (s.bus.proxy.off + n) = data.getD n 0)
              ∧ (∀ n, n < s.bus.proxy.off ∨ s.bus.proxy.off + data.length ≤ n → t.bus.proxy.byte n = s.bus.proxy.byte n)
              ∧ t.bus.proxy = { s.bus.proxy with state := .loading, buffer := t.bus.proxy.buffer }
              ∧ t.bus.pointer = 0x240 + data.length % 64 ∧ t = { u with bus := t.bus }))
      ∧ (s.flag OD.twoWirePecRequired = true → ∀ bytes : List Byte, 2 ≤ bytes.length → bytes.head? ≠ some 0x0F →
          (u.pecMatches bytes = false → ∃ t, exec (.twoWireWrite bytes) s = .next t ∧ t.bus = u.bus
            ∧ t.get OD.twoWirePecFailures = (s.get OD.twoWirePecFailures + 1) % 2 ^ 32 ∧ t = { u with od := t.od, log := t.log, perf := t.perf })
          ∧ (u.pecMatches bytes = true → exec (.twoWireWrite bytes) s = windowWrite bytes.dropLast u)))
  ∧ (∀ (s : State) (n : Nat), s.ctl.stopped = false → ∃ t, exec (.twoWireRead n) s = .next t
      ∧ t.out.twoWire = (List.range n).map (fun i => s.addressed.window.byte ((s.bus.pointer + i) % 65536))
      ∧ t.bus.pointer = (s.bus.pointer + n) % 65536 ∧ t.bus.proxy = s.bus.proxy ∧ t.bus.snap0 = s.bus.snap0 ∧ t.bus.snap1 = s.bus.snap1
      ∧ t = { s with bus := t.bus, out := { s.out with twoWire := t.out.twoWire }, od := t.od })
  ∧ (∀ (s : State) (bytes : List Byte),
      exec (.twoWireBusCondition .stopInWriteData bytes) s = exec (.twoWireWrite bytes) s
      ∧ exec (.twoWireBusCondition .stopInReadData bytes) s = exec (.twoWireRead bytes.length) s
      ∧ exec (.twoWireBusCondition .inAddressByte bytes) s = .next s
      ∧ (s.ctl.stopped = false → exec (.twoWireBusCondition .startInReadData bytes) s = .next (s.addressed.readWindow bytes.length)
          ∧ exec (.twoWireBusCondition .restartAtAckRead bytes) s = .next (s.addressed.readWindow (bytes.length + 1))
          ∧ exec (.twoWireBusCondition .startInWriteData bytes) s = writeTransaction bytes s.addressed
          ∧ exec (.twoWireBusCondition .restartAtAckWrite bytes) s = writeTransaction bytes (s.addressed.bump OD.twoWireNackedBytes 1)))
  ∧ (∀ s : State, s.ctl.stopped = false →
      ((s.bus.proxy.state = .idle ∨ s.bus.proxy.state = .loading) →
        ((s.bus.proxy.len < 12 ∨ 1036 < s.bus.proxy.len) → exec .proxySubmit s
            = .next (State.note { s with bus := { s.bus with proxy := { s.bus.proxy with state := .error } } } 0x6106))
        ∧ (12 ≤ s.bus.proxy.len → s.bus.proxy.len ≤ 1036 → ∃ t, exec .proxySubmit s = .next t
            ∧ serveFrame .proxy ((List.range s.bus.proxy.len).map s.bus.proxy.byte)
                { s with bus := { s.bus with proxy := { s.bus.proxy with state := .busy, response := none } } } = .next t))
      ∧ ((s.bus.proxy.state = .busy ∨ s.bus.proxy.state = .ready) → exec .proxySubmit s = .next s)
      ∧ (s.bus.proxy.state = .error → exec .proxySubmit s = .next s.unlist) ∧ (s.bus.proxy.state = .idle → exec .proxyClear s = .next s.unlist)
      ∧ ((s.bus.proxy.state = .loading ∨ s.bus.proxy.state = .error ∨ s.bus.proxy.state = .ready) → exec .proxyClear s
          = .next { s with bus := { s.bus with proxy := { s.bus.proxy with state := .idle, buffer := [], len := 0, off := 0 } } })
      ∧ (s.bus.proxy.state = .busy → exec .proxyClear s = .next s))
  ∧ (∀ (s : State) (r : List Byte), s.bus.proxy.state = .busy → s.bus.proxy.response = some r → r.length ≤ 1036 → ∃ t,
      exec .proxyResponseReady s = .next t ∧ t.bus.proxy.state = .ready ∧ t.bus.proxy.len = r.length ∧ t.bus.proxy.off = 0
      ∧ t.bus.proxy.seq = s.bus.proxy.seq + 1 ∧ (∀ n, n < r.length → t.bus.proxy.byte n = r.getD n 0)
      ∧ t = { s with bus := { s.bus with proxy := t.bus.proxy } })
  ∧ (∀ s : State, s.ctl.stopped = false →
      (s.bus.recovery = false → ∃ t, exec .windowSnapshotRefresh s = .next t ∧ t.bus.snap0 = s.identityRange ∧ t.bus.snap1 = s.batteryRange
        ∧ t.bus.time0 = s.uptime ∧ t.bus.time1 = s.uptime ∧ t.bus.old0 = s.bus.snap0 ∧ t.bus.old1 = s.bus.snap1
        ∧ t.bus.pointer = s.bus.pointer ∧ t.bus.proxy = s.bus.proxy ∧ t = { s with bus := t.bus })
      ∧ (s.stretchBounded = true → ∀ second, ∃ t, exec (.stretchLimitExpiry second) s = .next t
        ∧ t.get OD.twoWireStaleReads = (s.get OD.twoWireStaleReads + 1) % 2 ^ 32 ∧ (second = false → t.bus = { s.bus with serveOld0 := true })
        ∧ (second = true → t.bus = { s.bus with serveOld1 := true }) ∧ t.objectsAs s [OD.twoWireStaleReads]
        ∧ t = { s with bus := t.bus, od := t.od, log := t.log, perf := t.perf })
      ∧ (s.flag OD.twoWireSmbusTimeout = true → ∃ t, exec .smbusClockLowTimeout s = .next t
        ∧ t.get OD.twoWireTimeouts = (s.get OD.twoWireTimeouts + 1) % 2 ^ 32 ∧ t.bus.pointer = s.bus.pointer ∧ t.bus.proxy = s.bus.proxy
        ∧ t.objectsAs s [OD.twoWireTimeouts] ∧ t = { s with bus := t.bus, od := t.od, log := t.log, perf := t.perf }))

/-- HOST_NOTIFY_SEND sends the four bytes of R474 for the message at the head of the queue: acknowledged, it leaves
the queue and LastResult is 1; otherwise, and after a lost arbitration, its attempts advance and it waits, or after
Attempts of them it is dropped with event 0x6102. A retry ends the wait. TEST_NOTIFY queues its code whatever Enable
is. ZOP_REQUEST is refused by length and by level, and otherwise serves its frame; in the background it needs level 2
and a command object. An MCTP message of another type is dropped; Set Endpoint ID is kept. The TAP drives balls only
in its condition. What the rules leave open stands as the model's choice: log 9, log 123, log 129, log 133 and log
134. Answers a next state with its own effect, under conditions on the state and the operands alone: zopRequest,
zopRequestInBackground, mctpMessage, hostNotifySend, arbitrationLost, hostNotifyRetry, testNotify, tapInstruction.
(03_host_ports.md R109; 03_host_ports.md R110; 12_object_dictionary.md R449; 12_object_dictionary.md R450;
13_management_bus.md R473; 13_management_bus.md R474; 13_management_bus.md R475; 13_management_bus.md R476;
13_management_bus.md R477; 17_electrical_and_package.md R603) -/
def Obligations.NoticesAndTransports : Prop :=
  (∀ (s : State) (n : Notice) (rest : List Notice), s.ctl.stopped = false → s.bus.waiting = false → s.bus.queue = n :: rest →
      (∃ t, exec (.hostNotifySend true) s = .next t ∧ t.out.busSent
            = some [0x10#8, BitVec.ofNat 8 (2 * s.get OD.twoWireAddress), BitVec.ofNat 8 n.code, BitVec.ofNat 8 (n.code / 256)]
        ∧ t.bus.queue = rest ∧ t.get OD.notifySent = (s.get OD.notifySent + 1) % 2 ^ 32 ∧ t.get OD.notifyLastCode = n.code
        ∧ t.get OD.notifyLastResult = 1 ∧ (∀ k, k ∉ [OD.notifySent, OD.notifyLastCode, OD.notifyLastResult] → t.get k = s.get k)
        ∧ t = { s with bus := t.bus, od := t.od, out := { s.out with busSent := t.out.busSent } })
      ∧ (n.attempts + 1 < s.get OD.notifyAttempts → ∀ i, (i = .hostNotifySend false ∨ i = .arbitrationLost true ∨ i = .arbitrationLost false) →
          ∃ t, exec i s = .next t ∧ t.bus.queue = { n with attempts := n.attempts + 1 } :: rest ∧ t.bus.waiting = true
            ∧ t.bus.lastNack = Decidable.decide (i = .hostNotifySend false)
            ∧ t.objectsAs s [OD.notifyNacked, OD.notifyArbitrationLost]
            ∧ t = { s with bus := t.bus, od := t.od, log := t.log, perf := t.perf, out := { s.out with busSent := t.out.busSent } })
      ∧ (s.get OD.notifyAttempts ≤ n.attempts + 1 → ∀ i c, ((i = .hostNotifySend false ∧ c = 2) ∨ (i = .arbitrationLost false ∧ c = 3)) →
          ∃ t, exec i s = .next t ∧ t.bus.queue = rest ∧ t.bus.waiting = false ∧ t.get OD.notifyLastResult = c
            ∧ t.get OD.notifyDropped = (s.get OD.notifyDropped + 1) % 2 ^ 32))
  ∧ (∀ (s : State) (n : Notice) (rest : List Notice), s.bus.waiting = true → s.bus.queue = n :: rest → n.attempts < s.get OD.notifyAttempts →
      exec .hostNotifyRetry s = .next { s with bus := { s.bus with waiting := false } })
  ∧ (∀ (s : State) (q : Req) (code : BitVec 16), s.accepts (.testNotify q code) = true →
      (noticeNever code.toNat = true → exec (.testNotify q code) s
          = .next ((s.arrived q.src).answered (.testNotify q code) { status := 0x06, payload := [] }))
      ∧ (noticeNever code.toNat = false → s.bus.queue = [] → ∃ u : State,
          exec (.testNotify q code) s = .next (u.answered (.testNotify q code) okReply)
          ∧ u.bus.queue = [{ code := code.toNat, severity := 1, attempts := 0, order := s.bus.arrivals }] ∧ u = { s.arrived q.src with bus := u.bus }))
  ∧ (∀ (s : State) (ld : Ld) (frame : List Byte), s.mailboxUp ld.val = true →
      (mailFrameOk frame = false → exec (.zopRequest ld frame) s = .next (s.mailed ld 2 [])
          ∧ exec (.zopRequestInBackground ld frame) s = .next (s.mailed ld 2 []))
      ∧ (mailFrameOk frame = true → s.get (OD.ldMgmtAccess ld.val) = 0 → ∃ t, exec (.zopRequest ld frame) s = .next t
          ∧ t.out.mailbox.map (fun m => (m.ld, m.code, m.payload.length, field m.payload 5 1)) = some (ld.val, 0, 12, 0x04)
          ∧ t.objectsAs s [] ∧ t = { s with od := t.od, log := t.log, perf := t.perf, out := { s.out with mailbox := t.out.mailbox } })
      ∧ (mailFrameOk frame = true → 1 ≤ s.get (OD.ldMgmtAccess ld.val) → ∃ t, serveFrame (.mailbox ld) frame s = .next t ∧ exec (.zopRequest ld frame) s = .next t)
      ∧ (mailFrameOk frame = true → namesCommand frame = true → 2 ≤ s.get (OD.ldMgmtAccess ld.val) →
          ((s.mail ld.val).background.1 ≠ 0xC001 ∨ 100 ≤ (s.mail ld.val).background.2.1) → (s.session (.mailbox ld)).results.length < 16 →
          ∃ t u : State, serveFrame (.mailbox ld) frame { s with out := { s.out with zop := none } } = .next t ∧
            exec (.zopRequestInBackground ld frame) s = .next u ∧ u.out.mailbox = some { ld := ld.val, code := 1, payload := [] }
            ∧ (u.mail ld.val).background.1 = 0xC001 ∧ u.tables = t.tables ∧ u.od = t.od ∧ u.dram = t.dram ∧ u.ctl = t.ctl))
  ∧ (∀ (s : State) (src : Transport) (ep : Nat) (body : List Byte), endpointOf src = some ep → s.transportUp src = true →
      (∀ ty : BitVec 8, ty ≠ 0 → ty ≠ 0x7E → exec (.mctpMessage src ty body) s = .next s)
      ∧ (∀ frame, s.frameIn body = some frame → ∃ t, serveFrame src frame s = .next t ∧ exec (.mctpMessage src 0x7E body) s = .next t)
      ∧ (s.frameIn body = none → exec (.mctpMessage src 0x7E body) s = .next s)
      ∧ (∀ e : BitVec 8, e ≠ 0 → e ≠ 255 → body = [0x80#8, 1#8, 0#8, e] → ∃ t, exec (.mctpMessage src 0 body) s = .next t
          ∧ mapGet (fun _ => 0) t.zop.eids ep = e.toNat ∧ t.out.mctp = some (src, [0#8, 0#8, 1#8, 0#8, 0#8, e, 0#8])
          ∧ t = { s with free := s.free + 1, zop := { s.zop with eids := t.zop.eids }, bus := t.bus, out := t.out }))
  ∧ (∀ s : State,
      (s.ctl.mode = .off → s.pins.mdPwrgd = true → s.pins.resetN = false → ∀ i : TapInstruction, scanInstruction i = true →
        ∃ t, exec (.tapInstruction i) s = .next t ∧ t.tapDrives = true ∧ t = { s with tap := { s.tap with instruction := i, drives := true } })
      ∧ ((s.ctl.mode ≠ .off ∨ s.pins.mdPwrgd = false ∨ s.pins.resetN = true) → ∀ i : TapInstruction, scanInstruction i = true →
        exec (.tapInstruction i) s = .next { s with tap := { s.tap with instruction := .bypass, drives := false } })
      ∧ (∃ t c, exec (.tapInstruction .idcode) s = .next t ∧ t.tap.idcode = some c ∧ c.extractLsb' 12 16 = 0x9640#16 ∧ c.getLsbD 0 = true
          ∧ t.tapDrives = false ∧ t = { s with tap := t.tap }))

/-- For every well-formed row that is a ZOP request, with every operand at every value: the frame of R439 with its
CRC, served from the row's session, has exactly the row's own effect; so it has when it comes in a mailbox's
ZOP_REQUEST, in an MCTP message after the vendor's identifier, or from the proxy's buffer. A PIPE_RETEST by frame has
its self-tests' outcomes free (the model's choice, log 2). (03_host_ports.md R109; 12_object_dictionary.md R439;
12_object_dictionary.md R440; 12_object_dictionary.md R441; 12_object_dictionary.md R450; 13_management_bus.md R486)
-/
def Obligations.FramesSpellCommands : Prop :=
  ∀ (i : Instr) (q : Req) (f : ReqFrame) (s : State), requestOf i = some (q, f) → i.wf = true →
    q.crc = frameCrc f.opcode q.tag.toNat f.index f.sub 0 f.payload →
    (ownsFrame i = true →
      serveFrame q.src (requestBytes q f) s = exec i s
      ∧ (∀ ld : Ld, q.src = .mailbox ld → s.mailboxUp ld.val = true → 1 ≤ s.get (OD.ldMgmtAccess ld.val) →
          exec (.zopRequest ld (requestBytes q f)) s = exec i s)
      ∧ (∀ ep, endpointOf q.src = some ep → s.transportUp q.src = true →
          exec (.mctpMessage q.src 0x7E ((toBytes 2 (s.get OD.identityPciVendorId)).reverse ++ [0x5A#8] ++ requestBytes q f)) s = exec i s)
      ∧ (q.src = .proxy → s.ctl.stopped = false → (s.bus.proxy.state = .idle ∨ s.bus.proxy.state = .loading) →
          s.bus.proxy.len = (requestBytes q f).length → (∀ n, n < (requestBytes q f).length → s.bus.proxy.byte n = (requestBytes q f).getD n 0) →
          exec .proxySubmit s = exec i { s with bus := { s.bus with proxy := { s.bus.proxy with state := .busy, response := none } } }))
    ∧ (∀ pass, i = .pipeRetest q pass → serveFrame q.src (requestBytes q f) s = exec (.pipeRetest q (Config.freeBits 40 s.free)) s.draw)

/-- Every command answers a next state in every state, and leaves the queue of waiting commands as it finds it; only
DRAM_READ_DECODE of a frame beyond the population stops. So a step takes exactly the command at the front. With an
empty queue a step lets 1 ns pass (the model's choice, log 1): uptime and the clock advance by 1, and nothing else
changes but the counters where no message waits for its MAC, no global term end is due and no command waits; a command
that waits for a porter or a checkpoint is tried again after the tick. What the rules leave open stands as the model's
choice: log 1. (00_scope.md R10; 00_scope.md R12; 08_dram_controller.md R282) -/
def Obligations.EveryCommandGoesOn : Prop :=
  (∀ (c : Instr) (s : State), (∀ fr line src a b, c = .dramReadDecode fr line src a b → fr.toNat < s.framesPopulated) →
      ∃ t, exec c s = .next t ∧ t.pending = s.pending)
  ∧ (∀ s t : State, step s = .next t → t.pending = s.pending.tail)
  ∧ (∀ s : State, s.pending = [] → s.work.delayed = [] → (s.hostPort 0).unverified = [] → (s.hostPort 1).unverified = [] →
      s.terms.globalDue = none → ∃ t, step s = .next t ∧ t.uptime = s.uptime + 1 ∧ t.clock = s.clock + 1
      ∧ t = { s with uptime := t.uptime, clock := t.clock, perf := t.perf })
  ∧ (∀ s : State, s.pending = [] → s.work.delayed = [] → step s = .next s.tick)
  ∧ (∀ (s : State) (c : Instr) (rest : List Instr), s.pending = [] → s.work.delayed = c :: rest →
      step s = exec c (State.tick { s with work := { s.work with delayed := rest } }))

/-- From every state in which test perturbation is unlocked only in MAINTENANCE and armed only when unlocked, and a
drill runs only in SERVICE, every step that goes on leads to such a state, whatever command it runs.
(02_operating_modes.md R49; 02_operating_modes.md R57; 02_operating_modes.md R60; 02_operating_modes.md R61;
06_residue_and_flush.md R221; 06_residue_and_flush.md R224; 16_logbook_and_counters.md R581;
16_logbook_and_counters.md R582) -/
def Obligations.StepKeepsModes : Prop :=
  ∀ s t : State, s.modesAgree = true → step s = .next t → t.modesAgree = true
end

