-- ==== Sys2Proof/Laws/Memory.lean ====
section
/-! SUPPORT. The laws of the sparse maps: a read after a write, the frame of a write, and that every operation keeps the
canonical form. -/
namespace Sys2Proof.Machine
variable {α : Type}

theorem mapGet_mapErase_same (d : Nat → α) (m : SMap α) (k : Nat) : mapGet d (mapErase m k) k = d k := by
  induction m with
  | nil => rfl
  | cons e m ih =>
    obtain ⟨j, v⟩ := e
    by_cases h : j = k <;> simp [mapErase, mapGet, h, ih]

theorem mapGet_mapErase_other (d : Nat → α) (m : SMap α) (k n : Nat) (h : n ≠ k) :
    mapGet d (mapErase m k) n = mapGet d m n := by
  induction m with
  | nil => rfl
  | cons e m ih =>
    obtain ⟨j, v⟩ := e
    by_cases hj : j = k
    · subst hj; simp [mapErase, mapGet, ih, Ne.symm h]
    · simp [mapErase, mapGet, hj, ih]

theorem mapGet_mapInsert_same (d : Nat → α) (m : SMap α) (k : Nat) (v : α) :
    mapGet d (mapInsert (mapErase m k) k v) k = v := by
  induction m with
  | nil => simp [mapErase, mapInsert, mapGet]
  | cons e m ih =>
    obtain ⟨j, w⟩ := e
    by_cases hj : j = k
    · simp [mapErase, hj, ih]
    · by_cases hk : k < j <;> simp [mapErase, mapInsert, mapGet, hj, hk, ih]

theorem mapGet_mapInsert_other (d : Nat → α) (m : SMap α) (k n : Nat) (v : α) (h : n ≠ k) :
    mapGet d (mapInsert m k v) n = mapGet d m n := by
  induction m with
  | nil => simp [mapInsert, mapGet, Ne.symm h]
  | cons e m ih =>
    obtain ⟨j, w⟩ := e
    by_cases hk : k < j
    · simp [mapInsert, mapGet, hk, Ne.symm h]
    · simp [mapInsert, mapGet, hk, ih]

variable [DecidableEq α]

/-- A read after a write of the same key. -/
@[simp] theorem mapGet_mapSet_same (d : Nat → α) (m : SMap α) (k : Nat) (v : α) : mapGet d (mapSet d m k v) k = v := by
  unfold mapSet
  split
  · rename_i h; rw [mapGet_mapErase_same, h]
  · exact mapGet_mapInsert_same d m k v

/-- A write leaves every other key alone. -/
theorem mapGet_mapSet_other (d : Nat → α) (m : SMap α) (k n : Nat) (v : α) (h : n ≠ k) :
    mapGet d (mapSet d m k v) n = mapGet d m n := by
  unfold mapSet
  split
  · exact mapGet_mapErase_other d m k n h
  · rw [mapGet_mapInsert_other _ _ _ _ _ h, mapGet_mapErase_other _ _ _ _ h]

theorem mapGet_mapSet (d : Nat → α) (m : SMap α) (k n : Nat) (v : α) :
    mapGet d (mapSet d m k v) n = if n = k then v else mapGet d m n := by
  by_cases h : n = k
  · subst h; simp
  · simp [h, mapGet_mapSet_other d m k n v h]

/-! ## The canonical form -/

omit [DecidableEq α] in
theorem mapAbove_mono {k j : Nat} (m : SMap α) (h : j ≤ k) (hm : mapAbove k m = true) : mapAbove j m = true := by
  cases m with
  | nil => rfl
  | cons e m => simp [mapAbove] at *; omega

omit [DecidableEq α] in
theorem mapAbove_mapErase {j : Nat} (m : SMap α) (k : Nat) (hr : mapRising m = true) (ha : mapAbove j m = true) :
    mapAbove j (mapErase m k) = true := by
  induction m with
  | nil => rfl
  | cons e m ih =>
    obtain ⟨i, v⟩ := e
    simp [mapRising] at hr
    simp [mapAbove] at ha
    by_cases hi : i = k
    · simp only [mapErase, hi, if_true]
      exact ih hr.2 (mapAbove_mono m (by omega) hr.1)
    · simp [mapErase, hi, mapAbove, ha]

omit [DecidableEq α] in
theorem mapRising_mapErase (m : SMap α) (k : Nat) (hr : mapRising m = true) : mapRising (mapErase m k) = true := by
  induction m with
  | nil => rfl
  | cons e m ih =>
    obtain ⟨i, v⟩ := e
    simp [mapRising] at hr
    by_cases hi : i = k
    · simp [mapErase, hi, ih hr.2]
    · simp [mapErase, hi, mapRising, ih hr.2, mapAbove_mapErase m k hr.2 hr.1]

omit [DecidableEq α] in
theorem mapAbove_mapInsert {j : Nat} (m : SMap α) (k : Nat) (v : α) (hj : j < k) (ha : mapAbove j m = true) :
    mapAbove j (mapInsert m k v) = true := by
  cases m with
  | nil => simp [mapInsert, mapAbove, hj]
  | cons e m =>
    obtain ⟨i, w⟩ := e
    by_cases hk : k < i <;> simp [mapInsert, hk, mapAbove, hj] at *
    exact ha

/-- No entry has the key. -/
def mapFree (k : Nat) : SMap α → Bool
  | [] => true
  | (j, _) :: m => j != k && mapFree k m

omit [DecidableEq α] in
theorem mapFree_mapErase (m : SMap α) (k : Nat) : mapFree k (mapErase m k) = true := by
  induction m with
  | nil => rfl
  | cons e m ih =>
    obtain ⟨i, v⟩ := e
    by_cases hi : i = k <;> simp [mapErase, hi, mapFree, ih]

omit [DecidableEq α] in
theorem mapRising_mapInsert (m : SMap α) (k : Nat) (v : α) (hr : mapRising m = true) (hf : mapFree k m = true) :
    mapRising (mapInsert m k v) = true := by
  induction m with
  | nil => simp [mapInsert, mapRising, mapAbove]
  | cons e m ih =>
    obtain ⟨i, w⟩ := e
    simp [mapRising] at hr
    simp [mapFree] at hf
    by_cases hk : k < i
    · have ha : mapAbove k ((i, w) :: m) = true := by simp [mapAbove, hk]
      simp [mapInsert, hk, mapRising, ha, hr]
    · simp [mapInsert, hk, mapRising, ih hr.2 hf.2, mapAbove_mapInsert m k v (by omega) hr.1]

theorem mapProper_mapErase (d : Nat → α) (m : SMap α) (k : Nat) (h : mapProper d m = true) :
    mapProper d (mapErase m k) = true := by
  induction m with
  | nil => rfl
  | cons e m ih =>
    obtain ⟨i, v⟩ := e
    simp [mapProper] at h
    by_cases hi : i = k
    · simp [mapErase, hi, ih h.2]
    · simp [mapErase, hi, mapProper, h.1, ih h.2]

theorem mapProper_mapInsert (d : Nat → α) (m : SMap α) (k : Nat) (v : α) (h : mapProper d m = true) (hv : v ≠ d k) :
    mapProper d (mapInsert m k v) = true := by
  induction m with
  | nil => simp [mapInsert, mapProper, hv]
  | cons e m ih =>
    obtain ⟨i, w⟩ := e
    simp [mapProper] at h
    by_cases hk : k < i
    · simp [mapInsert, hk, mapProper, hv, h]
    · simp [mapInsert, hk, mapProper, h.1, ih h.2]

theorem mapWf_mapErase (d : Nat → α) (m : SMap α) (k : Nat) (h : mapWf d m = true) : mapWf d (mapErase m k) = true := by
  simp [mapWf] at *
  exact ⟨mapRising_mapErase m k h.1, mapProper_mapErase d m k h.2⟩

/-- A write keeps the canonical form. -/
theorem mapWf_mapSet (d : Nat → α) (m : SMap α) (k : Nat) (v : α) (h : mapWf d m = true) :
    mapWf d (mapSet d m k v) = true := by
  unfold mapSet
  split
  · exact mapWf_mapErase d m k h
  · rename_i hv
    simp [mapWf] at *
    exact ⟨mapRising_mapInsert _ k v (mapRising_mapErase m k h.1) (mapFree_mapErase m k),
      mapProper_mapInsert d _ k v (mapProper_mapErase d m k h.2) hv⟩

end Sys2Proof.Machine
end

