-- ==== Sys2Proof/Laws/State.lean ====
section
/-! SUPPORT. What the shared updates of the state leave alone, field by field, and what a scalar object reads as after a write. -/
namespace Sys2Proof.Machine

/-! ## Reads after writes of objects -/

@[simp] theorem get_put_same (s : State) (k v : Nat) : (s.put k v).get k = v := by simp [State.get, State.put]

theorem get_put (s : State) (k v n : Nat) : (s.put k v).get n = if n = k then v else s.get n := by
  simp [State.get, State.put, mapGet_mapSet]

theorem get_put_other (s : State) (k v n : Nat) (h : n ≠ k) : (s.put k v).get n = s.get n := by simp [get_put, h]

theorem blob_putBlob_same (s : State) (k : Nat) (v : List Byte) : (s.putBlob k v).blob k = v := by
  simp [State.blob, State.putBlob]

/-- Objects stay in canonical form when one is written. -/
theorem put_storesWf (s : State) (k v : Nat) (h : s.storesWf = true) : (s.put k v).storesWf = true := by
  simp [State.storesWf, State.put] at *
  exact ⟨⟨⟨mapWf_mapSet _ _ _ _ h.1.1.1, h.1.1.2⟩, h.1.2⟩, h.2⟩

/-! ### `put` -/

@[simp] theorem put_pending (s : State) (k v : Nat) : (s.put k v).pending = s.pending := rfl
@[simp] theorem put_clock (s : State) (k v : Nat) : (s.put k v).clock = s.clock := rfl
@[simp] theorem put_uptime (s : State) (k v : Nat) : (s.put k v).uptime = s.uptime := rfl
@[simp] theorem put_free (s : State) (k v : Nat) : (s.put k v).free = s.free := rfl
@[simp] theorem put_unlisted (s : State) (k v : Nat) : (s.put k v).unlisted = s.unlisted := rfl
@[simp] theorem put_ctl (s : State) (k v : Nat) : (s.put k v).ctl = s.ctl := rfl
@[simp] theorem put_boot (s : State) (k v : Nat) : (s.put k v).boot = s.boot := rfl
@[simp] theorem put_pins (s : State) (k v : Nat) : (s.put k v).pins = s.pins := rfl
@[simp] theorem put_blobs (s : State) (k v : Nat) : (s.put k v).blobs = s.blobs := rfl
@[simp] theorem put_unrecorded (s : State) (k v : Nat) : (s.put k v).unrecorded = s.unrecorded := rfl
@[simp] theorem put_zop (s : State) (k v : Nat) : (s.put k v).zop = s.zop := rfl
@[simp] theorem put_out (s : State) (k v : Nat) : (s.put k v).out = s.out := rfl
@[simp] theorem put_eflash (s : State) (k v : Nat) : (s.put k v).eflash = s.eflash := rfl
@[simp] theorem put_cores (s : State) (k v : Nat) : (s.put k v).cores = s.cores := rfl
@[simp] theorem put_log (s : State) (k v : Nat) : (s.put k v).log = s.log := rfl
@[simp] theorem put_perf (s : State) (k v : Nat) : (s.put k v).perf = s.perf := rfl
@[simp] theorem put_tickets (s : State) (k v : Nat) : (s.put k v).tickets = s.tickets := rfl
@[simp] theorem put_loop (s : State) (k v : Nat) : (s.put k v).loop = s.loop := rfl
@[simp] theorem put_iso (s : State) (k v : Nat) : (s.put k v).iso = s.iso := rfl
@[simp] theorem put_tables (s : State) (k v : Nat) : (s.put k v).tables = s.tables := rfl
@[simp] theorem put_work (s : State) (k v : Nat) : (s.put k v).work = s.work := rfl
@[simp] theorem put_terms (s : State) (k v : Nat) : (s.put k v).terms = s.terms := rfl
@[simp] theorem put_flush (s : State) (k v : Nat) : (s.put k v).flush = s.flush := rfl
@[simp] theorem put_saves (s : State) (k v : Nat) : (s.put k v).saves = s.saves := rfl
@[simp] theorem put_power (s : State) (k v : Nat) : (s.put k v).power = s.power := rfl
@[simp] theorem put_gauge (s : State) (k v : Nat) : (s.put k v).gauge = s.gauge := rfl
@[simp] theorem put_monitors (s : State) (k v : Nat) : (s.put k v).monitors = s.monitors := rfl
@[simp] theorem put_margin (s : State) (k v : Nat) : (s.put k v).margin = s.margin := rfl
@[simp] theorem put_dram (s : State) (k v : Nat) : (s.put k v).dram = s.dram := rfl
@[simp] theorem put_flash (s : State) (k v : Nat) : (s.put k v).flash = s.flash := rfl
@[simp] theorem put_crypt (s : State) (k v : Nat) : (s.put k v).crypt = s.crypt := rfl
@[simp] theorem put_host (s : State) (k v : Nat) : (s.put k v).host = s.host := rfl
@[simp] theorem put_bus (s : State) (k v : Nat) : (s.put k v).bus = s.bus := rfl
@[simp] theorem put_update (s : State) (k v : Nat) : (s.put k v).update = s.update := rfl
@[simp] theorem put_tap (s : State) (k v : Nat) : (s.put k v).tap = s.tap := rfl

/-! ### `putFlag` -/

@[simp] theorem putFlag_pending (s : State) (k : Nat) (b : Bool) : (s.putFlag k b).pending = s.pending := rfl
@[simp] theorem putFlag_clock (s : State) (k : Nat) (b : Bool) : (s.putFlag k b).clock = s.clock := rfl
@[simp] theorem putFlag_uptime (s : State) (k : Nat) (b : Bool) : (s.putFlag k b).uptime = s.uptime := rfl
@[simp] theorem putFlag_free (s : State) (k : Nat) (b : Bool) : (s.putFlag k b).free = s.free := rfl
@[simp] theorem putFlag_unlisted (s : State) (k : Nat) (b : Bool) : (s.putFlag k b).unlisted = s.unlisted := rfl
@[simp] theorem putFlag_ctl (s : State) (k : Nat) (b : Bool) : (s.putFlag k b).ctl = s.ctl := rfl
@[simp] theorem putFlag_boot (s : State) (k : Nat) (b : Bool) : (s.putFlag k b).boot = s.boot := rfl
@[simp] theorem putFlag_pins (s : State) (k : Nat) (b : Bool) : (s.putFlag k b).pins = s.pins := rfl
@[simp] theorem putFlag_blobs (s : State) (k : Nat) (b : Bool) : (s.putFlag k b).blobs = s.blobs := rfl
@[simp] theorem putFlag_unrecorded (s : State) (k : Nat) (b : Bool) : (s.putFlag k b).unrecorded = s.unrecorded := rfl
@[simp] theorem putFlag_zop (s : State) (k : Nat) (b : Bool) : (s.putFlag k b).zop = s.zop := rfl
@[simp] theorem putFlag_out (s : State) (k : Nat) (b : Bool) : (s.putFlag k b).out = s.out := rfl
@[simp] theorem putFlag_eflash (s : State) (k : Nat) (b : Bool) : (s.putFlag k b).eflash = s.eflash := rfl
@[simp] theorem putFlag_cores (s : State) (k : Nat) (b : Bool) : (s.putFlag k b).cores = s.cores := rfl
@[simp] theorem putFlag_log (s : State) (k : Nat) (b : Bool) : (s.putFlag k b).log = s.log := rfl
@[simp] theorem putFlag_perf (s : State) (k : Nat) (b : Bool) : (s.putFlag k b).perf = s.perf := rfl
@[simp] theorem putFlag_tickets (s : State) (k : Nat) (b : Bool) : (s.putFlag k b).tickets = s.tickets := rfl
@[simp] theorem putFlag_loop (s : State) (k : Nat) (b : Bool) : (s.putFlag k b).loop = s.loop := rfl
@[simp] theorem putFlag_iso (s : State) (k : Nat) (b : Bool) : (s.putFlag k b).iso = s.iso := rfl
@[simp] theorem putFlag_tables (s : State) (k : Nat) (b : Bool) : (s.putFlag k b).tables = s.tables := rfl
@[simp] theorem putFlag_work (s : State) (k : Nat) (b : Bool) : (s.putFlag k b).work = s.work := rfl
@[simp] theorem putFlag_terms (s : State) (k : Nat) (b : Bool) : (s.putFlag k b).terms = s.terms := rfl
@[simp] theorem putFlag_flush (s : State) (k : Nat) (b : Bool) : (s.putFlag k b).flush = s.flush := rfl
@[simp] theorem putFlag_saves (s : State) (k : Nat) (b : Bool) : (s.putFlag k b).saves = s.saves := rfl
@[simp] theorem putFlag_power (s : State) (k : Nat) (b : Bool) : (s.putFlag k b).power = s.power := rfl
@[simp] theorem putFlag_gauge (s : State) (k : Nat) (b : Bool) : (s.putFlag k b).gauge = s.gauge := rfl
@[simp] theorem putFlag_monitors (s : State) (k : Nat) (b : Bool) : (s.putFlag k b).monitors = s.monitors := rfl
@[simp] theorem putFlag_margin (s : State) (k : Nat) (b : Bool) : (s.putFlag k b).margin = s.margin := rfl
@[simp] theorem putFlag_dram (s : State) (k : Nat) (b : Bool) : (s.putFlag k b).dram = s.dram := rfl
@[simp] theorem putFlag_flash (s : State) (k : Nat) (b : Bool) : (s.putFlag k b).flash = s.flash := rfl
@[simp] theorem putFlag_crypt (s : State) (k : Nat) (b : Bool) : (s.putFlag k b).crypt = s.crypt := rfl
@[simp] theorem putFlag_host (s : State) (k : Nat) (b : Bool) : (s.putFlag k b).host = s.host := rfl
@[simp] theorem putFlag_bus (s : State) (k : Nat) (b : Bool) : (s.putFlag k b).bus = s.bus := rfl
@[simp] theorem putFlag_update (s : State) (k : Nat) (b : Bool) : (s.putFlag k b).update = s.update := rfl
@[simp] theorem putFlag_tap (s : State) (k : Nat) (b : Bool) : (s.putFlag k b).tap = s.tap := rfl

/-! ### `putInt` -/

@[simp] theorem putInt_pending (s : State) (k : Nat) (v : Int) : (s.putInt k v).pending = s.pending := rfl
@[simp] theorem putInt_clock (s : State) (k : Nat) (v : Int) : (s.putInt k v).clock = s.clock := rfl
@[simp] theorem putInt_uptime (s : State) (k : Nat) (v : Int) : (s.putInt k v).uptime = s.uptime := rfl
@[simp] theorem putInt_free (s : State) (k : Nat) (v : Int) : (s.putInt k v).free = s.free := rfl
@[simp] theorem putInt_unlisted (s : State) (k : Nat) (v : Int) : (s.putInt k v).unlisted = s.unlisted := rfl
@[simp] theorem putInt_ctl (s : State) (k : Nat) (v : Int) : (s.putInt k v).ctl = s.ctl := rfl
@[simp] theorem putInt_boot (s : State) (k : Nat) (v : Int) : (s.putInt k v).boot = s.boot := rfl
@[simp] theorem putInt_pins (s : State) (k : Nat) (v : Int) : (s.putInt k v).pins = s.pins := rfl
@[simp] theorem putInt_blobs (s : State) (k : Nat) (v : Int) : (s.putInt k v).blobs = s.blobs := rfl
@[simp] theorem putInt_unrecorded (s : State) (k : Nat) (v : Int) : (s.putInt k v).unrecorded = s.unrecorded := rfl
@[simp] theorem putInt_zop (s : State) (k : Nat) (v : Int) : (s.putInt k v).zop = s.zop := rfl
@[simp] theorem putInt_out (s : State) (k : Nat) (v : Int) : (s.putInt k v).out = s.out := rfl
@[simp] theorem putInt_eflash (s : State) (k : Nat) (v : Int) : (s.putInt k v).eflash = s.eflash := rfl
@[simp] theorem putInt_cores (s : State) (k : Nat) (v : Int) : (s.putInt k v).cores = s.cores := rfl
@[simp] theorem putInt_log (s : State) (k : Nat) (v : Int) : (s.putInt k v).log = s.log := rfl
@[simp] theorem putInt_perf (s : State) (k : Nat) (v : Int) : (s.putInt k v).perf = s.perf := rfl
@[simp] theorem putInt_tickets (s : State) (k : Nat) (v : Int) : (s.putInt k v).tickets = s.tickets := rfl
@[simp] theorem putInt_loop (s : State) (k : Nat) (v : Int) : (s.putInt k v).loop = s.loop := rfl
@[simp] theorem putInt_iso (s : State) (k : Nat) (v : Int) : (s.putInt k v).iso = s.iso := rfl
@[simp] theorem putInt_tables (s : State) (k : Nat) (v : Int) : (s.putInt k v).tables = s.tables := rfl
@[simp] theorem putInt_work (s : State) (k : Nat) (v : Int) : (s.putInt k v).work = s.work := rfl
@[simp] theorem putInt_terms (s : State) (k : Nat) (v : Int) : (s.putInt k v).terms = s.terms := rfl
@[simp] theorem putInt_flush (s : State) (k : Nat) (v : Int) : (s.putInt k v).flush = s.flush := rfl
@[simp] theorem putInt_saves (s : State) (k : Nat) (v : Int) : (s.putInt k v).saves = s.saves := rfl
@[simp] theorem putInt_power (s : State) (k : Nat) (v : Int) : (s.putInt k v).power = s.power := rfl
@[simp] theorem putInt_gauge (s : State) (k : Nat) (v : Int) : (s.putInt k v).gauge = s.gauge := rfl
@[simp] theorem putInt_monitors (s : State) (k : Nat) (v : Int) : (s.putInt k v).monitors = s.monitors := rfl
@[simp] theorem putInt_margin (s : State) (k : Nat) (v : Int) : (s.putInt k v).margin = s.margin := rfl
@[simp] theorem putInt_dram (s : State) (k : Nat) (v : Int) : (s.putInt k v).dram = s.dram := rfl
@[simp] theorem putInt_flash (s : State) (k : Nat) (v : Int) : (s.putInt k v).flash = s.flash := rfl
@[simp] theorem putInt_crypt (s : State) (k : Nat) (v : Int) : (s.putInt k v).crypt = s.crypt := rfl
@[simp] theorem putInt_host (s : State) (k : Nat) (v : Int) : (s.putInt k v).host = s.host := rfl
@[simp] theorem putInt_bus (s : State) (k : Nat) (v : Int) : (s.putInt k v).bus = s.bus := rfl
@[simp] theorem putInt_update (s : State) (k : Nat) (v : Int) : (s.putInt k v).update = s.update := rfl
@[simp] theorem putInt_tap (s : State) (k : Nat) (v : Int) : (s.putInt k v).tap = s.tap := rfl

/-! ### `bump` -/

@[simp] theorem bump_pending (s : State) (k n : Nat) : (s.bump k n).pending = s.pending := rfl
@[simp] theorem bump_clock (s : State) (k n : Nat) : (s.bump k n).clock = s.clock := rfl
@[simp] theorem bump_uptime (s : State) (k n : Nat) : (s.bump k n).uptime = s.uptime := rfl
@[simp] theorem bump_free (s : State) (k n : Nat) : (s.bump k n).free = s.free := rfl
@[simp] theorem bump_unlisted (s : State) (k n : Nat) : (s.bump k n).unlisted = s.unlisted := rfl
@[simp] theorem bump_ctl (s : State) (k n : Nat) : (s.bump k n).ctl = s.ctl := rfl
@[simp] theorem bump_boot (s : State) (k n : Nat) : (s.bump k n).boot = s.boot := rfl
@[simp] theorem bump_pins (s : State) (k n : Nat) : (s.bump k n).pins = s.pins := rfl
@[simp] theorem bump_blobs (s : State) (k n : Nat) : (s.bump k n).blobs = s.blobs := rfl
@[simp] theorem bump_unrecorded (s : State) (k n : Nat) : (s.bump k n).unrecorded = s.unrecorded := rfl
@[simp] theorem bump_zop (s : State) (k n : Nat) : (s.bump k n).zop = s.zop := rfl
@[simp] theorem bump_out (s : State) (k n : Nat) : (s.bump k n).out = s.out := rfl
@[simp] theorem bump_eflash (s : State) (k n : Nat) : (s.bump k n).eflash = s.eflash := rfl
@[simp] theorem bump_cores (s : State) (k n : Nat) : (s.bump k n).cores = s.cores := rfl
@[simp] theorem bump_log (s : State) (k n : Nat) : (s.bump k n).log = s.log := rfl
@[simp] theorem bump_perf (s : State) (k n : Nat) : (s.bump k n).perf = s.perf := rfl
@[simp] theorem bump_tickets (s : State) (k n : Nat) : (s.bump k n).tickets = s.tickets := rfl
@[simp] theorem bump_loop (s : State) (k n : Nat) : (s.bump k n).loop = s.loop := rfl
@[simp] theorem bump_iso (s : State) (k n : Nat) : (s.bump k n).iso = s.iso := rfl
@[simp] theorem bump_tables (s : State) (k n : Nat) : (s.bump k n).tables = s.tables := rfl
@[simp] theorem bump_work (s : State) (k n : Nat) : (s.bump k n).work = s.work := rfl
@[simp] theorem bump_terms (s : State) (k n : Nat) : (s.bump k n).terms = s.terms := rfl
@[simp] theorem bump_flush (s : State) (k n : Nat) : (s.bump k n).flush = s.flush := rfl
@[simp] theorem bump_saves (s : State) (k n : Nat) : (s.bump k n).saves = s.saves := rfl
@[simp] theorem bump_power (s : State) (k n : Nat) : (s.bump k n).power = s.power := rfl
@[simp] theorem bump_gauge (s : State) (k n : Nat) : (s.bump k n).gauge = s.gauge := rfl
@[simp] theorem bump_monitors (s : State) (k n : Nat) : (s.bump k n).monitors = s.monitors := rfl
@[simp] theorem bump_margin (s : State) (k n : Nat) : (s.bump k n).margin = s.margin := rfl
@[simp] theorem bump_dram (s : State) (k n : Nat) : (s.bump k n).dram = s.dram := rfl
@[simp] theorem bump_flash (s : State) (k n : Nat) : (s.bump k n).flash = s.flash := rfl
@[simp] theorem bump_crypt (s : State) (k n : Nat) : (s.bump k n).crypt = s.crypt := rfl
@[simp] theorem bump_host (s : State) (k n : Nat) : (s.bump k n).host = s.host := rfl
@[simp] theorem bump_bus (s : State) (k n : Nat) : (s.bump k n).bus = s.bus := rfl
@[simp] theorem bump_update (s : State) (k n : Nat) : (s.bump k n).update = s.update := rfl
@[simp] theorem bump_tap (s : State) (k n : Nat) : (s.bump k n).tap = s.tap := rfl

/-! ### `putBlob` -/

@[simp] theorem putBlob_pending (s : State) (k : Nat) (v : List Byte) : (s.putBlob k v).pending = s.pending := rfl
@[simp] theorem putBlob_clock (s : State) (k : Nat) (v : List Byte) : (s.putBlob k v).clock = s.clock := rfl
@[simp] theorem putBlob_uptime (s : State) (k : Nat) (v : List Byte) : (s.putBlob k v).uptime = s.uptime := rfl
@[simp] theorem putBlob_free (s : State) (k : Nat) (v : List Byte) : (s.putBlob k v).free = s.free := rfl
@[simp] theorem putBlob_unlisted (s : State) (k : Nat) (v : List Byte) : (s.putBlob k v).unlisted = s.unlisted := rfl
@[simp] theorem putBlob_ctl (s : State) (k : Nat) (v : List Byte) : (s.putBlob k v).ctl = s.ctl := rfl
@[simp] theorem putBlob_boot (s : State) (k : Nat) (v : List Byte) : (s.putBlob k v).boot = s.boot := rfl
@[simp] theorem putBlob_pins (s : State) (k : Nat) (v : List Byte) : (s.putBlob k v).pins = s.pins := rfl
@[simp] theorem putBlob_od (s : State) (k : Nat) (v : List Byte) : (s.putBlob k v).od = s.od := rfl
@[simp] theorem putBlob_unrecorded (s : State) (k : Nat) (v : List Byte) : (s.putBlob k v).unrecorded = s.unrecorded := rfl
@[simp] theorem putBlob_zop (s : State) (k : Nat) (v : List Byte) : (s.putBlob k v).zop = s.zop := rfl
@[simp] theorem putBlob_out (s : State) (k : Nat) (v : List Byte) : (s.putBlob k v).out = s.out := rfl
@[simp] theorem putBlob_eflash (s : State) (k : Nat) (v : List Byte) : (s.putBlob k v).eflash = s.eflash := rfl
@[simp] theorem putBlob_cores (s : State) (k : Nat) (v : List Byte) : (s.putBlob k v).cores = s.cores := rfl
@[simp] theorem putBlob_log (s : State) (k : Nat) (v : List Byte) : (s.putBlob k v).log = s.log := rfl
@[simp] theorem putBlob_perf (s : State) (k : Nat) (v : List Byte) : (s.putBlob k v).perf = s.perf := rfl
@[simp] theorem putBlob_tickets (s : State) (k : Nat) (v : List Byte) : (s.putBlob k v).tickets = s.tickets := rfl
@[simp] theorem putBlob_loop (s : State) (k : Nat) (v : List Byte) : (s.putBlob k v).loop = s.loop := rfl
@[simp] theorem putBlob_iso (s : State) (k : Nat) (v : List Byte) : (s.putBlob k v).iso = s.iso := rfl
@[simp] theorem putBlob_tables (s : State) (k : Nat) (v : List Byte) : (s.putBlob k v).tables = s.tables := rfl
@[simp] theorem putBlob_work (s : State) (k : Nat) (v : List Byte) : (s.putBlob k v).work = s.work := rfl
@[simp] theorem putBlob_terms (s : State) (k : Nat) (v : List Byte) : (s.putBlob k v).terms = s.terms := rfl
@[simp] theorem putBlob_flush (s : State) (k : Nat) (v : List Byte) : (s.putBlob k v).flush = s.flush := rfl
@[simp] theorem putBlob_saves (s : State) (k : Nat) (v : List Byte) : (s.putBlob k v).saves = s.saves := rfl
@[simp] theorem putBlob_power (s : State) (k : Nat) (v : List Byte) : (s.putBlob k v).power = s.power := rfl
@[simp] theorem putBlob_gauge (s : State) (k : Nat) (v : List Byte) : (s.putBlob k v).gauge = s.gauge := rfl
@[simp] theorem putBlob_monitors (s : State) (k : Nat) (v : List Byte) : (s.putBlob k v).monitors = s.monitors := rfl
@[simp] theorem putBlob_margin (s : State) (k : Nat) (v : List Byte) : (s.putBlob k v).margin = s.margin := rfl
@[simp] theorem putBlob_dram (s : State) (k : Nat) (v : List Byte) : (s.putBlob k v).dram = s.dram := rfl
@[simp] theorem putBlob_flash (s : State) (k : Nat) (v : List Byte) : (s.putBlob k v).flash = s.flash := rfl
@[simp] theorem putBlob_crypt (s : State) (k : Nat) (v : List Byte) : (s.putBlob k v).crypt = s.crypt := rfl
@[simp] theorem putBlob_host (s : State) (k : Nat) (v : List Byte) : (s.putBlob k v).host = s.host := rfl
@[simp] theorem putBlob_bus (s : State) (k : Nat) (v : List Byte) : (s.putBlob k v).bus = s.bus := rfl
@[simp] theorem putBlob_update (s : State) (k : Nat) (v : List Byte) : (s.putBlob k v).update = s.update := rfl
@[simp] theorem putBlob_tap (s : State) (k : Nat) (v : List Byte) : (s.putBlob k v).tap = s.tap := rfl

/-! ### `unlist` -/

@[simp] theorem unlist_pending (s : State) : (s.unlist).pending = s.pending := rfl
@[simp] theorem unlist_clock (s : State) : (s.unlist).clock = s.clock := rfl
@[simp] theorem unlist_uptime (s : State) : (s.unlist).uptime = s.uptime := rfl
@[simp] theorem unlist_free (s : State) : (s.unlist).free = s.free := rfl
@[simp] theorem unlist_ctl (s : State) : (s.unlist).ctl = s.ctl := rfl
@[simp] theorem unlist_boot (s : State) : (s.unlist).boot = s.boot := rfl
@[simp] theorem unlist_pins (s : State) : (s.unlist).pins = s.pins := rfl
@[simp] theorem unlist_od (s : State) : (s.unlist).od = s.od := rfl
@[simp] theorem unlist_blobs (s : State) : (s.unlist).blobs = s.blobs := rfl
@[simp] theorem unlist_unrecorded (s : State) : (s.unlist).unrecorded = s.unrecorded := rfl
@[simp] theorem unlist_zop (s : State) : (s.unlist).zop = s.zop := rfl
@[simp] theorem unlist_out (s : State) : (s.unlist).out = s.out := rfl
@[simp] theorem unlist_eflash (s : State) : (s.unlist).eflash = s.eflash := rfl
@[simp] theorem unlist_cores (s : State) : (s.unlist).cores = s.cores := rfl
@[simp] theorem unlist_log (s : State) : (s.unlist).log = s.log := rfl
@[simp] theorem unlist_perf (s : State) : (s.unlist).perf = s.perf := rfl
@[simp] theorem unlist_tickets (s : State) : (s.unlist).tickets = s.tickets := rfl
@[simp] theorem unlist_loop (s : State) : (s.unlist).loop = s.loop := rfl
@[simp] theorem unlist_iso (s : State) : (s.unlist).iso = s.iso := rfl
@[simp] theorem unlist_tables (s : State) : (s.unlist).tables = s.tables := rfl
@[simp] theorem unlist_work (s : State) : (s.unlist).work = s.work := rfl
@[simp] theorem unlist_terms (s : State) : (s.unlist).terms = s.terms := rfl
@[simp] theorem unlist_flush (s : State) : (s.unlist).flush = s.flush := rfl
@[simp] theorem unlist_saves (s : State) : (s.unlist).saves = s.saves := rfl
@[simp] theorem unlist_power (s : State) : (s.unlist).power = s.power := rfl
@[simp] theorem unlist_gauge (s : State) : (s.unlist).gauge = s.gauge := rfl
@[simp] theorem unlist_monitors (s : State) : (s.unlist).monitors = s.monitors := rfl
@[simp] theorem unlist_margin (s : State) : (s.unlist).margin = s.margin := rfl
@[simp] theorem unlist_dram (s : State) : (s.unlist).dram = s.dram := rfl
@[simp] theorem unlist_flash (s : State) : (s.unlist).flash = s.flash := rfl
@[simp] theorem unlist_crypt (s : State) : (s.unlist).crypt = s.crypt := rfl
@[simp] theorem unlist_host (s : State) : (s.unlist).host = s.host := rfl
@[simp] theorem unlist_bus (s : State) : (s.unlist).bus = s.bus := rfl
@[simp] theorem unlist_update (s : State) : (s.unlist).update = s.update := rfl
@[simp] theorem unlist_tap (s : State) : (s.unlist).tap = s.tap := rfl

/-! ### `draw` -/

@[simp] theorem draw_pending (s : State) : (s.draw).pending = s.pending := rfl
@[simp] theorem draw_clock (s : State) : (s.draw).clock = s.clock := rfl
@[simp] theorem draw_uptime (s : State) : (s.draw).uptime = s.uptime := rfl
@[simp] theorem draw_unlisted (s : State) : (s.draw).unlisted = s.unlisted := rfl
@[simp] theorem draw_ctl (s : State) : (s.draw).ctl = s.ctl := rfl
@[simp] theorem draw_boot (s : State) : (s.draw).boot = s.boot := rfl
@[simp] theorem draw_pins (s : State) : (s.draw).pins = s.pins := rfl
@[simp] theorem draw_od (s : State) : (s.draw).od = s.od := rfl
@[simp] theorem draw_blobs (s : State) : (s.draw).blobs = s.blobs := rfl
@[simp] theorem draw_unrecorded (s : State) : (s.draw).unrecorded = s.unrecorded := rfl
@[simp] theorem draw_zop (s : State) : (s.draw).zop = s.zop := rfl
@[simp] theorem draw_out (s : State) : (s.draw).out = s.out := rfl
@[simp] theorem draw_eflash (s : State) : (s.draw).eflash = s.eflash := rfl
@[simp] theorem draw_cores (s : State) : (s.draw).cores = s.cores := rfl
@[simp] theorem draw_log (s : State) : (s.draw).log = s.log := rfl
@[simp] theorem draw_perf (s : State) : (s.draw).perf = s.perf := rfl
@[simp] theorem draw_tickets (s : State) : (s.draw).tickets = s.tickets := rfl
@[simp] theorem draw_loop (s : State) : (s.draw).loop = s.loop := rfl
@[simp] theorem draw_iso (s : State) : (s.draw).iso = s.iso := rfl
@[simp] theorem draw_tables (s : State) : (s.draw).tables = s.tables := rfl
@[simp] theorem draw_work (s : State) : (s.draw).work = s.work := rfl
@[simp] theorem draw_terms (s : State) : (s.draw).terms = s.terms := rfl
@[simp] theorem draw_flush (s : State) : (s.draw).flush = s.flush := rfl
@[simp] theorem draw_saves (s : State) : (s.draw).saves = s.saves := rfl
@[simp] theorem draw_power (s : State) : (s.draw).power = s.power := rfl
@[simp] theorem draw_gauge (s : State) : (s.draw).gauge = s.gauge := rfl
@[simp] theorem draw_monitors (s : State) : (s.draw).monitors = s.monitors := rfl
@[simp] theorem draw_margin (s : State) : (s.draw).margin = s.margin := rfl
@[simp] theorem draw_dram (s : State) : (s.draw).dram = s.dram := rfl
@[simp] theorem draw_flash (s : State) : (s.draw).flash = s.flash := rfl
@[simp] theorem draw_crypt (s : State) : (s.draw).crypt = s.crypt := rfl
@[simp] theorem draw_host (s : State) : (s.draw).host = s.host := rfl
@[simp] theorem draw_bus (s : State) : (s.draw).bus = s.bus := rfl
@[simp] theorem draw_update (s : State) : (s.draw).update = s.update := rfl
@[simp] theorem draw_tap (s : State) : (s.draw).tap = s.tap := rfl

/-! ### `setSession` -/

@[simp] theorem setSession_pending (s : State) (x : Session) : (s.setSession x).pending = s.pending := rfl
@[simp] theorem setSession_clock (s : State) (x : Session) : (s.setSession x).clock = s.clock := rfl
@[simp] theorem setSession_uptime (s : State) (x : Session) : (s.setSession x).uptime = s.uptime := rfl
@[simp] theorem setSession_free (s : State) (x : Session) : (s.setSession x).free = s.free := rfl
@[simp] theorem setSession_unlisted (s : State) (x : Session) : (s.setSession x).unlisted = s.unlisted := rfl
@[simp] theorem setSession_ctl (s : State) (x : Session) : (s.setSession x).ctl = s.ctl := rfl
@[simp] theorem setSession_boot (s : State) (x : Session) : (s.setSession x).boot = s.boot := rfl
@[simp] theorem setSession_pins (s : State) (x : Session) : (s.setSession x).pins = s.pins := rfl
@[simp] theorem setSession_od (s : State) (x : Session) : (s.setSession x).od = s.od := rfl
@[simp] theorem setSession_blobs (s : State) (x : Session) : (s.setSession x).blobs = s.blobs := rfl
@[simp] theorem setSession_unrecorded (s : State) (x : Session) : (s.setSession x).unrecorded = s.unrecorded := rfl
@[simp] theorem setSession_out (s : State) (x : Session) : (s.setSession x).out = s.out := rfl
@[simp] theorem setSession_eflash (s : State) (x : Session) : (s.setSession x).eflash = s.eflash := rfl
@[simp] theorem setSession_cores (s : State) (x : Session) : (s.setSession x).cores = s.cores := rfl
@[simp] theorem setSession_log (s : State) (x : Session) : (s.setSession x).log = s.log := rfl
@[simp] theorem setSession_perf (s : State) (x : Session) : (s.setSession x).perf = s.perf := rfl
@[simp] theorem setSession_tickets (s : State) (x : Session) : (s.setSession x).tickets = s.tickets := rfl
@[simp] theorem setSession_loop (s : State) (x : Session) : (s.setSession x).loop = s.loop := rfl
@[simp] theorem setSession_iso (s : State) (x : Session) : (s.setSession x).iso = s.iso := rfl
@[simp] theorem setSession_tables (s : State) (x : Session) : (s.setSession x).tables = s.tables := rfl
@[simp] theorem setSession_work (s : State) (x : Session) : (s.setSession x).work = s.work := rfl
@[simp] theorem setSession_terms (s : State) (x : Session) : (s.setSession x).terms = s.terms := rfl
@[simp] theorem setSession_flush (s : State) (x : Session) : (s.setSession x).flush = s.flush := rfl
@[simp] theorem setSession_saves (s : State) (x : Session) : (s.setSession x).saves = s.saves := rfl
@[simp] theorem setSession_power (s : State) (x : Session) : (s.setSession x).power = s.power := rfl
@[simp] theorem setSession_gauge (s : State) (x : Session) : (s.setSession x).gauge = s.gauge := rfl
@[simp] theorem setSession_monitors (s : State) (x : Session) : (s.setSession x).monitors = s.monitors := rfl
@[simp] theorem setSession_margin (s : State) (x : Session) : (s.setSession x).margin = s.margin := rfl
@[simp] theorem setSession_dram (s : State) (x : Session) : (s.setSession x).dram = s.dram := rfl
@[simp] theorem setSession_flash (s : State) (x : Session) : (s.setSession x).flash = s.flash := rfl
@[simp] theorem setSession_crypt (s : State) (x : Session) : (s.setSession x).crypt = s.crypt := rfl
@[simp] theorem setSession_host (s : State) (x : Session) : (s.setSession x).host = s.host := rfl
@[simp] theorem setSession_bus (s : State) (x : Session) : (s.setSession x).bus = s.bus := rfl
@[simp] theorem setSession_update (s : State) (x : Session) : (s.setSession x).update = s.update := rfl
@[simp] theorem setSession_tap (s : State) (x : Session) : (s.setSession x).tap = s.tap := rfl

/-! ### `owe` -/

@[simp] theorem owe_pending (s : State) (k : Nat) : (s.owe k).pending = s.pending := by unfold State.owe; split <;> rfl
@[simp] theorem owe_clock (s : State) (k : Nat) : (s.owe k).clock = s.clock := by unfold State.owe; split <;> rfl
@[simp] theorem owe_uptime (s : State) (k : Nat) : (s.owe k).uptime = s.uptime := by unfold State.owe; split <;> rfl
@[simp] theorem owe_free (s : State) (k : Nat) : (s.owe k).free = s.free := by unfold State.owe; split <;> rfl
@[simp] theorem owe_unlisted (s : State) (k : Nat) : (s.owe k).unlisted = s.unlisted := by unfold State.owe; split <;> rfl
@[simp] theorem owe_ctl (s : State) (k : Nat) : (s.owe k).ctl = s.ctl := by unfold State.owe; split <;> rfl
@[simp] theorem owe_boot (s : State) (k : Nat) : (s.owe k).boot = s.boot := by unfold State.owe; split <;> rfl
@[simp] theorem owe_pins (s : State) (k : Nat) : (s.owe k).pins = s.pins := by unfold State.owe; split <;> rfl
@[simp] theorem owe_od (s : State) (k : Nat) : (s.owe k).od = s.od := by unfold State.owe; split <;> rfl
@[simp] theorem owe_blobs (s : State) (k : Nat) : (s.owe k).blobs = s.blobs := by unfold State.owe; split <;> rfl
@[simp] theorem owe_zop (s : State) (k : Nat) : (s.owe k).zop = s.zop := by unfold State.owe; split <;> rfl
@[simp] theorem owe_out (s : State) (k : Nat) : (s.owe k).out = s.out := by unfold State.owe; split <;> rfl
@[simp] theorem owe_eflash (s : State) (k : Nat) : (s.owe k).eflash = s.eflash := by unfold State.owe; split <;> rfl
@[simp] theorem owe_cores (s : State) (k : Nat) : (s.owe k).cores = s.cores := by unfold State.owe; split <;> rfl
@[simp] theorem owe_log (s : State) (k : Nat) : (s.owe k).log = s.log := by unfold State.owe; split <;> rfl
@[simp] theorem owe_perf (s : State) (k : Nat) : (s.owe k).perf = s.perf := by unfold State.owe; split <;> rfl
@[simp] theorem owe_tickets (s : State) (k : Nat) : (s.owe k).tickets = s.tickets := by unfold State.owe; split <;> rfl
@[simp] theorem owe_loop (s : State) (k : Nat) : (s.owe k).loop = s.loop := by unfold State.owe; split <;> rfl
@[simp] theorem owe_iso (s : State) (k : Nat) : (s.owe k).iso = s.iso := by unfold State.owe; split <;> rfl
@[simp] theorem owe_tables (s : State) (k : Nat) : (s.owe k).tables = s.tables := by unfold State.owe; split <;> rfl
@[simp] theorem owe_work (s : State) (k : Nat) : (s.owe k).work = s.work := by unfold State.owe; split <;> rfl
@[simp] theorem owe_terms (s : State) (k : Nat) : (s.owe k).terms = s.terms := by unfold State.owe; split <;> rfl
@[simp] theorem owe_flush (s : State) (k : Nat) : (s.owe k).flush = s.flush := by unfold State.owe; split <;> rfl
@[simp] theorem owe_saves (s : State) (k : Nat) : (s.owe k).saves = s.saves := by unfold State.owe; split <;> rfl
@[simp] theorem owe_power (s : State) (k : Nat) : (s.owe k).power = s.power := by unfold State.owe; split <;> rfl
@[simp] theorem owe_gauge (s : State) (k : Nat) : (s.owe k).gauge = s.gauge := by unfold State.owe; split <;> rfl
@[simp] theorem owe_monitors (s : State) (k : Nat) : (s.owe k).monitors = s.monitors := by unfold State.owe; split <;> rfl
@[simp] theorem owe_margin (s : State) (k : Nat) : (s.owe k).margin = s.margin := by unfold State.owe; split <;> rfl
@[simp] theorem owe_dram (s : State) (k : Nat) : (s.owe k).dram = s.dram := by unfold State.owe; split <;> rfl
@[simp] theorem owe_flash (s : State) (k : Nat) : (s.owe k).flash = s.flash := by unfold State.owe; split <;> rfl
@[simp] theorem owe_crypt (s : State) (k : Nat) : (s.owe k).crypt = s.crypt := by unfold State.owe; split <;> rfl
@[simp] theorem owe_host (s : State) (k : Nat) : (s.owe k).host = s.host := by unfold State.owe; split <;> rfl
@[simp] theorem owe_bus (s : State) (k : Nat) : (s.owe k).bus = s.bus := by unfold State.owe; split <;> rfl
@[simp] theorem owe_update (s : State) (k : Nat) : (s.owe k).update = s.update := by unfold State.owe; split <;> rfl
@[simp] theorem owe_tap (s : State) (k : Nat) : (s.owe k).tap = s.tap := by unfold State.owe; split <;> rfl

/-! ### `count` -/

@[simp] theorem count_pending (s : State) (a b n : Nat) : (s.count a b n).pending = s.pending := by unfold State.count; split <;> rfl
@[simp] theorem count_clock (s : State) (a b n : Nat) : (s.count a b n).clock = s.clock := by unfold State.count; split <;> rfl
@[simp] theorem count_uptime (s : State) (a b n : Nat) : (s.count a b n).uptime = s.uptime := by unfold State.count; split <;> rfl
@[simp] theorem count_free (s : State) (a b n : Nat) : (s.count a b n).free = s.free := by unfold State.count; split <;> rfl
@[simp] theorem count_unlisted (s : State) (a b n : Nat) : (s.count a b n).unlisted = s.unlisted := by unfold State.count; split <;> rfl
@[simp] theorem count_ctl (s : State) (a b n : Nat) : (s.count a b n).ctl = s.ctl := by unfold State.count; split <;> rfl
@[simp] theorem count_boot (s : State) (a b n : Nat) : (s.count a b n).boot = s.boot := by unfold State.count; split <;> rfl
@[simp] theorem count_pins (s : State) (a b n : Nat) : (s.count a b n).pins = s.pins := by unfold State.count; split <;> rfl
@[simp] theorem count_od (s : State) (a b n : Nat) : (s.count a b n).od = s.od := by unfold State.count; split <;> rfl
@[simp] theorem count_blobs (s : State) (a b n : Nat) : (s.count a b n).blobs = s.blobs := by unfold State.count; split <;> rfl
@[simp] theorem count_unrecorded (s : State) (a b n : Nat) : (s.count a b n).unrecorded = s.unrecorded := by unfold State.count; split <;> rfl
@[simp] theorem count_zop (s : State) (a b n : Nat) : (s.count a b n).zop = s.zop := by unfold State.count; split <;> rfl
@[simp] theorem count_out (s : State) (a b n : Nat) : (s.count a b n).out = s.out := by unfold State.count; split <;> rfl
@[simp] theorem count_eflash (s : State) (a b n : Nat) : (s.count a b n).eflash = s.eflash := by unfold State.count; split <;> rfl
@[simp] theorem count_cores (s : State) (a b n : Nat) : (s.count a b n).cores = s.cores := by unfold State.count; split <;> rfl
@[simp] theorem count_log (s : State) (a b n : Nat) : (s.count a b n).log = s.log := by unfold State.count; split <;> rfl
@[simp] theorem count_tickets (s : State) (a b n : Nat) : (s.count a b n).tickets = s.tickets := by unfold State.count; split <;> rfl
@[simp] theorem count_loop (s : State) (a b n : Nat) : (s.count a b n).loop = s.loop := by unfold State.count; split <;> rfl
@[simp] theorem count_iso (s : State) (a b n : Nat) : (s.count a b n).iso = s.iso := by unfold State.count; split <;> rfl
@[simp] theorem count_tables (s : State) (a b n : Nat) : (s.count a b n).tables = s.tables := by unfold State.count; split <;> rfl
@[simp] theorem count_work (s : State) (a b n : Nat) : (s.count a b n).work = s.work := by unfold State.count; split <;> rfl
@[simp] theorem count_terms (s : State) (a b n : Nat) : (s.count a b n).terms = s.terms := by unfold State.count; split <;> rfl
@[simp] theorem count_flush (s : State) (a b n : Nat) : (s.count a b n).flush = s.flush := by unfold State.count; split <;> rfl
@[simp] theorem count_saves (s : State) (a b n : Nat) : (s.count a b n).saves = s.saves := by unfold State.count; split <;> rfl
@[simp] theorem count_power (s : State) (a b n : Nat) : (s.count a b n).power = s.power := by unfold State.count; split <;> rfl
@[simp] theorem count_gauge (s : State) (a b n : Nat) : (s.count a b n).gauge = s.gauge := by unfold State.count; split <;> rfl
@[simp] theorem count_monitors (s : State) (a b n : Nat) : (s.count a b n).monitors = s.monitors := by unfold State.count; split <;> rfl
@[simp] theorem count_margin (s : State) (a b n : Nat) : (s.count a b n).margin = s.margin := by unfold State.count; split <;> rfl
@[simp] theorem count_dram (s : State) (a b n : Nat) : (s.count a b n).dram = s.dram := by unfold State.count; split <;> rfl
@[simp] theorem count_flash (s : State) (a b n : Nat) : (s.count a b n).flash = s.flash := by unfold State.count; split <;> rfl
@[simp] theorem count_crypt (s : State) (a b n : Nat) : (s.count a b n).crypt = s.crypt := by unfold State.count; split <;> rfl
@[simp] theorem count_host (s : State) (a b n : Nat) : (s.count a b n).host = s.host := by unfold State.count; split <;> rfl
@[simp] theorem count_bus (s : State) (a b n : Nat) : (s.count a b n).bus = s.bus := by unfold State.count; split <;> rfl
@[simp] theorem count_update (s : State) (a b n : Nat) : (s.count a b n).update = s.update := by unfold State.count; split <;> rfl
@[simp] theorem count_tap (s : State) (a b n : Nat) : (s.count a b n).tap = s.tap := by unfold State.count; split <;> rfl

/-! ### `raise` -/

/-- An event changes the queue of occurrences, the counters of events, and, on a full queue, a drop counter. -/
theorem raiseWith_frame (s : State) (c v : Nat) (is : List (ItemKind × Nat)) (a : List Byte) :
    ∃ l p o, s.raiseWith c v is a = { s with log := l, perf := p, od := o } := by
  unfold State.raiseWith State.count State.bump State.put
  split <;> dsimp only <;> split <;> exact ⟨_, _, _, rfl⟩

@[simp] theorem raiseWith_pending (s : State) (c v : Nat) (is : List (ItemKind × Nat)) (a : List Byte) : (s.raiseWith c v is a).pending = s.pending := by obtain ⟨l, p, o, h⟩ := raiseWith_frame s c v is a; rw [h]
@[simp] theorem raiseWith_clock (s : State) (c v : Nat) (is : List (ItemKind × Nat)) (a : List Byte) : (s.raiseWith c v is a).clock = s.clock := by obtain ⟨l, p, o, h⟩ := raiseWith_frame s c v is a; rw [h]
@[simp] theorem raiseWith_uptime (s : State) (c v : Nat) (is : List (ItemKind × Nat)) (a : List Byte) : (s.raiseWith c v is a).uptime = s.uptime := by obtain ⟨l, p, o, h⟩ := raiseWith_frame s c v is a; rw [h]
@[simp] theorem raiseWith_free (s : State) (c v : Nat) (is : List (ItemKind × Nat)) (a : List Byte) : (s.raiseWith c v is a).free = s.free := by obtain ⟨l, p, o, h⟩ := raiseWith_frame s c v is a; rw [h]
@[simp] theorem raiseWith_unlisted (s : State) (c v : Nat) (is : List (ItemKind × Nat)) (a : List Byte) : (s.raiseWith c v is a).unlisted = s.unlisted := by obtain ⟨l, p, o, h⟩ := raiseWith_frame s c v is a; rw [h]
@[simp] theorem raiseWith_ctl (s : State) (c v : Nat) (is : List (ItemKind × Nat)) (a : List Byte) : (s.raiseWith c v is a).ctl = s.ctl := by obtain ⟨l, p, o, h⟩ := raiseWith_frame s c v is a; rw [h]
@[simp] theorem raiseWith_boot (s : State) (c v : Nat) (is : List (ItemKind × Nat)) (a : List Byte) : (s.raiseWith c v is a).boot = s.boot := by obtain ⟨l, p, o, h⟩ := raiseWith_frame s c v is a; rw [h]
@[simp] theorem raiseWith_pins (s : State) (c v : Nat) (is : List (ItemKind × Nat)) (a : List Byte) : (s.raiseWith c v is a).pins = s.pins := by obtain ⟨l, p, o, h⟩ := raiseWith_frame s c v is a; rw [h]
@[simp] theorem raiseWith_blobs (s : State) (c v : Nat) (is : List (ItemKind × Nat)) (a : List Byte) : (s.raiseWith c v is a).blobs = s.blobs := by obtain ⟨l, p, o, h⟩ := raiseWith_frame s c v is a; rw [h]
@[simp] theorem raiseWith_unrecorded (s : State) (c v : Nat) (is : List (ItemKind × Nat)) (a : List Byte) : (s.raiseWith c v is a).unrecorded = s.unrecorded := by obtain ⟨l, p, o, h⟩ := raiseWith_frame s c v is a; rw [h]
@[simp] theorem raiseWith_zop (s : State) (c v : Nat) (is : List (ItemKind × Nat)) (a : List Byte) : (s.raiseWith c v is a).zop = s.zop := by obtain ⟨l, p, o, h⟩ := raiseWith_frame s c v is a; rw [h]
@[simp] theorem raiseWith_out (s : State) (c v : Nat) (is : List (ItemKind × Nat)) (a : List Byte) : (s.raiseWith c v is a).out = s.out := by obtain ⟨l, p, o, h⟩ := raiseWith_frame s c v is a; rw [h]
@[simp] theorem raiseWith_eflash (s : State) (c v : Nat) (is : List (ItemKind × Nat)) (a : List Byte) : (s.raiseWith c v is a).eflash = s.eflash := by obtain ⟨l, p, o, h⟩ := raiseWith_frame s c v is a; rw [h]
@[simp] theorem raiseWith_cores (s : State) (c v : Nat) (is : List (ItemKind × Nat)) (a : List Byte) : (s.raiseWith c v is a).cores = s.cores := by obtain ⟨l, p, o, h⟩ := raiseWith_frame s c v is a; rw [h]
@[simp] theorem raiseWith_tickets (s : State) (c v : Nat) (is : List (ItemKind × Nat)) (a : List Byte) : (s.raiseWith c v is a).tickets = s.tickets := by obtain ⟨l, p, o, h⟩ := raiseWith_frame s c v is a; rw [h]
@[simp] theorem raiseWith_loop (s : State) (c v : Nat) (is : List (ItemKind × Nat)) (a : List Byte) : (s.raiseWith c v is a).loop = s.loop := by obtain ⟨l, p, o, h⟩ := raiseWith_frame s c v is a; rw [h]
@[simp] theorem raiseWith_iso (s : State) (c v : Nat) (is : List (ItemKind × Nat)) (a : List Byte) : (s.raiseWith c v is a).iso = s.iso := by obtain ⟨l, p, o, h⟩ := raiseWith_frame s c v is a; rw [h]
@[simp] theorem raiseWith_tables (s : State) (c v : Nat) (is : List (ItemKind × Nat)) (a : List Byte) : (s.raiseWith c v is a).tables = s.tables := by obtain ⟨l, p, o, h⟩ := raiseWith_frame s c v is a; rw [h]
@[simp] theorem raiseWith_work (s : State) (c v : Nat) (is : List (ItemKind × Nat)) (a : List Byte) : (s.raiseWith c v is a).work = s.work := by obtain ⟨l, p, o, h⟩ := raiseWith_frame s c v is a; rw [h]
@[simp] theorem raiseWith_terms (s : State) (c v : Nat) (is : List (ItemKind × Nat)) (a : List Byte) : (s.raiseWith c v is a).terms = s.terms := by obtain ⟨l, p, o, h⟩ := raiseWith_frame s c v is a; rw [h]
@[simp] theorem raiseWith_flush (s : State) (c v : Nat) (is : List (ItemKind × Nat)) (a : List Byte) : (s.raiseWith c v is a).flush = s.flush := by obtain ⟨l, p, o, h⟩ := raiseWith_frame s c v is a; rw [h]
@[simp] theorem raiseWith_saves (s : State) (c v : Nat) (is : List (ItemKind × Nat)) (a : List Byte) : (s.raiseWith c v is a).saves = s.saves := by obtain ⟨l, p, o, h⟩ := raiseWith_frame s c v is a; rw [h]
@[simp] theorem raiseWith_power (s : State) (c v : Nat) (is : List (ItemKind × Nat)) (a : List Byte) : (s.raiseWith c v is a).power = s.power := by obtain ⟨l, p, o, h⟩ := raiseWith_frame s c v is a; rw [h]
@[simp] theorem raiseWith_gauge (s : State) (c v : Nat) (is : List (ItemKind × Nat)) (a : List Byte) : (s.raiseWith c v is a).gauge = s.gauge := by obtain ⟨l, p, o, h⟩ := raiseWith_frame s c v is a; rw [h]
@[simp] theorem raiseWith_monitors (s : State) (c v : Nat) (is : List (ItemKind × Nat)) (a : List Byte) : (s.raiseWith c v is a).monitors = s.monitors := by obtain ⟨l, p, o, h⟩ := raiseWith_frame s c v is a; rw [h]
@[simp] theorem raiseWith_margin (s : State) (c v : Nat) (is : List (ItemKind × Nat)) (a : List Byte) : (s.raiseWith c v is a).margin = s.margin := by obtain ⟨l, p, o, h⟩ := raiseWith_frame s c v is a; rw [h]
@[simp] theorem raiseWith_dram (s : State) (c v : Nat) (is : List (ItemKind × Nat)) (a : List Byte) : (s.raiseWith c v is a).dram = s.dram := by obtain ⟨l, p, o, h⟩ := raiseWith_frame s c v is a; rw [h]
@[simp] theorem raiseWith_flash (s : State) (c v : Nat) (is : List (ItemKind × Nat)) (a : List Byte) : (s.raiseWith c v is a).flash = s.flash := by obtain ⟨l, p, o, h⟩ := raiseWith_frame s c v is a; rw [h]
@[simp] theorem raiseWith_crypt (s : State) (c v : Nat) (is : List (ItemKind × Nat)) (a : List Byte) : (s.raiseWith c v is a).crypt = s.crypt := by obtain ⟨l, p, o, h⟩ := raiseWith_frame s c v is a; rw [h]
@[simp] theorem raiseWith_host (s : State) (c v : Nat) (is : List (ItemKind × Nat)) (a : List Byte) : (s.raiseWith c v is a).host = s.host := by obtain ⟨l, p, o, h⟩ := raiseWith_frame s c v is a; rw [h]
@[simp] theorem raiseWith_bus (s : State) (c v : Nat) (is : List (ItemKind × Nat)) (a : List Byte) : (s.raiseWith c v is a).bus = s.bus := by obtain ⟨l, p, o, h⟩ := raiseWith_frame s c v is a; rw [h]
@[simp] theorem raiseWith_update (s : State) (c v : Nat) (is : List (ItemKind × Nat)) (a : List Byte) : (s.raiseWith c v is a).update = s.update := by obtain ⟨l, p, o, h⟩ := raiseWith_frame s c v is a; rw [h]
@[simp] theorem raiseWith_tap (s : State) (c v : Nat) (is : List (ItemKind × Nat)) (a : List Byte) : (s.raiseWith c v is a).tap = s.tap := by obtain ⟨l, p, o, h⟩ := raiseWith_frame s c v is a; rw [h]

@[simp] theorem raise_pending (s : State) (c v : Nat) (is : List (ItemKind × Nat)) : (s.raise c v is).pending = s.pending := raiseWith_pending s c v is []
@[simp] theorem raise_clock (s : State) (c v : Nat) (is : List (ItemKind × Nat)) : (s.raise c v is).clock = s.clock := raiseWith_clock s c v is []
@[simp] theorem raise_uptime (s : State) (c v : Nat) (is : List (ItemKind × Nat)) : (s.raise c v is).uptime = s.uptime := raiseWith_uptime s c v is []
@[simp] theorem raise_free (s : State) (c v : Nat) (is : List (ItemKind × Nat)) : (s.raise c v is).free = s.free := raiseWith_free s c v is []
@[simp] theorem raise_unlisted (s : State) (c v : Nat) (is : List (ItemKind × Nat)) : (s.raise c v is).unlisted = s.unlisted := raiseWith_unlisted s c v is []
@[simp] theorem raise_ctl (s : State) (c v : Nat) (is : List (ItemKind × Nat)) : (s.raise c v is).ctl = s.ctl := raiseWith_ctl s c v is []
@[simp] theorem raise_boot (s : State) (c v : Nat) (is : List (ItemKind × Nat)) : (s.raise c v is).boot = s.boot := raiseWith_boot s c v is []
@[simp] theorem raise_pins (s : State) (c v : Nat) (is : List (ItemKind × Nat)) : (s.raise c v is).pins = s.pins := raiseWith_pins s c v is []
@[simp] theorem raise_blobs (s : State) (c v : Nat) (is : List (ItemKind × Nat)) : (s.raise c v is).blobs = s.blobs := raiseWith_blobs s c v is []
@[simp] theorem raise_unrecorded (s : State) (c v : Nat) (is : List (ItemKind × Nat)) : (s.raise c v is).unrecorded = s.unrecorded := raiseWith_unrecorded s c v is []
@[simp] theorem raise_zop (s : State) (c v : Nat) (is : List (ItemKind × Nat)) : (s.raise c v is).zop = s.zop := raiseWith_zop s c v is []
@[simp] theorem raise_out (s : State) (c v : Nat) (is : List (ItemKind × Nat)) : (s.raise c v is).out = s.out := raiseWith_out s c v is []
@[simp] theorem raise_eflash (s : State) (c v : Nat) (is : List (ItemKind × Nat)) : (s.raise c v is).eflash = s.eflash := raiseWith_eflash s c v is []
@[simp] theorem raise_cores (s : State) (c v : Nat) (is : List (ItemKind × Nat)) : (s.raise c v is).cores = s.cores := raiseWith_cores s c v is []
@[simp] theorem raise_tickets (s : State) (c v : Nat) (is : List (ItemKind × Nat)) : (s.raise c v is).tickets = s.tickets := raiseWith_tickets s c v is []
@[simp] theorem raise_loop (s : State) (c v : Nat) (is : List (ItemKind × Nat)) : (s.raise c v is).loop = s.loop := raiseWith_loop s c v is []
@[simp] theorem raise_iso (s : State) (c v : Nat) (is : List (ItemKind × Nat)) : (s.raise c v is).iso = s.iso := raiseWith_iso s c v is []
@[simp] theorem raise_tables (s : State) (c v : Nat) (is : List (ItemKind × Nat)) : (s.raise c v is).tables = s.tables := raiseWith_tables s c v is []
@[simp] theorem raise_work (s : State) (c v : Nat) (is : List (ItemKind × Nat)) : (s.raise c v is).work = s.work := raiseWith_work s c v is []
@[simp] theorem raise_terms (s : State) (c v : Nat) (is : List (ItemKind × Nat)) : (s.raise c v is).terms = s.terms := raiseWith_terms s c v is []
@[simp] theorem raise_flush (s : State) (c v : Nat) (is : List (ItemKind × Nat)) : (s.raise c v is).flush = s.flush := raiseWith_flush s c v is []
@[simp] theorem raise_saves (s : State) (c v : Nat) (is : List (ItemKind × Nat)) : (s.raise c v is).saves = s.saves := raiseWith_saves s c v is []
@[simp] theorem raise_power (s : State) (c v : Nat) (is : List (ItemKind × Nat)) : (s.raise c v is).power = s.power := raiseWith_power s c v is []
@[simp] theorem raise_gauge (s : State) (c v : Nat) (is : List (ItemKind × Nat)) : (s.raise c v is).gauge = s.gauge := raiseWith_gauge s c v is []
@[simp] theorem raise_monitors (s : State) (c v : Nat) (is : List (ItemKind × Nat)) : (s.raise c v is).monitors = s.monitors := raiseWith_monitors s c v is []
@[simp] theorem raise_margin (s : State) (c v : Nat) (is : List (ItemKind × Nat)) : (s.raise c v is).margin = s.margin := raiseWith_margin s c v is []
@[simp] theorem raise_dram (s : State) (c v : Nat) (is : List (ItemKind × Nat)) : (s.raise c v is).dram = s.dram := raiseWith_dram s c v is []
@[simp] theorem raise_flash (s : State) (c v : Nat) (is : List (ItemKind × Nat)) : (s.raise c v is).flash = s.flash := raiseWith_flash s c v is []
@[simp] theorem raise_crypt (s : State) (c v : Nat) (is : List (ItemKind × Nat)) : (s.raise c v is).crypt = s.crypt := raiseWith_crypt s c v is []
@[simp] theorem raise_host (s : State) (c v : Nat) (is : List (ItemKind × Nat)) : (s.raise c v is).host = s.host := raiseWith_host s c v is []
@[simp] theorem raise_bus (s : State) (c v : Nat) (is : List (ItemKind × Nat)) : (s.raise c v is).bus = s.bus := raiseWith_bus s c v is []
@[simp] theorem raise_update (s : State) (c v : Nat) (is : List (ItemKind × Nat)) : (s.raise c v is).update = s.update := raiseWith_update s c v is []
@[simp] theorem raise_tap (s : State) (c v : Nat) (is : List (ItemKind × Nat)) : (s.raise c v is).tap = s.tap := raiseWith_tap s c v is []

@[simp] theorem note_pending (s : State) (c : Nat) : (s.note c).pending = s.pending := raiseWith_pending s c 0 [] []
@[simp] theorem note_clock (s : State) (c : Nat) : (s.note c).clock = s.clock := raiseWith_clock s c 0 [] []
@[simp] theorem note_uptime (s : State) (c : Nat) : (s.note c).uptime = s.uptime := raiseWith_uptime s c 0 [] []
@[simp] theorem note_free (s : State) (c : Nat) : (s.note c).free = s.free := raiseWith_free s c 0 [] []
@[simp] theorem note_unlisted (s : State) (c : Nat) : (s.note c).unlisted = s.unlisted := raiseWith_unlisted s c 0 [] []
@[simp] theorem note_ctl (s : State) (c : Nat) : (s.note c).ctl = s.ctl := raiseWith_ctl s c 0 [] []
@[simp] theorem note_boot (s : State) (c : Nat) : (s.note c).boot = s.boot := raiseWith_boot s c 0 [] []
@[simp] theorem note_pins (s : State) (c : Nat) : (s.note c).pins = s.pins := raiseWith_pins s c 0 [] []
@[simp] theorem note_blobs (s : State) (c : Nat) : (s.note c).blobs = s.blobs := raiseWith_blobs s c 0 [] []
@[simp] theorem note_unrecorded (s : State) (c : Nat) : (s.note c).unrecorded = s.unrecorded := raiseWith_unrecorded s c 0 [] []
@[simp] theorem note_zop (s : State) (c : Nat) : (s.note c).zop = s.zop := raiseWith_zop s c 0 [] []
@[simp] theorem note_out (s : State) (c : Nat) : (s.note c).out = s.out := raiseWith_out s c 0 [] []
@[simp] theorem note_eflash (s : State) (c : Nat) : (s.note c).eflash = s.eflash := raiseWith_eflash s c 0 [] []
@[simp] theorem note_cores (s : State) (c : Nat) : (s.note c).cores = s.cores := raiseWith_cores s c 0 [] []
@[simp] theorem note_tickets (s : State) (c : Nat) : (s.note c).tickets = s.tickets := raiseWith_tickets s c 0 [] []
@[simp] theorem note_loop (s : State) (c : Nat) : (s.note c).loop = s.loop := raiseWith_loop s c 0 [] []
@[simp] theorem note_iso (s : State) (c : Nat) : (s.note c).iso = s.iso := raiseWith_iso s c 0 [] []
@[simp] theorem note_tables (s : State) (c : Nat) : (s.note c).tables = s.tables := raiseWith_tables s c 0 [] []
@[simp] theorem note_work (s : State) (c : Nat) : (s.note c).work = s.work := raiseWith_work s c 0 [] []
@[simp] theorem note_terms (s : State) (c : Nat) : (s.note c).terms = s.terms := raiseWith_terms s c 0 [] []
@[simp] theorem note_flush (s : State) (c : Nat) : (s.note c).flush = s.flush := raiseWith_flush s c 0 [] []
@[simp] theorem note_saves (s : State) (c : Nat) : (s.note c).saves = s.saves := raiseWith_saves s c 0 [] []
@[simp] theorem note_power (s : State) (c : Nat) : (s.note c).power = s.power := raiseWith_power s c 0 [] []
@[simp] theorem note_gauge (s : State) (c : Nat) : (s.note c).gauge = s.gauge := raiseWith_gauge s c 0 [] []
@[simp] theorem note_monitors (s : State) (c : Nat) : (s.note c).monitors = s.monitors := raiseWith_monitors s c 0 [] []
@[simp] theorem note_margin (s : State) (c : Nat) : (s.note c).margin = s.margin := raiseWith_margin s c 0 [] []
@[simp] theorem note_dram (s : State) (c : Nat) : (s.note c).dram = s.dram := raiseWith_dram s c 0 [] []
@[simp] theorem note_flash (s : State) (c : Nat) : (s.note c).flash = s.flash := raiseWith_flash s c 0 [] []
@[simp] theorem note_crypt (s : State) (c : Nat) : (s.note c).crypt = s.crypt := raiseWith_crypt s c 0 [] []
@[simp] theorem note_host (s : State) (c : Nat) : (s.note c).host = s.host := raiseWith_host s c 0 [] []
@[simp] theorem note_bus (s : State) (c : Nat) : (s.note c).bus = s.bus := raiseWith_bus s c 0 [] []
@[simp] theorem note_update (s : State) (c : Nat) : (s.note c).update = s.update := raiseWith_update s c 0 [] []
@[simp] theorem note_tap (s : State) (c : Nat) : (s.note c).tap = s.tap := raiseWith_tap s c 0 [] []

end Sys2Proof.Machine
end

