-- ==== Sys2Proof/Laws/Serve.lean ====
section
/-! SUPPORT. What serving a ZOP request can do, said once: an accepted request runs its command on the state in which it
arrives, and the answer changes only sessions, outputs and the two-wire port. -/
namespace Sys2Proof.Machine

/-- The session of a source after it is stored. -/
theorem findSession_setSession (x : Session) (xs : List Session) : findSession x.src (setSession x xs) = some x := by
  induction xs with
  | nil => simp [setSession, findSession]
  | cons y ys ih =>
    by_cases h : y.src = x.src <;> simp [setSession, findSession, h, ih]

@[simp] theorem session_setSession (s : State) (x : Session) : (s.setSession x).session x.src = x := by
  simp [State.session, State.setSession, findSession_setSession]

theorem session_of_setSession (s : State) (x : Session) (src : Transport) (h : x.src = src) :
    (s.setSession x).session src = x := by
  subst h; exact session_setSession s x

theorem findSession_src (src : Transport) (xs : List Session) (x : Session) (h : findSession src xs = some x) : x.src = src := by
  induction xs with
  | nil => simp [findSession] at h
  | cons y ys ih =>
    simp only [findSession] at h
    split at h
    · rename_i hy; cases h; exact hy
    · exact ih h

/-- The session of a source has that source. -/
@[simp] theorem session_src (s : State) (src : Transport) : (s.session src).src = src := by
  unfold State.session
  cases h : findSession src s.zop.sessions with
  | none => rfl
  | some x => simpa using findSession_src src _ x h

theorem transmit_frame (s : State) (src : Transport) (op tag i b : Nat) (r : Reply) :
    ∃ o u, s.transmit src op tag i b r = { s with out := o, bus := u } := by
  unfold State.transmit State.sendMctp
  cases src <;> dsimp only
  · exact ⟨_, _, rfl⟩
  · exact ⟨_, _, rfl⟩
  · exact ⟨_, _, rfl⟩
  · split <;> exact ⟨_, _, rfl⟩

theorem respond_frame (s : State) (src : Transport) (tag crc : Nat) (f : ReqFrame) (r : Reply) :
    ∃ z o u, s.respond src tag crc f r = { s with zop := z, out := o, bus := u } := by
  unfold State.respond
  obtain ⟨o, u, h⟩ := transmit_frame (s.setSession { s.session src with
    last := some { tag := tag, crc := crc, opcode := f.opcode, reply := r, time := s.uptime } }) src f.opcode tag f.index f.sub r
  exact ⟨_, o, u, h⟩

theorem answerPending_frame (s : State) (src : Transport) :
    ∃ z o u, s.answerPending src = { s with zop := z, out := o, bus := u } := by
  unfold State.answerPending
  dsimp only
  split
  · exact ⟨_, _, _, rfl⟩
  · rename_i a _
    obtain ⟨o, u, h⟩ := transmit_frame (s.setSession { s.session src with
      active := none
      results := (s.session src).results ++ [{ tag := a.tag, key := a.key, reply := none, time := s.uptime }]
      last := some { tag := a.tag, crc := a.crc, opcode := opExecute, reply := { status := stPending, payload := [] },
                     time := s.uptime } }) src opExecute a.tag (a.key / 256) (a.key % 256) { status := stPending, payload := [] }
    exact ⟨_, o, u, h⟩

theorem arrived_frame (s : State) (src : Transport) :
    ∃ z o u, s.arrived src = { s with zop := z, out := o, bus := u } := by
  obtain ⟨z, o, u, h⟩ := answerPending_frame s src
  unfold State.arrived
  rw [h]
  exact ⟨_, o, u, rfl⟩

theorem answered_frame (s : State) (i : Instr) (r : Reply) :
    ∃ z o u, s.answered i r = { s with zop := z, out := o, bus := u } := by
  unfold State.answered
  split
  · exact respond_frame _ _ _ _ _ _
  · exact ⟨_, _, _, rfl⟩

theorem goesOnFor_frame (s : State) (i : Instr) (k : Nat) : ∃ z, s.goesOnFor i k = { s with zop := z } := by
  unfold State.goesOnFor
  split <;> exact ⟨_, rfl⟩

@[simp] theorem arrived_pending (s : State) (src : Transport) : (s.arrived src).pending = s.pending := by
  obtain ⟨z, o, u, h⟩ := arrived_frame s src; rw [h]
@[simp] theorem arrived_clock (s : State) (src : Transport) : (s.arrived src).clock = s.clock := by
  obtain ⟨z, o, u, h⟩ := arrived_frame s src; rw [h]
@[simp] theorem arrived_uptime (s : State) (src : Transport) : (s.arrived src).uptime = s.uptime := by
  obtain ⟨z, o, u, h⟩ := arrived_frame s src; rw [h]
@[simp] theorem arrived_free (s : State) (src : Transport) : (s.arrived src).free = s.free := by
  obtain ⟨z, o, u, h⟩ := arrived_frame s src; rw [h]
@[simp] theorem arrived_unlisted (s : State) (src : Transport) : (s.arrived src).unlisted = s.unlisted := by
  obtain ⟨z, o, u, h⟩ := arrived_frame s src; rw [h]
@[simp] theorem arrived_ctl (s : State) (src : Transport) : (s.arrived src).ctl = s.ctl := by
  obtain ⟨z, o, u, h⟩ := arrived_frame s src; rw [h]
@[simp] theorem arrived_boot (s : State) (src : Transport) : (s.arrived src).boot = s.boot := by
  obtain ⟨z, o, u, h⟩ := arrived_frame s src; rw [h]
@[simp] theorem arrived_pins (s : State) (src : Transport) : (s.arrived src).pins = s.pins := by
  obtain ⟨z, o, u, h⟩ := arrived_frame s src; rw [h]
@[simp] theorem arrived_od (s : State) (src : Transport) : (s.arrived src).od = s.od := by
  obtain ⟨z, o, u, h⟩ := arrived_frame s src; rw [h]
@[simp] theorem arrived_blobs (s : State) (src : Transport) : (s.arrived src).blobs = s.blobs := by
  obtain ⟨z, o, u, h⟩ := arrived_frame s src; rw [h]
@[simp] theorem arrived_unrecorded (s : State) (src : Transport) : (s.arrived src).unrecorded = s.unrecorded := by
  obtain ⟨z, o, u, h⟩ := arrived_frame s src; rw [h]
@[simp] theorem arrived_eflash (s : State) (src : Transport) : (s.arrived src).eflash = s.eflash := by
  obtain ⟨z, o, u, h⟩ := arrived_frame s src; rw [h]
@[simp] theorem arrived_cores (s : State) (src : Transport) : (s.arrived src).cores = s.cores := by
  obtain ⟨z, o, u, h⟩ := arrived_frame s src; rw [h]
@[simp] theorem arrived_log (s : State) (src : Transport) : (s.arrived src).log = s.log := by
  obtain ⟨z, o, u, h⟩ := arrived_frame s src; rw [h]
@[simp] theorem arrived_perf (s : State) (src : Transport) : (s.arrived src).perf = s.perf := by
  obtain ⟨z, o, u, h⟩ := arrived_frame s src; rw [h]
@[simp] theorem arrived_tickets (s : State) (src : Transport) : (s.arrived src).tickets = s.tickets := by
  obtain ⟨z, o, u, h⟩ := arrived_frame s src; rw [h]
@[simp] theorem arrived_loop (s : State) (src : Transport) : (s.arrived src).loop = s.loop := by
  obtain ⟨z, o, u, h⟩ := arrived_frame s src; rw [h]
@[simp] theorem arrived_iso (s : State) (src : Transport) : (s.arrived src).iso = s.iso := by
  obtain ⟨z, o, u, h⟩ := arrived_frame s src; rw [h]
@[simp] theorem arrived_tables (s : State) (src : Transport) : (s.arrived src).tables = s.tables := by
  obtain ⟨z, o, u, h⟩ := arrived_frame s src; rw [h]
@[simp] theorem arrived_work (s : State) (src : Transport) : (s.arrived src).work = s.work := by
  obtain ⟨z, o, u, h⟩ := arrived_frame s src; rw [h]
@[simp] theorem arrived_terms (s : State) (src : Transport) : (s.arrived src).terms = s.terms := by
  obtain ⟨z, o, u, h⟩ := arrived_frame s src; rw [h]
@[simp] theorem arrived_flush (s : State) (src : Transport) : (s.arrived src).flush = s.flush := by
  obtain ⟨z, o, u, h⟩ := arrived_frame s src; rw [h]
@[simp] theorem arrived_saves (s : State) (src : Transport) : (s.arrived src).saves = s.saves := by
  obtain ⟨z, o, u, h⟩ := arrived_frame s src; rw [h]
@[simp] theorem arrived_power (s : State) (src : Transport) : (s.arrived src).power = s.power := by
  obtain ⟨z, o, u, h⟩ := arrived_frame s src; rw [h]
@[simp] theorem arrived_gauge (s : State) (src : Transport) : (s.arrived src).gauge = s.gauge := by
  obtain ⟨z, o, u, h⟩ := arrived_frame s src; rw [h]
@[simp] theorem arrived_monitors (s : State) (src : Transport) : (s.arrived src).monitors = s.monitors := by
  obtain ⟨z, o, u, h⟩ := arrived_frame s src; rw [h]
@[simp] theorem arrived_margin (s : State) (src : Transport) : (s.arrived src).margin = s.margin := by
  obtain ⟨z, o, u, h⟩ := arrived_frame s src; rw [h]
@[simp] theorem arrived_dram (s : State) (src : Transport) : (s.arrived src).dram = s.dram := by
  obtain ⟨z, o, u, h⟩ := arrived_frame s src; rw [h]
@[simp] theorem arrived_flash (s : State) (src : Transport) : (s.arrived src).flash = s.flash := by
  obtain ⟨z, o, u, h⟩ := arrived_frame s src; rw [h]
@[simp] theorem arrived_crypt (s : State) (src : Transport) : (s.arrived src).crypt = s.crypt := by
  obtain ⟨z, o, u, h⟩ := arrived_frame s src; rw [h]
@[simp] theorem arrived_host (s : State) (src : Transport) : (s.arrived src).host = s.host := by
  obtain ⟨z, o, u, h⟩ := arrived_frame s src; rw [h]
@[simp] theorem arrived_update (s : State) (src : Transport) : (s.arrived src).update = s.update := by
  obtain ⟨z, o, u, h⟩ := arrived_frame s src; rw [h]
@[simp] theorem arrived_tap (s : State) (src : Transport) : (s.arrived src).tap = s.tap := by
  obtain ⟨z, o, u, h⟩ := arrived_frame s src; rw [h]

@[simp] theorem answered_pending (s : State) (i : Instr) (r : Reply) : (s.answered i r).pending = s.pending := by
  obtain ⟨z, o, u, h⟩ := answered_frame s i r; rw [h]
@[simp] theorem answered_clock (s : State) (i : Instr) (r : Reply) : (s.answered i r).clock = s.clock := by
  obtain ⟨z, o, u, h⟩ := answered_frame s i r; rw [h]
@[simp] theorem answered_uptime (s : State) (i : Instr) (r : Reply) : (s.answered i r).uptime = s.uptime := by
  obtain ⟨z, o, u, h⟩ := answered_frame s i r; rw [h]
@[simp] theorem answered_free (s : State) (i : Instr) (r : Reply) : (s.answered i r).free = s.free := by
  obtain ⟨z, o, u, h⟩ := answered_frame s i r; rw [h]
@[simp] theorem answered_unlisted (s : State) (i : Instr) (r : Reply) : (s.answered i r).unlisted = s.unlisted := by
  obtain ⟨z, o, u, h⟩ := answered_frame s i r; rw [h]
@[simp] theorem answered_ctl (s : State) (i : Instr) (r : Reply) : (s.answered i r).ctl = s.ctl := by
  obtain ⟨z, o, u, h⟩ := answered_frame s i r; rw [h]
@[simp] theorem answered_boot (s : State) (i : Instr) (r : Reply) : (s.answered i r).boot = s.boot := by
  obtain ⟨z, o, u, h⟩ := answered_frame s i r; rw [h]
@[simp] theorem answered_pins (s : State) (i : Instr) (r : Reply) : (s.answered i r).pins = s.pins := by
  obtain ⟨z, o, u, h⟩ := answered_frame s i r; rw [h]
@[simp] theorem answered_od (s : State) (i : Instr) (r : Reply) : (s.answered i r).od = s.od := by
  obtain ⟨z, o, u, h⟩ := answered_frame s i r; rw [h]
@[simp] theorem answered_blobs (s : State) (i : Instr) (r : Reply) : (s.answered i r).blobs = s.blobs := by
  obtain ⟨z, o, u, h⟩ := answered_frame s i r; rw [h]
@[simp] theorem answered_unrecorded (s : State) (i : Instr) (r : Reply) : (s.answered i r).unrecorded = s.unrecorded := by
  obtain ⟨z, o, u, h⟩ := answered_frame s i r; rw [h]
@[simp] theorem answered_eflash (s : State) (i : Instr) (r : Reply) : (s.answered i r).eflash = s.eflash := by
  obtain ⟨z, o, u, h⟩ := answered_frame s i r; rw [h]
@[simp] theorem answered_cores (s : State) (i : Instr) (r : Reply) : (s.answered i r).cores = s.cores := by
  obtain ⟨z, o, u, h⟩ := answered_frame s i r; rw [h]
@[simp] theorem answered_log (s : State) (i : Instr) (r : Reply) : (s.answered i r).log = s.log := by
  obtain ⟨z, o, u, h⟩ := answered_frame s i r; rw [h]
@[simp] theorem answered_perf (s : State) (i : Instr) (r : Reply) : (s.answered i r).perf = s.perf := by
  obtain ⟨z, o, u, h⟩ := answered_frame s i r; rw [h]
@[simp] theorem answered_tickets (s : State) (i : Instr) (r : Reply) : (s.answered i r).tickets = s.tickets := by
  obtain ⟨z, o, u, h⟩ := answered_frame s i r; rw [h]
@[simp] theorem answered_loop (s : State) (i : Instr) (r : Reply) : (s.answered i r).loop = s.loop := by
  obtain ⟨z, o, u, h⟩ := answered_frame s i r; rw [h]
@[simp] theorem answered_iso (s : State) (i : Instr) (r : Reply) : (s.answered i r).iso = s.iso := by
  obtain ⟨z, o, u, h⟩ := answered_frame s i r; rw [h]
@[simp] theorem answered_tables (s : State) (i : Instr) (r : Reply) : (s.answered i r).tables = s.tables := by
  obtain ⟨z, o, u, h⟩ := answered_frame s i r; rw [h]
@[simp] theorem answered_work (s : State) (i : Instr) (r : Reply) : (s.answered i r).work = s.work := by
  obtain ⟨z, o, u, h⟩ := answered_frame s i r; rw [h]
@[simp] theorem answered_terms (s : State) (i : Instr) (r : Reply) : (s.answered i r).terms = s.terms := by
  obtain ⟨z, o, u, h⟩ := answered_frame s i r; rw [h]
@[simp] theorem answered_flush (s : State) (i : Instr) (r : Reply) : (s.answered i r).flush = s.flush := by
  obtain ⟨z, o, u, h⟩ := answered_frame s i r; rw [h]
@[simp] theorem answered_saves (s : State) (i : Instr) (r : Reply) : (s.answered i r).saves = s.saves := by
  obtain ⟨z, o, u, h⟩ := answered_frame s i r; rw [h]
@[simp] theorem answered_power (s : State) (i : Instr) (r : Reply) : (s.answered i r).power = s.power := by
  obtain ⟨z, o, u, h⟩ := answered_frame s i r; rw [h]
@[simp] theorem answered_gauge (s : State) (i : Instr) (r : Reply) : (s.answered i r).gauge = s.gauge := by
  obtain ⟨z, o, u, h⟩ := answered_frame s i r; rw [h]
@[simp] theorem answered_monitors (s : State) (i : Instr) (r : Reply) : (s.answered i r).monitors = s.monitors := by
  obtain ⟨z, o, u, h⟩ := answered_frame s i r; rw [h]
@[simp] theorem answered_margin (s : State) (i : Instr) (r : Reply) : (s.answered i r).margin = s.margin := by
  obtain ⟨z, o, u, h⟩ := answered_frame s i r; rw [h]
@[simp] theorem answered_dram (s : State) (i : Instr) (r : Reply) : (s.answered i r).dram = s.dram := by
  obtain ⟨z, o, u, h⟩ := answered_frame s i r; rw [h]
@[simp] theorem answered_flash (s : State) (i : Instr) (r : Reply) : (s.answered i r).flash = s.flash := by
  obtain ⟨z, o, u, h⟩ := answered_frame s i r; rw [h]
@[simp] theorem answered_crypt (s : State) (i : Instr) (r : Reply) : (s.answered i r).crypt = s.crypt := by
  obtain ⟨z, o, u, h⟩ := answered_frame s i r; rw [h]
@[simp] theorem answered_host (s : State) (i : Instr) (r : Reply) : (s.answered i r).host = s.host := by
  obtain ⟨z, o, u, h⟩ := answered_frame s i r; rw [h]
@[simp] theorem answered_update (s : State) (i : Instr) (r : Reply) : (s.answered i r).update = s.update := by
  obtain ⟨z, o, u, h⟩ := answered_frame s i r; rw [h]
@[simp] theorem answered_tap (s : State) (i : Instr) (r : Reply) : (s.answered i r).tap = s.tap := by
  obtain ⟨z, o, u, h⟩ := answered_frame s i r; rw [h]

@[simp] theorem goesOnFor_pending (s : State) (i : Instr) (k : Nat) : (s.goesOnFor i k).pending = s.pending := by
  obtain ⟨z, h⟩ := goesOnFor_frame s i k; rw [h]
@[simp] theorem goesOnFor_clock (s : State) (i : Instr) (k : Nat) : (s.goesOnFor i k).clock = s.clock := by
  obtain ⟨z, h⟩ := goesOnFor_frame s i k; rw [h]
@[simp] theorem goesOnFor_uptime (s : State) (i : Instr) (k : Nat) : (s.goesOnFor i k).uptime = s.uptime := by
  obtain ⟨z, h⟩ := goesOnFor_frame s i k; rw [h]
@[simp] theorem goesOnFor_free (s : State) (i : Instr) (k : Nat) : (s.goesOnFor i k).free = s.free := by
  obtain ⟨z, h⟩ := goesOnFor_frame s i k; rw [h]
@[simp] theorem goesOnFor_unlisted (s : State) (i : Instr) (k : Nat) : (s.goesOnFor i k).unlisted = s.unlisted := by
  obtain ⟨z, h⟩ := goesOnFor_frame s i k; rw [h]
@[simp] theorem goesOnFor_ctl (s : State) (i : Instr) (k : Nat) : (s.goesOnFor i k).ctl = s.ctl := by
  obtain ⟨z, h⟩ := goesOnFor_frame s i k; rw [h]
@[simp] theorem goesOnFor_boot (s : State) (i : Instr) (k : Nat) : (s.goesOnFor i k).boot = s.boot := by
  obtain ⟨z, h⟩ := goesOnFor_frame s i k; rw [h]
@[simp] theorem goesOnFor_pins (s : State) (i : Instr) (k : Nat) : (s.goesOnFor i k).pins = s.pins := by
  obtain ⟨z, h⟩ := goesOnFor_frame s i k; rw [h]
@[simp] theorem goesOnFor_od (s : State) (i : Instr) (k : Nat) : (s.goesOnFor i k).od = s.od := by
  obtain ⟨z, h⟩ := goesOnFor_frame s i k; rw [h]
@[simp] theorem goesOnFor_blobs (s : State) (i : Instr) (k : Nat) : (s.goesOnFor i k).blobs = s.blobs := by
  obtain ⟨z, h⟩ := goesOnFor_frame s i k; rw [h]
@[simp] theorem goesOnFor_unrecorded (s : State) (i : Instr) (k : Nat) : (s.goesOnFor i k).unrecorded = s.unrecorded := by
  obtain ⟨z, h⟩ := goesOnFor_frame s i k; rw [h]
@[simp] theorem goesOnFor_eflash (s : State) (i : Instr) (k : Nat) : (s.goesOnFor i k).eflash = s.eflash := by
  obtain ⟨z, h⟩ := goesOnFor_frame s i k; rw [h]
@[simp] theorem goesOnFor_cores (s : State) (i : Instr) (k : Nat) : (s.goesOnFor i k).cores = s.cores := by
  obtain ⟨z, h⟩ := goesOnFor_frame s i k; rw [h]
@[simp] theorem goesOnFor_log (s : State) (i : Instr) (k : Nat) : (s.goesOnFor i k).log = s.log := by
  obtain ⟨z, h⟩ := goesOnFor_frame s i k; rw [h]
@[simp] theorem goesOnFor_perf (s : State) (i : Instr) (k : Nat) : (s.goesOnFor i k).perf = s.perf := by
  obtain ⟨z, h⟩ := goesOnFor_frame s i k; rw [h]
@[simp] theorem goesOnFor_tickets (s : State) (i : Instr) (k : Nat) : (s.goesOnFor i k).tickets = s.tickets := by
  obtain ⟨z, h⟩ := goesOnFor_frame s i k; rw [h]
@[simp] theorem goesOnFor_loop (s : State) (i : Instr) (k : Nat) : (s.goesOnFor i k).loop = s.loop := by
  obtain ⟨z, h⟩ := goesOnFor_frame s i k; rw [h]
@[simp] theorem goesOnFor_iso (s : State) (i : Instr) (k : Nat) : (s.goesOnFor i k).iso = s.iso := by
  obtain ⟨z, h⟩ := goesOnFor_frame s i k; rw [h]
@[simp] theorem goesOnFor_tables (s : State) (i : Instr) (k : Nat) : (s.goesOnFor i k).tables = s.tables := by
  obtain ⟨z, h⟩ := goesOnFor_frame s i k; rw [h]
@[simp] theorem goesOnFor_work (s : State) (i : Instr) (k : Nat) : (s.goesOnFor i k).work = s.work := by
  obtain ⟨z, h⟩ := goesOnFor_frame s i k; rw [h]
@[simp] theorem goesOnFor_terms (s : State) (i : Instr) (k : Nat) : (s.goesOnFor i k).terms = s.terms := by
  obtain ⟨z, h⟩ := goesOnFor_frame s i k; rw [h]
@[simp] theorem goesOnFor_flush (s : State) (i : Instr) (k : Nat) : (s.goesOnFor i k).flush = s.flush := by
  obtain ⟨z, h⟩ := goesOnFor_frame s i k; rw [h]
@[simp] theorem goesOnFor_saves (s : State) (i : Instr) (k : Nat) : (s.goesOnFor i k).saves = s.saves := by
  obtain ⟨z, h⟩ := goesOnFor_frame s i k; rw [h]
@[simp] theorem goesOnFor_power (s : State) (i : Instr) (k : Nat) : (s.goesOnFor i k).power = s.power := by
  obtain ⟨z, h⟩ := goesOnFor_frame s i k; rw [h]
@[simp] theorem goesOnFor_gauge (s : State) (i : Instr) (k : Nat) : (s.goesOnFor i k).gauge = s.gauge := by
  obtain ⟨z, h⟩ := goesOnFor_frame s i k; rw [h]
@[simp] theorem goesOnFor_monitors (s : State) (i : Instr) (k : Nat) : (s.goesOnFor i k).monitors = s.monitors := by
  obtain ⟨z, h⟩ := goesOnFor_frame s i k; rw [h]
@[simp] theorem goesOnFor_margin (s : State) (i : Instr) (k : Nat) : (s.goesOnFor i k).margin = s.margin := by
  obtain ⟨z, h⟩ := goesOnFor_frame s i k; rw [h]
@[simp] theorem goesOnFor_dram (s : State) (i : Instr) (k : Nat) : (s.goesOnFor i k).dram = s.dram := by
  obtain ⟨z, h⟩ := goesOnFor_frame s i k; rw [h]
@[simp] theorem goesOnFor_flash (s : State) (i : Instr) (k : Nat) : (s.goesOnFor i k).flash = s.flash := by
  obtain ⟨z, h⟩ := goesOnFor_frame s i k; rw [h]
@[simp] theorem goesOnFor_crypt (s : State) (i : Instr) (k : Nat) : (s.goesOnFor i k).crypt = s.crypt := by
  obtain ⟨z, h⟩ := goesOnFor_frame s i k; rw [h]
@[simp] theorem goesOnFor_host (s : State) (i : Instr) (k : Nat) : (s.goesOnFor i k).host = s.host := by
  obtain ⟨z, h⟩ := goesOnFor_frame s i k; rw [h]
@[simp] theorem goesOnFor_update (s : State) (i : Instr) (k : Nat) : (s.goesOnFor i k).update = s.update := by
  obtain ⟨z, h⟩ := goesOnFor_frame s i k; rw [h]
@[simp] theorem goesOnFor_tap (s : State) (i : Instr) (k : Nat) : (s.goesOnFor i k).tap = s.tap := by
  obtain ⟨z, h⟩ := goesOnFor_frame s i k; rw [h]
@[simp] theorem goesOnFor_out (s : State) (i : Instr) (k : Nat) : (s.goesOnFor i k).out = s.out := by
  obtain ⟨z, h⟩ := goesOnFor_frame s i k; rw [h]
@[simp] theorem goesOnFor_bus (s : State) (i : Instr) (k : Nat) : (s.goesOnFor i k).bus = s.bus := by
  obtain ⟨z, h⟩ := goesOnFor_frame s i k; rw [h]

@[simp] theorem arrived_get (s : State) (src : Transport) (k : Nat) : (s.arrived src).get k = s.get k := by simp [State.get]
@[simp] theorem answered_get (s : State) (i : Instr) (r : Reply) (k : Nat) : (s.answered i r).get k = s.get k := by
  simp [State.get]

/-- How a request that ran its command is concluded. -/
def State.concluded (t : State) (q : Req) (f : ReqFrame) (a : Answer) : State :=
  match a with
  | .reply r => t.respond q.src q.tag.toNat q.crc.toNat f r
  | .later key => t.setSession { t.session q.src with active := some { tag := q.tag.toNat, crc := q.crc.toNat, key := key } }

theorem session_arrived_last (s : State) (src : Transport) :
    ((s.arrived src).session src).last = ((s.answerPending src).session src).last := by
  unfold State.arrived
  dsimp only
  rw [session_of_setSession _ _ src (by exact session_src _ src)]

/-- The command of an accepted request runs on the state in which the request arrives. -/
theorem serve_takes (s : State) (q : Req) (f : ReqFrame) (act : Act) (h : s.takes q f = true) :
    s.serve q.src q.tag.toNat q.crc true f act = (act (s.arrived q.src)).1.concluded q f (act (s.arrived q.src)).2 := by
  simp only [State.takes, State.reaches, Bool.and_eq_true, Bool.or_eq_true, Bool.not_eq_true', decide_eq_true_eq,
    beq_iff_eq] at h
  obtain ⟨⟨⟨⟨⟨⟨⟨⟨⟨hup, hcap⟩, hcrc⟩, hrep⟩, h1⟩, h7⟩, hf⟩, htag⟩, hobj⟩, hres⟩ := h
  have hcap' : ((findSession q.src s.zop.sessions).isNone && decide (s.zop.sessions.length ≥ 64)) = false := by
    rcases hcap with h | h
    · cases hs : findSession q.src s.zop.sessions <;> simp_all
    · simp; intro _; omega
  have hnew : (s.arrived q.src).serveNew q.src q.tag.toNat q.crc.toNat f act =
      (act (s.arrived q.src)).1.concluded q f (act (s.arrived q.src)).2 := by
    have ho : (decide (f.opcode = 0) || decide (f.opcode > 7)) = false := by simp; omega
    have ht : (findResult q.tag.toNat ((s.arrived q.src).session q.src).results).isSome = false := by
      cases h : findResult q.tag.toNat ((s.arrived q.src).session q.src).results <;> simp_all
    have hc : (s.arrived q.src).checkObject q.src f = none := by
      cases h : (s.arrived q.src).checkObject q.src f <;> simp_all
    have hx : (decide (f.opcode = opExecute) && decide (((s.arrived q.src).session q.src).results.length ≥ 16)) = false := by
      rcases hres with h | h
      · simp [h]
      · simp; intro _; omega
    simp only [State.serveNew, ho, ht, hc, State.execute, hx, hf, if_false, Bool.false_eq_true]
    rcases act (s.arrived q.src) with ⟨t, a⟩
    cases a <;> rfl
  unfold State.serve
  simp only [hup, hcap', Bool.not_true, Bool.false_eq_true, if_false, ← hcrc]
  simp only [bne_self_eq_false, Bool.or_self, Bool.false_eq_true, if_false]
  have harr : (s.answerPending q.src).setSession { (s.answerPending q.src).session q.src with
      lastRequest := (s.answerPending q.src).uptime } = s.arrived q.src := rfl
  rw [harr]
  simp only [State.repeats, session_arrived_last, arrived_uptime] at hrep
  split
  · rename_i l hl
    rw [hl] at hrep
    dsimp only at hrep
    simp only [arrived_uptime, hrep, Bool.false_eq_true, if_false]
    exact hnew
  · exact hnew

theorem concluded_eq (t : State) (i : Instr) (q : Req) (f : ReqFrame) (a : Answer) (hi : requestOf i = some (q, f)) :
    t.concluded q f a = match a with | .reply r => t.answered i r | .later key => t.goesOnFor i key := by
  cases a <;> simp [State.concluded, State.answered, State.goesOnFor, hi]

/-- A porter that no reload concerns. -/
theorem reloads_prompt (s : State) (n : Nat) (h : s.prompt = true) : s.reloads n = false := by
  simp only [State.prompt, Bool.and_eq_true, List.all_eq_true] at h
  have h := h.2
  unfold State.reloads State.porter
  generalize s.cores.porters = m at h
  induction m with
  | nil => simp [mapGet, Porter.initial]
  | cons e m ih =>
    have he := h e (by simp)
    have ih := ih (fun x hx => h x (by simp [hx]))
    obtain ⟨k, p⟩ := e
    simp only [mapGet]
    split
    · have he : p.reloading = false := by simpa using he
      simp [he]
    · exact ih

/-- A row that no hold and no reload puts off runs at once (R70, R213). -/
theorem await_prompt (s : State) (n : Nat) (c : Instr) (k : State → Out) (h : s.prompt = true) : s.await n c k = k s := by
  simp [State.await, reloads_prompt s n h]

theorem mapCommand_prompt (s : State) (c : Instr) (k : State → Out) (h : s.prompt = true) : s.mapCommand c k = k s := by
  simp only [State.prompt, Bool.and_eq_true, Bool.not_eq_true'] at h
  simp [State.mapCommand, h.1]

theorem command_prompt (s : State) (n : Nat) (c : Instr) (k : State → Out) (h : s.prompt = true) : s.command n c k = k s := by
  simp [State.command, await_prompt s n c _ h, mapCommand_prompt s c k h]

/-- A row that runs either runs at once or is put off whole (R70, R213). -/
theorem command_cases (s : State) (n : Nat) (c : Instr) (k : State → Out) :
    s.command n c k = k s ∨ s.command n c k = .next (s.delay c) := by
  unfold State.command State.await
  split
  · exact .inr rfl
  · dsimp only [State.mapCommand]
    split
    · exact .inr rfl
    · exact .inl rfl

theorem runReq_prompt (c : Instr) (q : Req) (op index sub : Nat) (p : List Byte) (act : Act) (s : State) (h : s.prompt = true) :
    runReq c q op index sub p act s = runNow q op index sub p act s := by
  simp [runReq, reloads_prompt s 0 h, command_prompt s _ c _ h]

theorem runReq_cases (c : Instr) (q : Req) (op index sub : Nat) (p : List Byte) (act : Act) (s : State) :
    runReq c q op index sub p act s = runNow q op index sub p act s ∨ runReq c q op index sub p act s = .next (s.delay c) := by
  unfold runReq
  split
  · exact .inr rfl
  · exact command_cases _ _ _ _

theorem prompt_of_served (s : State) (i : Instr) (h : s.served i = true) : s.prompt = true := by
  simp only [State.served, Bool.and_eq_true] at h
  exact h.1

/-- A load or an erase of a key slot that no depot access keeps waiting is a request like any other (R369). -/
theorem keyLoad_eq (q : Req) (n : BitVec 8) (blob : List Byte) (s : State) (h : s.slotFetching n.toNat = false) :
    exec (.keyLoad q n blob) s = runReq (.keyLoad q n blob) q opWrite (0x7000 + n.toNat) 1 blob (loadAct n.toNat blob) s := by
  show execKeyLoad q n blob s = _
  simp [execKeyLoad, State.slotWaits, h]

theorem keySlotErase_eq (q : Req) (n : BitVec 8) (s : State) (h : s.slotFetching n.toNat = false) :
    exec (.keySlotErase q n) s = runCmd (.keySlotErase q n) q (OD.slotErase n.toNat) [] (eraseAct n.toNat) s := by
  show execKeySlotErase q n s = _
  simp [execKeySlotErase, State.slotWaits, h]

theorem slotFetching_of_served (s : State) (i : Instr) (n : Nat) (hn : ∀ k, loadsSlot k i = true ↔ n = k) (h : s.served i = true) :
    s.slotFetching n = false := by
  simp only [State.served, Bool.and_eq_true, Bool.not_eq_true', List.any_eq_false] at h
  simp only [State.slotFetching, List.any_eq_false]
  intro e he hb
  simp only [Bool.and_eq_true, decide_eq_true_eq] at hb
  exact h.2 e he (by simp [hb.1, (hn e.2.slot).2 hb.2.symm])

/-- The same for a row: it answers a next state, that of its own command. -/
theorem runReq_accepts (i : Instr) (q : Req) (op index sub : Nat) (p : List Byte) (act : Act) (s : State)
    (hi : requestOf i = some (q, { opcode := op, index := index, sub := sub, payload := p })) (h : s.accepts i = true) :
    runReq i q op index sub p act s = .next (match act (s.arrived q.src) with
      | (t, .reply r) => t.answered i r
      | (t, .later key) => t.goesOnFor i key) := by
  simp only [State.accepts, hi, Bool.and_eq_true] at h
  rw [runReq_prompt _ _ _ _ _ _ _ _ (prompt_of_served s i h.1), runNow, serve_takes s q _ act h.2, concluded_eq _ i _ _ _ hi]
  rcases act (s.arrived q.src) with ⟨t, a⟩
  cases a <;> rfl

theorem runCmd_accepts (i : Instr) (q : Req) (key : Nat) (p : List Byte) (act : Act) (s : State)
    (hi : requestOf i = some (q, cmdFrame key p)) (h : s.accepts i = true) :
    runCmd i q key p act s = .next (match act (s.arrived q.src) with
      | (t, .reply r) => t.answered i r
      | (t, .later key) => t.goesOnFor i key) :=
  runReq_accepts i q _ _ _ _ act s hi h

theorem runReq_puts_off (c : Instr) (q : Req) (op index sub : Nat) (p : List Byte) (act : Act) (s : State) :
    ∃ a h, runReq c q op index sub p act s = .next (s.serve q.src q.tag.toNat q.crc true
      { opcode := op, index := index, sub := sub, payload := p } a)
    ∨ runReq c q op index sub p act s = .next (State.delay { s with work := { s.work with slotHolds := h } } c) :=
  ⟨act, s.work.slotHolds, runReq_cases c q op index sub p act s⟩

/-- Every row that is a request is served with its own frame (R439, R443), or put off whole (R70, R213, R369). -/
theorem exec_serves (i : Instr) (q : Req) (f : ReqFrame) (s : State) (h : requestOf i = some (q, f)) :
    ∃ act holds, exec i s = .next (s.serve q.src q.tag.toNat q.crc true f act)
      ∨ exec i s = .next (State.delay { s with work := { s.work with slotHolds := holds } } i) := by
  cases i <;> first
    | (exfalso; simp [requestOf] at h; done)
    | (simp only [requestOf, Option.some.injEq, Prod.mk.injEq] at h; obtain ⟨rfl, rfl⟩ := h
       exact runReq_puts_off _ _ _ _ _ _ _ _)
    | (simp only [requestOf, Option.some.injEq, Prod.mk.injEq] at h; obtain ⟨rfl, rfl⟩ := h
       simp only [exec, execKeyLoad, execKeySlotErase]
       split
       · exact ⟨fun s => fail s 0, _, .inr rfl⟩
       · exact runReq_puts_off _ _ _ _ _ _ _ _)

end Sys2Proof.Machine
end

