-- ==== Sys2Proof/Laws/Walk.lean ====
section
/-! SUPPORT. When a request reaches its leaf without waiting: its walk is served by channels in service, and no held request to its line goes
first. -/
namespace Sys2Proof.Machine

/-- A node on a channel in service is in no other state. -/
theorem nodeIn_serves (s : State) (k : Nat) (p : ChanState → Bool) (hp : p .inService = false)
    (h : s.nodeIn (· != .inService) k = false) : s.nodeIn p k = false := by
  simp only [State.nodeIn, Bool.and_eq_false_iff] at h ⊢
  rcases h with h | h
  · exact .inl h
  · right
    have h' : (s.chan (s.channelOf (s.interior k).node)).state = .inService := by simpa using h
    rw [h', hp]

/-- A walk whose nodes all lie on channels in service does not wait (R311). -/
theorem walkWaits_serves (s : State) (cid page : Nat) (h : s.walkServes cid page) : s.walkWaits cid page = false := by
  have hr : (s.chan (s.channelOf (s.carriage cid).root)).state = .inService := by
    simpa [State.chanServes] using h.1
  have hn : ∀ l, l = 1 ∨ l = 2 ∨ l = 3 →
      s.nodeIn (fun st => st == .frozen || st == .salvageInit) (interiorKey cid l page) = false :=
    fun l hl => nodeIn_serves s _ _ rfl (h.2 l hl)
  simp [State.walkWaits, hr, hn]

/-- A walk whose nodes all lie on channels in service moves no node (R311). -/
theorem thawWalk_serves (s : State) (cid page : Nat) (h : s.walkServes cid page) : s.thawWalk cid page = s := by
  have hr : (s.chan (s.channelOf (s.carriage cid).root)).state = .inService := by
    simpa [State.chanServes] using h.1
  have hn : ∀ l, l = 1 ∨ l = 2 ∨ l = 3 → s.nodeIn (fun st => st == .thawing) (interiorKey cid l page) = false :=
    fun l hl => nodeIn_serves s _ _ rfl (h.2 l hl)
  simp [State.thawWalk, hr, hn, State.when]

/-- A request that finds its line free waits behind no other (R150). -/
theorem behindOther_lineFree (s : State) (w : Waiter) (h : s.lineFree w.ld w.dpa w.data.isSome) : s.behindOther w = false := by
  simp only [State.behindOther, List.any_eq_false]
  intro x hx
  by_cases hl : x.ld = w.ld ∧ x.dpa / 64 = w.dpa / 64
  · have := h x hx hl.1 hl.2
    simp [this.1, this.2]
  · have : (x.ld = w.ld && x.dpa / 64 = w.dpa / 64) = false := by simpa using hl
    simp [this]
end Sys2Proof.Machine
end

