-- ==== Sys2Proof/Tests/Slice0.lean ====
section
/-! SUPPORT. The model's own tests: an ill-formed command for each bound of WellFormed.lean, the manual's worked figures, and for
every statement of Certificates/Slice0 that has hypotheses a state and operands that meet them, clause by clause. Expected values of
the worked figures are the manual's; each names its rule. -/
namespace Sys2Proof.Tests
open Sys2Proof Sys2Proof.Machine

set_option maxRecDepth 100000
set_option Elab.async false

/-! ## Well-formedness: a command that no channel can carry is refused, bound by bound -/

/-- A request to test bounds with. -/
def anyReq : Req := { src := .proxy, tag := 7#8, crc := 0#32 }

/-- So many bytes. -/
def bytesOf (n : Nat) : List Byte := List.replicate n 0#8

/-- A packet with a length field and a payload. -/
def packetOf (len : BitVec 3) (n : Nat) : Packet :=
  { pcrc := 0, dst := 0, src := 0, cls := 0, opc := 0, len := len, pois := 0, tag := 0, addr := 0, payload := bytesOf n }

/-- A reading of the gauge with one cell at a value and the others in range. -/
def cellsAt (a b c d : Nat) : GaugeReading :=
  { cell1 := a, cell2 := b, cell3 := c, cell4 := d, current := 0, charge := 0, th1 := none, th2 := none }

theorem test_wf_ports :
    (Instr.linkUp 0 5 16 0 (some 1)).wf = false ∧ (Instr.linkUp 0 64 3 0 none).wf = false ∧ (Instr.linkUp 0 64 16 0 (some 1)).wf = true
    ∧ (Instr.expressPanicChange 0 513 0).wf = false ∧ (Instr.expressPanicChange 0 512 0).wf = true
    ∧ (Instr.loopLinePacket 0 0 (packetOf 5 320)).wf = false ∧ (Instr.loopLinePacket 0 0 (packetOf 1 63)).wf = false
    ∧ (Instr.loopLinePacket 0 0 (packetOf 4 256)).wf = true
    ∧ (Instr.loopLinePacket 0 0 (packetOf 4 256) (some (packetOf 1 63))).wf = false := by decide +kernel

theorem test_wf_mailbox :
    (Instr.mbxClearEventRecords 0 0 256).wf = false ∧ (Instr.mbxClearEventRecords 0 0 255).wf = true
    ∧ (Instr.mbxSetAlertConfiguration 0 (bytesOf 2049)).wf = false ∧ (Instr.mbxSetAlertConfiguration 0 (bytesOf 2048)).wf = true
    ∧ (Instr.mbxGetLsa 0 (2 ^ 32) 1).wf = false ∧ (Instr.mbxGetLsa 0 0 (2 ^ 32)).wf = false ∧ (Instr.mbxGetLsa 0 0 1).wf = true
    ∧ (Instr.mbxSetLsa 0 (2 ^ 32) []).wf = false ∧ (Instr.mbxSetLsa 0 0 (bytesOf 2041)).wf = false
    ∧ (Instr.mbxSetLsa 0 0 (bytesOf 2040)).wf = true := by decide +kernel

theorem test_wf_fabric :
    (Instr.fmSetLdAllocations 0 15 (bytesOf 2)).wf = false ∧ (Instr.fmSetLdAllocations 0 15 (bytesOf 1)).wf = true
    ∧ (Instr.fmSetQosControl 0 (bytesOf 2049)).wf = false ∧ (Instr.fmSetQosControl 0 (bytesOf 7)).wf = true
    ∧ (Instr.fmGetQosAllocatedBw 0 15 2).wf = false ∧ (Instr.fmGetQosAllocatedBw 0 15 1).wf = true
    ∧ (Instr.fmSetQosAllocatedBw 0 15 (bytesOf 2)).wf = false ∧ (Instr.fmSetQosAllocatedBw 0 0 (bytesOf 16)).wf = true
    ∧ (Instr.fmGetQosBwLimit 0 0 17).wf = false ∧ (Instr.fmGetQosBwLimit 0 0 16).wf = true
    ∧ (Instr.fmSetQosBwLimit 0 1 (bytesOf 16)).wf = false ∧ (Instr.fmSetQosBwLimit 0 0 (bytesOf 16)).wf = true := by decide +kernel

theorem test_wf_frames :
    (Instr.zopRequest 0 (bytesOf 2049)).wf = false ∧ (Instr.zopRequest 0 (bytesOf 2048)).wf = true
    ∧ (Instr.zopRequestInBackground 0 (bytesOf 2049)).wf = false ∧ (Instr.zopRequestInBackground 0 (bytesOf 12)).wf = true
    ∧ (Instr.mctpMessage .proxy 0 []).wf = false ∧ (Instr.mctpMessage (.mailbox 0) 0 []).wf = false
    ∧ (Instr.mctpMessage (.smbus 9) 0 []).wf = true
    ∧ (Instr.twoWireRead 65537).wf = false ∧ (Instr.twoWireRead 65536).wf = true := by decide +kernel

theorem test_wf_rates :
    (Instr.dramChannelsTrained 0 0 4800 0).wf = false ∧ (Instr.dramChannelsTrained 0 0 5600 0).wf = true := by decide +kernel

theorem test_wf_writes :
    (Instr.objectWrite anyReq 0 0 (bytesOf 1025)).wf = false ∧ (Instr.objectWrite anyReq 0 0 (bytesOf 1024)).wf = true
    ∧ (Instr.stagedObjectWrite anyReq 0 0 (bytesOf 1025)).wf = false ∧ (Instr.stagedObjectWrite anyReq 0 0 (bytesOf 4)).wf = true
    ∧ (Instr.compareWrite anyReq 0 0 (bytesOf 1025)).wf = false ∧ (Instr.compareWrite anyReq 0 0 (bytesOf 8)).wf = true
    ∧ (Instr.blockPart anyReq (bytesOf 1025)).wf = false ∧ (Instr.blockPart anyReq (bytesOf 1024)).wf = true := by decide +kernel

theorem test_wf_commands :
    (Instr.exportCarriage anyReq 0 0 0 (bytesOf 1013)).wf = false ∧ (Instr.exportCarriage anyReq 0 0 0 (bytesOf 97)).wf = true
    ∧ (Instr.planLoad anyReq 0 (List.replicate 511 0)).wf = false ∧ (Instr.planLoad anyReq 0 (List.replicate 510 0)).wf = true
    ∧ (Instr.keyLoad anyReq 0 (bytesOf 1025)).wf = false ∧ (Instr.keyLoad anyReq 0 (bytesOf 40)).wf = true
    ∧ (Instr.sealBlob anyReq 0 (bytesOf 256) [] []).wf = false ∧ (Instr.sealBlob anyReq 0 (bytesOf 64) (bytesOf 957) []).wf = false
    ∧ (Instr.sealBlob anyReq 0 (bytesOf 64) (bytesOf 896) []).wf = true
    ∧ (Instr.unsealBlob anyReq 0 [] (bytesOf 11) [] (bytesOf 16) []).wf = false
    ∧ (Instr.unsealBlob anyReq 0 [] (bytesOf 12) [] (bytesOf 15) []).wf = false
    ∧ (Instr.unsealBlob anyReq 0 [] (bytesOf 12) (bytesOf 993) (bytesOf 16) []).wf = false
    ∧ (Instr.unsealBlob anyReq 0 (bytesOf 64) (bytesOf 12) (bytesOf 896) (bytesOf 16) []).wf = true := by decide +kernel

theorem test_wf_signal_box :
    (Instr.gaugeSample (cellsAt 65536 0 0 0)).wf = false ∧ (Instr.gaugeSample (cellsAt 0 65536 0 0)).wf = false
    ∧ (Instr.gaugeSample (cellsAt 0 0 65536 0)).wf = false ∧ (Instr.gaugeSample (cellsAt 0 0 0 65536)).wf = false
    ∧ (Instr.gaugeSample (cellsAt 65535 65535 65535 65535)).wf = true
    ∧ (Instr.monitorSample (List.replicate 97 MonitorReading.initial)).wf = false
    ∧ (Instr.monitorSample (List.replicate 96 MonitorReading.initial)).wf = true
    ∧ (Instr.releaseComparatorCrossing 65536 true).wf = false ∧ (Instr.releaseComparatorCrossing 65535 true).wf = true
    ∧ (Instr.eflashRecordWrite 0 0 0 (bytesOf 105) 0).wf = false ∧ (Instr.eflashRecordWrite 0 0 0 (bytesOf 104) 0).wf = true
    ∧ (Instr.applySectorComplete []).wf = false ∧ (Instr.applySectorComplete [true]).wf = true := by decide +kernel

/-! ## The manual's worked figures -/

/-- R440: the nine ASCII bytes "123456789" give 0xE3069283. -/
theorem test_crc32c :
    crc32c [0x31#8, 0x32#8, 0x33#8, 0x34#8, 0x35#8, 0x36#8, 0x37#8, 0x38#8, 0x39#8] = 0xE3069283#32 := by decide +kernel

/-- The S-box is the affine map of the inverse (FIPS 197): undoing the map gives a byte whose product with the argument is 1; and the
second table undoes the first. -/
theorem test_sbox : sbox 0 = 0x63#8 ∧ ∀ a : Byte, (a = 0 ∨ gmul a ((sbox a).rotateLeft 1 ^^^ (sbox a).rotateLeft 3 ^^^ (sbox a).rotateLeft 6 ^^^ 0x05#8) = 1#8)
    ∧ invSbox (sbox a) = a := by decide +kernel

/-- The READ of OD 0x5400.01 with TAG 7 is the frame 01 07 00 54 01 00 00 00 and its CRC (13, the proxy's worked example). -/
theorem test_read_frame : (frameBytes 1 7 0x5400 1 0 []).take 8 = [0x01#8, 0x07#8, 0x00#8, 0x54#8, 0x01#8, 0x00#8, 0x00#8, 0x00#8]
    ∧ (frameBytes 1 7 0x5400 1 0 []).length = 12 := by decide +kernel

/-! ## Helpers: a command's next state, and the unit at work -/

/-- A command goes on, and its next state has a property. -/
def after (o : Out) (p : State → Bool) : Bool := match o with | .next t => p t | .fault _ => false | .refused _ => false

/-- The unit in a mode: its supplies are good, its DRAM and flash channels serve, port 0 is linked with 16 LDs bound, and LD 0 is
enabled with level 3 and a window of 1 GiB. -/
def unitIn (m : Mode) : State :=
  let s := State.reset
  let s := { s with ctl := { s.ctl with mode := m }, pins := { s.pins with mdPwrgd := true, perst0N := true },
                    boot := { s.boot with reached := 255 }
                    dram := { s.dram with chans := (List.range 16).map (fun n => (n, { Chan.initial with state := .inService })) }
                    flash := { s.flash with chans := (List.range 64).map (fun n => (n, { FChan.initial with dies := 0xFFFF })) } }
  let s := s.setHostPort 0 { s.hostPort 0 with bound := 0xFFFF }
  [(OD.hpLinkState 0, 3), (OD.hpMemAdmitted 0, 1), (OD.hpTopology 0, 1), (OD.ldEnabled 0, 1), (OD.ldMgmtAccess 0, 3),
   (OD.ldWindowSize 0, 2 ^ 30), (OD.accessProxyAccess, 3), (OD.accessSmbusAccess, 3), (OD.spaceBackingPagesTotal, 1000000), (OD.spaceTableNodesTotal, 1000000)].foldl
    (fun s e => s.put e.1 e.2) s

/-- In SERVICE. -/
def working : State := unitIn .service

/-- A request of the proxy with TAG 7 and the CRC of a frame. -/
def reqOf (f : ReqFrame) : Req := { src := .proxy, tag := 7#8, crc := frameCrc f.opcode 7 f.index f.sub 0 f.payload }

/-- A request row with the request that carries it. -/
def ask (c : Req → Instr) : Instr :=
  match requestOf (c (reqOf (cmdFrame 0 []))) with | some (_, f) => c (reqOf f) | none => c (reqOf (cmdFrame 0 []))

/-- A request is accepted, and its next state has a property. -/
def served (c : Req → Instr) (s : State) (p : State → Bool) : Bool := s.accepts (ask c) && after (exec (ask c) s) p

/-- A Resident dirty page of carriage 1 in a frame. -/
def dirtyLeaf (f : Nat) : Leaf := { Leaf.empty with res := true, dirty := true, ttag := 1, ptr := f }

/-- A page of carriage 1 that only flash holds. -/
def flashLeaf : Leaf := { Leaf.empty with flc := true, ttag := 1 }

/-- A valid entry of an interior level. -/
def node : Interior := { Interior.empty with valid := true, extent := 1, node := 1 }

/-- SERVICE with carriage 1, active with 1 GiB and term 1, coupled at DPA 0 of LD 0: page 0 is Resident and dirty in frame 5,
page 1 in flash only, page 2 Unallocated, page 3 poisoned, page 4 a depot leaf of depot page 7, which is Resident in frame 6. -/
def loaded : State := { working with
  tables := { working.tables with
    carriages := [(1, { Carriage.free with state := .active, term := 1, keygen := 1, root := 1, size := 512 })]
    couplings := [{ ld := 0, dpa := 0, cid := 1, length := 512, rdonly := false, cls := 15 }]
    interior := [(interiorKey 1 3 0, node), (interiorKey 1 2 0, node), (interiorKey 1 1 0, node)]
    leaves := [(leafKey 1 0, dirtyLeaf 5), (leafKey 1 1, flashLeaf), (leafKey 1 3, { Leaf.empty with pois := true }),
      (leafKey 1 4, { Leaf.empty with depot := true, ptr := 7 })]
    depot := [(7, { DepotEntry.empty with valid := true, refs := 1, slot := 3, slotGen := 2, res := true, frame := 6 })]
    passes := [(1, 8)] }
  dram := { working.dram with frames := [(5, { key := .carriage 1 1, tweak := tweakPage 0, image := Image.zero }),
    (6, { key := .slot 3 2, tweak := tweakDepot 7, image := Image.zero })] }
  crypt := { working.crypt with slots := [(3, { Slot.empty with type := 1, gen := 2 })] } }

/-- What was completed toward the hosts: 0 data, 1 poison, 2 zeros, 3 a write, 4 anything else, with its address. -/
def sent (s : State) : List (Nat × Nat) :=
  s.out.host.map (fun c => match c with
    | .data _ a _ _ => (0, a) | .poison _ a _ => (1, a) | .zeros _ a _ => (2, a) | .written _ a _ => (3, a) | _ => (4, 0))

/-! ## Power, supplies, RESET_N, BOOT, watchdogs and decisions -/

/-- The unit in a power state and a mode. -/
def powered (p : PowerState) (m : Mode) : State := { unitIn m with power := { (unitIn m).power with state := p } }

/-- The unit after a Commit in SERVICE. -/
def saving : State :=
  match exec (.commit .pwrfail) working with | .next t => t | .fault _ => working | .refused _ => working

/-- The save-then-restore path after a Commit, with so many steps of the save ended. -/
def turningBack (n : Nat) : State :=
  { saving with saves := { saving.saves with run := saving.saves.run.map (fun r => { r with restoring := true, step := n }) } }

/-- BOOT with so many steps ended. -/
def booting (n : Nat) : State := { unitIn .boot with boot := { (unitIn .boot).boot with reached := BitVec.ofNat 8 (2 ^ n - 1) } }

/-- BOOT with so many steps ended and no channel brought up yet. -/
def bare (n : Nat) : State :=
  let s := booting n
  { s with dram := { s.dram with chans := [] }, flash := { s.flash with chans := [] } }

/-- MAINTENANCE with test perturbation unlocked and armed. -/
def perturbing : State :=
  { unitIn .maintenance with ctl := { (unitIn .maintenance).ctl with unlocked := true, armed := true } }

/-- SERVICE with porter 7 running. -/
def running : State := working.setPorter 7 { Porter.initial with running := true }

/-- A Warn arms MAINTENANCE and ends perturbation, holds BOOT, and counts after a Commit; a Commit saves in SERVICE, and ends BOOT and RESTORE. -/
theorem test_WarnAndCommit :
    (perturbing.watchesPower && perturbing.power.state == .normal
  && after (exec .warn perturbing) (fun t => t.power.state == .armed && !t.ctl.armed && !t.ctl.unlocked && t.ctl.mode == .maintenance)) = true
    ∧ ((booting 3).watchesPower && after (exec .warn (booting 3)) (fun t => t.boot.held == some 7 && t.power.holdSince == none)) = true
    ∧ ((powered .armed .service).watchesPower
  && after (exec .warn (powered .armed .service)) (fun t => t.power.state == .armed && t.log.queue.map (·.code) == [0x2805])) = true
    ∧ (working.watchesPower && after (exec (.commit .pfsense) working) (fun t => t.ctl.mode == .save && t.power.state == .committed
  && t.power.batsel == 1 && t.saves.lastSeq == working.saves.lastSeq + 1
  && (match t.saves.run with | some r => r.kind == .commit && r.cause == 7 && r.mode == .service && r.step == 2 | none => false))) = true
    ∧ ((booting 4).watchesPower && after (exec (.commit .both) (booting 4)) (fun t => t.ctl.mode == .off && t.power.state == .normal)
  && after (exec (.commit .both) ((booting 4).put OD.vaultVaultPending 1)) (fun t => t.ctl.mode == .vault)) = true
    ∧ ((unitIn .restore).watchesPower && !(unitIn .restore).saves.restore.admitted
  && after (exec (.commit .pwrfail) (unitIn .restore)) (fun t => t.ctl.mode == .vault && t.power.batsel == 0)) = true
    ∧ (saving.watchesPower && saving.power.state == .committed && after (exec .powerSignalChangeInSave saving) (fun t =>
  t.ctl == saving.ctl && t.get OD.vaultSignalsInSave == 1 && t.saves.run.map (·.step) == some 2)
  && after (exec (.commit .both) saving) (fun t => t.get OD.vaultSignalsInSave == 1) && after (exec .warn saving) (fun t => t.get OD.vaultSignalsInSave == 1)) = true
    ∧ ((powered .armed .maintenance).watchesPower
  && after (exec .warn { perturbing with power := { perturbing.power with state := .armed } }) (fun t => !t.ctl.armed && !t.ctl.unlocked)) = true
    ∧ ((turningBack 9).watchesPower && (turningBack 9).restoringPath
  && after (exec (.commit .pwrfail) (turningBack 9)) (fun t => t.ctl.mode == .vault && t.power.batsel == 0 && t.get OD.modeLastCause == 0x0B)) = true
    ∧ ((turningBack 8).watchesPower && (turningBack 8).restoringPath
  && after (exec (.commit .pwrfail) (turningBack 8)) (fun t => t.saves.run.map (·.restoring) == some false && t.ctl == saving.ctl)) = true := by
  decide +kernel

/-- Disarming, the Release comparator at and below its level, the return of power, and a pack that gives no current. -/
theorem test_ReleaseAndReturn :
    ((powered .armed .boot).watchesPower && after (exec .disarm (powered .armed .boot)) (fun t => t.power.state == .normal && t.boot.held == none)) = true
    ∧ (after (exec (.releaseComparatorCrossing 40000 true) working) (fun t => t.power.holdSince == some working.uptime && t.pins.rail == 40000)
  && after (exec (.releaseComparatorCrossing 40000 false) working) (fun t => t.power.holdSince == none && t.power.aboveRelease)
  && after (exec (.releaseComparatorCrossing 0 true) working) (fun t => t.power.holdSince == none && !t.power.aboveRelease)) = true
    ∧ (after (exec .powerReturnEvent (unitIn .vault)) (fun t => t.ctl.mode == .boot && t.get OD.qosThrottleState == 2)) = true
    ∧ (saving.ctl.mode == .save && after (exec .powerReturnEvent saving) (fun t => t.saves.run.map (·.pwrret) == some true)) = true
    ∧ (saving.power.batsel == 1 && !saving.power.confirmed
  && after (exec .batselNoCurrent saving) (fun t => t.get OD.railBatselConfirmFails == saving.get OD.railBatselConfirmFails + 1)) = true
    ∧ (after (exec .disarm { powered .armed .service with power := { (powered .armed .service).power with batsel := 2 } }) (fun t =>
  t.power.batsel == 0 && t.power.state == .normal)) = true := by
  decide +kernel

/-- Reset of the Signal Box, its cold start without a good ROM, the Main die's supplies, and RESET_N in each mode. -/
theorem test_SuppliesAndResetPin :
    (after (exec .powerOnReset working) (fun t => t.ctl.mode == .off && t.ctl.stopped && t.tables.couplings == [])) = true
    ∧ (after (exec .powerOnReset working) (fun s => s.ctl.stopped
  && after (exec (.signalBoxColdStart false true true 0 [] []) s) (fun t => t.ctl.mode == .off && !t.ctl.stopped && t.ctl.romFailed))) = true
    ∧ (after (exec .powerOnReset State.reset) (fun s => s.ctl.stopped
  && after (exec (.signalBoxColdStart true true true 0 [] []) s) (fun t => !t.ctl.stopped && !t.ctl.romFailed && !t.ctl.serviceLoop
    && (t.ctl.mode == .off || t.ctl.mode == .boot)))) = true
    ∧ (after (exec .mainDiePowerGood State.reset) (fun t => t.ctl.mode == .boot && t.pins.mdPwrgd && t.boot.reached == 1)) = true
    ∧ (after (exec .mdPwrgdLost working) (fun t => !t.pins.mdPwrgd && t.ctl == working.ctl)
  && working.mainDieRuns && !working.recentCommit && !working.restoringPath
  && after (exec .mdPwrgdLost working) (fun t => t.log.queue.map (·.code) == [0x6301])
  && after (exec .crystalFail working) (fun t => !t.pins.crystal)
  && after (exec (.vsbEarlyWarning true) { working with pins := { working.pins with vsbEarly := true } }) (fun t => !t.pins.vsbEarly)) = true
    ∧ (after (exec .resetNAssert working) (fun t => t.ctl.mode == .save
  && (match t.saves.run with | some r => r.kind == .reset && r.cause == 3 | none => false))) = true
    ∧ ((saving.saves.run.map (·.restoring)) == some false && after (exec .resetNAssert saving) (fun t => t.saves.run.map (·.resetLatched) == some true)) = true
    ∧ (after (exec .resetNAssert (booting 5)) (fun t => t.ctl.mode == .boot && t.ctl.resetPending && t.boot.reached == 0
  && !t.boot.retryHold && after (exec .resetNRelease t) (fun u => u.boot.reached == 1 && u.pins.resetN && !u.ctl.resetPending))) = true
    ∧ (after (exec (.vsbEarlyWarning false) working) (fun t => t.pins.vsbEarly)) = true
    ∧ (!(unitIn .restore).saves.restore.admitted && after (exec .resetNAssert (unitIn .restore)) (fun t => t.ctl.mode == .boot && t.ctl.resetPending)) = true := by
  decide +kernel

/-- Each step of BOOT ends, BOOT completes, and a step that does not end is tried again, at most twice. -/
theorem test_Boot :
    ((booting 1).bootMay 1 && after (exec (.bootStart 250) (booting 1)) (fun t => t.reachedStep 1 && t.boot.temperature == 250)) = true
    ∧ ((booting 2).bootMay 2) = true
    ∧ ((booting 3).bootMay 3 && ((booting 3).checkVaultKey 0x123456).2 && after (exec (.vaultKeyDerived 0x123456 (BitVec.allOnes 40) []) (booting 3)) (fun t =>
  t.reachedStep 3 && t.crypt.keyed && t.crypt.quarantined == 0)
  && (booting 3).crypt.vaultMark + 2 ^ 21 < 2 ^ 64) = true
    ∧ ((bare 4).bootMay 4 && (bare 4).flash.chans == [] && (bare 4).namedDies != 0
  && after (exec (.flashChannelsReady ((bare 4).get OD.flashSpeedLimit) [] 0 []) (bare 4)) (fun t => t.reachedStep 4 && (t.fchan 63).state == 0)) = true
    ∧ ((bare 5).bootMay 5 && (bare 5).dram.chans == []
  && after (exec (.dramChannelsTrained 0 0) (bare 5)) (fun t => t.reachedStep 5 && (t.chan 15).state == .inService)) = true
    ∧ ((booting 6).bootMay 6 && after (exec (.sealRecordsRead true true true true []) (booting 6)) (fun t => t.reachedStep 6)) = true
    ∧ ((booting 7).bootMay 7 && (booting 7).saves.vaults.isEmpty
  && after (exec .bootComplete (booting 7)) (fun t => t.ctl.mode == .service && t.get OD.modeLastCause == 5)) = true
    ∧ (after (exec (.bootStepTimeout 6) (booting 7)) (fun t => t.boot.retryHold && t.boot.reached == 0
  && after (exec .bootRetryDelayExpiry t) (fun u => !u.boot.retryHold && u.boot.reached == 1))) = true
    ∧ (after (exec (.bootStepTimeout 0) ((booting 1).put OD.modeBootFailures 2)) (fun t => t.ctl.mode == .freeze)) = true := by
  decide +kernel

/-- Watchdogs in SERVICE, a restart, a porter's reload and memory error, and an embedded-flash operation's end. -/
theorem test_WatchdogsAndPorters :
    (!working.ctl.stopped && working.update.state != .trial && working.eflash.busy == none
  && after (exec .stationmasterWatchdogExpiry working) (fun t => t.bus.recovery && t.ctl == working.ctl && t.terms.runs == [])
  && after (exec .stationmasterWatchdogExpiry (unitIn .freeze)) (fun t => t.bus.recovery && t.ctl == (unitIn .freeze).ctl)) = true
    ∧ (after (exec .stationmasterWatchdogExpiry { working with eflash := { working.eflash with busy := some .program } }) (fun t =>
  t.cores.deferredReset == 2 && t.ctl == working.ctl)) = true
    ∧ (!working.ctl.romFailed && working.cores.deferredReset == 0 && working.cores.deferredPorters == [] && !working.faultsAgain .watchdog
  && after (exec (.stationmasterRestart .watchdog true [] []) working) (fun t => t.ctl.mode == .service
  && t.cores.restarts == working.cores.restarts + 1 && t.cores.restartCause == restartCode .watchdog && !t.bus.recovery)) = true
    ∧ ((working.porter 3).expiries == [] && after (exec (.porterWatchdogExpiry 3) working) (fun t => !(t.porter 3).running
  && (t.porter 3).reloading && t.ctl == working.ctl && after (exec (.porterReloadComplete 3 true) t) (fun u => (u.porter 3).running && !(u.porter 3).reloading))) = true
    ∧ ((running.porter 7).running && after (exec (.porterMemoryError 7) running) (fun t => !(t.porter 7).running
  && t.log.queue.map (·.code) == [0x6211])) = true
    ∧ (working.cores.deferredReset == 0 && working.cores.deferredPorters == [] && after (exec .eflashOperationComplete working) (fun t => t.eflash.busy == none)) = true := by
  decide +kernel

/-- In SERVICE with 17 pipes quarantined, so that the save path is not usable. -/
def quarantined : State := { working with crypt := { working.crypt with quarantined := 0x1FFFF } }

/-- Chip-level decisions per mode, and self-check failures of a flash channel, a DRAM channel and a port, within the budget and at its end. -/
theorem test_IsolationsAndDecisions :
    (working.savePathUsable && after (exec (.chipDecisionRequest .map) working) (fun t => t.ctl.mode == .save && t.get OD.modeLastCause == 0x0A
  && t.saves.run.map (fun x => (x.kind, x.cause, x.mode, x.step)) == some (.decision, 0x0A, .service, 2))) = true
    ∧ (!(quarantined.savePathUsable) && after (exec (.chipDecisionRequest .crypt) quarantined) (fun t => t.ctl.mode == .freeze
  && t.get OD.modeLastCause == 0x0A)) = true
    ∧ (after (exec (.chipDecisionRequest .map) (unitIn .restore)) (fun t => t.ctl.mode == .freeze && t.get OD.modeLastCause == 0x0A)) = true
    ∧ (after (exec (.chipDecisionRequest .map) saving) (fun t => t.saves.run.map (·.decision) == some true && t.ctl == saving.ctl)
  && after (exec (.chipDecisionRequest .map) (unitIn .vault)) (fun t => t.ctl.mode == .vault)) = true
    ∧ (saving.ctl.mode == .save && saving.mainDieRuns && (saving.fchan 63).state == 0 && saving.fchansOut < 8
  && after (exec (.selfCheckFailure (.flash 63)) saving) (fun t => (t.fchan 63).state == 1 && (t.fchan 63).cause == 3 && t.ctl == saving.ctl)) = true
    ∧ ((working.chan 15).state == .inService && working.isPopulated 15 && 4 * (working.chansOut + 1) ≤ working.populated
  && after (exec (.selfCheckFailure (.dram 15 false)) working) (fun t => (t.chan 15).freezeCause == 8 && (t.chan 15).freezeTime == working.clock
    && (t.chan 15).state != .inService && t.ctl == working.ctl)
  && after (exec (.selfCheckFailure (.dram 15 true)) working) (fun t => (t.chan 15).freezeCause == 4)) = true
    ∧ (working.iso.ports == 0 && after (exec (.selfCheckFailure (.port 1)) working) (fun t => t.iso.ports.getLsbD 1
  && t.get (OD.hpFenceCause 1) == 3 && t.ctl == working.ctl)) = true
    ∧ (!(unitIn .vault).mainDieRuns && after (exec (.selfCheckFailure (.port 1)) (unitIn .vault)) (fun t => t == (unitIn .vault).unlist)) = true := by
  decide +kernel

/-- The present mode, each change of mode, and a request that RESTORE does not list. -/
theorem test_ModeRequests :
    (working.accepts (ask (.modeRequest · 3))
  && after (exec (ask (.modeRequest · 3)) working) (fun t => t.ctl == working.ctl)) = true
    ∧ (working.accepts (ask (.modeRequest · 7)) && working.flush.drill == none
  && after (exec (ask (.modeRequest · 7)) working) (fun t => t.ctl.mode == .maintenance
    && t.get OD.modeLastCause == 9 && t.get OD.modePreviousMode == 3)) = true
    ∧ (perturbing.accepts (ask (.modeRequest · 3))
  && after (exec (ask (.modeRequest · 3)) perturbing) (fun t => t.ctl.mode == .service && !t.ctl.unlocked && !t.ctl.armed)) = true
    ∧ (working.accepts (ask (.modeRequest · 6))
  && after (exec (ask (.modeRequest · 6)) working) (fun t => t.ctl.mode == .freeze)) = true
    ∧ ((unitIn .freeze).accepts (ask (.modeRequest · 4))
  && after (exec (ask (.modeRequest · 4)) (unitIn .freeze)) (fun t => t.ctl.mode == .save
    && t.saves.run.map (·.kind) == some .requested)) = true
    ∧ ((unitIn .restore).accepts (ask (.modeRequest · 3))
  && after (exec (ask (.modeRequest · 3)) (unitIn .restore)) (fun t => t.ctl.mode == .restore)) = true := by
  decide +kernel

/-! ## Saves, restores, ports and host messages -/

/-- A run of a save at a step. -/
def atStep (n : Nat) (f : SaveRun → SaveRun) : State :=
  { saving with saves := { saving.saves with run := saving.saves.run.map (fun r => f { r with step := n }) } }

/-- SERVICE with DRAM channel 2 in a state. -/
def chanIn (c : Chan) (s : State) : State := s.setChan 2 c

/-- A cold restore of the vault that `saving` began. -/
def restoring (metaDone : Bool) : State :=
  let s := { unitIn .restore with saves := { saving.saves with run := none } }
  { s with saves := { s.saves with restore := { s.saves.restore with seq := 1, active := true, metaDone := metaDone } } }

/-- Port 0 waiting to train. -/
def trainingPort : State := (working.put (OD.hpLinkState 0) 1).setHostPort 0 { working.hostPort 0 with training := true, maxWidth := 16 }

/-- A throttle state and so many dirty pages, under a ceiling of ten. -/
def throttle (n r : Nat) : State :=
  let s := { working with tables := { working.tables with leaves := (List.range r).map (fun k => (leafKey 1 k, dirtyLeaf k)) } }
  { (s.put OD.plannerEffectiveCeiling 40960).put OD.qosThrottleState n with flush := { working.flush with planned := true } }

/-- The steps of a save, the seal, and what follows it. -/
theorem test_Saves :
    ((atStep 2 id).ctl.mode == .save && (atStep 2 id).saves.run.isSome
  && after (exec .saveDrainComplete (atStep 2 id)) (fun t => t.saves.run.map (·.step) == some 3)) = true
    ∧ (after (exec .saveHeaderProgrammed (atStep 3 id)) (fun t => t.saves.run.map (·.step) == some 4)
  && after (exec .saveMetadataProgrammed (atStep 4 id)) (fun t => t.saves.run.map (·.step) == some 5
    && (match findVault 1 t.saves.vaults with | some v => v.metaMark | none => false))) = true
    ∧ (after (exec (.saveStreamProgrammed []) (atStep 5 id)) (fun t => t.saves.run.map (·.step) == some 6)
  && after (exec .saveLogProgrammed (atStep 6 id)) (fun t => t.saves.run.map (·.step) == some 7 && t.log.seqReport == some saving.log.nextSeq)) = true
    ∧ ((findVault 1 (atStep 7 id).saves.vaults).isSome && (atStep 7 id).saves.run.map (·.seq) == some 1
  && after (exec (.sealComplete true true 9) (atStep 7 id)) (fun t => t.saves.run.map (·.step) == some 8
    && t.saves.run.map (·.sealed) == some true && t.get OD.vaultVaultPending == 1 && t.get OD.vaultSealSeq == 1)) = true
    ∧ ((atStep 8 id).saves.run.map (fun r => (r.resetLatched, r.restoring)) == some (false, false)
  && after (exec .vaultRecordComplete (atStep 8 id)) (fun t => t.ctl.mode == .vault && t.power.state == .normal && t.power.batsel == 0
    && t.get OD.modeLastCause == 0x0B)) = true
    ∧ (after (exec (.saveStreamProgrammed [(1, 0, [])]) (atStep 5 id)) (fun t => t.saves.run.map (·.step) == some 6)) = true
    ∧ ((atStep 8 id).eflash.busy == none
  && after (exec .vaultRecordComplete (atStep 8 (fun r => { r with resetLatched := true }))) (fun t => t.ctl.mode == .boot || t.cores.deferredReset == 1)) = true
    ∧ ((findVault 1 (atStep 9 (fun r => { r with restoring := true })).saves.vaults).isSome
  && after (exec .saveThenRestoreEntry (atStep 9 (fun r => { r with restoring := true }))) (fun t => t.ctl.mode == .restore
    && t.get OD.modeLastCause == 0x0C && t.saves.restore.seq == 1 && t.saves.restore.active)) = true
    ∧ (after (exec .saveHeaderProgrammed (atStep 2 id)) (fun t => t.unlisted == (atStep 2 id).unlisted + 1)
  && after (exec .saveDrainComplete (atStep 3 id)) (fun t => t.unlisted == (atStep 3 id).unlisted + 1)
  && after (exec (.saveStreamProgrammed []) (atStep 6 id)) (fun t => t.unlisted == (atStep 6 id).unlisted + 1)) = true := by
  decide +kernel

/-- The salvage initialisation of a thaw and of a save, and the thaw pass. -/
theorem test_SalvageAndThaw :
    (after (exec (.salvageInitComplete 2) (chanIn { Chan.initial with state := .salvageInit } working)) (fun t => (t.chan 2).state == .thawing)
  && after (exec (.salvageInitTimeout 2) (chanIn { Chan.initial with state := .salvageInit } working)) (fun t => (t.chan 2).state == .offline)) = true
    ∧ (after (exec (.salvageInitComplete 2) (chanIn { Chan.initial with state := .salvageSave } saving)) (fun t => (t.chan 2).initialised)
  && after (exec (.salvageInitTimeout 2) (chanIn { Chan.initial with state := .salvageSave } saving)) (fun t => t.log.queue.map (·.code) == (saving.log.queue.map (·.code)) ++ [0x2813])) = true
    ∧ (after (exec (.thawPassComplete 2 []) (chanIn { Chan.initial with state := .thawing } working)) (fun t => (t.chan 2).state == .offline
  && t.get OD.freezeThawDone == t.get OD.freezeThawTotal)) = true := by
  decide +kernel

/-- The end of the metadata phase and of the restore, a checkpoint, the seating plan and the outcomes. -/
theorem test_RestoreEvents :
    ((restoring false).ctl.mode == .restore && !(restoring false).saves.restore.warm && (findVault 1 (restoring false).saves.vaults).isSome
  && after (exec .restoreMetadataPhaseComplete (restoring false)) (fun t => t.flush.planned
    && (t.get OD.restoreRestoreState == 2 || t.get OD.restoreRestoreState == 3))) = true
    ∧ ((restoring true).saves.restore.active && (restoring true).saves.restore.metaDone
  && after (exec (.restoreComplete []) (restoring true)) (fun t => t.ctl.mode == .service && t.get OD.modeLastCause == 6
    && !t.saves.restore.active && t.saves.restore.awaiting)) = true
    ∧ (after (exec (.restoreCheckpointDue 3 17 5) (restoring true)) (fun t => t.saves.restore.step == 3 && t.saves.restore.position == 17
  && t.saves.restore.segment == 5 && t.get OD.restorePlanPosition == 17)) = true
    ∧ (served (.planLoad · 4094 [7, 9]) working (fun t =>
  mapGet (fun _ => 0xFFFF) t.saves.plan 4095 == 9 && mapGet (fun _ => 0xFFFF) t.saves.plan 4094 == 7 && mapGet (fun _ => 0xFFFF) t.saves.plan 4093 == 0xFFFF)) = true
    ∧ (served (.clearOutcomes ·) working (fun t => t.saves.restore.outcomes == [])) = true := by
  decide +kernel

/-- PERST_N in SERVICE, SAVE and OFF, training, links, IDE keys and an IDE failure. -/
theorem test_PortEvents :
    (after (exec (.perstNAssert 0) working) (fun t => !t.perstHigh 0 && t.get (OD.hpLinkState 0) == 0 && t.get (OD.hpMemAdmitted 0) == 0
  && t.get (OD.hpPerstCount 0) == 1)) = true
    ∧ (after (exec (.perstNAssert 1) saving) (fun t => t.get (OD.hpPerstCount 1) == 1 && t.get (OD.hpLinkState 1) == saving.get (OD.hpLinkState 1))
  && after (exec (.perstNAssert 1) State.reset) (fun t => t == State.reset.setPerst 1 false)) = true
    ∧ ((booting 3).reachedStep 1 && after (exec (.perstNAssert 0) ((booting 3).put (OD.hpLinkState 0) 3)) (fun t => t.get (OD.hpLinkState 0) == 0
  && t.log.queue.map (·.code) == [0x1003])) = true
    ∧ (((working.put (OD.hpLinkState 1) 0).setPerst 1 true).mayTrain 1
  && after (exec (.perstNDeassert 1) (working.put (OD.hpLinkState 1) 0)) (fun t => t.get (OD.hpLinkState 1) == 1 && (t.hostPort 1).training)) = true
    ∧ (!(State.reset.setPerst 1 true).mayTrain 1 && after (exec (.perstNDeassert 1) State.reset) (fun t => t.perstHigh 1)) = true
    ∧ (trainingPort.get (OD.hpLinkState 0) == 1 && trainable (trainingPort.hostPort 0).maxWidth 64 16 1
  && after (exec (.linkUp 0 64 16 1 (some 1)) trainingPort) (fun t => t.get (OD.hpRate 0) == 64 && t.get (OD.hpWidth 0) == 16
    && t.get (OD.hpFlitMode 0) == 1 && t.get (OD.hpTopology 0) == 1 && t.get (OD.hpLinkState 0) == (if trainingPort.memAdmission then 3 else 2))) = true
    ∧ (trainable (trainingPort.hostPort 0).maxWidth 64 4 1
  && after (exec (.linkUp 0 64 4 1 none) trainingPort) (fun t => t.get (OD.hpMemAdmitted 0) == 0 && t.get (OD.hpLinkState 0) == 2)) = true
    ∧ (working.portUp 0 && after (exec (.surpriseLinkDown 0) working) (fun t => t.get (OD.hpSurpriseDowns 0) == 1 && t.get (OD.hpMemAdmitted 0) == 0
  && t.get (OD.hpLinkState 0) == (if working.perstHigh 0 then 1 else 0))) = true
    ∧ ((working.setPerst 0 true).portUp 0 && (working.setPerst 0 true).mainDieRuns && working.get (OD.hpFenceCause 0) == 0
  && after (exec (.surpriseLinkDown 0) (working.setPerst 0 true)) (fun t => t.get (OD.hpLinkState 0) == 1)) = true
    ∧ (working.reachedStep 2 && after (exec (.ideKmMessage 0 .mem 5) working) (fun t => (t.hostPort 0).keyMem == some 5
    && (t.hostPort 0).ideState != 0 && t.portUp 0
    && after (exec (.ideMacFailure 0) t) (fun u => u.get (OD.hpIdeState 0) == 4 && (u.hostPort 0).keyMem == none && u.get (OD.hpLinkState 0) ≤ 1))
  && after (exec (.ideKmMessage 0 .io 5) working) (fun t => (t.hostPort 0).keyIo == some 5)) = true := by
  decide +kernel

/-- GPF, the residue message in each throttle state, express panic, the panic packet and configuration requests. -/
theorem test_HostMessages :
    (working.portUp 0 && working.get (OD.hpFenceCause 0) == 0
  && after (exec (.gpfPhase2Request 0) working) (fun t => t.out.host.head? == some (.gpfDone 0))) = true
    ∧ (working.mainDieRuns && after (exec .residueUpdate working) (fun t => t.host.residue == 0 && t.get OD.qosThrottleState == 0)) = true
    ∧ (working.work.waiters.isEmpty && after (exec (.gpfPhase2Request 0) working) (fun t => !(t.hostPort 0).gpf)) = true
    ∧ (after (exec .residueUpdate (throttle 0 8)) (fun t => t.get OD.qosThrottleState == 0 && t.host.band == 2)
    && after (exec .residueUpdate (throttle 0 9)) (fun t => t.get OD.qosThrottleState == 1 && t.host.band == 3)
    && after (exec .residueUpdate (throttle 1 10)) (fun t => t.get OD.qosThrottleState == 2)
    && after (exec .residueUpdate (throttle 1 8)) (fun t => t.get OD.qosThrottleState == 0)
    && after (exec .residueUpdate (throttle 2 9)) (fun t => t.get OD.qosThrottleState == 1)
    && after (exec .residueUpdate (throttle 2 10)) (fun t => t.get OD.qosThrottleState == 2)) = true
    ∧ (after (exec (.expressPanicChange 0 (working.get OD.qosPanicHigh) 0) working) (fun t => (t.hostPort 0).panic && !(t.hostPort 0).heldReported
  && after (exec (.expressPanicHeld 0) t) (fun u => (u.hostPort 0).heldReported)
  && after (exec (.expressPanicChange 0 (working.get OD.qosPanicLow) (working.get OD.qosPanicAgeLow)) t) (fun u => !(u.hostPort 0).panic))
  && after (exec (.expressPanicChange 0 (working.get OD.qosPanicHigh - 1) 0) working) (fun t => !(t.hostPort 0).panic)) = true
    ∧ (after (exec (.panicPacket 1 true) working) (fun t => t.dram.panic.getLsbD 1 && after (exec (.panicPacket 1 false) t) (fun u => u.dram.panic == 0))) = true
    ∧ ((((working.setHostPort 0 { working.hostPort 0 with panic := true }).hostPort 0).panic
  && after (exec (.expressPanicChange 0 512 0) (working.setHostPort 0 { working.hostPort 0 with panic := true })) (fun t => (t.hostPort 0).panic)
  && working.get OD.qosPanicLow < 512)) = true
    ∧ (after (exec (.configurationRequest 0 (.readField 0 .deviceType)) working) (fun t => t.out.host == [.config 0 3])
  && after (exec (.configurationRequest 0 (.readField 16 .deviceType)) working) (fun t => t.out.host == [.refusedConfig 0])
  && after (exec (.configurationRequest 0 (.ideMode true)) working) (fun t => (t.hostPort 0).skid)) = true
    ∧ ((booting 2).put (OD.hpLinkState 0) 3 |>.portUp 0) = true
    ∧ (working.portUp 0 && working.reachedStep 2 && portOfLd 0 == 0 && working.ldVisible 0 && interleaves 1 256
  && after (exec (.configurationRequest 0 (.hdmDecoder 0 3 0x10000000 0x40000000 1 256)) working) (fun t =>
    t.out.host == [.config 0 0] && (mapGet (fun _ => HdmDecoder.initial) t.host.decoders 3).base == 0x10000000)) = true
    ∧ (after (exec (.configurationRequest 0 (.readSpace 0)) working) (fun t => t.out.host.length == 1)) = true := by
  decide +kernel

/-! ## Reads, writes, fetches and eviction -/

/-- A line of ones. -/
def ones : Line := BitVec.allOnes _

/-- A host whose message is received at once: CXL.mem is open to LD 0, credits of both kinds are left, and no IDE key is held. -/
def ready (s : State) : Bool :=
  s.memOpen 0 && s.creditsFor 0 false != 0 && s.creditsFor 0 true != 0 && (s.hostPort 0).keyMem.isNone

/-- The page that an address of LD 0 reaches, with the leaf of a page and its line; no request waits. -/
def reaches (s : State) (dpa page line : Nat) : Bool :=
  ready s && s.ctl.mode != .freeze && s.dpaOf 0 (BitVec.ofNat 64 dpa) == dpa && (s.reaching 0 dpa).map (·.cid) == some 1
  && s.work.waiters.isEmpty && !(s.carriage 1).damaged && dpa / 4096 == page && dpa / 64 % 64 == line && !s.termHolds 1
  && s.chanServes (s.channelOf (s.carriage 1).root) && [1, 2, 3].all (fun l => !s.nodeIn (· != .inService) (interiorKey 1 l page))
  && s.poisonAbove 1 page == none && !(s.leaf (leafKey 1 page)).pois && !(s.leaf (leafKey 1 page)).busy

/-- The loaded unit with its coupling read-only. -/
def readOnly : State :=
  { loaded with tables := { loaded.tables with couplings := loaded.tables.couplings.map (fun c => { c with rdonly := true }) } }

/-- The loaded unit while carriage 1 ends a term. -/
def ending : State := { loaded with terms := { loaded.terms with runs := [{ id := 1, cmd := none }] } }

/-- The loaded unit with one leaf changed. -/
def leafAs (page : Nat) (f : Leaf → Leaf) : State := loaded.setLeaf (leafKey 1 page) (f (loaded.leaf (leafKey 1 page)))

/-- A request of LD 0 to a page of carriage 1 that waits for a frame. -/
def heldRequest (dpa page : Nat) (data : Option (Line × WriteMark)) : Waiter :=
  { ld := 0, dpa := dpa, cid := 1, page := page, data := data, since := 1, order := 1, express := false, held := false, quiet := false }

/-- The loaded unit with requests that wait for a frame. -/
def waiting : State := { loaded with work := { loaded.work with
  waiters := [heldRequest 8192 2 none, heldRequest 8256 2 (some (ones, .plain))] } }

/-- The loaded unit with an IDE key on port 0. -/
def encrypted : State := loaded.setHostPort 0 { loaded.hostPort 0 with keyMem := some 7 }

/-- Reads of a Resident page at its first and last line, of a poisoned line, of an Unallocated page, of a page in flash, of a depot page, without a coupling, in FREEZE, and past a port buffer error. -/
theorem test_ReadCompletes :
    (reaches loaded 0 0 0 && loaded.frameServes 5 && after (exec (.cxlMemRead 0 63 .none) loaded) (fun t =>
  sent t == [(0, 0)] && (t.leaf (leafKey 1 0)).acc)) = true
    ∧ (let s := { loaded with work := { loaded.work with waiters := [heldRequest 0 0 none] } }
  after (exec (.cxlMemRead 0 63 .none) s) (fun t => (sent t).contains (0, 0) && t.work.waiters.length ≤ 1)
  && after (exec (.cxlMemWrite 0 63 ones .none) s) (fun t => t.work.waiters.length == 2 && !(sent t).contains (3, 0))) = true
    ∧ (let s := { loaded with dram := { loaded.dram with frames := [(5, loaded.pageCipher (leafKey 1 0) (Image.zero.poison 63))] } }
  reaches s 4032 0 63 && after (exec (.cxlMemRead 0 4095 .none) s) (fun t => sent t == [(1, 4032)])) = true
    ∧ (reaches loaded 8192 2 0 && after (exec (.cxlMemRead 0 8192 .none) loaded) (fun t => sent t == [(2, 8192)])) = true
    ∧ (reaches loaded 4096 1 0 && loaded.framesFree != 0 && loaded.fetchRoom && !(loaded.flashCopy (loaded.pageName 1 1)).lost
  && after (exec (.cxlMemRead 0 4096 .none) loaded) (fun t => t.out.host == [] && (t.leaf (leafKey 1 1)).busy && t.work.waiters.length == 1)) = true
    ∧ (reaches loaded 16384 4 0 && loaded.checkDepot 1 7 == .ok && loaded.frameServes 6 && !(loaded.depotImage 7).bad.getLsbD 0
  && after (exec (.cxlMemRead 0 16384 .none) loaded) (fun t => sent t == [(0, 16384)])) = true
    ∧ (ready working && working.reaching 0 64 == none && after (exec (.cxlMemRead 0 64 .none) working) (fun t =>
  sent t == [(1, 64)] && t.get (OD.ldRefusedAccesses 0) == 1)) = true
    ∧ (let s := ((unitIn .freeze).put (OD.hpLinkState 0) 4).put (OD.hpFenceCause 0) 2
  ready s && after (exec (.cxlMemRead 0 64 .none) s) (fun t => sent t == [(1, 64)])) = true
    ∧ (encrypted.memOpen 0 && encrypted.creditsFor 0 false != 0 && after (exec (.cxlMemRead 0 64 .none) encrypted) (fun t =>
  t.out.host == [] && (t.hostPort 0).unverified.map (·.dpa) == [64])) = true
    ∧ (ready loaded && (loaded.hostPort 0).bufferError == 0 && after (exec (.cxlMemRead 0 64 .portBuffer) loaded) (fun t =>
  sent t == [(1, 64)] && (t.hostPort 0).bufferError == loaded.uptime + 1)) = true := by
  decide +kernel

/-- Writes to a Resident page, an Unallocated page, a depot leaf, through a read-only coupling, to a damaged carriage, to a carriage whose term ends, to a poisoned page and without a coupling. -/
theorem test_WriteCompletes :
    (reaches loaded 4032 0 63 && !loaded.flush.metaHold && (loaded.leaf (leafKey 1 0)).ttag == (loaded.carriage 1).term % 256 && after (exec (.cxlMemWrite 0 4032 ones .none) loaded) (fun t => sent t == [(3, 4032)]
    && (t.residentImage (leafKey 1 0)).line 63 == ones && (t.residentImage (leafKey 1 0)).line 62 == 0 && (t.leaf (leafKey 1 0)).acc)
  && after (exec (.cxlMemWrite 0 4032 ones .transport) loaded) (fun t => (t.residentImage (leafKey 1 0)).bad.getLsbD 63)) = true
    ∧ (reaches loaded 8192 2 0 && (loaded.takeFrame).isSome && !loaded.flush.metaHold && loaded.backingUsed < loaded.get OD.spaceBackingPagesTotal
  && [1, 2, 3].all (fun l => (loaded.interior (interiorKey 1 l 2)).valid) && (loaded.interior (interiorKey 1 2 2)).extent != 0
  && after (exec (.cxlMemWrite 0 8192 ones .none) loaded) (fun t => (t.leaf (leafKey 1 2)).res && (t.leaf (leafKey 1 2)).dirty
    && (t.residentImage (leafKey 1 2)).line 0 == ones && (t.residentImage (leafKey 1 2)).line 1 == 0)) = true
    ∧ (reaches loaded 16384 4 0 && [1, 2, 3].all (fun l => (loaded.interior (interiorKey 1 l 4)).valid)
  && after (exec (.cxlMemWrite 0 16384 ones .none) loaded) (fun t => (t.leaf (leafKey 1 4)).res && !(t.leaf (leafKey 1 4)).depot
    && (t.residentImage (leafKey 1 4)).line 0 == ones)) = true
    ∧ (after (exec (.cxlMemWrite 0 0 ones .none) readOnly) (fun t => t.tables == readOnly.tables && t.get (OD.ldRefusedAccesses 0) == 1)) = true
    ∧ (let s := loaded.setCarriage 1 { loaded.carriage 1 with damaged := true }
  ready s && (s.reaching 0 0).isSome && after (exec (.cxlMemWrite 0 0 ones .none) s) (fun t => sent t == [(3, 0)] && t.work.discarded == s.work.discarded + 1)) = true
    ∧ (ready ending && (ending.reaching 0 0).isSome && ending.termHolds 1
  && after (exec (.cxlMemWrite 0 0 ones .none) ending) (fun t => t.out.host == [] && t.work.waiters.map (·.held) == [true])) = true
    ∧ (after (exec (.cxlMemWrite 0 12288 ones .none) loaded) (fun t => sent t == [(3, 12288)]
  && t.work.discarded == loaded.work.discarded + 1)) = true
    ∧ (ready working && working.reaching 0 0 == none && after (exec (.cxlMemWrite 0 0 ones .none) working) (fun t => t.get (OD.ldRefusedAccesses 0) == 1)) = true
    ∧ (encrypted.creditsFor 0 true != 0 && after (exec (.cxlMemWrite 0 64 ones .none) encrypted) (fun t =>
  t.out.host == [] && (t.hostPort 0).unverified.map (·.data) == [some ones])) = true := by
  decide +kernel

/-- A write to the Resident page and the read of it. -/
theorem test_ReadAfterWrite :
    (reaches loaded 64 0 1 && !(loaded.leaf (leafKey 1 0)).depot && (loaded.leaf (leafKey 1 0)).res && loaded.frameServes 5
  && (loaded.leaf (leafKey 1 0)).ttag == 1
  && after (exec (.cxlMemWrite 0 64 ones .none) loaded) (fun t => after (exec (.cxlMemRead 0 64 .none) t) (fun u =>
    match u.out.host with | [.data 0 64 d _] => d == ones | _ => false))) = true := by
  decide +kernel

/-- Fetches of a page and of a depot page, both waits for a frame, and the sweep at and below FreeLow. -/
theorem test_FetchesAndEviction :
    (((leafAs 1 (fun l => { l with busy := true })).setLeaf (leafKey 1 1) flashLeaf).takeFrame.isSome && flashLeaf.flashOnly
  && after (exec (.nonresidentFetchComplete (.page 1 1) .ok false) (leafAs 1 (fun l => { l with busy := true }))) (fun t =>
    (t.leaf (leafKey 1 1)).res && !(t.leaf (leafKey 1 1)).busy)) = true
    ∧ (after (exec (.nonresidentFetchComplete (.page 1 1) .unreadable true) (leafAs 1 (fun l => { l with busy := true }))) (fun t =>
  (t.leaf (leafKey 1 1)).pois && !(t.leaf (leafKey 1 1)).busy)) = true
    ∧ (let s := (leafAs 1 (fun l => { l with busy := true, sealed := true })).setCarriage 1 { loaded.carriage 1 with sealOn := true }
  after (exec (.nonresidentFetchComplete (.page 1 1) .mismatchTwice true) s) (fun t => (t.leaf (leafKey 1 1)).pois
    && t.log.queue.map (·.code) == [0x8141])) = true
    ∧ (let s := loaded.setDepot 7 { loaded.depotEntry 7 with busy := true, res := false, frame := 0 }
  (s.depotEntry 7).valid && (loaded.setDepot 7 { s.depotEntry 7 with busy := false }).takeFrame.isSome
  && after (exec (.nonresidentFetchComplete (.depot 7) .ok false) s) (fun t => (t.depotEntry 7).res && !(t.depotEntry 7).busy)
  && after (exec (.nonresidentFetchComplete (.depot 7) .mismatchTwice false) s) (fun t => (t.depotEntry 7).pois)) = true
    ∧ ((takeWaiter 0 8192 false waiting.work.waiters).isSome && !waiting.flush.metaHold
  && after (exec (.frameWaitTimeout 0 8192 false) waiting) (fun t => t.work.waiters.length == 1 && sent t == [(1, 8192)])) = true
    ∧ ((takeWaiter 0 8256 true waiting.work.waiters).isSome
  && after (exec (.frameWaitTimeout 0 8256 true) waiting) (fun t => t.work.waiters.length == 1 && (t.leaf (leafKey 1 2)).pois)) = true
    ∧ (after (exec (.nonresidentFetchComplete (.page 1 1) .staging true) (leafAs 1 (fun l => { l with busy := true }))) (fun t =>
  (t.leaf (leafKey 1 1)).busy)) = true
    ∧ (!loaded.work.sweeping && loaded.get OD.spaceFreeLow ≤ loaded.framesFree && (loaded.put OD.spaceFreeLow 0xFFFFFFFF).framesFree < 0xFFFFFFFF
  && after (exec .evictionSweep (loaded.put OD.spaceFreeLow 0xFFFFFFFF)) (fun t => (t.leaf (leafKey 1 0)).res)) = true := by
  decide +kernel

/-! ## Flush, planner, drills, mailbox and fabric manager -/

/-- The loaded unit with page 0 at the head of the age list and a flush horizon, at an uptime of a second. -/
def aged (horizon : Nat) (busy : Bool) : State :=
  let s := (leafAs 0 (fun l => { l with busy := busy })).put OD.ceilingFlushHorizon horizon
  { s with uptime := 1000000000, flush := { s.flush with age := [{ key := leafKey 1 0, time := 0, retry := 0 }], planned := true },
           host := { s.host with ceiling := 2 ^ 30 } }

/-- The unit after a claim of page 0. -/
def claimed : State := match exec (.flushClaim []) (aged 5 false) with | .next t => t | .fault _ => loaded | .refused _ => loaded

/-- The loaded unit with a checkpoint in progress. -/
def checkpointing (awaiting : Bool) : State :=
  let s := { loaded with flush := { loaded.flush with checkpoint := some ([3], 0) } }
  { s with saves := { s.saves with restore := { s.saves.restore with awaiting := awaiting } } }

/-- The unit with a drill on battery at a step. -/
def drilling (step : Nat) (spoiled : Bool) : State :=
  let d := { start := 0, step := step, spoiled := spoiled, battery := true, streamRate := 9, streamEnd := 1, slots := 4 }
  { working with flush := { working.flush with drill := some d }, power := { working.power with batsel := 2 } }

/-- The unit with carriage 1 coupled to LD 0 and a poisoned page, in a mode, on a switch port. -/
def mailing (m : Mode) : State :=
  { (loaded.put (OD.hpTopology 0) 1) with ctl := { loaded.ctl with mode := m } }

/-- A young page, a claim, a page set aside and tried again, a confirmation, one held, and both ends of a checkpoint. -/
theorem test_FlushSteps :
    ((aged 2000 false).flushMode && !(aged 2000 false).flushPressed && after (exec (.flushClaim []) (aged 2000 false)) (fun t => t.flush.claims == [])
  && (aged 2000 false).claimRoom && !(aged 2000 false).flush.metaHold && ((aged 2000 false).carriage 1).state == .active) = true
    ∧ ((aged 5 false).claimable (leafKey 1 0) && 5 ≤ (aged 5 false).ageOf { key := leafKey 1 0, time := 0, retry := 0 } && (aged 5 false).horizon == 5
  && claimed.flush.age == [] && claimed.flush.claims.map (·.key) == [leafKey 1 0] && (claimed.leaf (leafKey 1 0)).fq
  && !(claimed.leaf (leafKey 1 0)).dirty) = true
    ∧ (after (exec (.flushClaim []) (aged 5 true)) (fun t => t.flush.age.map (·.retry) == [1000010000]
  && after (exec .flushSetAsideRetry t) (fun u => u.flush.claims == [] && u.flush.age.length == 1)
  && after (exec .flushSetAsideRetry { t.setLeaf (leafKey 1 0) (dirtyLeaf 5) with uptime := 1000010000 }) (fun u =>
    u.flush.age == [] && u.flush.claims.map (·.key) == [leafKey 1 0]))) = true
    ∧ ((claimed.flush.claims.find? (fun c => c.key = leafKey 1 0)).isSome && !claimed.flush.metaHold
  && after (exec (.flushConfirm 1 0) claimed) (fun t => (t.leaf (leafKey 1 0)).flc && !(t.leaf (leafKey 1 0)).fq
    && (t.flashCopy (claimed.pageName 1 0)).present && t.flush.claims == [])) = true
    ∧ (after (exec (.flushConfirm 1 0) { claimed with flush := { claimed.flush with metaHold := true } }) (fun t => t.flush.claims.length == 1
  && t.work.delayed.length == 1)) = true
    ∧ (loaded.flush.checkpoint == none && after (exec .metadataCheckpointStart loaded) (fun t => t.flush.checkpoint == some (loaded.work.changed, 0)
  && t.work.changed == [])) = true
    ∧ (after (exec .metadataCheckpointComplete (checkpointing false)) (fun t => t.flush.checkpoint == none)
  && after (exec .metadataCheckpointComplete (checkpointing true)) (fun t => !t.saves.restore.awaiting && t.get OD.restoreRestoreState == 5)) = true := by
  decide +kernel

/-- The planner before and after it runs, and a wear interval. -/
theorem test_PlannerAndWear :
    (!(State.reset).plannerRuns && after (exec .plannerCompute State.reset) (fun t => t.get OD.plannerTargetCeiling == State.reset.get OD.plannerTargetCeiling)) = true
    ∧ ((aged 5 false).plannerRuns && after (exec .plannerCompute (aged 5 false)) (fun t => t.get OD.plannerTargetCeiling == (aged 5 false).targetCeiling
  && t.get OD.plannerSlcBound == (aged 5 false).slcBound
  && t.get OD.plannerPlannedCeiling == min (min (aged 5 false).targetCeiling (aged 5 false).energyBound) (min (aged 5 false).slcBound (aged 5 false).poolBound) / 2 ^ 20 * 2 ^ 20
  && t.host.ceiling == t.get OD.plannerEffectiveCeiling)) = true
    ∧ (let s := { working with tables := { working.tables with interval := working.get OD.ceilingFlushBudget * 2 ^ 30 + 1 } }
  s.prompt && after (exec .wearIntervalBoundary s) (fun t => t.flush.wearStep == 1 && t.tables.interval == 0 && t.tables.volumes.length == 1
    && after (exec .wearIntervalBoundary { t with tables := { t.tables with volumes := [] } }) (fun u => u.flush.wearStep == 0))) = true := by
  decide +kernel

/-- A drill starts, is deferred, streams, ends well and ends badly, and is overdue. -/
theorem test_Drills :
    ((working.put OD.drillDrillState 2).drillDeferral != 0 && after (exec .drillDue (working.put OD.drillDrillState 2)) (fun t =>
  t.flush.drill == none && t.get OD.drillDrillState == 2)) = true
    ∧ (let s := (working.put OD.drillDrillVolume 0).put OD.gaugeSocPlanning 9000
  s.drillDeferral == 0 && after (exec .drillDue (s.put OD.drillDrillState 2)) (fun t => t.get OD.drillDrillState == 1 && t.flush.drill.isSome)) = true
    ∧ (after (exec (.drillStreamComplete 77) (drilling 1 false)) (fun t => t.flush.drill.map (·.streamRate) == some 77)) = true
    ∧ (after (exec (.drillSealComplete 30000 5 6) (drilling 2 false)) (fun t => t.flush.drill == none && t.get OD.drillLastResult == 0
  && t.get OD.drillLastFixedTime == 50000 && t.get OD.drillDrillsAccepted == 1 && t.power.batsel == 0)) = true
    ∧ (after (exec .drillBoundTimeout (drilling 1 false)) (fun t => t.flush.drill == none && t.get OD.drillLastResult == 3)
  && after (exec (.drillSealComplete 30000 5 6) (drilling 2 true)) (fun t => t.get OD.drillLastResult == 3 && t.get OD.drillDrillsAccepted == 0)) = true := by
  decide +kernel

/-- An operating mailbox at level 3, below level 1, and an opcode outside the set. -/
theorem test_MailboxReports :
    (loaded.mailboxUp 0 && after (exec (.mbxGetPartitionInfo 0) loaded) (fun t => t.out.mailbox.map (·.code) == some 0)
  && loaded.get (OD.ldMgmtAccess 0) == 3 && after (exec (.getCouplingMap 0 0) loaded) (fun t => t.out.mailbox.map (·.payload.length) == some 19)
  && after (exec (.getCouplingMap 0 1) loaded) (fun t => t.out.mailbox.map (·.payload.length) == some 2)) = true
    ∧ (after (exec (.mbxGetLsa 0 131071 1) loaded) (fun t => t.out.mailbox.map (·.payload) == some [0])
  && after (exec (.mbxGetLsa 0 131071 2) loaded) (fun t => t.out.mailbox.map (·.code) == some 2)) = true
    ∧ (!mailboxOpcodes.contains 0xC003 && after (exec (.mbxUnsupportedOpcode 0 0xC003) loaded) (fun t => t.out.mailbox.map (·.code) == some 3)) = true
    ∧ (let s := loaded.put (OD.ldMgmtAccess 0) 0
  s.mailboxUp 0 && after (exec (.getZopLimits 0) s) (fun t => t.log.queue.map (·.code) == [0x7011] && t.out.mailbox.map (·.payload.length) == some 12)) = true := by
  decide +kernel

/-- The policy, the alerts, the clock, the shutdown state, the storage area and the event logs. -/
theorem test_MailboxSettings :
    (loaded.mailboxUp 0 && after (exec (.mbxSetAlertConfiguration 0 (List.replicate 12 7)) loaded) (fun t => (t.mail 0).alerts == List.replicate 12 7)
  && after (exec (.mbxSetAlertConfiguration 0 [7]) loaded) (fun t => t.out.mailbox.map (·.code) == some 2)) = true
    ∧ ((loaded.mail 0).alerts == []
  && after (exec (.mbxSetTimestamp 0 99) loaded) (fun t => t.clock == 99 && t.get OD.clockTimeValid == 1)) = true
    ∧ (after (exec (.mbxSetShutdownState 0 true) loaded) (fun t => t.get (OD.ldShutdownState 0) == 1)) = true
    ∧ (after (exec (.mbxSetLsa 0 131070 [8, 9]) loaded) (fun t => mapGet (fun _ => 0) (t.lsa 0) 131071 == 9 && mapGet (fun _ => 0) (t.lsa 0) 131069 == 0)) = true
    ∧ (let s := (loaded.raise 0x3042 0 [])
  after (exec (.mbxClearEventRecords 0 0 ((s.cxlLogs 0).nth 0).length) s) (fun t => ((t.cxlLogs 0).nth 0).length == 0)
  && after (exec (.mbxClearEventRecords 0 0 (((s.cxlLogs 0).nth 0).length + 1)) s) (fun t => t.out.mailbox.map (·.code) == some 14)) = true := by
  decide +kernel

/-- The poison list, Clear Poison, Inject Poison in and out of MAINTENANCE, and a scan. -/
theorem test_MailboxPoison :
    (loaded.mailboxUp 0 && loaded.poisonList 0 != [] && after (exec (.mbxGetPoisonList 0) loaded) (fun t => t.out.mailbox.map (·.payload.length) == some 48)) = true
    ∧ ((loaded.pageAt 0 12352).map (fun x => (x.2.1, x.2.2)) == some (leafKey 1 3, 1) && loaded.poisonAbove 1 3 == none
  && after (exec (.mbxClearPoison 0 12352 ones) loaded) (fun t => (t.leaf (leafKey 1 3)).res && !(t.leaf (leafKey 1 3)).pois
    && (t.residentImage (leafKey 1 3)).line 1 == ones && (t.residentImage (leafKey 1 3)).line 0 == 0)) = true
    ∧ (!(loaded.leaf (leafKey 1 2)).pois && loaded.pageAt 0 (2 ^ 30) == none
  && after (exec (.mbxClearPoison 0 (BitVec.ofNat 64 (2 ^ 30)) ones) loaded) (fun t => t.out.mailbox.map (·.code) == some 15)) = true
    ∧ (after (exec (.mbxInjectPoison 0 64) loaded) (fun t => t.out.mailbox.map (·.code) == some 3)) = true
    ∧ (reaches (mailing .maintenance) 64 0 1 && (mailing .maintenance).mailboxUp 0
  && after (exec (.mbxInjectPoison 0 64) (mailing .maintenance)) (fun t => (t.residentImage (leafKey 1 0)).bad.getLsbD 1 && t.out.host == [])) = true
    ∧ ((loaded.mail 0).background.1 != 0xC001 && 64 * 256 ≤ loaded.get (OD.ldWindowSize 0)
  && after (exec (.mbxScanMedia 0 0 256) loaded) (fun t => (t.mail 0).background == (0x4304, 100, 0) && (t.mail 0).scan != []
    && after (exec (.mbxGetScanMediaResults 0) t) (fun u => (u.mail 0).scan == []))) = true := by
  decide +kernel

/-- A port with an FM-owned LD: allocations, limits and the QoS control, at the first and the last LD. -/
theorem test_FabricCommands :
    ((mailing .service).fabricUp 0 && after (exec (.fmSetLdAllocations 0 15 [9]) (mailing .service)) (fun t => t.get (OD.ldAllocatedBw 15) == 9
  && after (exec (.fmGetQosAllocatedBw 0 15 1) t) (fun u => u.out.fm == [1, 15, 9]))) = true
    ∧ (after (exec (.fmSetQosBwLimit 0 0 [3, 4]) (mailing .service)) (fun t => t.get (OD.ldBwLimit 1) == 4
  && after (exec (.fmGetQosBwLimit 0 0 2) t) (fun u => u.out.fm == [2, 0, 3, 4]))) = true
    ∧ (mapGet (fun _ => []) (mailing .service).host.qos 0 == []
  && after (exec (.fmSetQosControl 0 [1, 2, 3, 4, 5, 6, 7]) (mailing .service)) (fun t => after (exec (.fmGetQosControl 0) t) (fun u => u.out.fm == [1, 2, 3, 4, 5, 6, 7]))) = true := by
  decide +kernel

/-! ## Sessions and objects -/

/-- The session of the proxy. -/
def held (f : Session → Session) : State :=
  let s := loaded.arrived .proxy
  s.setSession (f (s.session .proxy))

/-- A request with a wrong CRC. -/
def spoilt (c : Req → Instr) : Instr := c { src := .proxy, tag := 7#8, crc := 0 }

/-- The unit with 64 sessions of other transports. -/
def crowded : State :=
  { loaded with zop := { loaded.zop with sessions := (List.range 64).map (fun n => Session.fresh (.smbus (BitVec.ofNat 8 n)) 0) } }

/-- The status of the response that has just left. -/
def status (s : State) : Option Nat := s.out.zop.map (·.reply.status)

/-- The unit in MAINTENANCE at level 3 with its rail at 14 V. -/
def tuning : State := { (unitIn .maintenance) with pins := { (unitIn .maintenance).pins with rail := 14000 } }

/-- A transport that is not up, a 65th session, a wrong CRC, a TAG in use, an object that is refused, and 17 pending results. -/
theorem test_RequestOrder :
    (loaded.prompt && (let s := loaded.setPorter 0 { Porter.initial with reloading := true }
  s.reloads 0 && after (exec (.drillStart { src := .mailbox 0, tag := 0, crc := 0 }) s) (fun t => t.work.delayed.length == 1))) = true
    ∧ (!loaded.transportUp (.mailbox 5) && !(exec (.drillStart { src := .mailbox 5, tag := 0, crc := 0 }) loaded matches .fault _)) = true
    ∧ (loaded.transportUp .proxy && findSession .proxy crowded.zop.sessions == none && crowded.zop.sessions.length == 64
  && after (exec (ask (.drillStart ·)) crowded) (fun t => status t == some 0x0C)) = true
    ∧ (after (exec (spoilt (.drillStart ·)) loaded) (fun t => status t == some 0x0A && t.log.queue.map (·.code) == [0x7010])) = true
    ∧ (let s := held (fun x => { x with results := [{ tag := 7, key := 0, reply := none, time := 0 }] })
  after (exec (ask (.drillStart ·)) s) (fun t => status t == some 0x11)) = true
    ∧ (((loaded.arrived .proxy).checkObject .proxy (writeTo 0x1234 1 [0])).isSome
  && after (exec (ask (.objectWrite · 0x1234 1 [0])) loaded) (fun t => status t != some 0)) = true
    ∧ (let s := held (fun x => { x with results := (List.range 16).map (fun n => { tag := n + 100, key := 0, reply := none, time := 0 }) })
  after (exec (ask (.drillStart ·)) s) (fun t => status t == some 0x0C)) = true := by
  decide +kernel

/-- The same request again, and one more than 1 s later. -/
theorem test_RepeatReturnsStored :
    (after (exec (ask (.zopRead · 0x1000 1)) loaded) (fun t => (t.session .proxy).last.isSome
  && match ask (.zopRead · 0x1000 1) with
    | .zopRead q _ _ => t.repeats q && !{ t with uptime := t.uptime + 1000000001 }.repeats q && { t with uptime := t.uptime + 1000000000 }.repeats q
        && after (exec (ask (.zopRead · 0x1000 1)) t) (fun u => u.out.zop.map (·.reply) == t.out.zop.map (·.reply))
    | _ => false)) = true := by
  decide +kernel

/-- READ, DESCRIBE, READ_STAGED with and without a staged value, FETCH in its three cases, and the timers. -/
theorem test_ReportsAndTimers :
    ((findObj 0x5400 2).isSome && served (.zopRead · 0x5400 2) loaded (fun t => status t == some 0)
  && served (.describe · 0x5400 2) loaded (fun t => t.out.zop.map (·.reply.payload.length) == some 64)) = true
    ∧ (served (.readStaged · 0x4100 2) loaded (fun t => status t == some 0x10)
  && served (.stagedObjectWrite · 0x4100 2 [1]) loaded (fun t => t.stagedValue (keyOf 0x4100 2) == some [1] && t.get (keyOf 0x4100 2) == loaded.get (keyOf 0x4100 2)
    && after (exec (.readStaged (reqOf { opcode := opReadStaged, index := 0x4100, sub := 2, payload := [] }) 0x4100 2) t) (fun u => u.out.zop.map (·.reply.payload) == some [1]))) = true
    ∧ (let s := held (fun x => { x with results := [{ tag := 7, key := 0, reply := some { status := 0, payload := [5] }, time := 0 }] })
  after (exec (ask (.fetch ·)) s) (fun t => t.out.zop.map (·.reply.payload) == some [5] && (t.session .proxy).results == []
    && after (exec (ask (.fetch ·)) { t with uptime := 2000000000 }) (fun u => status u == some 0x0D))) = true
    ∧ (after (exec (ask (.fetch ·)) (held (fun x => { x with results := [{ tag := 7, key := 0, reply := none, time := 0 }] }))) (fun t => status t == some 1)) = true
    ∧ (after (exec (.executePendingTimeout .proxy 9) (held (fun x => { x with active := some { tag := 9, crc := 0, key := 5 } }))) (fun t =>
  (t.session .proxy).active == none && (t.session .proxy).results.map (·.tag) == [9])) = true
    ∧ (after (exec (.pendingResultExpiry .proxy 9) (held (fun x => { x with results := [{ tag := 9, key := 0, reply := some okReply, time := 0 }] }))) (fun t =>
  (t.session .proxy).results == [])) = true
    ∧ (after (exec (.sessionIdleTimeout .proxy) (held id)) (fun t => findSession .proxy t.zop.sessions == none)) = true
    ∧ (let s := { loaded with unrecorded := [OD.plannerWearStep] }
  s.eflashReady && after (exec .persistentWriteRecord s) (fun t => t.unrecorded == [])) = true
    ∧ (loaded.unrecorded == []) = true := by
  decide +kernel

/-- The levels are read at the proxy's level. -/
theorem test_EffectiveLevels :
    (served (.zopRead · 0x8400 3) loaded (fun t => t.out.zop.map (·.reply.payload.length) == some 6)) = true := by
  decide +kernel

/-- A plain write, a write that breaks its constraint, a selector, a staged write, and both ends of COMPARE_WRITE. -/
theorem test_Writes :
    ((findObj 0x4100 1).map (fun o => (o.access == .rw, o.selector, o.type.size, o.persistent)) == some (true, false, 2, true)
  && tuning.constraintOk 0x410001 [0xE0, 0x15] && served (.objectWrite · 0x4100 1 [0xE0, 0x15]) tuning (fun t => t.get 0x410001 == 5600
    && status t == some 0 && t.unrecorded.contains 0x410001)) = true
    ∧ (!tuning.constraintOk 0x410001 [0, 0] && served (.objectWrite · 0x4100 1 [0, 0]) tuning (fun t => status t == some 6)) = true
    ∧ ((findObj 0x9400 1).map (·.selector) == some true
  && served (.objectWrite · 0x9400 1 [19, 0]) loaded (fun t => t.sel .proxy OD.counterSelect == 19)) = true
    ∧ (((loaded.withStaged loaded.zop.committed).withStaged loaded.zop.uncommitted).constraintOk 0x410002 [1]
  && stagingFits (stageIn 0x410002 [1] loaded.zop.uncommitted) loaded.zop.committed
  && served (.stagedObjectWrite · 0x4100 2 [1]) loaded (fun t => t.zop.uncommitted.length == 1)) = true
    ∧ (served (.compareWrite · 0x4100 1 [1, 0, 5, 0]) tuning (fun t => status t == some 0x0F && t.get 0x410001 == tuning.get 0x410001)
  && served (.compareWrite · 0x4100 1 [0x60, 0x22, 0xE0, 0x15]) tuning (fun t => status t == some 0 && t.get 0x410001 == 5600)) = true := by
  decide +kernel

/-- The clock, a threshold with and without its distance, the divider ratio, SaveCeilingMax, a counter's source and the ticket seed. -/
theorem test_WritesWithRules :
    (served (.timeSet · 77) tuning (fun t => t.clock == 77)) = true
    ∧ (served (.thresholdWrite · 1 11200) tuning (fun t => t.get 0x510001 == 11200 && status t == some 0)
  && served (.thresholdWrite · 1 11201) tuning (fun t => status t == some 6 && t.get 0x510001 == tuning.get 0x510001)) = true
    ∧ (served (.dividerRatioWrite · 10001) tuning (fun t => t.get OD.railDividerRatio == 10001 && t.pins.rail == 14000 * 10001 / 10000)
  && served (.dividerRatioWrite · 0) tuning (fun t => status t == some 6)) = true
    ∧ (served (.saveCeilingMaxWrite · 0x400000000) tuning (fun t => t.get OD.flashSaveCeilingMax == 0x400000000 && t.get OD.flashLastResult == 0)
  && served (.saveCeilingMaxWrite · 0x400000001) tuning (fun t => t.get OD.flashLastResult == 5)) = true
    ∧ (served (.counterSourceWrite · 2 0xF032) tuning (fun t => status t == some 1 || t.get OD.counterLastResult == 1)) = true
    ∧ (let s := (tuning.arrived .proxy).setSel .proxy OD.counterSelect 18
  sourceOk 0xF032 (s.counter 18).qualifier && served (.counterSourceWrite · 2 0xF032) s (fun t => (t.counter 18).source == 0xF032)
  && sourceOk (s.counter 18).source 0xFFFF && served (.counterSourceWrite · 3 0xFFFF) s (fun t => (t.counter 18).qualifier == 0xFFFF)) = true
    ∧ (served (.ticketSeedWrite · 0x12345678) tuning (fun t => t.tickets.lfsr0 == 0x12345678 && t.tickets.lfsr1 == ~~~0x12345678)) = true := by
  decide +kernel

/-! ## Couplings, carriages and the depot -/

/-- The loaded unit without its coupling. -/
def parted : State := { loaded with tables := { loaded.tables with couplings := [] } }

/-- A coupling entry of DPA 0 for carriage 1. -/
def entry1 : BitVec 128 := (Coupling.mk 0 0 1 512 false 15).entry

/-- The parted unit with carriage 1 in a state. -/
def carriageAs (f : Carriage → Carriage) : State := parted.setCarriage 1 (f (parted.carriage 1))

/-- The loaded unit with a clean page of zeros at page 0, which its flash copy holds too. -/
def zeroPage : State := loaded.setLeaf (leafKey 1 0) { dirtyLeaf 5 with dirty := false, flc := true }

/-- A coupling that the table takes, one that overlaps, an uncouple and its end, and a coupling command behind it. -/
theorem test_Couplings :
    (parted.terms.uncoupling == [] && parted.coupleRefusal 0 entry1 == 0
  && served (.couple · 0 entry1) parted (fun t => t.tables.couplings == [Coupling.mk 0 0 1 512 false 15] && t.get OD.couplingLastResult == 0)) = true
    ∧ (loaded.coupleRefusal 0 entry1 != 0 && served (.couple · 0 entry1) loaded (fun t => t.tables == loaded.tables && t.get OD.couplingLastResult != 0)) = true
    ∧ (served (.uncouple · 0 0) loaded (fun t => t.tables.couplings == [] && t.terms.uncoupling.length == 1
  && after (exec .uncoupleComplete t) (fun u => u.terms.uncoupling == [])
  && after (exec .uncoupleComplete { t with work := { t.work with waiters := [heldRequest (2 ^ 30 - 64) 262143 none] } })
      (fun u => u.terms.uncoupling.length == 1))) = true
    ∧ (served (.uncouple · 0 4096) loaded (fun t => t.get OD.couplingLastResult == 8)) = true
    ∧ (let s := { parted with terms := { parted.terms with uncoupling := [(Coupling.mk 0 0 1 512 false 15, { src := .proxy, tag := 1 })] } }
  served (.couple · 0 entry1) s (fun t => t.host.queue.length == 1)) = true := by
  decide +kernel

/-- A carriage is created with the lowest free ID, refused, deleted, refused because it is coupled, and released. -/
theorem test_CarriageLives :
    (!parted.carriageBusy && parted.createId 2 false == some 2 && parted.createRefusal 2 0 4 == 0
  && parted.crypt.keyGen < parted.crypt.keyMark + 1024
  && served (.carriageCreate · 2 0 4 9) parted (fun t => (t.carriage 2).state == .active && (t.carriage 2).size == 4 && t.get OD.carriageLastId == 2)) = true
    ∧ (served (.carriageCreate · 1 0 4 9) parted (fun t => t.get OD.carriageLastResult != 0 && t.get OD.carriageLastResult != 8)) = true
    ∧ (let s := { parted with work := { parted.work with resize := some { id := 1, size := 1, old := 512 } } }
  s.carriageBusy && served (.carriageCreate · 2 0 4 9) s (fun t => t.get OD.carriageLastResult == 10)) = true
    ∧ (parted.exists? 1 && !parted.termsHold 1 && !parted.isCoupled 1
  && served (.carriageDelete · 1) parted (fun t => (t.carriage 1).state == .deleting)
  && loaded.isCoupled 1 && served (.carriageDelete · 1) loaded (fun t => t.get OD.carriageLastResult == 5)) = true
    ∧ (after (exec (.carriageReleaseComplete 1) (carriageAs (fun c => { c with state := .deleting }))) (fun t => t.carriage 1 == Carriage.free
  && t.leaf (leafKey 1 0) == Leaf.empty)) = true := by
  decide +kernel

/-- Resizes to a larger, a smaller and a refused size, the end of one, the seal, the label, the cursor, and page poison. -/
theorem test_CarriageChanges :
    (parted.resizeRefusal 1 513 == 0 && served (.carriageResize · 1 513) parted (fun t => (t.carriage 1).size == 513)) = true
    ∧ (parted.resizeRefusal 1 1 == 0 && served (.carriageResize · 1 1) parted (fun t => t.work.resize.isSome && (t.carriage 1).size == 512
  && after (exec .resizeReleaseComplete t) (fun u => (u.carriage 1).size == 1 && u.work.resize == none && (u.leaf (leafKey 1 0)).res))) = true
    ∧ (parted.resizeRefusal 9 1 != 0 && served (.carriageResize · 9 1) parted (fun t => t.get OD.carriageLastResult != 0)) = true
    ∧ (served (.setSeal · 1 1) loaded (fun t => (t.carriage 1).sealPend) && served (.setLabel · 1 77) loaded (fun t => (t.carriage 1).label == 77)
  && served (.setLabel · 1 77) (carriageAs (fun c => { c with state := .shadow })) (fun t => t.get OD.carriageLastResult != 0 && (t.carriage 1).label == 0)) = true
    ∧ (served (.carriageAdvance ·) ((loaded.arrived .proxy).setSel .proxy OD.carriageCursor 0) (fun t => t.sel .proxy OD.carriageCursor == 1)
  && served (.carriageAdvance ·) ((loaded.arrived .proxy).setSel .proxy OD.carriageCursor 1) (fun t => t.get OD.carriageLastResult == 7)) = true
    ∧ (!(loaded.carriage 1).damaged && served (.clearPagePoison · 1 262144) loaded (fun t => t.get OD.carriageLastResult == 3)
  && served (.clearPagePoison · 1 262143) loaded (fun t => status t == some 0 && t.get OD.carriageLastResult == 0)) = true
    ∧ ((loaded.leaf (leafKey 1 3)).pois && served (.clearPagePoison · 1 3) loaded (fun t => (t.leaf (leafKey 1 3)).res && !(t.leaf (leafKey 1 3)).pois)) = true := by
  decide +kernel

/-- An admission of a page of zeros, one that is refused, its end, and the direct mapping of a depot page. -/
theorem test_DepotCommands :
    (zeroPage.admitRefusal 1 1 3 == 0 && (zeroPage.admissible (leafKey 1 0)).map (·.lines) == some []
  && served (.admission · 1 0 1 3) zeroPage (fun t => t.tables == zeroPage.tables && t.terms.admission.isSome && t.get OD.depotAdmitBusy == 1
    && after (exec .admissionComplete t) (fun u => u.leaf (leafKey 1 0) == Leaf.empty && u.get OD.depotAdmitZeroed == 1
      && u.get OD.depotAdmitExamined == 1 && u.get OD.depotAdmitBusy == 0 && u.terms.admission == none))
  && (zeroPage.leaf (leafKey 1 0)).ttag == (zeroPage.carriage 1).term % 256) = true
    ∧ (zeroPage.admitRefusal 9 1 3 != 0 && served (.admission · 9 0 1 3) zeroPage (fun t => t.get OD.depotLastResult != 0)) = true
    ∧ (loaded.mapRefusal 1 2 7 1 == 0 && served (.mapDepot · 1 2 7 1) loaded (fun t => (t.leaf (leafKey 1 2)).depot && (t.depotEntry 7).refs == 2)
  && loaded.mapRefusal 1 2 8 1 != 0 && served (.mapDepot · 1 2 8 1) loaded (fun t => t.get OD.depotLastResult != 0)) = true := by
  decide +kernel

/-! ## Term ends, staged sets, parks and transfers -/

/-- A command of the proxy that waits under TAG 1. -/
def asker : Asker := { src := .proxy, tag := 1 }

/-- The loaded unit with a term end that holds a write. -/
def endingHeld : State := { loaded with
  terms := { loaded.terms with runs := [{ id := 1, cmd := some asker }] }
  work := { loaded.work with waiters := [{ heldRequest 0 0 (some (ones, .plain)) with since := 0, held := true }] } }

/-- The loaded unit with a staged set, or a committed one. -/
def staged (u c : List Staged) : State := { loaded with zop := { loaded.zop with uncommitted := u, committed := c } }

/-- WriteCrc staged. -/
def oneStaged : List Staged := [{ key := OD.dramWriteCrc, value := [1] }]

/-- The loaded unit with a park of carriage 1 that has copied page 0 since term 2 began. -/
def parking (release : Bool) : State :=
  let p : ParkRun := { id := 1, term := some 2, copies := [(0, loaded.pageCipher (leafKey 1 0) Image.zero)], seals := [], release := release, total := 1 }
  let s := loaded.setCarriage 1 { loaded.carriage 1 with state := .parking, term := 2 }
  { s with terms := { s.terms with parks := [p] } }

/-- The loaded unit with 16 parks. -/
def parksFull (queue : Nat) : State := { loaded with terms := { loaded.terms with
  parks := (List.range 16).map (fun n => { id := n + 10, term := none, copies := [], seals := [], release := false, total := 0 })
  queue := (List.range queue).map (fun n => Queued.mk true (n + 100)) } }

/-- The parted unit with an empty carriage 2 as well. -/
def pair : State := parted.setCarriage 2 { Carriage.free with state := .active, term := 1, keygen := 2, root := 2, size := 512 }

/-- The parted unit with the preamble of an export for this unit in the first page of carriage 1. -/
def importing : State :=
  let b := preamble { exportId := 1, records := 2, unit := 1, key := [] } 1 (List.replicate 97 0) (List.replicate 40 0)
  let n (k : Nat) : Nat × Line := (k, BitVec.ofNat _ (ofBytes ((b.drop (64 * k)).take 64)))
  parted.setFrame 5 (parted.pageCipher (leafKey 1 0) { lines := [n 0, n 1, n 2], bad := 0 })

/-- The pair with an import from carriage 1 into the Shadow carriage 2. -/
def shadowed : State :=
  let s := pair.setCarriage 2 { pair.carriage 2 with state := .shadow }
  { s with terms := { s.terms with imp := some { input := 1, result := 2, exportId := 1, records := 2, next := 0, key := List.replicate 32 0, slots := 0 } } }

/-- One carriage's term end and its commit, both global term ends, one that waits, a retag pass and a release. -/
theorem test_TermEnds :
    (loaded.deferredBy 1 == 0 && served (.endCarriageTerm · 1) loaded (fun t => t.terms.runs.map (·.id) == [1])
  && served (.endCarriageTerm · 9) loaded (fun t => t.get OD.termLastResult == 1)) = true
    ∧ ((takeRun 1 endingHeld.terms.runs).isSome && !endingHeld.termDrains 1 && endingHeld.deferredBy 1 == 0 && endingHeld.working && endingHeld.terms.parks == []
  && after (exec (.termEndCommit 1) endingHeld) (fun t => (t.carriage 1).term == 2 && (t.leaf (leafKey 1 0)).ttag == 2
    && t.work.waiters == [])) = true
    ∧ (!loaded.globalBlocked && !loaded.globalDrains && loaded.zop.committed == [] && loaded.update.state != .scheduled && loaded.eligibleIds == [1]
  && served (.endGlobalTerm ·) loaded (fun t => (t.carriage 1).term == 2 && t.tables.globalTerm == 1)) = true
    ∧ (let s := { loaded with terms := { loaded.terms with period := 1000 } }
  s.working && after (exec .globalTermEnd s) (fun t => (t.carriage 1).term == 2 && t.tables.globalTerm == 1 && t.terms.globalDue == none)) = true
    ∧ (ending.globalBlocked && served (.endGlobalTerm ·) ending (fun t => t.terms.globalDue.isSome && t.tables == ending.tables)) = true
    ∧ (let s := { loaded with terms := { loaded.terms with retag := [1] } }
  (s.leaf (leafKey 1 0)).allocated && after (exec (.retagPassComplete 1) s) (fun t => t.terms.retag == [])) = true
    ∧ (let s := { loaded with terms := { loaded.terms with detached := [(1, [])] } }
  after (exec (.snapshotReleaseComplete 1) s) (fun t => t.terms.detached == [])) = true := by
  decide +kernel

/-- Each answer of Commit, and both of Discard. -/
theorem test_StagedSets :
    (served (.commitStaged · 1) (staged oneStaged []) (fun t => t.zop.committed == oneStaged && t.zop.uncommitted == [] && t.get OD.stagingApplyPoint == 1)) = true
    ∧ (served (.commitStaged · 0) (staged oneStaged oneStaged) (fun t => t.get OD.stagingLastResult == 1)
  && served (.commitStaged · 0) (staged [] []) (fun t => t.get OD.stagingLastResult == 2)) = true
    ∧ (let s := { (staged oneStaged []) with ctl := { loaded.ctl with mode := .restore } }
  served (.commitStaged · 2) s (fun t => status t == some 7 && t.zop.uncommitted == oneStaged)) = true
    ∧ (let s := (staged oneStaged []).put OD.qosThrottleState 1
  s.notLight != 0 && served (.commitStaged · 2) s (fun t => status t == some 8)) = true
    ∧ (served (.discardStaged ·) (staged oneStaged []) (fun t => t.zop.uncommitted == [] && t.get OD.stagingLastResult == 0)
  && served (.discardStaged ·) (staged [] []) (fun t => t.get OD.stagingLastResult == 2)) = true := by
  decide +kernel

/-- A park at once, in the queue and refused; its copy and its release pass; a recall and its end; and the queue. -/
theorem test_Parks :
    (served (.park · 1) loaded (fun t => (t.carriage 1).state == .parking && t.terms.parks.length == 1)
  && served (.park · 1) (parksFull 63) (fun t => t.terms.queue.length == 64)
  && served (.park · 1) (parksFull 64) (fun t => t.get OD.sidingLastResult == 4)) = true
    ∧ ((parking false).working && after (exec (.parkCopyComplete 1) (parking false)) (fun t => (t.carriage 1).state == .parked)) = true
    ∧ (!writtenSince 2 2 1 && after (exec (.parkReleasePassComplete 1) (parking true)) (fun t => (t.leaf (leafKey 1 0)).sided && !(t.leaf (leafKey 1 0)).res
  && t.terms.parks == [])) = true
    ∧ (served (.recall · 1) (loaded.setCarriage 1 { loaded.carriage 1 with state := .parked }) (fun t => (t.carriage 1).state == .recalling
    && t.terms.recalls.map (fun r => (r.id, r.filled)) == [(1, [])])) = true
    ∧ (let s := (parksFull 63).setCarriage 1 { loaded.carriage 1 with state := .parked }
  s.movesBeside 1 == 16 && served (.recall · 1) s (fun t => t.terms.queue.length == 64 && (t.carriage 1).state == .parked)
  && served (.recall · 1) ((parksFull 64).setCarriage 1 { loaded.carriage 1 with state := .parked }) (fun t => t.get OD.sidingLastResult == 4)) = true
    ∧ (let s := loaded.setLeaf (leafKey 1 1) Leaf.empty
  let s := { s.setCarriage 1 { s.carriage 1 with state := .recalling } with terms := { s.terms with recalls := [{ id := 1, total := 0, filled := [] }] } }
  s.recallPages 1 == [] && after (exec (.recallComplete 1) s) (fun t => (t.carriage 1).state == .active && t.terms.recalls == [])) = true
    ∧ (let s := { loaded with terms := { loaded.terms with queue := [Queued.mk true 1] } }
  (s.carriage 1).takes true && after (exec .parkQueueDequeue s) (fun t => (t.carriage 1).state == .parking)
  && after (exec .parkQueueDequeue (s.setCarriage 1 { s.carriage 1 with damaged := true })) (fun t => t.log.queue.map (·.code) == [0x2204])) = true := by
  decide +kernel

/-- A revert, its end with and without a record, an export and its end, both imports, and a record. -/
theorem test_RevertsAndTransfers :
    (parted.revertRefusal 1 == 0 && served (.revert · 1) parted (fun t => t.terms.reverts.map (·.1) == [1] && t.get OD.termLastResult == 0)
  && loaded.revertRefusal 1 == 3 && served (.revert · 1) loaded (fun t => t.get OD.termLastResult == 3)) = true
    ∧ (let s := { parted with terms := { parted.terms with reverts := [(1, asker)] }, tables := { parted.tables with snapshots := [(1, [SnapRecord.mk 0 .zero])] } }
  parted.deferredBy 1 == 0 && s.terms.parks == [] && s.snapRecords 1 == [SnapRecord.mk 0 .zero]
  && after (exec (.revertComplete 1) s) (fun t => t.leaf (leafKey 1 0) == Leaf.empty && (t.carriage 1).term == 2 && t.terms.reverts == [])) = true
    ∧ (let s := { parted with terms := { parted.terms with reverts := [(1, asker)] } }
  s.snapRecords 1 == [] && after (exec (.revertComplete 1) s) (fun t => (t.leaf (leafKey 1 0)).res && (t.carriage 1).term == 2)) = true
    ∧ (pair.exportRefusal 1 2 (ecBytes (some p384Base)) == 0
  && served (.exportCarriage · 1 2 1 (ecBytes (some p384Base))) pair (fun t => t.terms.exp.isSome && t.get OD.transferNextExportId == pair.get OD.transferNextExportId + 1)) = true
    ∧ (pair.exportRefusal 1 2 (List.replicate 97 0) == 8
  && served (.exportCarriage · 1 2 1 (List.replicate 97 0)) pair (fun t => t.get OD.transferLastResult == 8)) = true
    ∧ (let s := { pair with terms := { pair.terms with exp := some { source := 1, output := 2, unit := 1, key := [], exportId := 1, begun := true } } }
  s.working && s.prompt && s.terms.exp.isSome) = true
    ∧ (let p := pair.setCarriage 2 { pair.carriage 2 with size := 0 }
  let s := { p with terms := { p.terms with exp := some { source := 1, output := 2, unit := 1, key := [], exportId := 1, begun := true } } }
  after (exec (.exportComplete []) s) (fun t => t.terms.exp == none && t.tables.leaves == s.tables.leaves)) = true
    ∧ (parted.terms.imp == none && parsePreamble ((parted.plainBytes 1 1 0).getD []) == none
  && served (.importCarriage · 1 2 0) parted (fun t => t.get OD.transferLastResult == 6)) = true
    ∧ ((parsePreamble ((importing.plainBytes 1 1 0).getD [])).map (fun p => (p.unit, p.records)) == some (1, 2) && importing.get OD.identityUnitId == 1
  && importing.createId 2 false == some 2 && cidOk 2 && (importing.carriage 2).state == .free && (importing.takeNode 1).isSome
  && importing.accepts (ask (.importCarriage · 1 2 0))) = true
    ∧ (importing.crypt.keyGen < 0xFFFFFFFF && importing.crypt.keyGen < importing.crypt.keyMark + 1024 && importing.accepts (ask (.importCarriage · 1 2 0))) = true
    ∧ (shadowed.working && shadowed.terms.imp.map (·.next) == some 0) = true := by
  decide +kernel

/-! ## DRAM and flash channels -/

/-- The tuning unit with channel 5 of which something is changed. -/
def chan5 (f : Chan → Chan) : State := tuning.setChan 5 (f (tuning.chan 5))

/-- A row for channel 5 in a frame of it. -/
def frame5 : Nat := ((List.range 64).find? (fun f => tuning.channelOf f = 5)).getD 0

/-- The loaded unit with page 1's flash copy in a block, and spare blocks. -/
def flashed : State := { loaded with
  tables := { loaded.tables with flash := [(loaded.pageName 1 1, { FlashCopy.none with present := true, block := 777 })] }
  flash := { loaded.flash with blocks := [(777, { FBlock.initial with refresh := true })] } }

/-- The write CRC on, and in the window of channel 5 a write reissued so many times after an older one. -/
def alerted (retries : Nat) : State :=
  (chan5 (fun c => { c with writes := [{ frame := frame5, line := 0, retries := retries, source := .host }, { frame := frame5, line := 63, retries := 0, source := .bulk }] })).put OD.dramWriteCrc 1

/-- Every decoding of a read, the causes of a freeze, a write alert below and at its limit, and a scrub. -/
theorem test_DramReads :
    (frame5 < tuning.framesPopulated && tuning.channelOf frame5 == 5
  && after (exec (.dramReadDecode (BitVec.ofNat 31 frame5) 63 .host .good .good) tuning) (fun t => t.dram == tuning.dram)
  && (exec (.dramReadDecode (BitVec.ofNat 31 (2 ^ 30)) 0 .host .good .good) { tuning with dram := { tuning.dram with population := [8, 4, 64, 0] } } matches .fault (.noSuchFrame _))
  && State.framesPopulated { tuning with dram := { tuning.dram with population := [8, 4, 64, 0] } } == 2 ^ 30) = true
    ∧ (after (exec (.dramReadDecode (BitVec.ofNat 31 frame5) 63 .host .uncorrectable (.corrected 9)) tuning) (fun t => t.get (OD.mcCorrected 5) == 1
  && (t.chan 5).errorCount == 1 && (t.chan 5).errors.map (·.device) == [9])) = true
    ∧ (4 * (tuning.chansOut + 1) ≤ tuning.populated && !tuning.isTableFrame frame5 && (tuning.chan 5).state == .inService
  && after (exec (.dramReadDecode (BitVec.ofNat 31 frame5) 63 .host .uncorrectable .uncorrectable) tuning) (fun t => (t.chan 5).state == .inService
    && (t.frame frame5).image.bad.getLsbD 63 && t.get (OD.mcUncorrectable 5) == 1)) = true
    ∧ (after (exec (.dramReadDecode (BitVec.ofNat 31 frame5) 63 .salvage .uncorrectable .uncorrectable) (chan5 (fun c => { c with failed := [(2 * (tuning.locate frame5).rank, 1)] })))
    (fun t => (t.chan 5).state == .inService && (t.frame frame5).image.bad.getLsbD 63)) = true
    ∧ (let s := chan5 (fun c => { c with failed := [(2 * (tuning.locate frame5).rank, 1)] })
  after (exec (.dramReadDecode (BitVec.ofNat 31 frame5) 63 .host .uncorrectable .uncorrectable) s) (fun t => t.get (OD.mcLastFreezeCause 5) == 2)) = true
    ∧ (let s := chan5 (fun c => { c with uncorrected := [(0, rowKey (tuning.locate frame5) + 1)] })
  after (exec (.dramReadDecode (BitVec.ofNat 31 frame5) 63 .host .uncorrectable .uncorrectable) s) (fun t => t.get (OD.mcLastFreezeCause 5) == 1)) = true
    ∧ (after (exec (.dramReadDecode (BitVec.ofNat 31 frame5) 63 .host .addressError .good) tuning) (fun t => t.get (OD.mcLastFreezeCause 5) == 3)) = true
    ∧ ((alerted 3).flag OD.dramWriteCrc && after (exec (.dramAlert 5) (alerted 3)) (fun t => (t.chan 5).state == .inService
    && (t.chan 5).writes.map (·.retries) == [4] && t.get (OD.mcWriteCrcRetries 5) == 1)
  && after (exec (.dramAlert 5 2) (alerted 3)) (fun t => (t.chan 5).writes.map (·.retries) == [4, 1] && t.get (OD.mcWriteCrcRetries 5) == 2
    && (t.chan 5).errors.map (fun e => (e.source, e.line, e.kind)) == [(sourceCode .bulk, 63, 4)])
  && (alerted 4).isPopulated 5 && after (exec (.dramAlert 5) (alerted 4)) (fun t => t.get (OD.mcLastFreezeCause 5) == 5)) = true
    ∧ ((tuning.chan 5).scrub + 1 < tuning.framesPerChannel * 64 && after (exec (.patrolScrubRead 5 .good) tuning) (fun t => (t.chan 5).scrub == 1)) = true
    ∧ (let s := chan5 (fun c => { c with failed := [(2 * (tuning.locate frame5).rank, 1), (2 * (tuning.locate frame5).rank + 1, 1)] })
  s.otherFailed frame5 9 && after (exec (.dramReadDecode (BitVec.ofNat 31 frame5) 63 .host (.corrected 9) (.corrected 9)) s) (fun t =>
    t.get (OD.mcLastFreezeCause 5) == 2 && t.get (OD.mcCorrected 5) == 0)) = true
    ∧ (let s := chan5 (fun c => { c with state := .absent })
  !s.acceptsRead 5 .host && after (exec (.dramReadDecode (BitVec.ofNat 31 frame5) 63 .host .good .good) s) (fun t => t == s.unlist)) = true
    ∧ (let s := chan5 (fun c => { c with state := .thawing })
  s.acceptsRead 5 .bulk && !s.isTableFrame frame5
    && after (exec (.dramReadDecode (BitVec.ofNat 31 frame5) 63 .bulk .uncorrectable .uncorrectable) s) (fun t => (t.chan 5).state == .thawing
      && (t.frame frame5).image.bad.getLsbD 63)) = true := by
  decide +kernel

/-- Refreshes with and without panic, a deadline, the small keepings, tallies, and the channel commands. -/
theorem test_ChannelUpkeep :
    (tuning.dram.panic == 0 && after (exec (.refreshDue 5 255) tuning) (fun t => (t.chan 5).banks != [] || tuning.uptime == 0)
  && after (exec (.refreshDue 5 255) { tuning with dram := { tuning.dram with panic := 1 } }) (fun t =>
    (mapGet (fun _ => BankRefresh.mk 0 0) (t.chan 5).banks 255).due == 1)) = true
    ∧ (let s := { (chan5 (fun c => { c with banks := [(255, BankRefresh.mk 4 0)] })) with uptime := 9, dram := { (chan5 (fun c => { c with banks := [(255, BankRefresh.mk 4 0)] })).dram with panic := 1 } }
  after (exec (.refreshDue 5 255) s) (fun t => (mapGet (fun _ => BankRefresh.mk 0 0) (t.chan 5).banks 255).last == 9)) = true
    ∧ (tuning.isPopulated 5 && after (exec (.refreshDeadlineMiss 5 0) tuning) (fun t => t.get (OD.mcLastFreezeCause 5) == 6)) = true
    ∧ (after (exec (.dqsOscillatorRead 5 3 (-4)) tuning) (fun t => (t.chan 5).adjust == [])
  && after (exec (.dqsOscillatorRead 5 3 (-5)) tuning) (fun t => (t.chan 5).adjust == [3])) = true
    ∧ ((tuning.tally 5 1).entries == [] && 1 < (tuning.tally 5 1).threshold
  && after (exec (.activateTallyUpdate 5 1 3 31 262143) tuning) (fun t => rowCount 3 31 262143 (t.tally 5 1).entries == 1)) = true
    ∧ (let s := tuning.setTally 5 1 { entries := [{ rank := 3, bank := 31, row := 7, count := 9 }], fallback := false, rolling := [], refreshes := 0, threshold := 10 }
  !s.usesDrfm 5 3 && after (exec (.activateTallyUpdate 5 1 3 31 7) s) (fun t => rowCount 3 31 7 (t.tally 5 1).entries == 0 && t.get (OD.mcNeighbourRefreshes 5) == 1
    && s.rowsNear 7 == [5, 6, 8, 9] && rowCount 3 31 9 (t.tally 5 1).entries == 1)) = true
    ∧ (let u := chan5 (fun c => { c with drfm := 0xF })
  let s := u.setTally 5 1 { entries := [{ rank := 3, bank := 31, row := 7, count := 9 }], fallback := false, rolling := [], refreshes := 0, threshold := 10 }
  s.usesDrfm 5 3 && after (exec (.activateTallyUpdate 5 1 3 31 7) s) (fun t => rowCount 3 31 7 (t.tally 5 1).entries == 0
    && t.get (OD.mcNeighbourRefreshes 5) == 1 && rowCount 3 31 9 (t.tally 5 1).entries == 0)) = true
    ∧ (served (.freezeChannel · 5) tuning (fun t => (t.chan 5).state != .inService && t.get (OD.mcLastFreezeCause 5) == 7)
  && !tuning.isPopulated 200 && served (.freezeChannel · 200) tuning (fun t => t.get OD.freezeLastResult == 1)
  && served (.freezeChannel · 5) loaded (fun t => t.get OD.freezeLastResult == 3)
  && served (.freezeChannel · 5) (chan5 (fun c => { c with state := .offline })) (fun t => t.get OD.freezeLastResult == 2)) = true
    ∧ (served (.dramReturnChannel · 5) (chan5 (fun c => { c with state := .offline })) (fun t => (t.chan 5).returnPending)
  && served (.dramReturnChannel · 5) tuning (fun t => t.get OD.freezeLastResult == 2)) = true
    ∧ (served (.forceFullTraining ·) tuning (fun t => t.dram.forced && t.dram.training == none)) = true := by
  decide +kernel

/-- Reads at each step and unreadable ones, programs that close a stripe and that do not, erases, and failures with spares. -/
theorem test_FlashReads :
    (after (exec (.flashReadComplete 63 77 5 (.step 0)) flashed) (fun t => (t.block 77).reads == 1 && !(t.block 77).refresh)
  && after (exec (.flashReadComplete 63 77 5 (.step 4)) flashed) (fun t => (t.block 77).refresh && t.get (OD.fcRebuilds 63) == 1)) = true
    ∧ (let d := { flashed with tables := { flashed.tables with flash := (flashName 1 7, { FlashCopy.none with present := true, block := 777 }) :: flashed.tables.flash } }
  d.pointingAt (flashName 1 7) 777 == [flashName 1 7] && d.pointingAt (flashName 1 7) 77 == []
  && after (exec (.flashReadComplete 0 777 (BitVec.ofNat 48 (flashName 1 7)) .unreadable) d) (fun t => (t.depotEntry 7).pois
    && (t.flashCopy (flashName 1 7)).lost)
  && after (exec (.flashReadComplete 0 77 (BitVec.ofNat 48 (flashName 1 7)) .unreadable) d) (fun t => !(t.depotEntry 7).pois)
  && (flashed.flashCopy (flashed.pageName 1 1)).present
  && after (exec (.flashReadComplete 0 777 (BitVec.ofNat 48 (flashed.pageName 1 1)) .unreadable) flashed) (fun t => (t.flashCopy (flashed.pageName 1 1)).lost)) = true
    ∧ (!flashed.isSlc (blockKey 17 3 900) && 1 < flashed.groupChannels 1 - 1
  && after (exec (.flashProgramComplete 17 3 900 4096 true) flashed) (fun t => (t.block (blockKey 17 3 900)).isOpen && t.place 0 == blockKey 17 3 900
    && (mapGet (fun _ => Stripe.initial) t.flash.stripes 1).units == 1)) = true
    ∧ (let s := { flashed with flash := { flashed.flash with stripes := [(1, { Stripe.initial with units := flashed.groupChannels 1 - 2 })] } }
  after (exec (.flashProgramComplete 17 3 900 4096 true) s) (fun t => (mapGet (fun _ => Stripe.initial) t.flash.stripes 1).number == Stripe.initial.number + 1)) = true
    ∧ (flashed.isSlc (blockKey 17 0 2) && after (exec (.flashProgramComplete 17 0 2 4096 true) flashed) (fun t => t.flash.wseq == flashed.flash.wseq + 1)) = true
    ∧ (after (exec (.flashEraseComplete 17 3 900 true) flashed) (fun t => (t.block (blockKey 17 3 900)).erased && (t.block (blockKey 17 3 900)).erases == 1)) = true
    ∧ (2 ≤ flashed.sparesLeft (17 * 16 + 3) && mapWf (fun _ => FlashCopy.none) flashed.tables.flash
  && after (exec (.flashProgramComplete 17 3 900 4096 false) flashed) (fun t => (t.block (blockKey 17 3 900)).retired
    && t.sparesLeft (17 * 16 + 3) + 1 == flashed.sparesLeft (17 * 16 + 3) && t.get OD.wearGrownBadBlocks == 1)
  && after (exec (.flashEraseComplete 17 3 900 false) flashed) (fun t => (t.block (blockKey 17 3 900)).retired)) = true
    ∧ (!striped (flashName 6 7 / 2 ^ 44) && striped 1 && after (exec (.flashReadComplete 0 77 (BitVec.ofNat 48 (6 * 2 ^ 44 + 7)) (.step 4)) flashed) (fun t => (t.block 77).reads == 1)
  && after (exec (.flashReadComplete 0 77 5 .unreadable) (unitIn .vault)) (fun t => t == (unitIn .vault).unlist)) = true
    ∧ (after (exec (.flashProgramComplete 63 15 900 4096 true [] 3) flashed) (fun t => t.place 3 == blockKey 63 15 900
    && (mapGet (fun _ => Stripe.initial) t.flash.stripes (stripeKey 3 3)).units == 1 && t.place 0 == flashed.place 0)) = true := by
  decide +kernel

/-- A stripe closed by time, LUN timeouts, a channel out of service, capacity, garbage collection, the return of a channel and slots. -/
theorem test_FlashUpkeep :
    (let s := { flashed with flash := { flashed.flash with stripes := [(3, { Stripe.initial with units := 2 })] } }
  after (exec (.stripeCloseTimeout 3) s) (fun t => (mapGet (fun _ => Stripe.initial) t.flash.stripes 3).units == 0)
  && after (exec (.stripeCloseTimeout 2) s) (fun t => t.flash == s.flash)) = true
    ∧ (let s := { flashed with flash := { flashed.flash with stripes := [(stripeKey 3 3, { Stripe.initial with units := 2 })] } }
  s.prompt && after (exec (.stripeCloseTimeout 3 3) s) (fun t => (mapGet (fun _ => Stripe.initial) t.flash.stripes (stripeKey 3 3)).units == 0)) = true
    ∧ (let s := { (flashed.setFchan 0 { flashed.fchan 0 with rebuilding := true }) with
  tables := { flashed.tables with flash := [(flashed.pageName 1 1, { FlashCopy.none with present := true, block := blockKey 0 0 900 })] } }
  let s := s.setFchan 0 { s.fchan 0 with state := 1, dies := 0 }
  s.prompt && (s.outOfReach 0).length == 1 && after (exec (.stripeRebuildComplete 0) s) (fun t => !(t.fchan 0).rebuilding
    && (t.flashCopy (s.pageName 1 1)).block == s.writeBlock 1 && !(t.flashCopy (s.pageName 1 1)).lost)) = true
    ∧ (after (exec (.lunTimeout 63 15) flashed) (fun t => mapGet (fun _ => []) (t.fchan 63).timeouts 15 == [0] && (t.fchan 63).resetting.getLsbD 15)) = true
    ∧ (let s := flashed.setFchan 63 { flashed.fchan 63 with timeouts := [(15, [0, 0])] }
  !(s.fchan 63).retired.getLsbD 15 && after (exec (.lunTimeout 63 15) s) (fun t => (t.fchan 63).retired.getLsbD 15 && t.get OD.wearDiesRetired == 1)) = true
    ∧ ((flashed.fchan 63).state == 0 && flashed.fchansOut + 1 ≤ 8 && after (exec (.channelStatusTimeout 63) flashed) (fun t =>
  (t.fchan 63).state == 1 && (t.fchan 63).cause == 4 && !t.fchanServes 63)) = true
    ∧ (flashed.gcRuns && after (exec .backingRecompute flashed) (fun t => t.get OD.spaceBackingPagesTotal == flashed.backingPages)
  && !State.reset.gcRuns) = true
    ∧ (storedType (flashed.pageName 1 1 / 2 ^ 44) && storedType 1 && !flashed.isSlc 777 && flashed.victimOk 777 && !(flashed.block 777).retired && !flashed.flash.superseded.any (fun c => c.block == 777)
  && after (exec (.gcRelocation 777) { flashed with flash := { flashed.flash with converting := some (2 ^ 34) } }) (fun t => (t.block 777).erased
    && (t.flashCopy (flashed.pageName 1 1)).block != 777 && t.flash.saveMax == 2 ^ 34)) = true
    ∧ (served (.flashReturnChannel · 63) (tuning.setFchan 63 { tuning.fchan 63 with state := 1 }) (fun t => (t.fchan 63).state == 2)
  && served (.flashReturnChannel · 64) tuning (fun t => t.get OD.flashLastResult == 1)
  && served (.flashReturnChannel · 63) tuning (fun t => t.get OD.flashLastResult == 2)) = true
    ∧ (flashed.flash.released == [] && after (exec .saveSlotErase { flashed with flash := { flashed.flash with released := [(3, 1), (4, 2)] } }) (fun t => t.flash.released == [(4, 2)])) = true := by
  decide +kernel

/-! ## Keys, pipes, the Loop Line and the gauge -/

/-- A plain key blob of a type, without a check value. -/
def plainBlob (type : Byte) : List Byte := [type, 0, 0, 0, 0xFF, 0xFF, 0xFF, 0xFF] ++ List.replicate 32 5

/-- The tuning unit where plain loads are allowed and a slot holds a key. -/
def keyed (n : Nat) (x : Slot) : State :=
  let s := tuning.put OD.pipesPlainKeyLoad 1
  { s with crypt := { s.crypt with slots := [(n, x)] } }

/-- A sealing slot of generation 3 at a counter and a mark. -/
def sealing (counter mark : Nat) : Slot :=
  { Slot.empty with type := 2, root := List.replicate 32 9, gen := 3, counter := counter, mark := mark }

/-- The tuning unit with pipe 39 quarantined and under test, and times of mismatches of it. -/
def pipeTest (times : List Nat) : State := { tuning with
  crypt := { tuning.crypt with quarantined := 1 <<< 39, testing := 1 <<< 39, mismatches := [(39, times)] } }

/-- A packet to a stop. -/
def packetTo (stop : BitVec 3) : Packet :=
  let k : Packet := { pcrc := 0, dst := stop, src := 0, cls := 0, opc := 0, len := 0, pois := 0, tag := 0, addr := 0, payload := [] }
  { k with pcrc := crc32c (packetHead k ++ k.payload) }

/-- A reading of four equal cells. -/
def reading (mv : Nat) (current : Int) : GaugeReading :=
  { cell1 := mv, cell2 := mv, cell3 := mv, cell4 := mv, current := current, charge := 3600, th1 := some 250, th2 := some 251 }

/-- The unit with a pack of 1,000 (of the capacity's unit), a reading, and a counted SOC. -/
def packed (r : GaugeReading) (coulomb : Nat) : State :=
  let s := (working.put OD.gaugeDesignCapacity 1000).put OD.learningLearnedCapacity 1000
  { s with gauge := { s.gauge with absent := false, anchorDue := false, reading := some r, coulomb := coulomb, mark := none } }

/-- A plain load, a load of the wrong length, one of a generation at its end, both erases and one refused, and passes at the last slot and the last carriage. -/
theorem test_KeySlots :
    (served (.keyLoad · 255 (plainBlob 2)) (keyed 4 Slot.empty) (fun t => (t.slot 255).type == 2 && (t.slot 255).gen == 1 && (t.slot 255).root == List.replicate 32 5
  && t.get (OD.slotLastResult 255) == 0)) = true
    ∧ (served (.keyLoad · 4 (plainBlob 2)) (keyed 4 { Slot.empty with gen := 0xFFFFFFFE }) (fun t => t.get (OD.slotLastResult 4) == 6 && t.log.queue == [])
  && served (.keyLoad · 4 (plainBlob 3)) (keyed 4 Slot.empty) (fun t => t.get (OD.slotLastResult 4) == 1)) = true
    ∧ ((plainBlob 2).length == 40 && ([1, 2] : List Byte).length != 40) = true
    ∧ (!(keyed 4 (sealing 0 0)).slotInUse 4 && served (.keySlotErase · 4) (keyed 4 (sealing 0 0)) (fun t => (t.slot 4).type == 0 && (t.slot 4).gen == 3)
  && served (.keySlotErase · 5) (keyed 4 (sealing 0 0)) (fun t => t.get (OD.slotLastResult 5) == 0)) = true
    ∧ (let s := { loaded with terms := { loaded.terms with admission := some (AdmitRun.mk 1 3 0 1 false) } }
  s.slotInUse 3 && served (.keySlotErase · 3) s (fun t => t.get (OD.slotLastResult 3) == 5)) = true
    ∧ (served (.passGrant · 1 255) loaded (fun t => (t.passRow 1).getLsbD 255 && (t.passRow 1).getLsbD 3)
  && served (.passRevoke · 1 3) loaded (fun t => !(t.passRow 1).getLsbD 3)
  && served (.passGrant · 65535 3) loaded (fun t => (t.passRow 65535).getLsbD 3)
  && served (.passGrant · 1 3) (carriageAs (fun c => { c with state := .deleting })) (fun t => t.get OD.passesLastResult == 1)) = true
    ∧ (served (.revokeSlot · 3) loaded (fun t => t.passRow 1 == 0)) = true := by
  decide +kernel

/-- A seal, one at its mark, one at its limit, one refused; both generations of an unseal; a mark; and pipes. -/
theorem test_SealedBlobs :
    (served (.sealBlob · 4 [1] [2, 3] []) (keyed 4 (sealing 5 5)) (fun t => (t.slot 4).counter == 6 && t.get OD.sealingLastResult == 0)
  && served (.sealBlob · 4 [1] [] []) (keyed 4 (sealing 5 5)) (fun t => t.get OD.sealingLastResult == 3)
  && served (.sealBlob · 5 [1] [2] []) (keyed 4 (sealing 5 5)) (fun t => t.get OD.sealingLastResult == 1)) = true
    ∧ (served (.sealBlob · 4 [1] [2] []) (keyed 4 (sealing (2 ^ 20) 0)) (fun t => t.crypt.sealWaits.length == 1 && (t.slot 4).counter == 2 ^ 20)
  && served (.sealBlob · 4 [1] [2] []) (keyed 4 (sealing (2 ^ 64 - 2 ^ 20) (2 ^ 64 - 2 ^ 20))) (fun t => (t.slot 4).exhausted)
  && served (.sealBlob · 4 [1] [2] []) (keyed 4 { sealing 0 0 with exhausted := true }) (fun t => t.get OD.sealingLastResult == 2)) = true
    ∧ (served (.unsealBlob · 4 [] (gcmNonce 2 0) [1] (List.replicate 16 0) []) (keyed 4 (sealing 5 5)) (fun t => t.get OD.sealingLastResult == 4)
  && (keyed 4 (sealing 5 5)).accepts (ask (.unsealBlob · 4 [] (gcmNonce 3 0) [1] (List.replicate 16 0) [])) && field (gcmNonce 3 0) 0 4 == 3
  && (gcmNonce 3 0).length == 12 && (List.replicate 32 (7#8)).length == 32) = true
    ∧ (tuning.crypt.sealWaits == [] && after (exec (.nonceMarkRecorded 4) (keyed 4 (sealing 5 5))) (fun t =>
  (t.slot 4).mark == max 5 ((keyed 4 (sealing 5 5)).markOf 4))) = true
    ∧ ((pipeTest []).crypt.testing.getLsbD 39 && (pipeTest []).recentMismatches 39 < 2
  && after (exec (.pipeSelftestComplete 39 true) (pipeTest [])) (fun t => !t.crypt.quarantined.getLsbD 39)
  && after (exec (.pipeSelftestComplete 39 false) (pipeTest [])) (fun t => t.crypt.quarantined.getLsbD 39 && t.crypt.untilBoot.getLsbD 39)
  && after (exec (.pipeSelftestComplete 39 true) (pipeTest [0, 0])) (fun t => t.crypt.quarantined.getLsbD 39)) = true
    ∧ (served (.pipeRetest · (BitVec.allOnes 40)) (pipeTest []) (fun t => t.crypt.quarantined == 0 && t.get OD.pipesLastResult == 0)
  && served (.pipeRetest · 0) loaded (fun t => t.get OD.pipesLastResult == 1)) = true := by
  decide +kernel

/-- A packet delivered, forwarded and replayed, a failed link, an isolated stop, and the die bridge. -/
theorem test_LoopLine :
    (packetGood (packetTo 4) && linkEnd 3 == 4 && !(working.link 3).failed
  && after (exec (.loopLinePacket 3 0 (packetTo 4)) working) (fun t => t.loop.delivered.length == 1 && (t.link 3).rxSeq == 1)) = true
    ∧ (after (exec (.loopLinePacket 15 0 (packetTo 4)) working) (fun t => t.loop.delivered == [] && (t.link 14).txSeq == 1 && (t.link 14).buffer.length == 1
  && (t.link 15).rxSeq == 1)) = true
    ∧ (after (exec (.loopLinePacket 15 9 (packetTo 4)) working) (fun t => (t.link 15).replays == 1 && (t.link 15).rxSeq == 0)
  && after (exec (.loopLinePacket 15 0 { packetTo 4 with pcrc := 0 }) working) (fun t => (t.link 15).replays == 1)) = true
    ∧ (linkStart 8 == 0 && after (exec (.loopLinePacket 8 0 (packetTo 7)) working) (fun t => (t.link 8).buffer == [packetTo 7] && (t.link 8).txSeq == 1
  && t.loop.delivered == [packetTo 7])) = true
    ∧ (after (exec (.linkFailure 15) working) (fun t => (t.link 15).failed && (t.link 7).buffer == []
  && after (exec (.linkFailure 15) t) (fun u => u.loop == t.loop) && after (exec (.loopLinePacket 15 0 (packetTo 4)) t) (fun u => u.unlisted == t.unlisted + 1))) = true
    ∧ (let s := (working.setLink 0 { working.link 0 with failed := true }).setLink 8 { working.link 8 with failed := true }
  !s.loop.isolated.getLsbD 0 && s.stopLost 0 && s.isolateStops.loop.isolated.getLsbD 0 && (working.isolateStops == working) && !working.stopLost 0) = true
    ∧ (working.mainDieRuns && !working.loop.bridgeFailed && after (exec .dieBridgeFailure working) (fun t => t.loop.bridgeFailed)
  && after (exec (.dieBridgeFailure (some 7)) working) (fun t => t.loop.bridgeReplays == 8 && !t.loop.bridgeFailed && t.ctl == working.ctl)) = true
    ∧ (after (exec (.loopLinePacket 8 0 { packetTo 7 with pcrc := 0 } (some (packetTo 7))) working) (fun t => (t.link 8).buffer == [packetTo 7]
  && (t.link 8).replays == 1 && t.loop.delivered == []
  && after (exec (.loopLinePacket 8 0 (packetTo 7)) t) (fun u => (u.link 8).buffer == [packetTo 7] && u.loop.delivered == [packetTo 7]))) = true := by
  decide +kernel

/-- A sample under load and at rest, one that anchors, an absent pack, each pack class, and a rest point that agrees and one that does not. -/
theorem test_GaugeSamples :
    (!(packed (reading 3700 50) 50000000).gauge.absent && after (exec (.gaugeSample (reading 3700 50)) (packed (reading 3700 50) 50000000)) (fun t =>
  t.gauge.coulomb == 49000000 && !t.flag OD.gaugeAtRest && t.get OD.gaugePackState == t.packClass)) = true
    ∧ (let s := { (packed (reading 3700 49) 50000000) with gauge := { (packed (reading 3700 49) 50000000).gauge with anchorDue := true } }
  after (exec (.gaugeSample (reading 3700 49)) s) (fun t => t.gauge.coulomb == s.ocvLookup 3700 * 10000)) = true
    ∧ (working.packClass == 0 && { (packed (reading 900 0) 0) with gauge := { (packed (reading 900 0) 0).gauge with absent := true } }.packClass == 1
  && (packed (reading 2499 0) 0).packClass == 2 && (packed (reading 4350 0) 0).packClass ≥ 3) = true
    ∧ (packOf (reading 900 0) < 4000 && after (exec .packAbsent (packed (reading 900 0) 50000000)) (fun t => t.gauge.absent && t.get OD.gaugePackState == 1)) = true
    ∧ (!(packed (reading 3700 49) 0).flag OD.gaugeAtRest && 1500 < (packed (reading 3700 49) 0).ocvLookup 3700
  && after (exec .restPoint (packed (reading 3700 49) 0)) (fun t => t.flag OD.gaugeAtRest && t.flag OD.gaugeDisagreement && t.flag OD.learningForcedRelearn)) = true
    ∧ (after (exec .restPoint (packed (reading 3700 49) ((packed (reading 3700 49) 0).ocvLookup 3700 * 10000))) (fun t => t.flag OD.gaugeAtRest
  && !t.flag OD.gaugeDisagreement && t.gauge.mark.isSome)) = true := by
  decide +kernel

/-- R282: frame 0x2A71F3C6 on 16 channels with 4 ranks of 64 Gb lies on MC6, subchannel A, bank group 1, bank 2, rank 0, half 1, row
86,927. -/
theorem test_frame_location : working.channelOf 0x2A71F3C6 = 6 ∧ working.locate 0x2A71F3C6
    = { sub := 0, group := 1, bank := 2, rank := 0, half := 1, row := 86927 } := by decide +kernel

/-- The sled's pack of the worked example in chapter 11: 250 mAh, 60 milliohms, 268 W and 220 GB/s in the last drill. -/
def learnt (soc reserve energy : Nat) : State :=
  let s := (packed (reading 3700 0) 0).put OD.learningLearnedCapacity 2500
  let s := ((s.put OD.learningLearnedR25 60000).put OD.drillLastPower 268).put OD.gaugeSocPlanning soc
  let s := ((s.put OD.drillLastDieRate 600000).put OD.drillLastFixedTime 55000).put OD.marginReserveShare reserve
  { s with flush := { s.flush with drillPopulation := some s.diesPopulated } }.put OD.gaugeUsableEnergy energy

/-- The worked example of chapter 11, t0 and t2: 350 J at a reserve of 10 % bound the residue to 181.35 GB, and 3,620 J at 15 % to about
1,743 GiB. -/
theorem test_energy_bound : (learnt 800 10 350).energyBound / 10 ^ 7 = 18135 ∧ (learnt 3500 15 3620).energyBound / 2 ^ 30 = 1743 := by
  decide +kernel

/-! ## Learning, margins, embedded flash, logbook and counters -/

/-- The packed unit with a rest point and so much charge counted since, in mC. -/
def learning (charge : Int) (warm unbroken : Bool) : State :=
  let s := packed (reading 3700 0) 50000000
  { s with gauge := { s.gauge with charge := charge, warmEnough := warm, unbroken := unbroken, recordDue := true } }

/-- A unit in SERVICE whose journal has a used oldest sector with one record, a second one in use, and few free. -/
def journalled : State :=
  let x : Rec := { sector := 1, slot := 2, type := 16, key := 8, seq := 3, payload := [7], mark := .valid, intact := true }
  let r : LogRegion := { ring := [1, 2, 3], inUse := 2, nextSlot := 4, seq := 10, sectSeq := 2, recs := [x] }
  { working with eflash := { working.eflash with journal := r, busy := none } }

/-- An occurrence of a code. -/
def happened (code : Nat) : Occurrence := { code := code, value := 4, items := [], time := 5, attach := [], ring := false }

/-- The unit with a FATAL and a plain record in the logbook. -/
def logged : State :=
  let r (code sev seq : Nat) : LogRec := { LogRec.fresh (happened code) seq 0 with severity := sev }
  { tuning with log := { tuning.log with records := [r 0x8101 3 5, r 0x3042 1 6], nextSeq := 7 } }

/-- The logged unit whose proxy has a level. -/
def levelled (n : Nat) : State := logged.put OD.accessProxyAccess n

/-- The tuning unit with test perturbation unlocked. -/
def unlocked : State := { tuning with ctl := { tuning.ctl with unlocked := true } }

/-- Resistance first and later, each check of a learning, an accepted one, its record, and a day. -/
theorem test_Learning :
    (let s := packed (reading 3700 0) 0
  s.get OD.learningInitialR25 == 0 && after (exec (.packResistanceMeasured 30000) s) (fun t => t.gauge.recordDue && t.get OD.learningInitialR25 == t.r25Now)
  && after (exec (.packResistanceMeasured 30000) (s.put OD.learningInitialR25 5)) (fun t => t.get OD.learningInitialR25 == 5)) = true
    ∧ (let a : RestMark := { soc := 0, time := 0 }
  let k := (learning 0 true true).get OD.learningLearnMinSwing * 100
  let cause (s : State) (soc : Nat) : Nat := (s.learnBetween a soc).get OD.learningLastRejectCause
  cause (learning 0 true true) (k - 1) == 1 && cause (learning 0 false true) k == 2
  && cause { learning 0 true true with uptime := 14 * 86400 * 1000000000 + 1 } k == 3 && cause (learning 0 true false) k == 4
  && cause (learning 0 true true) k == 5) = true
    ∧ (((learning (-180000) true true).learnBetween { soc := 0, time := 0 } 5000).get OD.learningLearnCount == 1
  && ((learning 0 true true).acceptCapacity 900).capacityNow == 975 && (((learning 0 true true).putFlag OD.learningForcedRelearn true).acceptCapacity 900).capacityNow == 900) = true
    ∧ (!(learning 0 true true).packWeak && (learning 0 true true).eflash.busy == none && (learning 0 true true).eflashReady
  && after (exec .learningRecordWrite (learning 0 true true)) (fun t => !t.gauge.recordDue && t.get OD.learningRecordSeq == 1)) = true
    ∧ (let s := { packed (reading 3299 0) 0 with gauge := { (packed (reading 3299 0) 0).gauge with recordDue := true } }
  s.packWeak && after (exec .learningRecordWrite s) (fun t => t.gauge.recordDue)) = true
    ∧ (served (.relearn ·) loaded (fun t => t.flag OD.learningForcedRelearn)) = true
    ∧ (after (exec .dayCount (loaded.put OD.learningDaysSinceLearning 65535)) (fun t => t.get OD.learningDaysSinceLearning == 65535)) = true := by
  decide +kernel

/-- A sample, a re-plan that runs and one that waits, each cause, each row of a domain's call, and both directions of a step. -/
theorem test_MarginPlan :
    (after (exec (.monitorSample (List.replicate 96 { driftBase := 0, driftReplan := 5, slack := -7, temp := 300 })) working) (fun t => (t.sensor 95).slack == -7)) = true
    ∧ (working.mayReplan && (working.replanAsked 1).get OD.marginLastReplanCause == 1 && !(powered .armed .service).mayReplan
  && ((powered .armed .service).replanAsked 1).flag OD.marginDeferred) = true
    ∧ (let s := { working with monitors := { sensors := [(0, { driftBase := 0, driftReplan := 2000000, slack := 0, temp := 0 })] } }
  decide (((s.get OD.monitorDriftTrigger * 100 : Nat) : Int) < s.worstDrift) && decide (working.worstDrift ≤ ((working.get OD.monitorDriftTrigger * 100 : Nat) : Int))
  && after (exec .replanDue s) (fun t => t.get OD.marginLastReplanCause == 2) && after (exec .replanDue working) (fun t => t.get OD.marginLastReplanCause == 1)) = true
    ∧ (served (.replanNow ·) working (fun t => t.get OD.marginLastReplanCause == 3)) = true
    ∧ (let s := { working with margin := { working.margin with due := some 2 } }
  after (exec (.replan 1) s) (fun t => t.get OD.marginLastReplanCause == 2) && working.margin.due == none
  && after (exec (.replan 1) working) (fun t => t.get OD.marginLastReplanCause == 1)
  && !s.margin.overdue && after (exec .replanDeferralOverdue s) (fun t => t.margin.overdue)) = true
    ∧ (domainCall (-1) 0 20 0 0 == { offset := some 5, derate := 0, event := 0 } && domainCall (-201) 0 20 0 0 == { offset := some 10, derate := 0, event := 0 }
  && domainCall (-1) 0 20 20 3 == { offset := none, derate := 4, event := 0x6032 } && domainCall (-1) 0 20 20 4 == { offset := none, derate := 4, event := 0x6033 }
  && domainCall 701 0 20 20 1 == { offset := none, derate := 0, event := 0 } && domainCall 701 0 20 20 0 == { offset := some 15, derate := 0, event := 0 }
  && domainCall 700 0 20 20 0 == { offset := none, derate := 0, event := 0 } && domainCall 0 0 20 20 0 == { offset := none, derate := 0, event := 0 }) = true
    ∧ (let s (o n : Nat) : State := { working.put OD.marginVtrimOffset o with margin := { working.margin with target := n, lastStep := 0 } }
  after (exec .vtrimStep (s 0 10)) (fun t => t.get OD.marginVtrimOffset == 5) && after (exec .vtrimStep (s 15 10)) (fun t => t.get OD.marginVtrimOffset == 10)
  && after (exec .vtrimStep (s 10 10)) (fun t => t.get OD.marginVtrimOffset == 10)
  && after (exec .vtrimStep { s 0 10 with uptime := 9999999, margin := { (s 0 10).margin with lastStep := 1 } }) (fun t => t.get OD.marginVtrimOffset == 0)) = true
    ∧ (after (exec (.thermalThreshold true 999) working) (fun t => t.log.queue == []) && after (exec (.thermalThreshold true 1000) working) (fun t => t.log.queue.length == 1)
  && after (exec (.thermalThreshold false 1050) working) (fun t => t.log.queue.map (·.code) == [0x6310])) = true := by
  decide +kernel

/-- A record, one below the early-warning level, erases that are barred, done, tried three times and given up, compaction, and a margin read. -/
theorem test_EmbeddedFlash :
    (journalled.eflashReady && (journalled.eflash.region 2).nextSlot + 27 ≤ 31 && journalled.eflash.journal.recs.all (fun x => x.seq < 10)
  && after (exec (.eflashRecordWrite 2 7 5 [1, 2] 27) journalled) (fun t => (t.eflash.journal.current 7 5).map (fun x => (x.slot, x.sector, x.payload)) == some (31, 2, [1, 2]))) = true
    ∧ (after (exec (.eflashRecordWrite 2 7 5 [1, 2] 0) { journalled with pins := { journalled.pins with vsbEarly := true } }) (fun t => t.eflash == journalled.eflash)) = true
    ∧ (!journalled.sectorFree 2 && after (exec (.eflashSectorErase 2 (some 0)) journalled) (fun t => t.eflash == journalled.eflash) && saving.eraseBarred) = true
    ∧ (!journalled.eraseBarred && journalled.sectorFree 3 && journalled.regionOfSector 3 == some 2 && journalled.eflash.spares.head? != some 3
  && after (exec (.eflashSectorErase 3 (some 2)) journalled) (fun t => t.eflash.eraseCount 3 == journalled.eflash.eraseCount 3 + 3 && t.eflash.busy == some (.erase 3))
  && after (exec (.eflashSectorErase 3 none) journalled) (fun t => t.eflash.retired.contains 3 && !t.eflash.journal.ring.contains 3)) = true
    ∧ (journalled.eflash.journal.freeSectors < 8 && journalled.regionOfSector 1 == some 2 && knownType 2 16 && !journalled.eraseBarred
  && after (exec .journalCompaction journalled) (fun t => (t.eflash.journal.current 16 8).map (fun x => (x.sector, x.payload)) == some (2, [7]) && t.eflash.journal.recs.all (fun x => x.sector != 1))
  && after (exec .journalCompaction { journalled with power := { journalled.power with state := .armed } }) (fun t => t.eflash == journalled.eflash)) = true
    ∧ (8 ≤ working.eflash.journal.freeSectors && after (exec .journalCompaction working) (fun t => t.eflash == working.eflash)) = true
    ∧ (let s := { journalled with pins := { journalled.pins with vsbEarly := true } }
  after (exec .journalCompaction s) (fun t => t.eflash == s.eflash) && after (exec (.marginReadDue [(1, 2)]) s) (fun t => t.eflash == s.eflash)) = true
    ∧ ((journalled.eflash.journal.current 16 8).map (·.slot) == some 2
  && after (exec (.marginReadDue [(1, 2)]) journalled) (fun t => (t.eflash.journal.current 16 8).map (fun x => (x.sector, x.slot)) == some (2, 4))) = true := by
  decide +kernel

/-- A record appended, one merged, a mirror, an overflow, a snapshot, a clear, and perturbation unlocked, armed and refused. -/
theorem test_LogAndCounters :
    (let s := { logged with log := { logged.log with queue := [happened 0x3043], ring := [] } }
  mergeTarget (happened 0x3043) s.log.records == none && after (exec .logbookRecord s) (fun t => t.log.records.map (·.seq) == [5, 6, 7] && t.log.nextSeq == 8)) = true
    ∧ (let s := { logged with log := { logged.log with queue := [happened 0x1040], records := [LogRec.fresh (happened 0x1040) 6 0] } }
  (mergeTarget (happened 0x1040) s.log.records).isSome && after (exec .logbookRecord s) (fun t => t.log.records.map (·.repeats) == [1] && t.log.nextSeq == 7)) = true
    ∧ (let s := { logged with log := { logged.log with ring := [], records := logged.log.records.take 1 } }
  s.log.records.all (LogRec.toMirror s.clock) && s.eflash.summary.nextSlot ≤ 31 && 8 ≤ s.eflash.summary.freeSectors
  && after (exec .logbookMirror s) (fun t => t.log.records.map (·.mirrored) == [true] && t.get OD.summaryGeneration == 1
    && after (exec .logbookMirror t) (fun u => u == t))) = true
    ∧ (after (exec .logbookMirror tuning) (fun t => t.eflash == tuning.eflash)) = true
    ∧ (let s := tuning.setCounter 1023 { tuning.counter 1023 with value := 2 ^ 48, preset := 9, sample := true }
  after (exec (.counterOverflow 1023) s) (fun t => (t.counter 1023).value == 9 && (t.counter 1023).overflows == 1 && t.perf.samples.length == 1)) = true
    ∧ (mapWf (fun _ => Counter.initial) loaded.perf.counters && served (.counterSnapshot ·) loaded (fun t => t.get OD.counterSnapshotTime == loaded.clock)) = true
    ∧ (served (.ticketClear ·) loaded (fun t => t.get OD.ticketNextTicket == 1 && t.get OD.ticketGeneration == loaded.get OD.ticketGeneration + 1)) = true
    ∧ (served (.perturbationUnlock · 1 0x54455354) tuning (fun t => t.ctl.unlocked && t.get OD.perturbLastResult == 0)
  && served (.perturbationUnlock · 1 0) tuning (fun t => !t.ctl.unlocked && t.get OD.perturbLastResult == 2)
  && served (.perturbationUnlock · 1 0x54455354) loaded (fun t => t.get OD.perturbLastResult == 1)) = true
    ∧ (served (.perturbationArm ·) unlocked (fun t => t.ctl.armed) && served (.perturbationArm ·) tuning (fun t => t.get OD.perturbLastResult == 3)
  && served (.perturbationDisarm ·) unlocked (fun t => !t.ctl.armed) && served (.perturbationDisarm ·) tuning (fun t => t.get OD.perturbLastResult == 3)) = true := by
  decide +kernel

/-- One FATAL record by its SEQ, every FATAL record, below level 3, and a SEQ of none. -/
theorem test_ClearFatal :
    (3 ≤ (levelled 3).level .proxy && served (.clearFatal · 5) (levelled 3) (fun t => t.log.records.map (·.seq) == [6] && t.get OD.logbookLastResult == 0)
  && served (.clearFatal · 0) (levelled 3) (fun t => t.log.records.map (·.seq) == [6])) = true
    ∧ (served (.clearFatal · 6) (levelled 3) (fun t => t.log.records.map (·.seq) == [5, 6] && t.get OD.logbookLastResult == 1)) = true
    ∧ ((levelled 1).level .proxy < 3 && ((levelled 1).arrived .proxy).reach .proxy opExecute (OD.logbookClearFatal / 256) (OD.logbookClearFatal % 256) == none
  && after (exec (ask (.clearFatal · 5)) (levelled 1)) (fun t => t.log.records.map (·.seq) == [5, 6] && status t == some 4)) = true := by
  decide +kernel

/-! ## Packages, the two-wire port, notices and frames -/

/-- The loaded unit in an update state, with both banks holding an image. -/
def updating (u : UpdateState) (f : Update → Update) : State :=
  { loaded with update := f { loaded.update with state := u } }

/-- A state with a block in the proxy's four parts. -/
def offered (b : List Byte) (s : State) : State :=
  let s := s.arrived .proxy
  s.setSession { s.session .proxy with block := (List.range 4).map (fun i => (i, slice b (1024 * i) 1024)) }

/-- A block of a package (R531): offset, length and kind, its payload, and its CRC. -/
def blockOf (off len kind : Nat) (payload : List Byte) (crc : Nat) : List Byte :=
  padTo 4092 (toBytes 4 off ++ toBytes 2 len ++ toBytes 2 kind ++ toBytes 8 9 ++ payload) ++ toBytes 4 crc

/-- Both banks at security version 2. -/
def secured (s : State) : State :=
  let f (x : Bank) : Bank := { x with record := { x.record with secVer := 2 } }
  { s with update := { s.update with bankA := f s.update.bankA, bankB := f s.update.bankB } }

/-- A header that passes for package 9: one unit and a body of 16 bytes. -/
def header9 : List Byte :=
  toBytes 4 0x4B505A48 ++ toBytes 2 1 ++ toBytes 2 0 ++ padTo 8 (strBytes "HX9640") ++ toBytes 8 9 ++ toBytes 8 0
    ++ toBytes 4 1 ++ toBytes 4 0 ++ toBytes 4 1 ++ toBytes 4 16 ++ List.replicate 193 0

/-- An apply at sector 0 of a body of one record: 4,096 bytes filled with 0xAA, sealed under a content key of zeros. -/
def applying : State :=
  let b := padTo 4048 (toBytes 4 4032 ++ toBytes 2 16 ++ toBytes 2 2 ++ toBytes 8 9 ++ toBytes 16 20790934468871897403840141572467250406) ++ toBytes 16 250296038827841157860694005672692987333
  updating .applying (fun u => { u with
    header := List.replicate 44 0 ++ toBytes 4 16 ++ List.replicate 193 0, contentKey := List.replicate 32 0, blocks := [(1, some b)] })

/-- The loaded unit whose other bank holds an image of a security version. -/
def banked (n : Nat) : State :=
  let f (x : Bank) : Bank := { x with record := { x.record with state := 2, secVer := n }, damaged := false }
  updating .idle (fun u => if loaded.activeBank = 0 then { u with bankB := f u.bankB } else { u with bankA := f u.bankA })

/-- The unit with its proxy in a state. -/
def proxied (p : ProxyState) (len : Nat) : State :=
  { loaded with bus := { loaded.bus with proxy := { loaded.bus.proxy with state := p, len := len } } }

/-- The unit with a notice of so many attempts at the head of the queue. -/
def noticed (attempts : Nat) (waiting : Bool) : State :=
  { loaded with bus := { loaded.bus with queue := [{ code := 0x3042, severity := 1, attempts := attempts, order := 0 }], waiting := waiting } }

/-- A part, a package's first block and a later one, blocks that are refused, an abort, an apply, and both ends of a sector. -/
theorem test_PackageTransfer :
    (served (.blockPart · (List.replicate 1024 5)) loaded (fun t => mapGet (fun _ => []) (t.session .proxy).block 0 == List.replicate 1024 5)) = true
    ∧ (let s := offered (blockOf 0 4032 0 header9 3133521267) (updating .idle id)
  let b := ((List.range 4).map (fun i => padTo 1024 (mapGet (fun _ => []) (s.session .proxy).block i))).flatten
  s.accepts (ask (.submitBlock ·)) && (crc32c (b.take 4092)).toNat == field b 4092 4 && blockOffset b == 0 && s.checkHeader b == 0
  && (secured s).checkHeader b == 11) = true
    ∧ (let s := offered (blockOf 4032 4032 1 [] 3007160341) ((updating .receiving (fun u => { u with header := header9.take 40 ++ toBytes 4 85 ++ header9.drop 44 })).put OD.updateNextOffset 4032)
  let b := ((List.range 4).map (fun i => padTo 1024 (mapGet (fun _ => []) (s.session .proxy).block i))).flatten
  s.accepts (ask (.submitBlock ·)) && (crc32c (b.take 4092)).toNat == field b 4092 4 && blockOffset b != 0 && s.checkBlock b == (0, none)
  && (s.put OD.updateNextOffset 0).checkBlock b == (3, none) && blockOffset b + blockLength b == 8064) = true
    ∧ (let s := offered [] loaded
  s.accepts (ask (.submitBlock ·)) && (crc32c (List.replicate 4092 0)).toNat != 0) = true
    ∧ (served (.updateAbort ·) (updating .received id) (fun t => t.update.state == .idle && t.get OD.updateLastResult == 0)
  && served (.updateAbort ·) (updating .applying (fun u => { u with paused := true })) (fun t => t.update.state == .idle)
  && served (.updateAbort ·) (updating .trial id) (fun t => t.get OD.updateLastResult == 1)) = true
    ∧ (served (.applyPackage ·) (updating .received id) (fun t => t.update.state == .applying && (t.bank loaded.inactiveBank).record.state == 1)
  && served (.applyPackage ·) loaded (fun t => t.get OD.updateLastResult == 1)) = true
    ∧ (applying.nextSector.map (·.1) == some 16 && !applying.update.aborting && !applying.update.paused) = true
    ∧ (let s := updating .applying (fun u => { u with header := List.replicate 241 0 })
  s.nextSector == none && after (exec (.applySectorComplete []) s) (fun t => t.update.state == .idle && t.get OD.updateLastResult == 13
    && (t.bank loaded.inactiveBank).record.state == 4)) = true := by
  decide +kernel

/-- Verification that passes and fails, a schedule and its refusals, a cancel, a trial, a rollback and its refusals. -/
theorem test_Activation :
    (after (exec (.bankVerificationComplete true true true) (updating .verifying id)) (fun t => t.update.state == .verified && (t.bank loaded.inactiveBank).record.state == 2)
  && after (exec (.bankVerificationComplete true false true) (updating .verifying id)) (fun t => t.get OD.updateLastResult == 15)
  && after (exec (.bankVerificationComplete false true true) (updating .verifying id)) (fun t => t.get OD.updateLastResult == 14)
  && after (exec (.bankVerificationComplete true true false) (updating .verifying id)) (fun t => t.get OD.updateLastResult == 16)
  && after (exec (.bankVerificationComplete true true true) loaded) (fun t => t.update == loaded.update)) = true
    ∧ (served (.schedule · 0 1) (updating .verified id) (fun t => t.update.state == .scheduled && t.get OD.departureDepartureMode == 1)
  && served (.schedule · 5 1) ((updating .verified id).put OD.clockTimeValid 0) (fun t => t.get OD.departureLastResult == 18)
  && served (.schedule · 0 2) (updating .verified id) (fun t => t.get OD.departureLastResult == 17 || status t == some 6)
  && served (.schedule · 0 1) loaded (fun t => t.get OD.departureLastResult == 1)) = true
    ∧ (served (.scheduleCancel ·) (updating .scheduled id) (fun t => t.update.state == .verified) && served (.scheduleCancel ·) loaded (fun t => t.get OD.departureLastResult == 1)) = true
    ∧ (after (exec .trialConfirmation (updating .trial id)) (fun t => t.update.state == .idle) && after (exec .trialConfirmation loaded) (fun t => t.update == loaded.update)) = true
    ∧ (let v := (loaded.bank loaded.activeBank).record.secVer
  (banked v).holdsImage (banked v).inactiveBank && served (.rollback ·) (banked v) (fun t => t.update.state == .scheduled && t.get OD.bankLastResult == 0)
  && served (.rollback ·) { banked v with update := { (banked v).update with state := .receiving } } (fun t => t.get OD.bankLastResult == 3)) = true
    ∧ (let s := { banked 0 with update := { (banked 0).update with bankA := (secured (banked 0)).update.bankA } }
  s.activeBank == 0 && s.holdsImage s.inactiveBank && served (.rollback ·) s (fun t => t.get OD.bankLastResult == 2)) = true
    ∧ (let s := updating .idle (fun u => { u with bankB := { u.bankB with damaged := true } })
  !s.holdsImage s.inactiveBank && served (.rollback ·) s (fun t => t.get OD.bankLastResult == 1)) = true
    ∧ (State.reset.deferCause == 1 && (powered .armed .service).deferCause == 2 && (drilling 1 false).deferCause == 3) = true := by
  decide +kernel

/-- A pointer, proxy data taken and not taken, a PEC, a read over the end, each bus condition, the proxy, and both snapshots. -/
theorem test_TwoWireTarget :
    (let s := loaded.putFlag OD.twoWirePecRequired false
  !s.ctl.stopped && after (exec (.twoWireWrite [2, 0x40, 9, 8]) s) (fun t => t.bus.proxy.byte 0 == 9 && t.bus.proxy.byte 1 == 8 && t.bus.pointer == 0x242)
  && after (exec (.twoWireWrite [1, 2]) s) (fun t => t.bus.pointer == 0x102)
  && after (exec (.twoWireWrite [7]) s) (fun t => t.get OD.twoWireDiscardedBytes == 1)) = true
    ∧ (let s := (proxied .busy 12).putFlag OD.twoWirePecRequired false
  after (exec (.twoWireWrite [2, 0x40, 9]) s) (fun t => t.get OD.twoWireNackedBytes == 1 && t.bus.proxy.byte 0 == 0)) = true
    ∧ (let s := loaded.putFlag OD.twoWirePecRequired true
  let e := pec (BitVec.ofNat 8 (2 * s.get OD.twoWireAddress) :: [1, 2])
  s.addressed.busFree.pecMatches [1, 2, e] && after (exec (.twoWireWrite [1, 2, e]) s) (fun t => t.bus.pointer == 0x102)
  && after (exec (.twoWireWrite [1, 2, e ^^^ 1]) s) (fun t => t.get OD.twoWirePecFailures == 1 && t.bus.pointer == s.bus.pointer)) = true
    ∧ (after (exec (.twoWireRead 2) { loaded with bus := { loaded.bus with pointer := 65535 } }) (fun t => t.bus.pointer == 1 && t.out.twoWire.length == 2)) = true
    ∧ (after (exec .proxySubmit (proxied .loading 11)) (fun t => t.bus.proxy.state == .error) && after (exec .proxySubmit (proxied .ready 12)) (fun t => t.bus.proxy.state == .ready)
  && after (exec .proxySubmit (proxied .error 12)) (fun t => t.unlisted == loaded.unlisted + 1)
  && after (exec .proxyClear (proxied .idle 12)) (fun t => t.unlisted == loaded.unlisted + 1)
  && after (exec .proxySubmit (proxied .idle 12)) (fun t => t.bus.proxy.state == .busy) && after (exec .proxyClear (proxied .ready 12)) (fun t => t.bus.proxy.state == .idle)) = true
    ∧ (let s := { proxied .busy 12 with bus := { (proxied .busy 12).bus with proxy := { (proxied .busy 12).bus.proxy with response := some [7, 8] } } }
  after (exec .proxyResponseReady s) (fun t => t.bus.proxy.state == .ready && t.bus.proxy.len == 2 && t.bus.proxy.byte 1 == 8 && t.bus.proxy.seq == 1)) = true
    ∧ (loaded.stretchBounded && !loaded.bus.recovery && after (exec (.stretchLimitExpiry true) loaded) (fun t => t.bus.serveOld1 && t.get OD.twoWireStaleReads == 1)
  && after (exec .smbusClockLowTimeout (loaded.putFlag OD.twoWireSmbusTimeout true)) (fun t => t.get OD.twoWireTimeouts == 1)) = true := by
  decide +kernel

/-- A notice sent, not acknowledged, dropped and tried again, test notices, mailbox frames, MCTP messages and the TAP. -/
theorem test_NoticesAndTransports :
    (after (exec (.hostNotifySend true) (noticed 0 false)) (fun t => t.out.busSent == some [0x10, 0x90, 0x42, 0x30] && t.bus.queue == [] && t.get OD.notifySent == 1)) = true
    ∧ (0 + 1 < (noticed 0 false).get OD.notifyAttempts && after (exec (.arbitrationLost true) (noticed 0 false)) (fun t => t.bus.waiting && t.bus.queue.map (·.attempts) == [1])
  && after (exec (.hostNotifySend false) (noticed 255 false)) (fun t => t.bus.queue == [] && t.get OD.notifyLastResult == 2)
  && (noticed 0 false).get OD.notifyAttempts ≤ 256) = true
    ∧ (after (exec .hostNotifyRetry (noticed 0 true)) (fun t => !t.bus.waiting)) = true
    ∧ (served (.testNotify · 0x1234) loaded (fun t => t.bus.queue.map (·.code) == [0x1234]) && noticeNever 0x6101 && served (.testNotify · 0x6101) loaded (fun t => status t == some 6)) = true
    ∧ (!mailFrameOk [] && after (exec (.zopRequest 0 []) loaded) (fun t => t.out.mailbox.map (·.code) == some 2)) = true
    ∧ (match requestOf (ask (.drillStart ·)) with
  | some (q, f) =>
    let b := requestBytes q f
    mailFrameOk b && namesCommand b && loaded.mailboxUp 0 && 2 ≤ loaded.get (OD.ldMgmtAccess 0) && (loaded.mail 0).background.1 != 0xC001
    && after (exec (.zopRequestInBackground 0 b) loaded) (fun t => t.out.mailbox.map (·.code) == some 1 && (t.mail 0).background.1 == 0xC001)
    && after (exec (.zopRequest 0 b) (loaded.put (OD.ldMgmtAccess 0) 0)) (fun t => t.out.mailbox.map (·.payload.length) == some 12)
  | none => false) = true
    ∧ (loaded.transportUp (.smbus 9) && endpointOf (.smbus 9) == some 2
  && after (exec (.mctpMessage (.smbus 9) 0 [0x80, 1, 0, 9]) loaded) (fun t => mapGet (fun _ => 0) t.zop.eids 2 == 9)
  && after (exec (.mctpMessage (.smbus 9) 5 [1]) loaded) (fun t => t.unlisted == loaded.unlisted && t.out.zop == loaded.out.zop)
  && (loaded.frameIn ((toBytes 2 (loaded.get OD.identityPciVendorId)).reverse ++ [0x5A, 1])) == some [1] && loaded.frameIn [1] == none) = true
    ∧ (let s := { State.reset with pins := { State.reset.pins with mdPwrgd := true, resetN := false } }
  scanInstruction .extest && after (exec (.tapInstruction .extest) s) (fun t => t.tapDrives)
  && after (exec (.tapInstruction .extest) loaded) (fun t => !t.tapDrives && t.tap.instruction == .bypass)) = true := by
  decide +kernel

/-- One request by the proxy's buffer, in a mailbox and in a message, and as the row itself. -/
theorem test_FramesSpellCommands :
    (match ask (.mapDepot · 1 2 7 1) with
  | .mapDepot q _ _ _ _ => (match requestOf (.mapDepot q 1 2 7 1) with
    | some (_, f) =>
      let b := requestBytes q f
      let s := { loaded with bus := { loaded.bus with proxy := { loaded.bus.proxy with len := b.length, buffer := (List.range b.length).map (fun n => (n, b.getD n 0)) } } }
      ownsFrame (.mapDepot q 1 2 7 1) && (Instr.mapDepot q 1 2 7 1).wf && q.src == .proxy
      && (List.range b.length).all (fun n => s.bus.proxy.byte n == b.getD n 0) && s.bus.proxy.state == .idle
      && after (exec .proxySubmit s) (fun t => (t.leaf (leafKey 1 2)).depot) && after (serveFrame .proxy b s) (fun t => (t.leaf (leafKey 1 2)).depot)
    | none => false)
  | _ => false) = true
    ∧ (loaded.mailboxUp 0 && 1 ≤ loaded.get (OD.ldMgmtAccess 0) && loaded.transportUp (.smbus 9)
  && (Instr.mapDepot { src := .mailbox 0, tag := 0, crc := 0 } 1 2 7 1).wf && ownsFrame (.mapDepot { src := .smbus 9, tag := 0, crc := 0 } 1 2 7 1)) = true := by
  decide +kernel

/-- A frame inside the population, an empty queue, and one with a delayed command. -/
theorem test_EveryCommandGoesOn :
    (5 < loaded.framesPopulated && loaded.pending == [] && loaded.work.delayed == [] && (loaded.hostPort 0).unverified == []
  && (loaded.hostPort 1).unverified == [] && loaded.terms.globalDue == none
  && after (step loaded) (fun t => t.uptime == loaded.uptime + 1 && t.clock == loaded.clock + 1)) = true
    ∧ (after (step { loaded with work := { loaded.work with delayed := [.crystalFail, .warn] } })
  (fun t => t.work.delayed == [.warn] && t.clock == loaded.clock + 1)) = true := by
  decide +kernel

/-- Reset, the unit in SERVICE with a drill, and MAINTENANCE armed: a step of each. -/
theorem test_StepKeepsModes :
    (State.reset.modesAgree && (drilling 1 false).modesAgree && perturbing.modesAgree
  && after (step { perturbing with pending := [.warn] }) (fun t => t.modesAgree && !t.ctl.unlocked)
  && after (step { drilling 1 false with pending := [.commit .both] }) (fun t => t.modesAgree && t.flush.drill == none)) = true := by
  decide +kernel

end Sys2Proof.Tests
end

section
/-! SUPPORT. The queue of waiting commands along every operation of the model, in the order of the model's files: a state operation leaves
`pending` as it finds it, and a command goes on (`GoesOn`). One lemma for each function of the model, each from those of the functions it
calls; the obligation EveryCommandGoesOn (O59) stands at the end. -/
namespace Sys2Proof.Machine

@[simp] theorem ite_pending (c : Prop) [Decidable c] (a b : State) :
    (if c then a else b).pending = if c then a.pending else b.pending :=
  apply_ite ..

@[simp] theorem ite_fst_pending {α : Type} (c : Prop) [Decidable c] (a b : State × α) :
    (if c then a else b).1.pending = if c then a.1.pending else b.1.pending := by
  split <;> rfl

@[simp] theorem foldl_pending {α : Type} (f : State → α → State) (h : ∀ s a, (f s a).pending = s.pending) (l : List α) (s : State) :
    (l.foldl f s).pending = s.pending := by
  induction l generalizing s with
  | nil => rfl
  | cons a l ih => rw [List.foldl_cons, ih, h]

theorem foldl_fst_pending {α β : Type} (f : State × β → α → State × β) (h : ∀ r a, (f r a).1.pending = r.1.pending)
    (l : List α) (r : State × β) : (l.foldl f r).1.pending = r.1.pending := by
  induction l generalizing r with
  | nil => rfl
  | cons a l ih => rw [List.foldl_cons, ih, h]

theorem pending_of_eq {α : Type} {x : State × α} {t : State} {a : α} {q : List Instr} (hx : x.1.pending = q) (h : x = (t, a)) :
    t.pending = q := by
  rw [← hx, h]

/-- The outcome is a next state, whose queue is `q`. -/
def GoesOn (q : List Instr) (o : Out) : Prop := ∃ t, o = .next t ∧ t.pending = q

@[simp] theorem goesOn_next (q : List Instr) (t : State) : GoesOn q (.next t) ↔ t.pending = q := by simp [GoesOn]

@[simp] theorem goesOn_ite (q : List Instr) (c : Prop) [Decidable c] (a b : Out) :
    GoesOn q (if c then a else b) ↔ if c then GoesOn q a else GoesOn q b := by
  split <;> rfl

theorem GoesOn.trans {p q : List Instr} {o : Out} (h : GoesOn p o) (e : p = q) : GoesOn q o := e ▸ h

/-- The outcome, where there is one, goes on with the queue `q`. -/
def GoesOnIfAny (q : List Instr) (a : Option Out) : Prop := ∀ o, a = some o → GoesOn q o

@[simp] theorem goesOnIfAny_none (q : List Instr) : GoesOnIfAny q none := fun _ h => nomatch h

@[simp] theorem goesOnIfAny_some (q : List Instr) (o : Out) : GoesOnIfAny q (some o) ↔ GoesOn q o := by simp [GoesOnIfAny]

@[simp] theorem goesOnIfAny_ite (q : List Instr) (c : Prop) [Decidable c] (a b : Option Out) :
    GoesOnIfAny q (if c then a else b) ↔ if c then GoesOnIfAny q a else GoesOnIfAny q b := by
  split <;> rfl

theorem goesOnIfAny_orElse {q : List Instr} {a b : Option Out} (ha : GoesOnIfAny q a) (hb : GoesOnIfAny q b) :
    GoesOnIfAny q (a.orElse fun _ => b) := by
  cases a with
  | none => exact hb
  | some a => exact ha

theorem goesOn_getD {q : List Instr} {a : Option Out} {d : Out} (ha : GoesOnIfAny q a) (hd : GoesOn q d) :
    GoesOn q (a.getD d) := by
  cases a with
  | none => exact hd
  | some a => exact ha a rfl

/-! ### Machine/Ops -/

@[simp] theorem loadPlan_pending (s : State) (v) : (s.loadPlan v).pending = s.pending := by simp [State.loadPlan]

@[simp] theorem storeBytes_pending (s : State) (k v) : (s.storeBytes k v).pending = s.pending := by
  unfold State.storeBytes
  split <;> simp

@[simp] theorem keep_pending (s : State) (k v) : (s.keep k v).pending = s.pending := by simp [State.keep]

@[simp] theorem countFixed_pending (s : State) (n) : (s.countFixed n).pending = s.pending := by rfl

@[simp] theorem setHostPort_pending (s : State) (p h) : (s.setHostPort p h).pending = s.pending := by simp [State.setHostPort]

@[simp] theorem freshAnswers_pending (s : State) : s.freshAnswers.pending = s.pending := by rfl

@[simp] theorem idle_pending (s : State) : s.idle.pending = s.pending := by simp [State.idle]

@[simp] theorem when_pending (s : State) (c : Bool) (f : State → State) :
    (s.when c f).pending = if c then (f s).pending else s.pending := by
  unfold State.when; split <;> rfl

/-! ### Machine/Tables -/

@[simp] theorem setChan_pending (s : State) (c x) : (s.setChan c x).pending = s.pending := by rfl

@[simp] theorem setFchan_pending (s : State) (c x) : (s.setFchan c x).pending = s.pending := by rfl

@[simp] theorem setSlot_pending (s : State) (n x) : (s.setSlot n x).pending = s.pending := by rfl

@[simp] theorem checkNodes_pending (s : State) : s.checkNodes.pending = s.pending := by simp [State.checkNodes]

@[simp] theorem placeAux_pending (s : State) (line) : (s.placeAux line).pending = s.pending := by
  unfold State.placeAux
  (repeat' split) <;> simp

@[simp] theorem touch_pending (s : State) (line) : (s.touch line).pending = s.pending := by simp [State.touch]

@[simp] theorem probe_pending (s : State) : s.probe.pending = s.pending := by rfl

@[simp] theorem delay_pending (s : State) (c) : (s.delay c).pending = s.pending := by rfl

@[simp] theorem mapCommand_goesOn (s : State) (c : Instr) (k : State → Out) (h : GoesOn s.pending (k s)) :
    GoesOn s.pending (s.mapCommand c k) := by
  unfold State.mapCommand; split <;> simp [h]

@[simp] theorem await_goesOn (s : State) (n : Nat) (c : Instr) (k : State → Out) (h : GoesOn s.pending (k s)) :
    GoesOn s.pending (s.await n c k) := by
  unfold State.await; split <;> simp [h]

@[simp] theorem command_goesOn (s : State) (n : Nat) (c : Instr) (k : State → Out) (h : GoesOn s.pending (k s)) :
    GoesOn s.pending (s.command n c k) := by
  rcases command_cases s n c k with e | e <;> simp [e, h]

@[simp] theorem cacheWrite_pending (s : State) (key) : (s.cacheWrite key).pending = s.pending := by simp [State.cacheWrite]

@[simp] theorem setLeaf_pending (s : State) (key l) : (s.setLeaf key l).pending = s.pending := by simp [State.setLeaf]

@[simp] theorem setInterior_pending (s : State) (key e) : (s.setInterior key e).pending = s.pending := by
  simp [State.setInterior]

@[simp] theorem setCarriage_pending (s : State) (cid c) : (s.setCarriage cid c).pending = s.pending := by
  simp [State.setCarriage]

@[simp] theorem setCouplings_pending (s : State) (ld cs) : (s.setCouplings ld cs).pending = s.pending := by
  simp [State.setCouplings]

@[simp] theorem setDepot_pending (s : State) (i e) : (s.setDepot i e).pending = s.pending := by simp [State.setDepot]

@[simp] theorem setFlashCopy_pending (s : State) (name c) : (s.setFlashCopy name c).pending = s.pending := by
  simp [State.setFlashCopy]

@[simp] theorem setSnaps_pending (s : State) (cid r) : (s.setSnaps cid r).pending = s.pending := by simp [State.setSnaps]

theorem takeFrame_pending {s t : State} {f : Nat} (h : s.takeFrame = some (f, t)) : t.pending = s.pending := by
  unfold State.takeFrame at h
  dsimp only at h
  split at h
  · cases h
  · split at h <;> cases h
    rfl

@[simp] theorem setFrame_pending (s : State) (f c) : (s.setFrame f c).pending = s.pending := by rfl

@[simp] theorem checkSpace_pending (s : State) : s.checkSpace.pending = s.pending := by simp [State.checkSpace]

@[simp] theorem poisonLeaf_pending (s : State) (key) : (s.poisonLeaf key).pending = s.pending := by simp [State.poisonLeaf]

@[simp] theorem poisonInterior_pending (s : State) (k) : (s.poisonInterior k).pending = s.pending := by
  simp [State.poisonInterior]

@[simp] theorem depotUnref_pending (s : State) (i) : (s.depotUnref i).pending = s.pending := by simp [State.depotUnref]

@[simp] theorem depotRef_pending (s : State) (i) : (s.depotRef i).pending = s.pending := by simp [State.depotRef]

@[simp] theorem supersede_pending (s : State) (name) : (s.supersede name).pending = s.pending := by simp [State.supersede]

@[simp] theorem freeCopy_pending (s : State) (name) : (s.freeCopy name).pending = s.pending := by simp [State.freeCopy]

@[simp] theorem dropLocation_pending (s : State) (key) : (s.dropLocation key).pending = s.pending := by rfl

@[simp] theorem freePageCopy_pending (s : State) (key) : (s.freePageCopy key).pending = s.pending := by
  simp [State.freePageCopy]

@[simp] theorem releasePage_pending (s : State) (key) : (s.releasePage key).pending = s.pending := by simp [State.releasePage]

@[simp] theorem releaseRecord_pending (cid) (s : State) (r) : (State.releaseRecord cid s r).pending = s.pending := by
  unfold State.releaseRecord
  split <;> simp

@[simp] theorem releaseDetached_pending (cid) (s : State) (r) : (State.releaseDetached cid s r).pending = s.pending := by
  simp [State.releaseDetached]

@[simp] theorem releaseDetachedOf_pending (s : State) (cid test) : (s.releaseDetachedOf cid test).pending = s.pending := by
  simp [State.releaseDetachedOf]

@[simp] theorem dropSnapshot_pending (s : State) (cid cause) : (s.dropSnapshot cid cause).pending = s.pending := by
  simp [State.dropSnapshot]

@[simp] theorem addRecord_pending (s : State) (cid page k) : (s.addRecord cid page k).pending = s.pending := by
  simp [State.addRecord]

@[simp] theorem retainCopy_pending (s : State) (key) : (s.retainCopy key).pending = s.pending := by simp [State.retainCopy]

@[simp] theorem growEntry_pending (s : State) (cid level page) : (s.growEntry cid level page).1.pending = s.pending := by
  unfold State.growEntry
  dsimp only
  (repeat' split) <;> simp

@[simp] theorem growPath_pending (s : State) (cid page) : (s.growPath cid page).1.pending = s.pending := by
  unfold State.growPath
  split
  next t h3 =>
    have ht := pending_of_eq (growEntry_pending s cid 3 page) h3
    split
    next u h2 => rw [growEntry_pending, pending_of_eq (growEntry_pending t cid 2 page) h2, ht]
    next => rw [growEntry_pending, ht]
  next => exact growEntry_pending s cid 3 page

@[simp] theorem growNodes_pending (s : State) (cid page) : (s.growNodes cid page).1.pending = s.pending := by
  unfold State.growNodes
  refine foldl_fst_pending _ (fun r level => ?_) _ (s, _)
  split
  · dsimp only
    split
    · rfl
    · split <;> simp
  · rfl

@[simp] theorem growPair_pending (s : State) (cid page) : (s.growPair cid page).pending = s.pending := by
  unfold State.growPair
  split <;> simp

@[simp] theorem enqueue_pending (s : State) (key) : (s.enqueue key).pending = s.pending := by rfl

@[simp] theorem markDirty_pending (s : State) (key) : (s.markDirty key).pending = s.pending := by simp [State.markDirty]

@[simp] theorem depotRefused_pending (s : State) (cid i r) : (s.depotRefused cid i r).pending = s.pending := by
  unfold State.depotRefused
  split <;> simp

/-! ### Machine/EFlash -/

@[simp] theorem setRegion_pending (s : State) (n r) : (s.setRegion n r).pending = s.pending := by rfl

@[simp] theorem record_pending (s : State) (region type key payload) :
    (s.record region type key payload).pending = s.pending := by
  simp [State.record]

@[simp] theorem journal_pending (s : State) (type key payload) : (s.journal type key payload).pending = s.pending := by
  simp [State.journal]

@[simp] theorem recordWaiting_pending (s : State) : s.recordWaiting.pending = s.pending := by simp [State.recordWaiting]

@[simp] theorem recordSetting_pending (s : State) (key) : (s.recordSetting key).pending = s.pending := by
  simp [State.recordSetting]

@[simp] theorem dropSetting_pending (s : State) (key) : (s.dropSetting key).pending = s.pending := by simp [State.dropSetting]

@[simp] theorem recordState_pending (s : State) (type key) : (s.recordState type key).pending = s.pending := by
  simp [State.recordState]

@[simp] theorem countErases_pending (s : State) (sector n) : (s.countErases sector n).pending = s.pending := by
  simp [State.countErases]

@[simp] theorem noteFormat_pending (s : State) (n sector) : (s.noteFormat n sector).pending = s.pending := by rfl

@[simp] theorem retireSector_pending (s : State) (sector) : (s.retireSector sector).pending = s.pending := by
  unfold State.retireSector
  dsimp only
  (repeat' split) <;> simp

@[simp] theorem eraseSector_pending (s : State) (sector passAt) : (s.eraseSector sector passAt).pending = s.pending := by
  unfold State.eraseSector
  dsimp only
  (repeat' split) <;> simp

@[simp] theorem compactRegion_pending (s : State) (n) : (s.compactRegion n).pending = s.pending := by
  unfold State.compactRegion
  dsimp only
  (repeat' split) <;> simp

@[simp] theorem compactSettings_pending (s : State) : s.compactSettings.pending = s.pending := by simp [State.compactSettings]

@[simp] theorem execEflashRecordWrite_goesOn (region type key payload mismatches) (s : State) :
    GoesOn s.pending (execEflashRecordWrite region type key payload mismatches s) := by
  simp [execEflashRecordWrite]

@[simp] theorem execEflashSectorErase_goesOn (sector passAt) (s : State) :
    GoesOn s.pending (execEflashSectorErase sector passAt s) := by
  simp [execEflashSectorErase]

@[simp] theorem execJournalCompaction_goesOn (s : State) : GoesOn s.pending (execJournalCompaction s) := by
  simp [execJournalCompaction]

@[simp] theorem rewriteWeak_pending (s : State) (w) : (s.rewriteWeak w).pending = s.pending := by
  refine foldl_pending _ (fun s a => ?_) _ _
  dsimp only
  (repeat' split) <;> simp

@[simp] theorem spoilRec_pending (s : State) (w) : (s.spoilRec w).pending = s.pending := by simp [State.spoilRec]

@[simp] theorem readErrors_pending (s : State) (corrected bad) : (s.readErrors corrected bad).pending = s.pending := by
  simp [State.readErrors]

@[simp] theorem execMarginReadDue_goesOn (weak) (s : State) : GoesOn s.pending (execMarginReadDue weak s) := by
  simp [execMarginReadDue]

@[simp] theorem execPersistentWriteRecord_goesOn (s : State) : GoesOn s.pending (execPersistentWriteRecord s) := by
  unfold execPersistentWriteRecord
  split <;> simp

/-! ### Machine/Cache -/

@[simp] theorem lookup_pending (s : State) (cid page) : (s.lookup cid page).pending = s.pending := by simp [State.lookup]

@[simp] theorem quarantineBank_pending (s : State) (bank) : (s.quarantineBank bank).pending = s.pending := by
  simp [State.quarantineBank]

/-! ### Machine/Planner -/

@[simp] theorem returnAll_pending (s : State) : s.returnAll.pending = s.pending := by rfl

@[simp] theorem returnCut_pending (s : State) : s.returnCut.pending = s.pending := by simp [State.returnCut]

@[simp] theorem evaluateThrottle_pending (s : State) : s.evaluateThrottle.pending = s.pending := by
  unfold State.evaluateThrottle
  (repeat' split) <;> simp

@[simp] theorem sendResidue_pending (s : State) : s.sendResidue.pending = s.pending := by simp [State.sendResidue]

@[simp] theorem applyCeiling_pending (s : State) : s.applyCeiling.pending = s.pending := by simp [State.applyCeiling]

@[simp] theorem planCompute_pending (s : State) : s.planCompute.pending = s.pending := by
  simp only [State.planCompute, applyCeiling_pending, when_pending, raise_pending, note_pending, ite_self]
  rw [foldl_pending]
  exact fun s e => put_pending s e.1 e.2

@[simp] theorem replan_pending (s : State) : s.replan.pending = s.pending := by simp [State.replan]

/-! ### Machine/Sessions -/

@[simp] theorem ok_pending (s : State) : (ok s).1.pending = s.pending := by rfl

@[simp] theorem okWith_pending (s : State) (p) : (okWith s p).1.pending = s.pending := by rfl

@[simp] theorem fail_pending (s : State) (status) : (fail s status).1.pending = s.pending := by rfl

@[simp] theorem refuse_pending (s : State) (lastResult n) : (refuse s lastResult n).1.pending = s.pending := by rfl

@[simp] theorem okResult_pending (s : State) (lastResult) : (okResult s lastResult).1.pending = s.pending := by rfl

@[simp] theorem setSel_pending (s : State) (src k v) : (s.setSel src k v).pending = s.pending := by rfl

@[simp] theorem sendMctp_pending (s : State) (src msg) : (s.sendMctp src msg).pending = s.pending := by
  unfold State.sendMctp
  split <;> simp

@[simp] theorem transmit_pending (s : State) (src opcode tag index sub r) :
    (s.transmit src opcode tag index sub r).pending = s.pending := by
  unfold State.transmit
  split <;> simp

@[simp] theorem respond_pending (s : State) (src tag crc f r) : (s.respond src tag crc f r).pending = s.pending := by
  simp [State.respond]

@[simp] theorem answerPending_pending (s : State) (src) : (s.answerPending src).pending = s.pending := by
  unfold State.answerPending
  dsimp only
  (repeat' split) <;> simp

@[simp] theorem endBackground_pending (src) (s : State) : (endBackground src s).pending = s.pending := by
  unfold endBackground
  split <;> simp

@[simp] theorem finishIn_pending (s : State) (key r x) : (s.finishIn key r x).pending = s.pending := by
  unfold State.finishIn
  split <;> simp

@[simp] theorem finish_pending (s : State) (key r) : (s.finish key r).pending = s.pending := by
  unfold State.finish
  split <;> simp

@[simp] theorem finishFor_pending (s : State) (x key r) : (s.finishFor x key r).pending = s.pending := by
  unfold State.finishFor
  split <;> simp

@[simp] theorem finishAll_pending (s : State) (key as) : (s.finishAll key as).pending = s.pending := by simp [State.finishAll]

@[simp] theorem giveUp_pending (s : State) (key as) : (s.giveUp key as).pending = s.pending := by simp [State.giveUp]

@[simp] theorem finishOk_pending (s : State) (key) : (finishOk s key).pending = s.pending := by simp [finishOk]

@[simp] theorem interrupt_pending (s : State) (mine) : (s.interrupt mine).pending = s.pending := by
  refine foldl_pending _ (fun s a => ?_) _ _
  dsimp only
  (repeat' split) <;> simp

@[simp] theorem fetchAct_pending (src tag) (s : State) : (fetchAct src tag s).1.pending = s.pending := by
  unfold fetchAct
  dsimp only
  (repeat' split) <;> simp

@[simp] theorem reportStatus_pending (s : State) (src f st) : (s.reportStatus src f st).pending = s.pending := by
  simp [State.reportStatus]

@[simp] theorem execute_pending (s : State) (src tag crc f) (act : Act) (h : ∀ t, (act t).1.pending = t.pending) :
    (s.execute src tag crc f act).pending = s.pending := by
  unfold State.execute
  split
  · simp
  · split
    next e => rw [respond_pending, pending_of_eq (h s) e]
    next e => rw [setSession_pending, pending_of_eq (h s) e]

@[simp] theorem serveNew_pending (s : State) (src tag crc f) (act : Act) (h : ∀ t, (act t).1.pending = t.pending) :
    (s.serveNew src tag crc f act).pending = s.pending := by
  unfold State.serveNew
  (repeat' split) <;> simp [h]

@[simp] theorem serve_pending (s : State) (src tag crc ok f) (act : Act) (h : ∀ t, (act t).1.pending = t.pending) :
    (s.serve src tag crc ok f act).pending = s.pending := by
  unfold State.serve
  dsimp only
  (repeat' split) <;> simp [h]

@[simp] theorem runNow_goesOn (q op index sub p) (act : Act) (s : State) (h : ∀ t, (act t).1.pending = t.pending) :
    GoesOn s.pending (runNow q op index sub p act s) := by
  simp [runNow, h]

@[simp] theorem runReq_goesOn (c q op index sub p) (act : Act) (s : State) (h : ∀ t, (act t).1.pending = t.pending) :
    GoesOn s.pending (runReq c q op index sub p act s) := by
  rcases runReq_cases c q op index sub p act s with e | e <;> simp [e, h]

@[simp] theorem runCmd_goesOn (c q key p) (act : Act) (s : State) (h : ∀ t, (act t).1.pending = t.pending) :
    GoesOn s.pending (runCmd c q key p act s) :=
  runReq_goesOn c q _ _ _ p act s h

/-! ### Machine/HostPath -/

@[simp] theorem complete_pending (s : State) (ld c) : (s.complete ld c).pending = s.pending := by simp [State.complete]

@[simp] theorem freeBuffer_pending (s : State) (p) : (s.freeBuffer p).pending = s.pending := by simp [State.freeBuffer]

@[simp] theorem completeWrite_pending (s : State) (ld dpa) : (s.completeWrite ld dpa).pending = s.pending := by
  simp [State.completeWrite]

@[simp] theorem completePoison_pending (s : State) (ld dpa) : (s.completePoison ld dpa).pending = s.pending := by
  simp [State.completePoison]

@[simp] theorem completeZeros_pending (s : State) (ld dpa) : (s.completeZeros ld dpa).pending = s.pending := by
  simp [State.completeZeros]

@[simp] theorem completeData_pending (s : State) (ld dpa d) : (s.completeData ld dpa d).pending = s.pending := by
  simp [State.completeData]

@[simp] theorem uncoupledAccess_pending (s : State) (ld dpa isWrite) :
    (s.uncoupledAccess ld dpa isWrite).pending = s.pending := by
  simp [State.uncoupledAccess]

@[simp] theorem readOnlyWrite_pending (s : State) (ld dpa) : (s.readOnlyWrite ld dpa).pending = s.pending := by
  simp [State.readOnlyWrite]

@[simp] theorem discardWrite_pending (s : State) (ld dpa) : (s.discardWrite ld dpa).pending = s.pending := by
  simp [State.discardWrite]

@[simp] theorem discardAs_pending (s : State) (w) : (s.discardAs w).pending = s.pending := by
  unfold State.discardAs
  split <;> simp

@[simp] theorem pipeMismatch_pending (s : State) (x b) : (s.pipeMismatch x b).pending = s.pending := by
  simp [State.pipeMismatch]

@[simp] theorem pipeFaults_pending (s : State) (ps) : (s.pipeFaults ps).1.pending = s.pending := by simp [State.pipeFaults]

@[simp] theorem startTraining_pending (s : State) (p) : (s.startTraining p).pending = s.pending := by simp [State.startTraining]

@[simp] theorem changePanic_pending (s : State) (p on) : (s.changePanic p on).pending = s.pending := by simp [State.changePanic]

@[simp] theorem cacheFault_pending (s : State) (key) : (s.cacheFault key).pending = s.pending := by simp [State.cacheFault]

@[simp] theorem wait_pending (s : State) (w) : (s.wait w).pending = s.pending := by simp [State.wait]

@[simp] theorem waitFrame_pending (s : State) (w) : (s.waitFrame w).pending = s.pending := by simp [State.waitFrame]

@[simp] theorem waitPage_pending (s : State) (w) : (s.waitPage w).pending = s.pending := by rfl

@[simp] theorem setOutcome_pending (s : State) (cid n) : (s.setOutcome cid n).pending = s.pending := by simp [State.setOutcome]

@[simp] theorem poisonRestored_pending (s : State) (key) : (s.poisonRestored key).pending = s.pending := by
  simp [State.poisonRestored]

@[simp] theorem vaultUnreadable_pending (s : State) (key) : (s.vaultUnreadable key).pending = s.pending := by
  simp [State.vaultUnreadable]

@[simp] theorem parentUnreadable_pending (s : State) (key) : (s.parentUnreadable key).pending = s.pending := by
  simp [State.parentUnreadable]

@[simp] theorem fetchFails_pending (s : State) (key) : (s.fetchFails key).pending = s.pending := by
  unfold State.fetchFails
  dsimp only
  (repeat' split) <;> simp

@[simp] theorem startFetch_pending (s : State) (key) : (s.startFetch key).pending = s.pending := by simp [State.startFetch]

@[simp] theorem startDepotFetch_pending (s : State) (i) : (s.startDepotFetch i).pending = s.pending := by
  simp [State.startDepotFetch]

@[simp] theorem fetchFor_pending (s : State) (w : Waiter) (start : State → State) (h : (start s).pending = s.pending) :
    (s.fetchFor w start).pending = s.pending := by
  simp [State.fetchFor, h]

@[simp] theorem issueWrites_pending (s : State) (f lines source) : (s.issueWrites f lines source).pending = s.pending := by
  simp [State.issueWrites]

@[simp] theorem issueWrite_pending (s : State) (f line) : (s.issueWrite f line).pending = s.pending := by
  simp [State.issueWrite]

@[simp] theorem placeFrame_pending (s : State) (f c) : (s.placeFrame f c).pending = s.pending := by simp [State.placeFrame]

@[simp] theorem poisonLine_pending (s : State) (f line) : (s.poisonLine f line).pending = s.pending := by rfl

@[simp] theorem failLines_pending (s : State) (old new failed) : (s.failLines old new failed).pending = s.pending := by
  simp [State.failLines]

@[simp] theorem copyOff_pending (s : State) (old new) : (s.copyOff old new).pending = s.pending := by simp [State.copyOff]

@[simp] theorem thawPage_pending (s : State) (key) : (s.thawPage key).pending = s.pending := by
  unfold State.thawPage
  dsimp only
  split
  · split
    next h => simp [takeFrame_pending h]
    next => rfl
  · rfl

@[simp] theorem moveNode_pending (s : State) (k) : (s.moveNode k).pending = s.pending := by
  unfold State.moveNode
  dsimp only
  (repeat' split) <;> simp

@[simp] theorem thawWalk_pending (s : State) (cid page) : (s.thawWalk cid page).pending = s.pending := by
  unfold State.thawWalk
  (repeat' split) <;> simp

@[simp] theorem thawDepot_pending (s : State) (i) : (s.thawDepot i).pending = s.pending := by
  unfold State.thawDepot
  dsimp only
  split
  · split
    next h => simp [takeFrame_pending h]
    next => rfl
  · rfl

@[simp] theorem cipherLine_pending (s : State) : s.cipherLine.pending = s.pending := by simp [State.cipherLine]

@[simp] theorem readResident_pending (s : State) (ld dpa key line blockFails) :
    (s.readResident ld dpa key line blockFails).pending = s.pending := by
  simp [State.readResident]

@[simp] theorem checkEntry_pending (s : State) (i) : (s.checkEntry i).pending = s.pending := by simp [State.checkEntry]

@[simp] theorem readDepot_pending (s : State) (w i blockFails) : (s.readDepot w i blockFails).pending = s.pending := by
  unfold State.readDepot
  dsimp only
  (repeat' split) <;> simp

@[simp] theorem readPage_pending (s : State) (w blockFails) : (s.readPage w blockFails).pending = s.pending := by
  simp [State.readPage]

@[simp] theorem serveRead_pending (s : State) (w blockFails) : (s.serveRead w blockFails).pending = s.pending := by
  simp [State.serveRead]

@[simp] theorem hostRead_pending (s : State) (ld dpa blockFails) : (s.hostRead ld dpa blockFails).pending = s.pending := by
  unfold State.hostRead
  (repeat' split) <;> simp

@[simp] theorem storeLine_pending (s : State) (ld dpa key line d bad) :
    (s.storeLine ld dpa key line d bad).pending = s.pending := by
  simp [State.storeLine]

@[simp] theorem storeFor_pending (s : State) (w) : (s.storeFor w).pending = s.pending := by
  unfold State.storeFor
  split <;> simp

theorem snapshotBefore_pending {s t : State} {key : Nat} (h : s.snapshotBefore key = some t) : t.pending = s.pending := by
  unfold State.snapshotBefore at h
  dsimp only at h
  split at h
  · cases h; rfl
  · split at h
    · split at h
      · split at h
        next => cases h
        next e => cases h; simp [takeFrame_pending e]
      · cases h; simp
    · cases h; simp

theorem changeResident_pending {s t : State} {w : Waiter} (h : s.changeResident w = some t) : t.pending = s.pending := by
  obtain ⟨u, hu, rfl⟩ := Option.map_eq_some_iff.1 h
  simp [snapshotBefore_pending hu]

@[simp] theorem writeResident_pending (s : State) (w) : (s.writeResident w).pending = s.pending := by
  unfold State.writeResident
  split
  · simp
  · split
    · simp
    · split
      next => simp
      next h => exact changeResident_pending h

@[simp] theorem fillPage_pending (s : State) (key f im) : (s.fillPage key f im).pending = s.pending := by simp [State.fillPage]

@[simp] theorem refusePage_pending (s : State) (w) : (s.refusePage w).pending = s.pending := by simp [State.refusePage]

@[simp] theorem writeUnallocated_pending (s : State) (w) : (s.writeUnallocated w).pending = s.pending := by
  unfold State.writeUnallocated
  split
  · simp
  · split
    next t e =>
      have ht := pending_of_eq (growPath_pending s w.cid w.page) e
      split
      next => simp [ht]
      next h => simp [takeFrame_pending h, ht]
    next t _ _ e => rw [discardAs_pending, pending_of_eq (growPath_pending s w.cid w.page) e]

@[simp] theorem writeDepot_pending (s : State) (w) : (s.writeDepot w).pending = s.pending := by
  unfold State.writeDepot
  dsimp only
  split
  · split
    · simp
    · split
      · simp
      · split
        · simp
        · split
          next t e =>
            have ht : t.pending = s.pending := by simpa using pending_of_eq (growPath_pending _ w.cid w.page) e
            split
            · split <;> simp [ht]
            · split
              · simp [ht]
              · split
                next => simp [ht]
                next h => simp [takeFrame_pending h, ht]
          next e => simpa using pending_of_eq (growPath_pending _ w.cid w.page) e
  · simp

@[simp] theorem writePage_pending (s : State) (w) : (s.writePage w).pending = s.pending := by simp [State.writePage]

@[simp] theorem serveWrite_pending (s : State) (w) : (s.serveWrite w).pending = s.pending := by simp [State.serveWrite]

@[simp] theorem takeWrite_pending (s : State) (w) : (s.takeWrite w).pending = s.pending := by simp [State.takeWrite]

@[simp] theorem hostWrite_pending (s : State) (ld dpa d bad) : (s.hostWrite ld dpa d bad).pending = s.pending := by
  unfold State.hostWrite
  split <;> simp

@[simp] theorem serveHeld_pending (s : State) (w) : (s.serveHeld w).pending = s.pending := by simp [State.serveHeld]

@[simp] theorem resumeOne_pending (s : State) (w) : (s.resumeOne w).pending = s.pending := by simp [State.resumeOne]

@[simp] theorem storeTicket_pending (s : State) (t) : (s.storeTicket t).pending = s.pending := by simp [State.storeTicket]

@[simp] theorem settleTickets_pending (s : State) (store) : (s.settleTickets store).pending = s.pending := by
  simp [State.settleTickets]

@[simp] theorem resumeHead_pending (s : State) : s.resumeHead.pending = s.pending := by
  unfold State.resumeHead
  split <;> simp

@[simp] theorem resumeAll_pending (n) (s : State) : (State.resumeAll n s).pending = s.pending := by
  induction n generalizing s with
  | zero => rfl
  | succ n ih => rw [State.resumeAll, ih, resumeHead_pending]

@[simp] theorem signalGpf_pending (s : State) (p) : (s.signalGpf p).pending = s.pending := by simp [State.signalGpf]

@[simp] theorem resume_pending (s : State) : s.resume.pending = s.pending := by simp [State.resume]

@[simp] theorem dropReads_pending (s : State) (p) : (s.dropReads p).pending = s.pending := by simp [State.dropReads]

@[simp] theorem fencePort_pending (s : State) (p) : (s.fencePort p).pending = s.pending := by simp [State.fencePort]

@[simp] theorem bufferFault_pending (s : State) (p) : (s.bufferFault p).pending = s.pending := by simp [State.bufferFault]

/-! ### Machine/Rings -/

@[simp] theorem setLink_pending (s : State) (n l) : (s.setLink n l).pending = s.pending := by rfl

/-! ### Machine/Modes -/

@[simp] theorem clearPerturbation_pending (s : State) (cause) : (s.clearPerturbation cause).pending = s.pending := by
  simp [State.clearPerturbation]

@[simp] theorem revokeUnlock_pending (s : State) : s.revokeUnlock.pending = s.pending := by rfl

@[simp] theorem releaseSlots_pending (s : State) (n) : (s.releaseSlots n).pending = s.pending := by simp [State.releaseSlots]

@[simp] theorem releaseBatsel_pending (s : State) : s.releaseBatsel.pending = s.pending := by rfl

@[simp] theorem advancePointer_pending (s : State) (n) : (s.advancePointer n).pending = s.pending := by
  simp [State.advancePointer]

@[simp] theorem stopDrill_pending (s : State) (result keepBatsel) : (s.stopDrill result keepBatsel).pending = s.pending := by
  simp [State.stopDrill]

@[simp] theorem abortDrill_pending (s : State) (result keepBatsel) : (s.abortDrill result keepBatsel).pending = s.pending := by
  simp [State.abortDrill]

@[simp] theorem stopTraining_pending (s : State) (p) : (s.stopTraining p).pending = s.pending := by simp [State.stopTraining]

@[simp] theorem fence_pending (s : State) (form trigger) : (s.fence form trigger).pending = s.pending := by simp [State.fence]

@[simp] theorem stopFlush_pending (s : State) : s.stopFlush.pending = s.pending := by simp [State.stopFlush]

@[simp] theorem abandoned_pending (s : State) (row object) : (s.abandoned row object).pending = s.pending := by
  simp [State.abandoned]

@[simp] theorem dropClean_pending (cid) (s : State) (key) : (State.dropClean cid s key).pending = s.pending := by
  simp [State.dropClean]

@[simp] theorem setCState_pending (s : State) (cid c) : (s.setCState cid c).pending = s.pending := by simp [State.setCState]

@[simp] theorem abandonTerms_pending (s : State) : s.abandonTerms.pending = s.pending := by
  unfold State.abandonTerms
  dsimp only
  (repeat' split) <;> simp

@[simp] theorem rewindTransfer_pending (s : State) : s.rewindTransfer.pending = s.pending := by
  unfold State.rewindTransfer
  (repeat' split) <;> simp

@[simp] theorem abandonAll_pending (s : State) : s.abandonAll.pending = s.pending := by simp [State.abandonAll]

@[simp] theorem resumeApply_pending (s : State) : s.resumeApply.pending = s.pending := by simp [State.resumeApply]

@[simp] theorem beginSalvage_pending (s : State) (c) : (s.beginSalvage c).pending = s.pending := by simp [State.beginSalvage]

@[simp] theorem startPeriod_pending (s : State) (old m) : (s.startPeriod old m).pending = s.pending := by
  simp [State.startPeriod]

@[simp] theorem enterMode_pending (s : State) (m cause) : (s.enterMode m cause).pending = s.pending := by
  unfold State.enterMode
  dsimp only
  (repeat' split) <;> simp

@[simp] theorem changeVault_pending (s : State) (seq f) : (s.changeVault seq f).pending = s.pending := by rfl

@[simp] theorem programSegments_pending (s : State) (r n) : (s.programSegments r n).pending = s.pending := by
  unfold State.programSegments
  split <;> simp

@[simp] theorem streamPages_pending (s : State) (r page keys) : (s.streamPages r page keys).pending = s.pending := by
  simp [State.streamPages]

@[simp] theorem cutStream_pending (s : State) : s.cutStream.pending = s.pending := by
  unfold State.cutStream
  split <;> simp

@[simp] theorem mainDieReset_pending (s : State) : s.mainDieReset.pending = s.pending := by simp [State.mainDieReset]

@[simp] theorem dropReport_pending (s : State) : s.dropReport.pending = s.pending := by rfl

@[simp] theorem enterBoot_pending (s : State) (cause) : (s.enterBoot cause).pending = s.pending := by simp [State.enterBoot]

@[simp] theorem enterVault_pending (s : State) (cause) : (s.enterVault cause).pending = s.pending := by
  simp [State.enterVault]

@[simp] theorem enterOff_pending (s : State) (cause) : (s.enterOff cause).pending = s.pending := by
  simp [State.enterOff]

@[simp] theorem startSave_pending (s : State) (kind cause) : (s.startSave kind cause).pending = s.pending := by
  simp [State.startSave]

@[simp] theorem enterFreeze_pending (s : State) (cause) : (s.enterFreeze cause).pending = s.pending := by
  simp [State.enterFreeze]

@[simp] theorem decide_pending (s : State) : s.decide.pending = s.pending := by
  unfold State.decide
  dsimp only
  (repeat' split) <;> simp

@[simp] theorem requestDecision_pending (s : State) (r) : (s.requestDecision r).pending = s.pending := by
  simp [State.requestDecision]

@[simp] theorem isolated_pending (s : State) (r block remaining) : (s.isolated r block remaining).pending = s.pending := by
  unfold State.isolated
  split <;> simp

@[simp] theorem reportSince_pending (s : State) (old : State) : (s.reportSince old).pending = s.pending := by
  simp [State.reportSince]

/-! ### Machine/Counters -/

@[simp] theorem setCounter_pending (s : State) (n c) : (s.setCounter n c).pending = s.pending := by rfl

@[simp] theorem counterSourceAct_pending (q sub value) (s : State) :
    (counterSourceAct q sub value s).1.pending = s.pending := by
  simp [counterSourceAct]

@[simp] theorem execCounterSourceWrite_goesOn (q sub value) (s : State) :
    GoesOn s.pending (execCounterSourceWrite q sub value s) := by
  simp [execCounterSourceWrite]

@[simp] theorem sampleOverflow_pending (s : State) (n overflows) : (s.sampleOverflow n overflows).pending = s.pending := by
  simp [State.sampleOverflow]

@[simp] theorem execCounterOverflow_goesOn (n) (s : State) : GoesOn s.pending (execCounterOverflow n s) := by
  simp [execCounterOverflow]

@[simp] theorem execCounterSnapshot_goesOn (q) (s : State) : GoesOn s.pending (execCounterSnapshot q s) := by
  simp [execCounterSnapshot]

@[simp] theorem loadSeeds_pending (s : State) : s.loadSeeds.pending = s.pending := by rfl

@[simp] theorem execTicketSeedWrite_goesOn (q seed) (s : State) : GoesOn s.pending (execTicketSeedWrite q seed s) := by
  simp [execTicketSeedWrite]

@[simp] theorem clearTickets_pending (s : State) : s.clearTickets.pending = s.pending := by rfl

@[simp] theorem execTicketClear_goesOn (q) (s : State) : GoesOn s.pending (execTicketClear q s) := by simp [execTicketClear]

@[simp] theorem refuseUnlock_pending (s : State) (r) : (refuseUnlock s r).1.pending = s.pending := by simp [refuseUnlock]

@[simp] theorem execPerturbationUnlock_goesOn (q unit word) (s : State) :
    GoesOn s.pending (execPerturbationUnlock q unit word s) := by
  simp [execPerturbationUnlock]

@[simp] theorem execPerturbationArm_goesOn (q) (s : State) : GoesOn s.pending (execPerturbationArm q s) := by
  simp [execPerturbationArm]

@[simp] theorem execPerturbationDisarm_goesOn (q) (s : State) : GoesOn s.pending (execPerturbationDisarm q s) := by
  simp [execPerturbationDisarm]

/-! ### Machine/Notices -/

@[simp] theorem placeNotice_pending (s : State) (n atHead q) : (s.placeNotice n atHead q).pending = s.pending := by
  simp [State.placeNotice]

@[simp] theorem noticeLost_pending (s : State) (code cause) : (s.noticeLost code cause).pending = s.pending := by
  simp [State.noticeLost]

@[simp] theorem queueMessage_pending (s : State) (code severity atHead) :
    (s.queueMessage code severity atHead).pending = s.pending := by
  unfold State.queueMessage
  (repeat' split) <;> simp

@[simp] theorem notifyNow_pending (s : State) (code) : (s.notifyNow code).pending = s.pending := by simp [State.notifyNow]

@[simp] theorem notifyRecorded_pending (s : State) (code) : (s.notifyRecorded code).pending = s.pending := by
  simp [State.notifyRecorded]

/-! ### Machine/Power -/

@[simp] theorem setPower_pending (s : State) (p) : (s.setPower p).pending = s.pending := by rfl

@[simp] theorem stopHold_pending (s : State) : s.stopHold.pending = s.pending := by rfl

@[simp] theorem railFell_pending (s : State) : s.railFell.pending = s.pending := by rfl

@[simp] theorem warnMaintenance_pending (s : State) : s.warnMaintenance.pending = s.pending := by simp [State.warnMaintenance]

@[simp] theorem arm_pending (s : State) : s.arm.pending = s.pending := by simp [State.arm]

@[simp] theorem countSignal_pending (s : State) : s.countSignal.pending = s.pending := by
  unfold State.countSignal
  dsimp only
  (repeat' split) <;> simp

@[simp] theorem execWarn_goesOn (s : State) : GoesOn s.pending (execWarn s) := by
  unfold execWarn
  dsimp only
  (repeat' split) <;> simp

@[simp] theorem commitPins_pending (s : State) (c) : (s.commitPins c).pending = s.pending := by
  unfold State.commitPins
  split <;> simp

@[simp] theorem leaveRestoring_pending (s : State) (r) : (s.leaveRestoring r).pending = s.pending := by
  simp [State.leaveRestoring]

@[simp] theorem commitInSave_pending (s : State) (r) : (s.commitInSave r).pending = s.pending := by simp [State.commitInSave]

@[simp] theorem commitInBoot_pending (s : State) (cause) : (s.commitInBoot cause).pending = s.pending := by
  simp [State.commitInBoot]

@[simp] theorem commitByMode_pending (s : State) (cause) : (s.commitByMode cause).pending = s.pending := by
  unfold State.commitByMode
  (repeat' split) <;> simp

@[simp] theorem execCommit_goesOn (source) (s : State) : GoesOn s.pending (execCommit source s) := by simp [execCommit]

@[simp] theorem disarm_pending (s : State) : s.disarm.pending = s.pending := by simp [State.disarm]

@[simp] theorem execDisarm_goesOn (s : State) : GoesOn s.pending (execDisarm s) := by simp [execDisarm]

@[simp] theorem powerReturned_pending (s : State) : s.powerReturned.pending = s.pending := by rfl

@[simp] theorem powerReturn_pending (s : State) : s.powerReturn.pending = s.pending := by
  unfold State.powerReturn
  (repeat' split) <;> simp

@[simp] theorem execPowerReturnEvent_goesOn (s : State) : GoesOn s.pending (execPowerReturnEvent s) := by
  simp [execPowerReturnEvent]

@[simp] theorem execPowerSignalChangeInSave_goesOn (s : State) : GoesOn s.pending (execPowerSignalChangeInSave s) := by
  simp [execPowerSignalChangeInSave]

@[simp] theorem releaseAfterSave_pending (s : State) : s.releaseAfterSave.pending = s.pending := by
  simp [State.releaseAfterSave]

@[simp] theorem execReleaseComparatorCrossing_goesOn (rail pwrfailHigh) (s : State) :
    GoesOn s.pending (execReleaseComparatorCrossing rail pwrfailHigh s) := by
  simp [execReleaseComparatorCrossing]

@[simp] theorem execBatselNoCurrent_goesOn (s : State) : GoesOn s.pending (execBatselNoCurrent s) := by
  simp [execBatselNoCurrent]

@[simp] theorem execMainDiePowerGood_goesOn (s : State) : GoesOn s.pending (execMainDiePowerGood s) := by
  unfold execMainDiePowerGood
  dsimp only
  (repeat' split) <;> simp

@[simp] theorem execMdPwrgdLost_goesOn (s : State) : GoesOn s.pending (execMdPwrgdLost s) := by
  unfold execMdPwrgdLost
  dsimp only
  (repeat' split) <;> simp

@[simp] theorem execCrystalFail_goesOn (s : State) : GoesOn s.pending (execCrystalFail s) := by simp [execCrystalFail]

@[simp] theorem execVsbEarlyWarning_goesOn (recovered) (s : State) : GoesOn s.pending (execVsbEarlyWarning recovered s) := by
  simp [execVsbEarlyWarning]

@[simp] theorem interruptErase_pending (s : State) : s.interruptErase.pending = s.pending := by
  unfold State.interruptErase
  split <;> simp

@[simp] theorem execPowerOnReset_goesOn (s : State) : GoesOn s.pending (execPowerOnReset s) := by simp [execPowerOnReset]

/-! ### Machine/Update -/

@[simp] theorem setBank_pending (s : State) (b x) : (s.setBank b x).pending = s.pending := by simp [State.setBank]

@[simp] theorem journalBank_pending (s : State) (b r) : (s.journalBank b r).pending = s.pending := by simp [State.journalBank]

@[simp] theorem journalProgress_pending (s : State) : s.journalProgress.pending = s.pending := by simp [State.journalProgress]

@[simp] theorem setUpdate_pending (s : State) (u) : (s.setUpdate u).pending = s.pending := by simp [State.setUpdate]

@[simp] theorem endPackage_pending (s : State) : s.endPackage.pending = s.pending := by simp [State.endPackage]

@[simp] theorem closeSignalBoxSessions_pending (s : State) : s.closeSignalBoxSessions.pending = s.pending := by rfl

@[simp] theorem proxyInternal_pending (s : State) : s.proxyInternal.pending = s.pending := by simp [State.proxyInternal]

@[simp] theorem loadItcm_pending (s : State) : s.loadItcm.pending = s.pending := by rfl

@[simp] theorem smRestart_pending (s : State) (cause) : (s.smRestart cause).pending = s.pending := by simp [State.smRestart]

@[simp] theorem toDefault_pending (s : State) (k) : (s.toDefault k).pending = s.pending := by simp [State.toDefault]

@[simp] theorem migrateOne_pending (old new) (s : State) (k) : (State.migrateOne old new s k).pending = s.pending := by
  unfold State.migrateOne
  split <;> simp

@[simp] theorem migrate_pending (s : State) (old new) : (s.migrate old new).pending = s.pending := by simp [State.migrate]

@[simp] theorem closePorterSessions_pending (s : State) : s.closePorterSessions.pending = s.pending := by
  refine foldl_pending _ (fun s a => ?_) _ _
  (repeat' split) <;> simp

@[simp] theorem runBank_pending (s : State) (old new) : (s.runBank old new).pending = s.pending := by
  simp [State.runBank]

@[simp] theorem journalActive_pending (s : State) (b trial) : (s.journalActive b trial).pending = s.pending := by
  simp [State.journalActive]

@[simp] theorem activate_pending (s : State) : s.activate.pending = s.pending := by simp [State.activate]

@[simp] theorem deferActivation_pending (s : State) (cause) : (s.deferActivation cause).pending = s.pending := by
  simp [State.deferActivation]

@[simp] theorem activateAtBoundary_pending (s : State) : s.activateAtBoundary.pending = s.pending := by
  simp [State.activateAtBoundary]

@[simp] theorem activateAtBoot_pending (s : State) : s.activateAtBoot.pending = s.pending := by simp [State.activateAtBoot]

@[simp] theorem rollBack_pending (s : State) (cause) : (s.rollBack cause).pending = s.pending := by simp [State.rollBack]

@[simp] theorem trialFails_pending (s : State) (cause) : (s.trialFails cause).pending = s.pending := by simp [State.trialFails]

@[simp] theorem refuseBlock_pending (s : State) (b r ends) : (s.refuseBlock b r ends).1.pending = s.pending := by
  simp [State.refuseBlock]

@[simp] theorem takeBlock_pending (s : State) (b) : (s.takeBlock b).pending = s.pending := by simp [State.takeBlock]

@[simp] theorem takeHeader_pending (s : State) (b) : (s.takeHeader b).pending = s.pending := by simp [State.takeHeader]

@[simp] theorem submitAct_pending (src) (s : State) : (submitAct src s).1.pending = s.pending := by
  unfold submitAct
  dsimp only
  (repeat' split) <;> simp

@[simp] theorem execBlockPart_goesOn (q bytes) (s : State) : GoesOn s.pending (execBlockPart q bytes s) := by
  simp [execBlockPart]

@[simp] theorem execSubmitBlock_goesOn (q) (s : State) : GoesOn s.pending (execSubmitBlock q s) := by simp [execSubmitBlock]

@[simp] theorem abortAct_pending (s : State) : (abortAct s).1.pending = s.pending := by
  unfold abortAct
  split <;> simp

@[simp] theorem execUpdateAbort_goesOn (q) (s : State) : GoesOn s.pending (execUpdateAbort q s) := by simp [execUpdateAbort]

@[simp] theorem applyAct_pending (s : State) : (applyAct s).1.pending = s.pending := by simp [applyAct]

@[simp] theorem execApplyPackage_goesOn (q) (s : State) : GoesOn s.pending (execApplyPackage q s) := by simp [execApplyPackage]

@[simp] theorem rejectBank_pending (s : State) (result) : (s.rejectBank result).pending = s.pending := by
  simp [State.rejectBank]

@[simp] theorem sectorApplied_pending (s : State) (sector len) : (s.sectorApplied sector len).pending = s.pending := by
  simp [State.sectorApplied]

@[simp] theorem writeSector_pending (s : State) (len bytes readBacks) :
    (s.writeSector len bytes readBacks).pending = s.pending := by
  simp [State.writeSector]

@[simp] theorem execApplySectorComplete_goesOn (readBacks) (s : State) :
    GoesOn s.pending (execApplySectorComplete readBacks s) := by
  unfold execApplySectorComplete
  (repeat' split) <;> simp

@[simp] theorem execBankVerificationComplete_goesOn (digestOk signatureOk regionsOk) (s : State) :
    GoesOn s.pending (execBankVerificationComplete digestOk signatureOk regionsOk s) := by
  simp [execBankVerificationComplete]

@[simp] theorem setDeparture_pending (s : State) (time mode) : (s.setDeparture time mode).pending = s.pending := by
  simp [State.setDeparture]

@[simp] theorem execSchedule_goesOn (q time mode) (s : State) : GoesOn s.pending (execSchedule q time mode s) := by
  simp [execSchedule]

@[simp] theorem execScheduleCancel_goesOn (q) (s : State) : GoesOn s.pending (execScheduleCancel q s) := by
  simp [execScheduleCancel]

@[simp] theorem execRollback_goesOn (q) (s : State) : GoesOn s.pending (execRollback q s) := by simp [execRollback]

@[simp] theorem execTrialConfirmation_goesOn (s : State) : GoesOn s.pending (execTrialConfirmation s) := by
  simp [execTrialConfirmation]

/-! ### Machine/Objects -/

@[simp] theorem planChanged_pending (s : State) : s.planChanged.pending = s.pending := by
  unfold State.planChanged
  split <;> simp

@[simp] theorem setPlanEntry_pending (s : State) (i cid) : (s.setPlanEntry i cid).pending = s.pending := by rfl

@[simp] theorem updateReserve_pending (s : State) : s.updateReserve.pending = s.pending := by simp [State.updateReserve]

@[simp] theorem written_pending (s : State) (k v) : (s.written k v).pending = s.pending := by simp [State.written]

@[simp] theorem setClock_pending (s : State) (t) : (s.setClock t).pending = s.pending := by simp [State.setClock]

@[simp] theorem storeScalar_pending (s : State) (o k v) : (s.storeScalar o k v).pending = s.pending := by
  simp [State.storeScalar]

@[simp] theorem writeCounter_pending (src sub v) (s : State) : (writeCounter src sub v s).1.pending = s.pending := by
  simp [writeCounter]

@[simp] theorem withStaged_pending (s : State) (xs) : (s.withStaged xs).pending = s.pending := by simp [State.withStaged]

@[simp] theorem stageAct_pending (k v) (s : State) : (stageAct k v s).1.pending = s.pending := by simp [stageAct]

@[simp] theorem setRatio_pending (s : State) (o v) : (s.setRatio o v).pending = s.pending := by simp [State.setRatio]

@[simp] theorem applyWrite_pending (src o k v) (s : State) : (applyWrite src o k v s).1.pending = s.pending := by
  simp [applyWrite]

@[simp] theorem writeAct_pending (src k v) (s : State) : (writeAct src k v s).1.pending = s.pending := by
  unfold writeAct
  split <;> simp

@[simp] theorem execObjectWrite_goesOn (q index sub value) (s : State) :
    GoesOn s.pending (execObjectWrite q index sub value s) := by
  simp [execObjectWrite]

@[simp] theorem execStagedObjectWrite_goesOn (q index sub value) (s : State) :
    GoesOn s.pending (execStagedObjectWrite q index sub value s) := by
  simp [execStagedObjectWrite]

@[simp] theorem execTimeSet_goesOn (q time) (s : State) : GoesOn s.pending (execTimeSet q time s) := by simp [execTimeSet]

@[simp] theorem execThresholdWrite_goesOn (q sub level) (s : State) : GoesOn s.pending (execThresholdWrite q sub level s) := by
  simp [execThresholdWrite]

@[simp] theorem execDividerRatioWrite_goesOn (q ratio) (s : State) : GoesOn s.pending (execDividerRatioWrite q ratio s) := by
  simp [execDividerRatioWrite]

@[simp] theorem execSaveCeilingMaxWrite_goesOn (q size) (s : State) : GoesOn s.pending (execSaveCeilingMaxWrite q size s) := by
  simp [execSaveCeilingMaxWrite]

@[simp] theorem compareAct_pending (src k payload) (s : State) : (compareAct src k payload s).1.pending = s.pending := by
  unfold compareAct
  split <;> simp

@[simp] theorem execCompareWrite_goesOn (q index sub payload) (s : State) :
    GoesOn s.pending (execCompareWrite q index sub payload s) := by
  simp [execCompareWrite]

@[simp] theorem execReadStaged_goesOn (q index sub) (s : State) : GoesOn s.pending (execReadStaged q index sub s) := by
  refine runReq_goesOn _ _ _ _ _ _ _ _ (fun t => ?_)
  (repeat' split) <;> simp

@[simp] theorem endCommitted_pending (s : State) : s.endCommitted.pending = s.pending := by rfl

@[simp] theorem applyCommitted_pending (s : State) (atBoot) : (s.applyCommitted atBoot).pending = s.pending := by
  unfold State.applyCommitted
  dsimp only
  (repeat' split) <;> simp

@[simp] theorem applyAtBoundary_pending (s : State) : s.applyAtBoundary.pending = s.pending := by simp [State.applyAtBoundary]

@[simp] theorem applyAtBoot_pending (s : State) : s.applyAtBoot.pending = s.pending := by simp [State.applyAtBoot]

@[simp] theorem execDiscardStaged_goesOn (q) (s : State) : GoesOn s.pending (execDiscardStaged q s) := by
  simp [execDiscardStaged]

/-! ### Machine/Flash -/

@[simp] theorem setBlock_pending (s : State) (k b) : (s.setBlock k b).pending = s.pending := by rfl

@[simp] theorem checkGc_pending (s : State) : s.checkGc.pending = s.pending := by simp [State.checkGc]

@[simp] theorem recomputeBacking_pending (s : State) : s.recomputeBacking.pending = s.pending := by
  simp [State.recomputeBacking]

@[simp] theorem programIn_pending (s : State) (stream name c) : (s.programIn stream name c).pending = s.pending := by
  simp [State.programIn]

@[simp] theorem program_pending (s : State) (name c) : (s.program name c).pending = s.pending := by simp [State.program]

@[simp] theorem nextWseq_pending (s : State) : s.nextWseq.pending = s.pending := by rfl

@[simp] theorem moveCopy_pending (s : State) (b e) : (s.moveCopy b e).pending = s.pending := by simp [State.moveCopy]

@[simp] theorem relocate_pending (s : State) (k) : (s.relocate k).pending = s.pending := by simp [State.relocate]

@[simp] theorem loseSlots_pending (s : State) (n) : (s.loseSlots n).pending = s.pending := by simp [State.loseSlots]

@[simp] theorem loseCopy_pending (s : State) (name) : (s.loseCopy name).pending = s.pending := by simp [State.loseCopy]

@[simp] theorem loseBoth_pending (s : State) (c) : (s.loseBoth c).pending = s.pending := by simp [State.loseBoth]

@[simp] theorem channelOut_pending (s : State) (c cause) : (s.channelOut c cause).pending = s.pending := by
  simp [State.channelOut]

@[simp] theorem retireDie_pending (s : State) (c die) : (s.retireDie c die).pending = s.pending := by simp [State.retireDie]

@[simp] theorem retireBlock_pending (s : State) (c die k code) : (s.retireBlock c die k code).pending = s.pending := by
  simp [State.retireBlock]

@[simp] theorem checkWear_pending (s : State) : s.checkWear.pending = s.pending := by simp [State.checkWear]

@[simp] theorem stripeUnit_pending (s : State) (g stream) : (s.stripeUnit g stream).pending = s.pending := by
  simp [State.stripeUnit]

@[simp] theorem programSnap_pending (s : State) : s.programSnap.pending = s.pending := by
  unfold State.programSnap
  dsimp only
  (repeat' split) <;> simp

@[simp] theorem snapMove_pending (s : State) (ps) : (s.snapMove ps).pending = s.pending := by simp [State.snapMove]

@[simp] theorem execFlashProgramComplete_goesOn (c die block bytes ok) (s : State) (pairings stream) :
    GoesOn s.pending (execFlashProgramComplete c die block bytes ok s pairings stream) := by
  simp [execFlashProgramComplete]

@[simp] theorem execFlashEraseComplete_goesOn (c die block ok) (s : State) :
    GoesOn s.pending (execFlashEraseComplete c die block ok s) := by
  simp [execFlashEraseComplete]

@[simp] theorem execStripeCloseTimeout_goesOn (group) (s : State) (stream) :
    GoesOn s.pending (execStripeCloseTimeout group s stream) := by
  simp [execStripeCloseTimeout]

@[simp] theorem execLunTimeout_goesOn (c die) (s : State) : GoesOn s.pending (execLunTimeout c die s) := by
  simp [execLunTimeout]

@[simp] theorem execChannelStatusTimeout_goesOn (c) (s : State) : GoesOn s.pending (execChannelStatusTimeout c s) := by
  simp [execChannelStatusTimeout]

@[simp] theorem execFlashZqShortDue_goesOn (c) (s : State) : GoesOn s.pending (execFlashZqShortDue c s) := by
  simp [execFlashZqShortDue]

@[simp] theorem endConversion_pending (s : State) : s.endConversion.pending = s.pending := by
  unfold State.endConversion
  split <;> simp

@[simp] theorem execBackingRecompute_goesOn (s : State) : GoesOn s.pending (execBackingRecompute s) := by
  simp [execBackingRecompute]

@[simp] theorem execGcRelocation_goesOn (block) (s : State) (bad) : GoesOn s.pending (execGcRelocation block s bad) := by
  simp [execGcRelocation]

@[simp] theorem execFlashReturnChannel_goesOn (q c) (s : State) : GoesOn s.pending (execFlashReturnChannel q c s) := by
  simp [execFlashReturnChannel]

@[simp] theorem execSaveSlotErase_goesOn (s : State) : GoesOn s.pending (execSaveSlotErase s) := by
  refine await_goesOn _ _ _ _ ?_
  dsimp only
  (repeat' split) <;> simp

@[simp] theorem execStripeRebuildComplete_goesOn (c) (s : State) : GoesOn s.pending (execStripeRebuildComplete c s) := by
  simp [execStripeRebuildComplete]

/-! ### Machine/Dram -/

@[simp] theorem setTally_pending (s : State) (c sub t) : (s.setTally c sub t).pending = s.pending := by rfl

@[simp] theorem logFreeze_pending (s : State) (c more) : (s.logFreeze c more).pending = s.pending := by simp [State.logFreeze]

@[simp] theorem salvaged_pending (s : State) (c) : (s.salvaged c).pending = s.pending := by
  unfold State.salvaged
  split <;> simp

@[simp] theorem freezeMc_pending (s : State) (c cause) : (s.freezeMc c cause).pending = s.pending := by simp [State.freezeMc]

@[simp] theorem loseEntries_pending (s : State) (k line) : (s.loseEntries k line).pending = s.pending := by
  simp [State.loseEntries]

@[simp] theorem loseRoot_pending (s : State) (cid line) : (s.loseRoot cid line).pending = s.pending := by simp [State.loseRoot]

@[simp] theorem loseSeals_pending (s : State) (k line) : (s.loseSeals k line).pending = s.pending := by simp [State.loseSeals]

@[simp] theorem damageCarriage_pending (s : State) (cid) : (s.damageCarriage cid).pending = s.pending := by
  simp [State.damageCarriage]

@[simp] theorem loseRecords_pending (s : State) (cid first) : (s.loseRecords cid first).pending = s.pending := by
  simp [State.loseRecords]

@[simp] theorem loseAuxLine_pending (s : State) (line) : (s.loseAuxLine line).pending = s.pending := by simp [State.loseAuxLine]

/- The definition's body stands in for its name through an equation of the functions: the kernel would evaluate the match to compare it with
the application. -/
@[simp] theorem loseTableLine_pending (s : State) (f line) : (s.loseTableLine f line).pending = s.pending := by
  obtain ⟨g, e⟩ : ∃ g, @State.loseTableLine = g := ⟨_, rfl⟩
  rw [e]
  delta State.loseTableLine at e
  have e := congrFun₃ e s f line
  beta_reduce at e
  rw [← e]
  generalize s.pageOfTable f = o
  (repeat' split) <;> simp

/-- `loseTableLine` as some function that keeps the queue: what it does to a table is not evaluated where a proof uses this. -/
theorem loseTableLine_opaque : ∃ g, @State.loseTableLine = g ∧ ∀ s f line, (g s f line).pending = s.pending :=
  ⟨_, rfl, loseTableLine_pending⟩

@[simp] theorem addError_pending (s : State) (c kind source device f line) :
    (s.addError c kind source device f line).pending = s.pending := by
  rfl

@[simp] theorem markDevice_pending (s : State) (c p d) : (s.markDevice c p d).pending = s.pending := by simp [State.markDevice]

@[simp] theorem bankStorm_pending (s : State) (c bank) : (s.bankStorm c bank).pending = s.pending := by simp [State.bankStorm]

@[simp] theorem correctedLine_pending (s : State) (f line source d) :
    (s.correctedLine f line source d).pending = s.pending := by
  simp [State.correctedLine]

@[simp] theorem markFailed_pending (s : State) (f line) : (s.markFailed f line).pending = s.pending := by
  obtain ⟨g, e, hg⟩ := loseTableLine_opaque
  simp [State.markFailed, e, hg]

@[simp] theorem freezeFor_pending (s : State) (f line cause) : (s.freezeFor f line cause).pending = s.pending := by
  obtain ⟨g, e, hg⟩ : ∃ g, @State.markFailed = g ∧ ∀ s f line, (g s f line).pending = s.pending := ⟨_, rfl, markFailed_pending⟩
  simp [State.freezeFor, e, hg]

@[simp] theorem uncorrectableLine_pending (s : State) (f line source) :
    (s.uncorrectableLine f line source).pending = s.pending := by
  simp [State.uncorrectableLine]

@[simp] theorem addressError_pending (s : State) (f line source) : (s.addressError f line source).pending = s.pending := by
  simp [State.addressError]

@[simp] theorem decoded_pending (s : State) (f line source) (again : State → State) (d) (h : (again s).pending = s.pending) :
    (s.decoded f line source again d).pending = s.pending := by
  cases d <;> simp [State.decoded, h]

theorem execDramReadDecode_goesOn (frame line source first second) (s : State) (h : frame.toNat < s.framesPopulated) :
    GoesOn s.pending (execDramReadDecode frame line source first second s) := by
  simp [execDramReadDecode, Nat.not_le.2 h]

@[simp] theorem execDramAlert_goesOn (c) (s : State) (held) : GoesOn s.pending (execDramAlert c s held) := by
  unfold execDramAlert
  dsimp only
  (repeat' split) <;> simp

@[simp] theorem execRefreshDue_goesOn (c bank) (s : State) : GoesOn s.pending (execRefreshDue c bank s) := by
  simp [execRefreshDue]

@[simp] theorem execRefreshDeadlineMiss_goesOn (c _bank) (s : State) :
    GoesOn s.pending (execRefreshDeadlineMiss c _bank s) := by
  simp [execRefreshDeadlineMiss]

@[simp] theorem execMr4Poll_goesOn (c rank mr4) (s : State) : GoesOn s.pending (execMr4Poll c rank mr4 s) := by
  simp [execMr4Poll]

@[simp] theorem checkFallback_pending (s : State) (c sub) : (s.checkFallback c sub).pending = s.pending := by
  simp [State.checkFallback]

@[simp] theorem activateRow_pending (s : State) (c sub rank bank row) :
    (s.activateRow c sub rank bank row).pending = s.pending := by
  simp [State.activateRow]

@[simp] theorem refreshAround_pending (s : State) (c sub rank bank row) :
    (s.refreshAround c sub rank bank row).pending = s.pending := by
  simp [State.refreshAround]

@[simp] theorem refreshRows_pending (c sub rank bank n rows) (s : State) :
    (State.refreshRows c sub rank bank n rows s).pending = s.pending := by
  induction n generalizing rows s with
  | zero => rfl
  | succ n ih =>
    cases rows with
    | nil => rfl
    | cons r rs =>
      unfold State.refreshRows
      split
      · rw [ih, refreshAround_pending]
      · simp [ih]

@[simp] theorem neighbours_pending (s : State) (c sub rank bank row) :
    (s.neighbours c sub rank bank row).pending = s.pending := by
  simp [State.neighbours]

@[simp] theorem execPanicPacket_goesOn (p raised) (s : State) : GoesOn s.pending (execPanicPacket p raised s) := by
  have h (t : State) (e : Nat × Chan) : (e.2.tallies.foldl (fun t y =>
      (y.2.entries.filter (fun r => y.2.threshold ≤ r.count)).foldl (fun t r => t.neighbours e.1 y.1 r.rank r.bank r.row) t) t).pending
      = t.pending :=
    foldl_pending _ (fun t y => foldl_pending _ (fun t r => neighbours_pending t ..) _ t) _ t
  simp [execPanicPacket, foldl_pending _ h]

@[simp] theorem execActivateTallyUpdate_goesOn (c subch rank bank row) (s : State) :
    GoesOn s.pending (execActivateTallyUpdate c subch rank bank row s) := by
  simp [execActivateTallyUpdate]

@[simp] theorem execTallyWindowEnd_goesOn (c subch) (s : State) : GoesOn s.pending (execTallyWindowEnd c subch s) := by
  simp [execTallyWindowEnd]

@[simp] theorem execClosePageTimeout_goesOn (c bank) (s : State) : GoesOn s.pending (execClosePageTimeout c bank s) := by
  simp [execClosePageTimeout]

@[simp] theorem execZqCalibrationDue_goesOn (c) (s : State) : GoesOn s.pending (execZqCalibrationDue c s) := by
  simp [execZqCalibrationDue]

@[simp] theorem execDqsOscillatorRead_goesOn (c rank drift) (s : State) :
    GoesOn s.pending (execDqsOscillatorRead c rank drift s) := by
  simp [execDqsOscillatorRead]

@[simp] theorem scrubCorrected_pending (s : State) (c rank) : (s.scrubCorrected c rank).pending = s.pending := by
  simp [State.scrubCorrected]

@[simp] theorem scrubPassEnds_pending (s : State) (c ecs) : (s.scrubPassEnds c ecs).pending = s.pending := by
  simp [State.scrubPassEnds]

@[simp] theorem execPatrolScrubRead_goesOn (c result) (s : State) (ecs) :
    GoesOn s.pending (execPatrolScrubRead c result s ecs) := by
  unfold execPatrolScrubRead
  split <;> simp

@[simp] theorem execFreezeChannel_goesOn (q c) (s : State) : GoesOn s.pending (execFreezeChannel q c s) := by
  simp [execFreezeChannel]

@[simp] theorem execDramReturnChannel_goesOn (q c) (s : State) : GoesOn s.pending (execDramReturnChannel q c s) := by
  simp [execDramReturnChannel]

@[simp] theorem execForceFullTraining_goesOn (q) (s : State) : GoesOn s.pending (execForceFullTraining q s) := by
  simp [execForceFullTraining]

@[simp] theorem loseChanged_pending (s : State) (c) : (s.loseChanged c).pending = s.pending := by simp [State.loseChanged]

@[simp] theorem moveAux_pending (s : State) (n) : (s.moveAux n).pending = s.pending := by
  unfold State.moveAux
  split <;> simp

@[simp] theorem moveTablePage_pending (s : State) (i) : (s.moveTablePage i).pending = s.pending := by
  unfold State.moveTablePage
  split <;> simp

@[simp] theorem moveNodes_pending (s : State) (c) : (s.moveNodes c).pending = s.pending := by
  unfold State.moveNodes
  simp only [moveAux_pending, moveNode_pending, foldl_pending, implies_true]
  rw [foldl_pending]
  · simp
  · intro s e
    split <;> simp

@[simp] theorem poisonChannel_pending (s : State) (c) : (s.poisonChannel c).pending = s.pending := by simp [State.poisonChannel]

@[simp] theorem execSalvageInitComplete_goesOn (c) (s : State) : GoesOn s.pending (execSalvageInitComplete c s) := by
  obtain ⟨g, e⟩ : ∃ g, @State.framesPerChannel = g := ⟨_, rfl⟩
  unfold execSalvageInitComplete
  rw [e]
  dsimp only
  (repeat' split) <;> simp

@[simp] theorem execSalvageInitTimeout_goesOn (c) (s : State) : GoesOn s.pending (execSalvageInitTimeout c s) := by
  unfold execSalvageInitTimeout
  dsimp only
  (repeat' split) <;> simp

theorem takeFrameForMove_pending {s t : State} {f : Nat} (h : s.takeFrameForMove = some (f, t)) : t.pending = s.pending := by
  unfold State.takeFrameForMove at h
  split at h
  next e => cases h; exact takeFrame_pending e
  next =>
    split at h
    · simpa using takeFrame_pending h
    · cases h

@[simp] theorem moveResidue_pending (failed) (s : State) (key) : (State.moveResidue failed s key).pending = s.pending := by
  unfold State.moveResidue
  dsimp only
  split
  next h => simp [takeFrameForMove_pending h]
  next => simp

@[simp] theorem moveSnap_pending (failed c) (s : State) (e) : (State.moveSnap failed c s e).pending = s.pending := by
  refine foldl_pending _ (fun s r => ?_) _ _
  split
  · split
    · split
      next h => simp [takeFrameForMove_pending h]
      next => simp
    · rfl
  all_goals rfl

@[simp] theorem moveTables_pending (s : State) (c failed) : (s.moveTables c failed).pending = s.pending := by
  obtain ⟨g, e, hg⟩ := loseTableLine_opaque
  simp [State.moveTables, e, hg]

@[simp] theorem sweepChannel_pending (s : State) (c) : (s.sweepChannel c).pending = s.pending := by simp [State.sweepChannel]

@[simp] theorem execThawPassComplete_goesOn (c failedLines) (s : State) : GoesOn s.pending (execThawPassComplete c failedLines s) := by
  obtain ⟨g, e⟩ : ∃ g, @State.framesPerChannel = g := ⟨_, rfl⟩
  simp [execThawPassComplete, e]

/-! ### Machine/Logbook -/

@[simp] theorem checkSeqMark_pending (s : State) : s.checkSeqMark.pending = s.pending := by
  unfold State.checkSeqMark
  extract_lets m
  split
  · rw [record_pending, put_pending]
  · rfl

@[simp] theorem skipSeq_pending (s : State) : s.skipSeq.pending = s.pending := by
  unfold State.skipSeq
  extract_lets m
  rw [record_pending, put_pending]

@[simp] theorem setCxlLogs_pending (s : State) (ld c) : (s.setCxlLogs ld c).pending = s.pending := by rfl

@[simp] theorem setMail_pending (s : State) (ld m) : (s.setMail ld m).pending = s.pending := by rfl

@[simp] theorem deliverTo_pending (s : State) (r ld) : (s.deliverTo r ld).pending = s.pending := by simp [State.deliverTo]

@[simp] theorem deliver_pending (s : State) (o r) : (s.deliver o r).pending = s.pending := by simp [State.deliver]

@[simp] theorem dropRecord_pending (s : State) (code) : (s.dropRecord code).pending = s.pending := by simp [State.dropRecord]

@[simp] theorem recordRing_pending (s : State) (o) : (s.recordRing o).pending = s.pending := by
  unfold State.recordRing
  split <;> simp

@[simp] theorem recordMain_pending (s : State) (o) : (s.recordMain o).pending = s.pending := by
  unfold State.recordMain
  split <;> simp

@[simp] theorem recordOccurrence_pending (s : State) (o) : (s.recordOccurrence o).pending = s.pending := by
  simp [State.recordOccurrence]

@[simp] theorem execLogbookRecord_goesOn (s : State) : GoesOn s.pending (execLogbookRecord s) := by
  refine await_goesOn _ _ _ _ ?_
  dsimp only
  (repeat' split) <;> simp

@[simp] theorem reclaimSummary_pending (s : State) : s.reclaimSummary.pending = s.pending := by
  unfold State.reclaimSummary
  dsimp only
  (repeat' split) <;> simp

@[simp] theorem mirrorRec_pending (s : State) (r) : (s.mirrorRec r).pending = s.pending := by simp [State.mirrorRec]

@[simp] theorem execLogbookMirror_goesOn (s : State) : GoesOn s.pending (execLogbookMirror s) := by simp [execLogbookMirror]

@[simp] theorem clearFatalAct_pending (seq) (s : State) : (clearFatalAct seq s).1.pending = s.pending := by simp [clearFatalAct]

@[simp] theorem execClearFatal_goesOn (q seq) (s : State) : GoesOn s.pending (execClearFatal q seq s) := by
  simp [execClearFatal]

@[simp] theorem passRecord_pending (s : State) (x) : (s.passRecord x).pending = s.pending := by simp [State.passRecord]

@[simp] theorem passRing_pending (s : State) : s.passRing.pending = s.pending := by simp [State.passRing]

@[simp] theorem rebuildLog_pending (s : State) (vault) : (s.rebuildLog vault).pending = s.pending := by simp [State.rebuildLog]

/-! ### Machine/Receive -/

@[simp] theorem drawTicket_pending (s : State) (ld dpa isWrite) : (s.drawTicket ld dpa isWrite).pending = s.pending := by
  simp [State.drawTicket]

@[simp] theorem cacheFaultAt_pending (s : State) (ld dpa) : (s.cacheFaultAt ld dpa).pending = s.pending := by
  unfold State.cacheFaultAt
  split <;> simp

@[simp] theorem readUnder_pending (s : State) (ld dpa x) : (s.readUnder ld dpa x).pending = s.pending := by
  unfold State.readUnder
  split <;> simp

@[simp] theorem writeUnder_pending (s : State) (ld dpa d x) : (s.writeUnder ld dpa d x).pending = s.pending := by
  unfold State.writeUnder
  split <;> simp

@[simp] theorem serveMessage_pending (s : State) (m) : (s.serveMessage m).pending = s.pending := by
  unfold State.serveMessage
  split <;> simp

@[simp] theorem receive_pending (s : State) (m) : (s.receive m).pending = s.pending := by simp [State.receive]

@[simp] theorem verifyNext_pending (p n) (s : State) : (State.verifyNext p n s).pending = s.pending := by
  induction n generalizing s with
  | zero => rfl
  | succ n ih =>
    unfold State.verifyNext
    split
    · rfl
    · simp [ih]

@[simp] theorem verify_pending (s : State) (p) : (s.verify p).pending = s.pending := by simp [State.verify]

@[simp] theorem dropUnverified_pending (s : State) (p) : (s.dropUnverified p).pending = s.pending := by
  simp [State.dropUnverified]

@[simp] theorem verified_pending (s : State) : s.verified.pending = s.pending := by simp [State.verified]

/-! ### Machine/Save -/

@[simp] theorem placePage_pending (s : State) (key f im) : (s.placePage key f im).pending = s.pending := by
  simp [State.placePage]

@[simp] theorem leaveVault_pending (s : State) (key) : (s.leaveVault key).pending = s.pending := by simp [State.leaveVault]

@[simp] theorem fetchInto_pending (s : State) (key f) : (s.fetchInto key f).pending = s.pending := by simp [State.fetchInto]

@[simp] theorem sealFails_pending (s : State) (key) : (s.sealFails key).pending = s.pending := by simp [State.sealFails]

@[simp] theorem fetchChecked_pending (s : State) (key f) : (s.fetchChecked key f).pending = s.pending := by
  simp [State.fetchChecked]

@[simp] theorem arrivedPoisoned_pending (s : State) (key line) : (s.arrivedPoisoned key line).pending = s.pending := by
  simp [State.arrivedPoisoned]

@[simp] theorem moveEnds_pending (s : State) (key o) (arrive : State → State) (h : ∀ t, (arrive t).pending = t.pending) :
    (s.moveEnds key o arrive).pending = s.pending := by
  cases o <;> simp [State.moveEnds, h]

@[simp] theorem moveIn_pending (s : State) (o key f) : (s.moveIn o key f).pending = s.pending := by simp [State.moveIn]

@[simp] theorem fetchDepotInto_pending (s : State) (i f) : (s.fetchDepotInto i f).pending = s.pending := by
  simp [State.fetchDepotInto]

@[simp] theorem fetchDepotChecked_pending (s : State) (i f) : (s.fetchDepotChecked i f).pending = s.pending := by
  simp [State.fetchDepotChecked]

@[simp] theorem depotFails_pending (s : State) (i code) : (s.depotFails i code).pending = s.pending := by
  simp [State.depotFails]

@[simp] theorem depotEnds_pending (s : State) (i o) (arrive : State → State) (h : ∀ t, (arrive t).pending = t.pending) :
    (s.depotEnds i o arrive).pending = s.pending := by
  cases o <;> simp [State.depotEnds, h]

@[simp] theorem depotMoveIn_pending (s : State) (o i f) : (s.depotMoveIn o i f).pending = s.pending := by
  simp [State.depotMoveIn]

@[simp] theorem salvageDepot_pending (s : State) (i) : (s.salvageDepot i).pending = s.pending := by
  unfold State.salvageDepot
  dsimp only
  split
  · split
    next h => simp [takeFrameForMove_pending h]
    next => rfl
  · rfl

@[simp] theorem drainFetch_pending (faults) (s : State) (key) : (State.drainFetch faults s key).pending = s.pending := by
  unfold State.drainFetch
  dsimp only
  split
  · split
    next h => simp [takeFrameForMove_pending h]
    next => rfl
  · split
    · split
      next h => simp [takeFrameForMove_pending h]
      next => rfl
    · simp

@[simp] theorem drainWrite_pending (faults) (s : State) (w) : (State.drainWrite faults s w).pending = s.pending := by
  simp [State.drainWrite]

@[simp] theorem drain_pending (faults) (s : State) : (State.drain faults s).pending = s.pending := by simp [State.drain]

@[simp] theorem salvageChannel_pending (s : State) (c) : (s.salvageChannel c).pending = s.pending := by
  obtain ⟨g, e, hg⟩ := loseTableLine_opaque
  unfold State.salvageChannel
  rw [e]
  dsimp only
  (repeat' split) <;> simp [hg]

@[simp] theorem setRun_pending (s : State) (r) : (s.setRun r).pending = s.pending := by rfl

@[simp] theorem saveStep_goesOn (s : State) (n) (f : SaveRun → State → State) (h : ∀ r, GoesOn s.pending (.next (f r s))) :
    GoesOn s.pending (s.saveStep n f) := by
  unfold State.saveStep
  split
  · split
    · exact h _
    · simp
  · simp

@[simp] theorem execSaveDrainComplete_goesOn (s : State) (faults) : GoesOn s.pending (execSaveDrainComplete s faults) := by
  refine saveStep_goesOn _ _ _ (fun r => ?_)
  dsimp only
  (repeat' split) <;> simp

@[simp] theorem execSaveHeaderProgrammed_goesOn (s : State) : GoesOn s.pending (execSaveHeaderProgrammed s) := by
  simp [execSaveHeaderProgrammed]

@[simp] theorem carryTables_pending (s : State) (r records objects) :
    (s.carryTables r records objects).pending = s.pending := by
  unfold State.carryTables
  (repeat' split) <;> simp

@[simp] theorem execSaveMetadataProgrammed_goesOn (s : State) : GoesOn s.pending (execSaveMetadataProgrammed s) := by
  simp [execSaveMetadataProgrammed]

@[simp] theorem reportSalvage_pending (s : State) (seq) : (s.reportSalvage seq).pending = s.pending := by
  refine foldl_pending _ (fun s a => ?_) _ _
  dsimp only
  (repeat' split) <;> simp

@[simp] theorem execSaveStreamProgrammed_goesOn (s : State) (faults) :
    GoesOn s.pending (execSaveStreamProgrammed s faults) := by
  simp [execSaveStreamProgrammed]

@[simp] theorem execSaveLogProgrammed_goesOn (s : State) : GoesOn s.pending (execSaveLogProgrammed s) := by
  simp [execSaveLogProgrammed]

@[simp] theorem vaultInvoke_pending (s : State) : s.vaultInvoke.pending = s.pending := by simp [State.vaultInvoke]

@[simp] theorem reportVault_pending (s : State) (v duration) : (s.reportVault v duration).pending = s.pending := by
  simp [State.reportVault]

@[simp] theorem endSalvage_pending (s : State) (c) : (s.endSalvage c).pending = s.pending := by simp [State.endSalvage]

/- The counter of the vault context is compared with a bound near 2^20; the next state is a variable below, so that the kernel does not
evaluate the comparison. -/
@[simp] theorem execSealComplete_goesOn (copy1 copy2 energy) (s : State) :
    GoesOn s.pending (execSealComplete copy1 copy2 energy s) := by
  refine saveStep_goesOn _ _ _ (fun r => ?_)
  obtain ⟨t, e, ht⟩ : ∃ t, s.vaultInvoke = t ∧ t.pending = s.pending := ⟨_, rfl, vaultInvoke_pending s⟩
  rw [e]
  dsimp only
  split <;> simp [ht]

@[simp] theorem applyReset_pending (s : State) : s.applyReset.pending = s.pending := by simp [State.applyReset]

@[simp] theorem leaveSave_pending (s : State) (r) : (s.leaveSave r).pending = s.pending := by simp [State.leaveSave]

@[simp] theorem execVaultRecordComplete_goesOn (s : State) : GoesOn s.pending (execVaultRecordComplete s) := by
  refine saveStep_goesOn _ _ _ (fun r => ?_)
  dsimp only
  (repeat' split) <;> simp

/-! ### Machine/Restore -/

@[simp] theorem openPort_pending (s : State) (p) : (s.openPort p).pending = s.pending := by simp [State.openPort]

@[simp] theorem openMem_pending (s : State) : s.openMem.pending = s.pending := by simp [State.openMem]

@[simp] theorem firstPlan_pending (s : State) : s.firstPlan.pending = s.pending := by simp [State.firstPlan]

@[simp] theorem enterService_pending (s : State) (cause) : (s.enterService cause).pending = s.pending := by
  simp [State.enterService]

@[simp] theorem readSeals_pending (s : State) (copy1 copy2 header metaMark unreadable) :
    (s.readSeals copy1 copy2 header metaMark unreadable).pending = s.pending := by
  unfold State.readSeals
  split <;> simp

@[simp] theorem loadImage_pending (s : State) : s.loadImage.pending = s.pending := by rfl

@[simp] theorem deriveKeys_pending (s : State) : s.deriveKeys.pending = s.pending := by simp [State.deriveKeys]

@[simp] theorem discardDram_pending (s : State) : s.discardDram.pending = s.pending := by rfl

@[simp] theorem initChannel_pending (s : State) (c) : (s.initChannel c).pending = s.pending := by
  unfold State.initChannel
  dsimp only
  (repeat' split) <;> simp

@[simp] theorem startRestore_pending (s : State) (v cls cause warm) :
    (s.startRestore v cls cause warm).pending = s.pending := by
  simp [State.startRestore]

@[simp] theorem mapVaultPage_pending (seq) (s : State) (e) : (State.mapVaultPage seq s e).pending = s.pending := by
  simp [State.mapVaultPage]

@[simp] theorem mapParentPage_pending (s : State) (e) : (s.mapParentPage e).pending = s.pending := by
  unfold State.mapParentPage
  (repeat' split) <;> simp

@[simp] theorem loseLeaf_pending (s : State) (key) : (s.loseLeaf key).pending = s.pending := by simp [State.loseLeaf]

@[simp] theorem loseNode_pending (s : State) (k) : (s.loseNode k).pending = s.pending := by simp [State.loseNode]

@[simp] theorem loadObjects_pending (s : State) (objects) : (s.loadObjects objects).pending = s.pending := by
  simp [State.loadObjects]

@[simp] theorem loadVault_pending (s : State) (v) : (s.loadVault v).pending = s.pending := by simp [State.loadVault]

@[simp] theorem normalise_pending (s : State) (e) : (s.normalise e).pending = s.pending := by
  unfold State.normalise
  split <;> simp

@[simp] theorem rollCarriages_pending (s : State) (v cls) : (s.rollCarriages v cls).pending = s.pending := by
  simp [State.rollCarriages]

@[simp] theorem admitEarly_pending (s : State) : s.admitEarly.pending = s.pending := by simp [State.admitEarly]

@[simp] theorem finishRestore_pending (s : State) : s.finishRestore.pending = s.pending := by
  simp [State.finishRestore]

@[simp] theorem reportOutcomes_pending (s : State) (cls) : (s.reportOutcomes cls).pending = s.pending := by
  simp [State.reportOutcomes]

@[simp] theorem endPhase_pending (s : State) (v) : (s.endPhase v).pending = s.pending := by simp [State.endPhase]

@[simp] theorem metaDone_pending (s : State) : s.metaDone.pending = s.pending := by rfl

@[simp] theorem coldTables_pending (s : State) (v cls) : (s.coldTables v cls).pending = s.pending := by simp [State.coldTables]

@[simp] theorem keepOutcomes_pending (s : State) (old) : (s.keepOutcomes old).pending = s.pending := by
  simp [State.keepOutcomes]

@[simp] theorem coldPhase_pending (s : State) (v cls) : (s.coldPhase v cls).pending = s.pending := by simp [State.coldPhase]

@[simp] theorem warmPhase_pending (s : State) (v) : (s.warmPhase v).pending = s.pending := by simp [State.warmPhase]

@[simp] theorem execRestoreMetadataPhaseComplete_goesOn (s : State) :
    GoesOn s.pending (execRestoreMetadataPhaseComplete s) := by
  refine await_goesOn _ _ _ _ ?_
  (repeat' split) <;> simp

@[simp] theorem backgroundFetch_pending (faults) (s : State) (key) : (State.backgroundFetch faults s key).pending = s.pending := by
  unfold State.backgroundFetch
  dsimp only
  split
  · rfl
  · split
    · split
      next h => simp [takeFrameForMove_pending h]
      next => rfl
    · split
      · rfl
      · split
        next h => simp [takeFrame_pending h]
        next => rfl

@[simp] theorem fetchItems_pending (s : State) (faults todo) : (s.fetchItems faults todo).pending = s.pending := by
  simp [State.fetchItems]

@[simp] theorem execRestoreComplete_goesOn (unreadable) (s : State) (faults) :
    GoesOn s.pending (execRestoreComplete unreadable s faults) := by
  simp [execRestoreComplete]

@[simp] theorem execRestoreCheckpointDue_goesOn (step planPosition segment) (s : State) :
    GoesOn s.pending (execRestoreCheckpointDue step planPosition segment s) := by
  simp [execRestoreCheckpointDue]

@[simp] theorem releaseVault_pending (s : State) (v) : (s.releaseVault v).pending = s.pending := by simp [State.releaseVault]

@[simp] theorem releaseChain_pending (s : State) : s.releaseChain.pending = s.pending := by
  unfold State.releaseChain
  split
  · simp only [note_pending, put_pending, putFlag_pending]
    exact foldl_pending _ releaseVault_pending _ s
  · rfl

@[simp] theorem releaseOlder_pending (s : State) : s.releaseOlder.pending = s.pending := by
  unfold State.releaseOlder
  split <;> simp

@[simp] theorem retrainPorts_pending (s : State) : s.retrainPorts.pending = s.pending := by simp [State.retrainPorts]

@[simp] theorem execSaveThenRestoreEntry_goesOn (s : State) : GoesOn s.pending (execSaveThenRestoreEntry s) := by
  unfold execSaveThenRestoreEntry
  (repeat' split) <;> simp

@[simp] theorem execPlanLoad_goesOn (q first ids) (s : State) : GoesOn s.pending (execPlanLoad q first ids s) := by
  simp [execPlanLoad]

@[simp] theorem execClearOutcomes_goesOn (q) (s : State) : GoesOn s.pending (execClearOutcomes q s) := by
  simp [execClearOutcomes]

/-! ### Machine/Boot -/

@[simp] theorem reach'_pending (s : State) (n) : (s.reach' n).pending = s.pending := by rfl

@[simp] theorem bootStep_goesOn (s : State) (n) (f : State → State) (h : (f s).pending = s.pending) :
    GoesOn s.pending (s.bootStep n f) := by
  unfold State.bootStep; split <;> simp [h]

@[simp] theorem bootFailUpdate_pending (s : State) (step) : (s.bootFailUpdate step).pending = s.pending := by
  simp [State.bootFailUpdate]

@[simp] theorem bootFail_pending (s : State) (step cause) : (s.bootFail step cause).pending = s.pending := by
  simp [State.bootFail]

@[simp] theorem execBootStepTimeout_goesOn (step) (s : State) : GoesOn s.pending (execBootStepTimeout step s) := by
  simp [execBootStepTimeout]

@[simp] theorem startAttempt_pending (s : State) : s.startAttempt.pending = s.pending := by simp [State.startAttempt]

@[simp] theorem execBootRetryDelayExpiry_goesOn (s : State) : GoesOn s.pending (execBootRetryDelayExpiry s) := by
  simp [execBootRetryDelayExpiry]

@[simp] theorem startSeq_pending (s : State) : s.startSeq.pending = s.pending := by
  unfold State.startSeq
  split <;> simp

@[simp] theorem execBootStart_goesOn (mainDieTemp) (s : State) : GoesOn s.pending (execBootStart mainDieTemp s) := by
  simp [execBootStart]

@[simp] theorem startPorters_pending (s : State) : s.startPorters.pending = s.pending := by rfl

@[simp] theorem execPortersLoaded_goesOn (hashUnitOk signaturesOk digestsOk) (s : State) :
    GoesOn s.pending (execPortersLoaded hashUnitOk signaturesOk digestsOk s) := by
  simp [execPortersLoaded]

@[simp] theorem loseSlot_pending (s : State) (n) : (s.loseSlot n).pending = s.pending := by simp [State.loseSlot]

@[simp] theorem testPipes_pending (s : State) (pass) : (s.testPipes pass).pending = s.pending := by simp [State.testPipes]

@[simp] theorem advanceSlot_pending (s : State) (e) : (s.advanceSlot e).pending = s.pending := by simp [State.advanceSlot]

@[simp] theorem advanceCounters_pending (s : State) : s.advanceCounters.pending = s.pending := by simp [State.advanceCounters]

@[simp] theorem checkVaultKey_pending (s : State) (check) : (s.checkVaultKey check).1.pending = s.pending := by
  unfold State.checkVaultKey
  dsimp only
  (repeat' split) <;> simp

@[simp] theorem execVaultKeyDerived_goesOn (check pipesPass badSlots) (s : State) :
    GoesOn s.pending (execVaultKeyDerived check pipesPass badSlots s) := by
  refine bootStep_goesOn _ _ _ ?_
  dsimp only
  split
  next e => simp [pending_of_eq (checkVaultKey_pending s check) e]
  next e =>
    have ht := pending_of_eq (checkVaultKey_pending s check) e
    split <;> simp [ht]

@[simp] theorem fcFails_pending (s : State) (c) : (s.fcFails c).pending = s.pending := by simp [State.fcFails]

@[simp] theorem eraseChannel_pending (s : State) (c) : (s.eraseChannel c).pending = s.pending := by simp [State.eraseChannel]

@[simp] theorem bringUpFc_pending (rate bad failed) (s : State) (c) :
    (State.bringUpFc rate bad failed s c).pending = s.pending := by
  simp [State.bringUpFc]

@[simp] theorem divideMedia_pending (s : State) : s.divideMedia.pending = s.pending := by simp [State.divideMedia]

@[simp] theorem markFactory_pending (s : State) (bad) : (s.markFactory bad).pending = s.pending := by simp [State.markFactory]

@[simp] theorem execFlashChannelsReady_goesOn (rate badDies failedTraining) (s : State) (factoryBad) :
    GoesOn s.pending (execFlashChannelsReady rate badDies failedTraining s factoryBad) := by
  simp [execFlashChannelsReady]

@[simp] theorem mcOffline_pending (s : State) (c code) : (s.mcOffline c code).pending = s.pending := by simp [State.mcOffline]

@[simp] theorem mcTrained_pending (s : State) (c full) : (s.mcTrained c full).pending = s.pending := by simp [State.mcTrained]

@[simp] theorem bringUpMc_pending (stored mismatched failed) (s : State) (c) :
    (State.bringUpMc stored mismatched failed s c).pending = s.pending := by
  simp [State.bringUpMc]

@[simp] theorem reportMc_pending (deviceRate drfm) (s : State) (c) : (State.reportMc deviceRate drfm s c).pending = s.pending := by
  obtain ⟨g, e⟩ : ∃ g, @State.framesPerChannel = g := ⟨_, rfl⟩
  simp [State.reportMc, e]

@[simp] theorem storeTraining_pending (s : State) (chans) : (s.storeTraining chans).pending = s.pending := by
  simp [State.storeTraining]

@[simp] theorem execDramChannelsTrained_goesOn (mismatched failed) (s : State) (deviceRate drfm) :
    GoesOn s.pending (execDramChannelsTrained mismatched failed s deviceRate drfm) := by
  obtain ⟨g, e⟩ : ∃ g, @State.framesPopulated = g := ⟨_, rfl⟩
  obtain ⟨g', e'⟩ : ∃ g, @State.poolFrames = g := ⟨_, rfl⟩
  simp [execDramChannelsTrained, e, e']

@[simp] theorem execSealRecordsRead_goesOn (copy1 copy2 header metaMark unreadable) (s : State) :
    GoesOn s.pending (execSealRecordsRead copy1 copy2 header metaMark unreadable s) := by
  simp [execSealRecordsRead]

@[simp] theorem countDirty_pending (s : State) : s.countDirty.pending = s.pending := by simp [State.countDirty]

@[simp] theorem execBootComplete_goesOn (s : State) : GoesOn s.pending (execBootComplete s) := by
  refine bootStep_goesOn _ _ _ ?_
  dsimp only
  (repeat' split) <;> simp

@[simp] theorem beginRestart_pending (s : State) : s.beginRestart.pending = s.pending := by rfl

@[simp] theorem checkpointNow_pending (s : State) : s.checkpointNow.pending = s.pending := by simp [State.checkpointNow]

@[simp] theorem latch_pending (s : State) (watchdog) : (s.latch watchdog).pending = s.pending := by
  unfold State.latch
  split <;> simp

@[simp] theorem resetNow_pending (s : State) : s.resetNow.pending = s.pending := by simp [State.resetNow]

@[simp] theorem execResetNAssert_goesOn (s : State) : GoesOn s.pending (execResetNAssert s) := by
  unfold execResetNAssert
  dsimp only
  (repeat' split) <;> simp

@[simp] theorem execResetNRelease_goesOn (s : State) : GoesOn s.pending (execResetNRelease s) := by
  unfold execResetNRelease
  dsimp only
  (repeat' split) <;> simp

@[simp] theorem refuseMode_pending (s : State) (m) : (refuseMode s m).1.pending = s.pending := by simp [refuseMode]

@[simp] theorem modeAct_pending (src m) (s : State) : (modeAct src m s).1.pending = s.pending := by
  unfold modeAct
  (repeat' split) <;> simp

@[simp] theorem execModeRequest_goesOn (q mode) (s : State) : GoesOn s.pending (execModeRequest q mode s) := by
  simp [execModeRequest]

@[simp] theorem watchdogRestart_pending (s : State) : s.watchdogRestart.pending = s.pending := by
  unfold State.watchdogRestart
  split <;> simp

@[simp] theorem execStationmasterWatchdogExpiry_goesOn (s : State) : GoesOn s.pending (execStationmasterWatchdogExpiry s) := by
  unfold execStationmasterWatchdogExpiry
  dsimp only
  (repeat' split) <;> simp

@[simp] theorem setPorter_pending (s : State) (n p) : (s.setPorter n p).pending = s.pending := by rfl

@[simp] theorem reloadPorter_pending (s : State) (n) : (s.reloadPorter n).pending = s.pending := by rfl

@[simp] theorem expirePorter_pending (s : State) (n) : (s.expirePorter n).pending = s.pending := by
  unfold State.expirePorter
  dsimp only
  (repeat' split) <;> simp

@[simp] theorem porterExpiry_pending (s : State) (n) : (s.porterExpiry n).pending = s.pending := by simp [State.porterExpiry]

@[simp] theorem eflashDone_pending (s : State) : s.eflashDone.pending = s.pending := by
  unfold State.eflashDone
  dsimp only
  (repeat' split) <;> simp

@[simp] theorem execEflashOperationComplete_goesOn (s : State) : GoesOn s.pending (execEflashOperationComplete s) := by
  simp [execEflashOperationComplete]

@[simp] theorem execPorterWatchdogExpiry_goesOn (pt) (s : State) (segment) :
    GoesOn s.pending (execPorterWatchdogExpiry pt s segment) := by
  simp [execPorterWatchdogExpiry]

@[simp] theorem execPorterReloadComplete_goesOn (pt hashOk) (s : State) :
    GoesOn s.pending (execPorterReloadComplete pt hashOk s) := by
  simp [execPorterReloadComplete]

@[simp] theorem execPorterMemoryError_goesOn (pt) (s : State) : GoesOn s.pending (execPorterMemoryError pt s) := by
  simp [execPorterMemoryError]

@[simp] theorem execChipDecisionRequest_goesOn (region) (s : State) : GoesOn s.pending (execChipDecisionRequest region s) := by
  simp [execChipDecisionRequest]

@[simp] theorem execSelfCheckFailure_goesOn (b) (s : State) : GoesOn s.pending (execSelfCheckFailure b s) := by
  unfold execSelfCheckFailure
  (repeat' split) <;> simp

/-! ### Machine/Residue -/

@[simp] theorem claimPage_pending (s : State) (e) : (s.claimPage e).pending = s.pending := by simp [State.claimPage]

@[simp] theorem setAside_pending (s : State) (e) : (s.setAside e).pending = s.pending := by simp [State.setAside]

@[simp] theorem dropEntry_pending (s : State) (e) : (s.dropEntry e).pending = s.pending := by rfl

@[simp] theorem tryEntry_pending (s : State) (e) : (s.tryEntry e).pending = s.pending := by simp [State.tryEntry]

@[simp] theorem checkAge_pending (s : State) : s.checkAge.pending = s.pending := by
  unfold State.checkAge
  split <;> simp

@[simp] theorem takeEntry_pending (s : State) (e pairings) : (s.takeEntry e pairings).pending = s.pending := by
  simp [State.takeEntry]

@[simp] theorem execFlushClaim_goesOn (s : State) (pairings) : GoesOn s.pending (execFlushClaim s pairings) := by
  refine mapCommand_goesOn _ _ _ ?_
  dsimp only
  (repeat' split) <;> simp

@[simp] theorem execFlushSetAsideRetry_goesOn (s : State) : GoesOn s.pending (execFlushSetAsideRetry s) := by
  refine mapCommand_goesOn _ _ _ ?_
  (repeat' split) <;> simp

@[simp] theorem confirmClaim_pending (s : State) (c) : (s.confirmClaim c).pending = s.pending := by simp [State.confirmClaim]

@[simp] theorem execFlushConfirm_goesOn (id page) (s : State) : GoesOn s.pending (execFlushConfirm id page s) := by
  unfold execFlushConfirm
  dsimp only
  split
  · simp
  · refine mapCommand_goesOn _ _ _ ?_
    split <;> simp

@[simp] theorem execMetadataCheckpointStart_goesOn (s : State) : GoesOn s.pending (execMetadataCheckpointStart s) := by
  simp [execMetadataCheckpointStart]

@[simp] theorem endHold_pending (s : State) : s.endHold.pending = s.pending := by simp [State.endHold]

@[simp] theorem execMetadataCheckpointComplete_goesOn (s : State) : GoesOn s.pending (execMetadataCheckpointComplete s) := by
  refine await_goesOn _ _ _ _ ?_
  dsimp only
  (repeat' split) <;> simp

@[simp] theorem execPlannerCompute_goesOn (s : State) : GoesOn s.pending (execPlannerCompute s) := by simp [execPlannerCompute]

@[simp] theorem setWear_pending (s : State) (k) : (s.setWear k).pending = s.pending := by rfl

@[simp] theorem wearFollows_pending (s : State) (v24) : (s.wearFollows v24).pending = s.pending := by simp [State.wearFollows]

@[simp] theorem execWearIntervalBoundary_goesOn (s : State) : GoesOn s.pending (execWearIntervalBoundary s) := by
  simp [execWearIntervalBoundary]

@[simp] theorem startDrill_pending (s : State) : s.startDrill.pending = s.pending := by simp [State.startDrill]

@[simp] theorem tryDrill_pending (s : State) : s.tryDrill.pending = s.pending := by
  unfold State.tryDrill
  split <;> simp

@[simp] theorem execDrillStart_goesOn (q) (s : State) : GoesOn s.pending (execDrillStart q s) := by simp [execDrillStart]

@[simp] theorem execDrillDue_goesOn (s : State) : GoesOn s.pending (execDrillDue s) := by simp [execDrillDue]

@[simp] theorem execDrillStreamComplete_goesOn (rate) (s : State) : GoesOn s.pending (execDrillStreamComplete rate s) := by
  refine await_goesOn _ _ _ _ ?_
  dsimp only
  (repeat' split) <;> simp

@[simp] theorem acceptDrill_pending (s : State) (d fixed power dieRate) :
    (s.acceptDrill d fixed power dieRate).pending = s.pending := by
  simp [State.acceptDrill]

@[simp] theorem execDrillSealComplete_goesOn (sealTime power dieRate) (s : State) :
    GoesOn s.pending (execDrillSealComplete sealTime power dieRate s) := by
  refine await_goesOn _ _ _ _ ?_
  dsimp only
  (repeat' split) <;> simp

@[simp] theorem execDrillBoundTimeout_goesOn (s : State) : GoesOn s.pending (execDrillBoundTimeout s) := by
  simp [execDrillBoundTimeout]

@[simp] theorem execDrillOverdue_goesOn (s : State) : GoesOn s.pending (execDrillOverdue s) := by simp [execDrillOverdue]

/-! ### Machine/Carriages -/

@[simp] theorem carriageCmd_goesOn (c q key p) (act : Act) (s : State) (h : ∀ t, (act t).1.pending = t.pending) :
    GoesOn s.pending (carriageCmd c q key p act s) := by
  unfold carriageCmd
  refine runCmd_goesOn c q key p _ s (fun t => ?_)
  simp [h]

@[simp] theorem refuseC_pending (s : State) (n) : (refuseC s n).1.pending = s.pending := by rfl

@[simp] theorem refuseUnlisted_pending (s : State) (n) : (refuseUnlisted s n).1.pending = s.pending := by rfl

@[simp] theorem okC_pending (s : State) : (okC s).1.pending = s.pending := by rfl

@[simp] theorem execCarriageAdvance_goesOn (q) (s : State) : GoesOn s.pending (execCarriageAdvance q s) := by
  refine carriageCmd_goesOn _ _ _ _ _ _ (fun t => ?_)
  dsimp only
  (repeat' split) <;> simp

@[simp] theorem reserveExtents_pending (s : State) (cid g n) : (s.reserveExtents cid g n).pending = s.pending := by
  induction n generalizing s g with
  | zero => rfl
  | succ n ih =>
    rw [State.reserveExtents, ih]
    split
    · split <;> simp
    · rfl

@[simp] theorem takeKeygen_pending (s : State) : s.takeKeygen.2.pending = s.pending := by
  unfold State.takeKeygen
  dsimp only
  split <;> simp

@[simp] theorem deriveKey_pending (s : State) (cid g) : (s.deriveKey cid g).pending = s.pending := by rfl

@[simp] theorem writeNew_pending (s : State) (cid root flags size label) :
    (s.writeNew cid root flags size label).pending = s.pending := by
  simp [State.writeNew]

@[simp] theorem createAct_pending (id flags size label) (s : State) :
    (createAct id flags size label s).1.pending = s.pending := by
  unfold createAct
  (repeat' split) <;> simp

@[simp] theorem execCarriageCreate_goesOn (q id flags size label) (s : State) :
    GoesOn s.pending (execCarriageCreate q id flags size label s) := by
  simp [execCarriageCreate]

@[simp] theorem beginDelete_pending (s : State) (cid) : (s.beginDelete cid).pending = s.pending := by simp [State.beginDelete]

@[simp] theorem execCarriageDelete_goesOn (q id) (s : State) : GoesOn s.pending (execCarriageDelete q id s) := by
  refine carriageCmd_goesOn _ _ _ _ _ _ (fun t => ?_)
  dsimp only
  (repeat' split) <;> simp

@[simp] theorem freeInterior_pending (s : State) (cid test) : (s.freeInterior cid test).pending = s.pending := by
  simp [State.freeInterior]

@[simp] theorem freeCarriage_pending (s : State) (cid) : (s.freeCarriage cid).pending = s.pending := by
  simp [State.freeCarriage]

@[simp] theorem execCarriageReleaseComplete_goesOn (id) (s : State) : GoesOn s.pending (execCarriageReleaseComplete id s) := by
  simp [execCarriageReleaseComplete]

@[simp] theorem finishResize_pending (s : State) (cid size) : (s.finishResize cid size).pending = s.pending := by
  simp [State.finishResize]

@[simp] theorem resizeAct_pending (cid size) (s : State) : (resizeAct cid size s).1.pending = s.pending := by
  unfold resizeAct
  split <;> simp

@[simp] theorem execCarriageResize_goesOn (q id size) (s : State) : GoesOn s.pending (execCarriageResize q id size s) := by
  simp [execCarriageResize]

@[simp] theorem releaseBeyond_pending (s : State) (cid size) : (s.releaseBeyond cid size).pending = s.pending := by
  simp [State.releaseBeyond]

@[simp] theorem execResizeReleaseComplete_goesOn (s : State) : GoesOn s.pending (execResizeReleaseComplete s) := by
  refine command_goesOn _ _ _ _ ?_
  dsimp only
  (repeat' split) <;> simp

@[simp] theorem execSetSeal_goesOn (q id on) (s : State) : GoesOn s.pending (execSetSeal q id on s) := by
  refine carriageCmd_goesOn _ _ _ _ _ _ (fun t => ?_)
  dsimp only
  (repeat' split) <;> simp

@[simp] theorem execSetLabel_goesOn (q id label) (s : State) : GoesOn s.pending (execSetLabel q id label s) := by
  simp [execSetLabel]

@[simp] theorem clearRange_pending (s : State) (cid k) : (s.clearRange cid k).pending = s.pending := by simp [State.clearRange]

@[simp] theorem recordPoisoned_pending (s : State) (key) : (s.recordPoisoned key).pending = s.pending := by
  simp [State.recordPoisoned]

@[simp] theorem refillPage_pending (s : State) (key line d) : (s.refillPage key line d).1.pending = s.pending := by
  unfold State.refillPage
  dsimp only
  split
  · rfl
  · split
    next e =>
      have ht := pending_of_eq (growPath_pending s _ _) e
      split
      next => exact ht
      next h => simp [takeFrame_pending h, ht]
    next e => exact pending_of_eq (growPath_pending s _ _) e

@[simp] theorem clearPoison_pending (s : State) (key line d) : (s.clearPoison key line d).1.pending = s.pending := by
  unfold State.clearPoison
  split <;> simp

@[simp] theorem execClearPagePoison_goesOn (q id page) (s : State) : GoesOn s.pending (execClearPagePoison q id page s) := by
  refine carriageCmd_goesOn _ _ _ _ _ _ (fun t => ?_)
  dsimp only
  split
  · simp
  · split
    · simp
    · split
      · simp
      · split
        next e => simp [pending_of_eq (clearPoison_pending t _ _ _) e]
        all_goals simp

@[simp] theorem pageArrives_pending (s : State) (key slow) : (s.pageArrives key slow).pending = s.pending := by
  unfold State.pageArrives
  dsimp only
  split
  next => simp
  next h => simp [takeFrame_pending h]

@[simp] theorem pageFetched_pending (s : State) (key o slow) : (s.pageFetched key o slow).pending = s.pending := by
  simp [State.pageFetched]

@[simp] theorem depotArrives_pending (s : State) (i slow) : (s.depotArrives i slow).pending = s.pending := by
  unfold State.depotArrives
  dsimp only
  split
  next => rfl
  next h => simp [takeFrame_pending h]

@[simp] theorem depotFetched_pending (s : State) (i o slow) : (s.depotFetched i o slow).pending = s.pending := by
  simp [State.depotFetched]

@[simp] theorem execNonresidentFetchComplete_goesOn (name outcome slow) (s : State) :
    GoesOn s.pending (execNonresidentFetchComplete name outcome slow s) := by
  unfold execNonresidentFetchComplete
  split <;> simp

@[simp] theorem execFrameWaitTimeout_goesOn (ld dpa isWrite) (s : State) :
    GoesOn s.pending (execFrameWaitTimeout ld dpa isWrite s) := by
  refine mapCommand_goesOn _ _ _ ?_
  dsimp only
  (repeat' split) <;> simp

@[simp] theorem sweepAt_pending (s : State) (x) : (s.sweepAt x).pending = s.pending := by
  unfold State.sweepAt
  split <;> simp

@[simp] theorem sweepPass_pending (s : State) (items) : (s.sweepPass items).pending = s.pending := by
  induction items generalizing s with
  | nil => rfl
  | cons x xs ih => simp [State.sweepPass, ih]

@[simp] theorem execEvictionSweep_goesOn (s : State) : GoesOn s.pending (execEvictionSweep s) := by simp [execEvictionSweep]

@[simp] theorem coupleAct_pending (ld e) (s : State) : (coupleAct ld e s).1.pending = s.pending := by
  unfold coupleAct
  split <;> simp

@[simp] theorem uncoupleAct_pending (ld dpa x) (s : State) : (uncoupleAct ld dpa x s).1.pending = s.pending := by
  unfold uncoupleAct
  split <;> simp

@[simp] theorem queueCoupling_pending (i key) (act : Act) (s : State) (h : (act s).1.pending = s.pending) :
    (queueCoupling i key act s).1.pending = s.pending := by
  unfold queueCoupling; split <;> simp [h]

@[simp] theorem execCouple_goesOn (q ld entry) (s : State) : GoesOn s.pending (execCouple q ld entry s) := by simp [execCouple]

@[simp] theorem execUncouple_goesOn (q ld dpa) (s : State) : GoesOn s.pending (execUncouple q ld dpa s) := by
  simp [execUncouple]

@[simp] theorem runCoupling_pending (s : State) (q key) (act : Act) (h : (act s).1.pending = s.pending) :
    (s.runCoupling q key act).pending = s.pending := by
  unfold State.runCoupling
  split
  next e => rw [finishFor_pending, pending_of_eq h e]
  next e => exact pending_of_eq h e

@[simp] theorem drainCouplings_pending (s : State) (n) : (s.drainCouplings n).pending = s.pending := by
  induction n generalizing s with
  | zero => rfl
  | succ n ih =>
    unfold State.drainCouplings
    split
    · rfl
    · split <;> simp [ih]

@[simp] theorem execUncoupleComplete_goesOn (s : State) : GoesOn s.pending (execUncoupleComplete s) := by
  refine command_goesOn _ _ _ _ ?_
  dsimp only
  (repeat' split) <;> simp

/-! ### Machine/Depot -/

@[simp] theorem tallyUp_pending (s : State) (k) : (s.tallyUp k).pending = s.pending := by rfl

@[simp] theorem checkEntries_pending (s : State) (slot fp) : (s.checkEntries slot fp).pending = s.pending := by
  simp [State.checkEntries]

@[simp] theorem pickEqual_pending (im is) (s : State) : (State.pickEqual im is s).2.pending = s.pending := by
  induction is generalizing s with
  | nil => rfl
  | cons i is ih =>
    unfold State.pickEqual
    split
    · rfl
    · simp [ih]

@[simp] theorem newDepotPage_pending (s : State) (i slot fp im) : (s.newDepotPage i slot fp im).pending = s.pending := by
  simp [State.newDepotPage]

@[simp] theorem mergeInto_pending (s : State) (key i) : (s.mergeInto key i).pending = s.pending := by simp [State.mergeInto]

@[simp] theorem zeroPage_pending (s : State) (key) : (s.zeroPage key).1.pending = s.pending := by
  unfold State.zeroPage
  split
  next => rfl
  next h => simp [snapshotBefore_pending h]

@[simp] theorem mergePage_pending (s : State) (key slot im) : (s.mergePage key slot im).1.pending = s.pending := by
  unfold State.mergePage
  dsimp only
  have hp := pickEqual_pending im ((s.checkEntries slot (fingerprintTop (fingerprint (s.slot slot).root im))).candidates slot
    (fingerprintTop (fingerprint (s.slot slot).root im))) (s.checkEntries slot (fingerprintTop (fingerprint (s.slot slot).root im)))
  split
  next e => rw [e] at hp; simpa using hp
  next e =>
    rw [e] at hp
    split <;> simpa using hp

@[simp] theorem admitPage_pending (s : State) (key slot) : (s.admitPage key slot).1.pending = s.pending := by
  unfold State.admitPage
  split <;> simp

@[simp] theorem admitAll_pending (slot ks) (s : State) : (State.admitAll slot ks s).1.pending = s.pending := by
  induction ks generalizing s with
  | nil => rfl
  | cons k ks ih =>
    unfold State.admitAll
    split <;> next e =>
      have ht := pending_of_eq (admitPage_pending s k slot) e
      simp [ih, ht]

@[simp] theorem zeroCounts_pending (s : State) : s.zeroCounts.pending = s.pending := by simp [State.zeroCounts]

@[simp] theorem runAdmission_pending (s : State) (x) : (s.runAdmission x).pending = s.pending := by simp [State.runAdmission]

@[simp] theorem admitAct_pending (cid first count slot) (s : State) :
    (admitAct cid first count slot s).1.pending = s.pending := by
  unfold admitAct
  split <;> simp

@[simp] theorem execAdmission_goesOn (q id first count slot) (s : State) :
    GoesOn s.pending (execAdmission q id first count slot s) := by
  simp [execAdmission]

@[simp] theorem execAdmissionComplete_goesOn (s : State) : GoesOn s.pending (execAdmissionComplete s) := by
  refine command_goesOn _ _ _ _ ?_
  dsimp only
  (repeat' split) <;> simp

theorem mapPages_pending {cid n page i : Nat} {s t : State} (h : State.mapPages cid n page i s = some t) :
    t.pending = s.pending := by
  induction n generalizing page i s with
  | zero => cases h; rfl
  | succ n ih =>
    unfold State.mapPages at h
    split at h
    next u e =>
      have hu := pending_of_eq (growNodes_pending s cid page) e
      rw [ih h]
      simp [hu]
    next => cases h

@[simp] theorem mapAct_pending (cid page depot count) (s : State) : (mapAct cid page depot count s).1.pending = s.pending := by
  unfold mapAct
  dsimp only
  split
  · split
    next h => simp [mapPages_pending h]
    next => simp
  · simp

@[simp] theorem execMapDepot_goesOn (q id page depot count) (s : State) :
    GoesOn s.pending (execMapDepot q id page depot count s) := by
  simp [execMapDepot]

/-! ### Machine/Ports -/

@[simp] theorem setPerst_pending (s : State) (p b) : (s.setPerst p b).pending = s.pending := by simp [State.setPerst]

@[simp] theorem train_pending (s : State) (p) : (s.train p).pending = s.pending := by simp [State.train]

@[simp] theorem linkDown_pending (s : State) (p) : (s.linkDown p).pending = s.pending := by simp [State.linkDown]

@[simp] theorem resetCxl_pending (s : State) (p) : (s.resetCxl p).pending = s.pending := by simp [State.resetCxl]

@[simp] theorem execPerstNAssert_goesOn (p) (s : State) : GoesOn s.pending (execPerstNAssert p s) := by
  unfold execPerstNAssert
  dsimp only
  (repeat' split) <;> simp

@[simp] theorem execPerstNDeassert_goesOn (p) (s : State) : GoesOn s.pending (execPerstNDeassert p s) := by
  simp [execPerstNDeassert]

@[simp] theorem execLinkUp_goesOn (p rate width flit bound) (s : State) :
    GoesOn s.pending (execLinkUp p rate width flit bound s) := by
  simp [execLinkUp]

@[simp] theorem execSurpriseLinkDown_goesOn (p) (s : State) : GoesOn s.pending (execSurpriseLinkDown p s) := by
  simp [execSurpriseLinkDown]

@[simp] theorem execIdeKmMessage_goesOn (p stream key) (s : State) : GoesOn s.pending (execIdeKmMessage p stream key s) := by
  simp [execIdeKmMessage]

@[simp] theorem execIdeMacFailure_goesOn (p) (s : State) : GoesOn s.pending (execIdeMacFailure p s) := by
  simp [execIdeMacFailure]

@[simp] theorem execGpfPhase2Request_goesOn (p) (s : State) : GoesOn s.pending (execGpfPhase2Request p s) := by
  simp [execGpfPhase2Request]

@[simp] theorem execResidueUpdate_goesOn (s : State) : GoesOn s.pending (execResidueUpdate s) := by simp [execResidueUpdate]

@[simp] theorem execExpressPanicChange_goesOn (p occupancy age) (s : State) :
    GoesOn s.pending (execExpressPanicChange p occupancy age s) := by
  simp [execExpressPanicChange]

@[simp] theorem execExpressPanicHeld_goesOn (p) (s : State) : GoesOn s.pending (execExpressPanicHeld p s) := by
  simp [execExpressPanicHeld]

@[simp] theorem programDecoder_pending (s : State) (ld d x) : (s.programDecoder ld d x).pending = s.pending := by rfl

@[simp] theorem execConfigurationRequest_goesOn (p r) (s : State) : GoesOn s.pending (execConfigurationRequest p r s) := by
  unfold execConfigurationRequest
  split <;> simp

@[simp] theorem spendCredit_pending (s : State) (p) : (s.spendCredit p).pending = s.pending := by simp [State.spendCredit]

@[simp] theorem execCxlMemRead_goesOn (ld dpa fault) (s : State) : GoesOn s.pending (execCxlMemRead ld dpa fault s) := by
  simp [execCxlMemRead]

@[simp] theorem execCxlMemWrite_goesOn (ld dpa data fault) (s : State) :
    GoesOn s.pending (execCxlMemWrite ld dpa data fault s) := by
  simp [execCxlMemWrite]

/-! ### Machine/Terms -/

@[simp] theorem beginTerm_pending (s : State) (cid cmd) : (s.beginTerm cid cmd).pending = s.pending := by rfl

@[simp] theorem deferTerm_pending (s : State) (cid cmd) : (s.deferTerm cid cmd).pending = s.pending := by simp [State.deferTerm]

@[simp] theorem requestTerm_pending (s : State) (cid cmd) : (s.requestTerm cid cmd).pending = s.pending := by
  simp [State.requestTerm]

@[simp] theorem requestExportTerm_pending (s : State) (cid) : (s.requestExportTerm cid).pending = s.pending := by
  simp [State.requestExportTerm]

@[simp] theorem runDeferred_pending (s : State) : s.runDeferred.pending = s.pending := by simp [State.runDeferred]

@[simp] theorem freeEmptyNodes_pending (s : State) (cid) : (s.freeEmptyNodes cid).pending = s.pending := by
  simp [State.freeEmptyNodes]

@[simp] theorem detach_pending (s : State) (cid) : (s.detach cid).pending = s.pending := by simp [State.detach]

@[simp] theorem takeCopies_pending (s : State) (p) : (s.takeCopies p).2.pending = s.pending :=
  foldl_pending _ poisonLeaf_pending _ _

@[simp] theorem beginCopies_pending (s : State) (cid) : (s.beginCopies cid).pending = s.pending := by
  unfold State.beginCopies
  split
  · rfl
  · simp

@[simp] theorem beginExport_pending (s : State) (cid) : (s.beginExport cid).pending = s.pending := by
  unfold State.beginExport
  split <;> simp

@[simp] theorem clearSeals_pending (s : State) (cid) : (s.clearSeals cid).pending = s.pending := by simp [State.clearSeals]

@[simp] theorem endTerm_pending (s : State) (cid) : (s.endTerm cid).pending = s.pending := by simp [State.endTerm]

@[simp] theorem freeUnreferenced_pending (s : State) : s.freeUnreferenced.pending = s.pending := by
  simp [State.freeUnreferenced]

@[simp] theorem endGlobal_pending (s : State) : s.endGlobal.pending = s.pending := by simp [State.endGlobal]

@[simp] theorem tryGlobal_pending (s : State) : s.tryGlobal.pending = s.pending := by
  unfold State.tryGlobal
  split <;> simp

@[simp] theorem tick_pending (s : State) : s.tick.pending = s.pending := by simp [State.tick]

@[simp] theorem startGlobal_pending (s : State) (cmds) : (s.startGlobal cmds).pending = s.pending := by simp [State.startGlobal]

@[simp] theorem execEndGlobalTerm_goesOn (q) (s : State) : GoesOn s.pending (execEndGlobalTerm q s) := by
  simp [execEndGlobalTerm]

@[simp] theorem execGlobalTermEnd_goesOn (s : State) : GoesOn s.pending (execGlobalTermEnd s) := by simp [execGlobalTermEnd]

@[simp] theorem commitSet_pending (s : State) (point) : (s.commitSet point).pending = s.pending := by rfl

@[simp] theorem commitAct_pending (point) (s : State) : (commitAct point s).1.pending = s.pending := by simp [commitAct]

@[simp] theorem execCommitStaged_goesOn (q point) (s : State) : GoesOn s.pending (execCommitStaged q point s) := by
  simp [execCommitStaged]

@[simp] theorem execEndCarriageTerm_goesOn (q id) (s : State) : GoesOn s.pending (execEndCarriageTerm q id s) := by
  simp [execEndCarriageTerm]

@[simp] theorem execTermEndCommit_goesOn (id) (s : State) : GoesOn s.pending (execTermEndCommit id s) := by
  refine command_goesOn _ _ _ _ ?_
  dsimp only
  (repeat' split) <;> simp

@[simp] theorem execRetagPassComplete_goesOn (id) (s : State) : GoesOn s.pending (execRetagPassComplete id s) := by
  simp [execRetagPassComplete]

@[simp] theorem beginPark_pending (s : State) (cid) : (s.beginPark cid).pending = s.pending := by simp [State.beginPark]

@[simp] theorem beginRecall_pending (s : State) (cid) : (s.beginRecall cid).pending = s.pending := by simp [State.beginRecall]

@[simp] theorem admitMove_pending (s : State) (park cid) : (s.admitMove park cid).1.pending = s.pending := by
  simp [State.admitMove]

@[simp] theorem execPark_goesOn (q id) (s : State) : GoesOn s.pending (execPark q id s) := by simp [execPark]

@[simp] theorem sideStripes_pending (fuel n g) (s : State) : (State.sideStripes fuel n g s).2.pending = s.pending := by
  induction fuel generalizing n g s with
  | zero => rfl
  | succ fuel ih =>
    unfold State.sideStripes
    dsimp only
    split
    · rfl
    · split <;> simp [ih]

@[simp] theorem programSiding_pending (s : State) (p) : (s.programSiding p).pending = s.pending := by
  simp [State.programSiding]

@[simp] theorem execParkCopyComplete_goesOn (id) (s : State) (faults) :
    GoesOn s.pending (execParkCopyComplete id s faults) := by
  refine command_goesOn _ _ _ _ ?_
  dsimp only
  (repeat' split) <;> simp

@[simp] theorem sidePage_pending (s : State) (cid page c seal?) : (s.sidePage cid page c seal?).pending = s.pending := by
  simp [State.sidePage]

@[simp] theorem releaseCopy_pending (p) (s : State) (e) : (State.releaseCopy p s e).1.pending = s.pending := by
  simp [State.releaseCopy]

@[simp] theorem releasePark_pending (s : State) (p) : (s.releasePark p).pending = s.pending := by
  simp only [State.releasePark]
  rw [foldl_fst_pending]
  exact fun r e => releaseCopy_pending p r.1 e

@[simp] theorem execParkReleasePassComplete_goesOn (id) (s : State) : GoesOn s.pending (execParkReleasePassComplete id s) := by
  refine command_goesOn _ _ _ _ ?_
  (repeat' split) <;> simp

@[simp] theorem cancelPark_pending (s : State) (cid) : (s.cancelPark cid).pending = s.pending := by simp [State.cancelPark]

@[simp] theorem recallAct_pending (cid) (s : State) : (recallAct cid s).1.pending = s.pending := by
  unfold recallAct
  dsimp only
  (repeat' split) <;> simp

@[simp] theorem execRecall_goesOn (q id) (s : State) : GoesOn s.pending (execRecall q id s) := by simp [execRecall]

@[simp] theorem noteFilled_pending (s : State) (key) : (s.noteFilled key).pending = s.pending := by simp [State.noteFilled]

@[simp] theorem recallPage_pending (faults) (s : State) (key) : (State.recallPage faults s key).pending = s.pending := by
  unfold State.recallPage
  split
  · rfl
  · split
    next h => simp [takeFrame_pending h]
    next => rfl

@[simp] theorem execRecallComplete_goesOn (id) (s : State) (faults) : GoesOn s.pending (execRecallComplete id s faults) := by
  simp [execRecallComplete]

@[simp] theorem execParkQueueDequeue_goesOn (s : State) : GoesOn s.pending (execParkQueueDequeue s) := by
  refine command_goesOn _ _ _ _ ?_
  dsimp only
  (repeat' split) <;> simp

@[simp] theorem execRevert_goesOn (q id) (s : State) : GoesOn s.pending (execRevert q id s) := by
  refine runCmd_goesOn _ _ _ _ _ _ (fun t => ?_)
  dsimp only
  (repeat' split) <;> simp

@[simp] theorem revertPage_pending (cid) (s : State) (r) : (State.revertPage cid s r).pending = s.pending := by
  unfold State.revertPage
  split <;> simp

@[simp] theorem execRevertComplete_goesOn (id) (s : State) : GoesOn s.pending (execRevertComplete id s) := by
  simp [execRevertComplete]

@[simp] theorem execSnapshotReleaseComplete_goesOn (id) (s : State) : GoesOn s.pending (execSnapshotReleaseComplete id s) := by
  simp [execSnapshotReleaseComplete]

/-! ### Machine/Transfer -/

@[simp] theorem clearPage_pending (s : State) (key) : (s.clearPage key).pending = s.pending := by simp [State.clearPage]

theorem putPage_pending {s t : State} {key : Nat} {im : Image} (h : s.putPage key im = some t) : t.pending = s.pending := by
  unfold State.putPage at h
  dsimp only at h
  split at h
  · cases h
  · split at h
    · obtain ⟨u, hu, rfl⟩ := Option.map_eq_some_iff.1 h
      simp [snapshotBefore_pending hu]
    · split at h
      · cases h
      · split at h
        next e =>
          obtain ⟨⟨f, u⟩, hu, rfl⟩ := Option.map_eq_some_iff.1 h
          simp [takeFrame_pending hu, pending_of_eq (growPath_pending s _ _) e]
        next => cases h

@[simp] theorem exportAct_pending (source output unit key) (s : State) :
    (exportAct source output unit key s).1.pending = s.pending := by
  unfold exportAct
  split <;> simp

@[simp] theorem execExportCarriage_goesOn (q source output unit key) (s : State) :
    GoesOn s.pending (execExportCarriage q source output unit key s) := by
  simp [execExportCarriage]

theorem writePages_pending {cid page : Nat} {bs : List (List Byte)} {s t : State} (h : State.writePages cid page bs s = some t) :
    t.pending = s.pending := by
  induction bs generalizing page s with
  | nil => cases h; rfl
  | cons b bs ih =>
    unfold State.writePages at h
    dsimp only at h
    split at h
    · exact ih h
    · obtain ⟨u, hu, h⟩ := Option.bind_eq_some_iff.1 h
      rw [ih h, putPage_pending hu]

@[simp] theorem checkSnapshot_pending (s : State) (cid) : (s.checkSnapshot cid).pending = s.pending := by
  simp [State.checkSnapshot]

@[simp] theorem dropExport_pending (s : State) (e) : (s.dropExport e).pending = s.pending := by simp [State.dropExport]

@[simp] theorem execExportComplete_goesOn (s : State) (pairings) : GoesOn s.pending (execExportComplete s pairings) := by
  refine command_goesOn _ _ _ _ ?_
  dsimp only
  split
  · simp
  · split
    · simp
    · split
      · simp
      · split
        · simp
        · split
          · simp
          · split
            next => simp
            next h => simp [writePages_pending h]

@[simp] theorem writeShadow_pending (s : State) (cid root) : (s.writeShadow cid root).pending = s.pending := by
  simp [State.writeShadow]

@[simp] theorem startImport_pending (s : State) (input cid root p key) :
    (s.startImport input cid root p key).pending = s.pending := by
  simp [State.startImport]

@[simp] theorem importFrom_pending (s : State) (input result flags b) :
    (s.importFrom input result flags b).1.pending = s.pending := by
  unfold State.importFrom
  (repeat' split) <;> simp

@[simp] theorem importAct_pending (input result flags) (s : State) :
    (importAct input result flags s).1.pending = s.pending := by
  simp [importAct]

@[simp] theorem execImportCarriage_goesOn (q input result flags) (s : State) :
    GoesOn s.pending (execImportCarriage q input result flags s) := by
  simp [execImportCarriage]

theorem applyManifest_pending {s t : State} {cid : Nat} {b : List Byte} (h : s.applyManifest cid b = some t) :
    t.pending = s.pending := by
  unfold State.applyManifest at h
  dsimp only at h
  split at h
  · cases h
  · split at h
    · cases h; simp
    · split at h
      · cases h
      · cases h; simp

theorem applyDepot_pending {s t : State} {key slot : Nat} {ct : List Byte} (h : s.applyDepot key slot ct = some t) :
    t.pending = s.pending := by
  unfold State.applyDepot at h
  dsimp only at h
  split at h
  · cases h
  · split at h
    next u e =>
      have hu := pending_of_eq (growNodes_pending s _ _) e
      split at h <;> cases h
      all_goals next e => rw [pending_of_eq (mergePage_pending u _ _ _) e, hu]
    next => cases h

theorem applyEntry_pending {s t : State} {cid : Nat} {entry data rest : List Byte}
    (h : s.applyEntry cid entry data = some (t, rest)) : t.pending = s.pending := by
  unfold State.applyEntry at h
  dsimp only at h
  split at h
  · cases h
  · split at h
    · obtain ⟨u, hu, e⟩ := Option.map_eq_some_iff.1 h
      cases e
      exact putPage_pending hu
    · obtain ⟨u, hu, e⟩ := Option.map_eq_some_iff.1 h
      cases e
      exact applyDepot_pending hu
    · split at h
      next e => cases h; simp [pending_of_eq (growNodes_pending s _ _) e]
      next => cases h
    · cases h

theorem applyEntries_pending {cid : Nat} {es : List (List Byte)} {data : List Byte} {s t : State}
    (h : State.applyEntries cid es data s = some t) : t.pending = s.pending := by
  induction es generalizing data s with
  | nil => cases h; rfl
  | cons e es ih =>
    obtain ⟨⟨u, rest⟩, hu, h⟩ := Option.bind_eq_some_iff.1 h
    rw [ih h, applyEntry_pending hu]

theorem applyBody_pending {s t : State} {i : ImportRun} {pages : Nat} {body : List Byte}
    (h : s.applyBody i pages body = .inl t) : t.pending = s.pending := by
  unfold State.applyBody at h
  dsimp only at h
  split at h
  · split at h
    next u e => cases h; exact (applyManifest_pending e : u.pending = s.pending)
    next => cases h
  · split at h
    · cases h
    · split at h
      next e => cases h; exact applyEntries_pending e
      next => cases h

/-- A record goes through seven checks, each of which refuses it with a cause; then its body is applied. -/
theorem importRecord_pending {s t : State} {i : ImportRun} (h : s.importRecord i = .inl t) : t.pending = s.pending := by
  unfold State.importRecord at h
  dsimp only at h
  iterate 7
    split at h
    · cases h
  exact applyBody_pending h

@[simp] theorem failImport_pending (s : State) (i cause) : (s.failImport i cause).pending = s.pending := by
  simp [State.failImport]

@[simp] theorem execImportRecordVerified_goesOn (record) (s : State) (pairings) :
    GoesOn s.pending (execImportRecordVerified record s pairings) := by
  refine command_goesOn _ _ _ _ ?_
  dsimp only
  split
  · simp
  · split
    · simp
    · split
      · simp
      · split
        next => simp
        next e =>
          split at e
          · cases e
          · have ht := importRecord_pending e
            split <;> simp [ht]

/-! ### Machine/Keys -/

@[simp] theorem journalSlot_pending (s : State) (n) : (s.journalSlot n).pending = s.pending := by simp [State.journalSlot]

@[simp] theorem freeSlot_pending (s : State) (n) : (s.freeSlot n).pending = s.pending := by simp [State.freeSlot]

@[simp] theorem loadSlot_pending (s : State) (n type root) : (s.loadSlot n type root).pending = s.pending := by
  simp [State.loadSlot]

@[simp] theorem loadAct_pending (n blob) (s : State) : (loadAct n blob s).1.pending = s.pending := by
  unfold loadAct
  split <;> simp

@[simp] theorem holdSlot_pending (s : State) (n c) : (s.holdSlot n c).pending = s.pending := by simp [State.holdSlot]

@[simp] theorem execKeyLoad_goesOn (q slot blob) (s : State) : GoesOn s.pending (execKeyLoad q slot blob s) := by
  simp [execKeyLoad]

@[simp] theorem eraseAct_pending (n) (s : State) : (eraseAct n s).1.pending = s.pending := by simp [eraseAct]

@[simp] theorem execKeySlotErase_goesOn (q slot) (s : State) : GoesOn s.pending (execKeySlotErase q slot s) := by
  simp [execKeySlotErase]

@[simp] theorem spend_pending (s : State) (n) : (s.spend n).pending = s.pending := by simp [State.spend]

@[simp] theorem sealNow_pending (s : State) (n aad plain) : (s.sealNow n aad plain).1.pending = s.pending := by
  simp [State.sealNow]

@[simp] theorem sealAct_pending (src tag n aad plain pairings) (s : State) :
    (sealAct src tag n aad plain pairings s).1.pending = s.pending := by
  simp [sealAct]

@[simp] theorem execSealBlob_goesOn (q slot aad plaintext) (s : State) (pairings) :
    GoesOn s.pending (execSealBlob q slot aad plaintext s pairings) := by
  simp [execSealBlob]

@[simp] theorem unsealAct_pending (n aad nonce ct tag pairings) (s : State) :
    (unsealAct n aad nonce ct tag pairings s).1.pending = s.pending := by
  simp [unsealAct]

@[simp] theorem execUnsealBlob_goesOn (q slot aad nonce ciphertext tag) (s : State) (pairings) :
    GoesOn s.pending (execUnsealBlob q slot aad nonce ciphertext tag s pairings) := by
  simp [execUnsealBlob]

@[simp] theorem resumeSeal_pending (s : State) (w) : (s.resumeSeal w).pending = s.pending := by
  obtain ⟨g, e⟩ : ∃ g, @State.resumeSeal = g := ⟨_, rfl⟩
  rw [e]
  delta State.resumeSeal at e
  have e := congrFun₂ e s w
  beta_reduce at e
  rw [← e]
  obtain ⟨a, ea, ha⟩ : ∃ a, @sealAct = a ∧ ∀ src tag n aad p ps s, (a src tag n aad p ps s).1.pending = s.pending :=
    ⟨_, rfl, sealAct_pending⟩
  rw [ea]
  dsimp only
  split
  next h =>
    have ht := pending_of_eq (ha ..) h
    split <;> simpa using ht
  next h => simpa using pending_of_eq (ha ..) h

@[simp] theorem execNonceMarkRecorded_goesOn (context) (s : State) : GoesOn s.pending (execNonceMarkRecorded context s) := by
  simp [execNonceMarkRecorded]

@[simp] theorem pipeTested_pending (s : State) (p pass) : (s.pipeTested p pass).pending = s.pending := by
  simp [State.pipeTested]

@[simp] theorem execPipeSelftestComplete_goesOn (pipe pass) (s : State) :
    GoesOn s.pending (execPipeSelftestComplete pipe pass s) := by
  simp [execPipeSelftestComplete]

@[simp] theorem execPipeRetest_goesOn (q pass) (s : State) : GoesOn s.pending (execPipeRetest q pass s) := by
  simp [execPipeRetest]

@[simp] theorem setPassRow_pending (s : State) (cid row) : (s.setPassRow cid row).pending = s.pending := by
  simp [State.setPassRow]

@[simp] theorem passAct_pending (cid change) (s : State) : (passAct cid change s).1.pending = s.pending := by simp [passAct]

@[simp] theorem execPassGrant_goesOn (q id slot) (s : State) : GoesOn s.pending (execPassGrant q id slot s) := by
  simp [execPassGrant]

@[simp] theorem execPassRevoke_goesOn (q id slot) (s : State) : GoesOn s.pending (execPassRevoke q id slot s) := by
  simp [execPassRevoke]

@[simp] theorem execRevokeSlot_goesOn (q slot) (s : State) : GoesOn s.pending (execRevokeSlot q slot s) := by
  simp [execRevokeSlot]

/-! ### Machine/Gauge -/

@[simp] theorem computeEnergy_pending (s : State) : s.computeEnergy.pending = s.pending := by
  unfold State.computeEnergy
  dsimp only
  (repeat' split) <;> simp

@[simp] theorem execEnergyRecompute_goesOn (s : State) : GoesOn s.pending (execEnergyRecompute s) := by
  simp [execEnergyRecompute]

@[simp] theorem enterClass_pending (s : State) (old was) : (s.enterClass old was).pending = s.pending := by
  simp [State.enterClass]

@[simp] theorem estimateFrom_pending (s : State) (was) : (s.estimateFrom was).pending = s.pending := by
  unfold State.estimateFrom
  dsimp only
  (repeat' split) <;> simp

@[simp] theorem estimate_pending (s : State) : s.estimate.pending = s.pending := by simp [State.estimate]

@[simp] theorem showReading_pending (s : State) (r) : (s.showReading r).pending = s.pending := by rfl

@[simp] theorem checkTemps_pending (s : State) (old r) : (s.checkTemps old r).pending = s.pending := by simp [State.checkTemps]

@[simp] theorem packReturns_pending (s : State) (r) : (s.packReturns r).pending = s.pending := by simp [State.packReturns]

@[simp] theorem watchRest_pending (s : State) (r) : (s.watchRest r).pending = s.pending := by simp [State.watchRest]

@[simp] theorem execGaugeSample_goesOn (reading) (s : State) : GoesOn s.pending (execGaugeSample reading s) := by
  simp [execGaugeSample]

@[simp] theorem execPackAbsent_goesOn (s : State) : GoesOn s.pending (execPackAbsent s) := by simp [execPackAbsent]

@[simp] theorem oweRecord_pending (s : State) (flags) : (s.oweRecord flags).pending = s.pending := by rfl

@[simp] theorem setCapacity_pending (s : State) (q) : (s.setCapacity q).pending = s.pending := by simp [State.setCapacity]

@[simp] theorem setR25_pending (s : State) (r) : (s.setR25 r).pending = s.pending := by simp [State.setR25]

@[simp] theorem acceptCapacity_pending (s : State) (new) : (s.acceptCapacity new).pending = s.pending := by
  simp [State.acceptCapacity]

@[simp] theorem rejectCapacity_pending (s : State) (cause) : (s.rejectCapacity cause).pending = s.pending := by
  simp [State.rejectCapacity]

@[simp] theorem learnBetween_pending (s : State) (x soc) : (s.learnBetween x soc).pending = s.pending := by
  simp [State.learnBetween]

@[simp] theorem checkAgreement_pending (s : State) (soc) : (s.checkAgreement soc).pending = s.pending := by
  simp [State.checkAgreement]

@[simp] theorem anchor_pending (s : State) (r soc) : (s.anchor r soc).pending = s.pending := by rfl

@[simp] theorem execRestPoint_goesOn (s : State) : GoesOn s.pending (execRestPoint s) := by
  unfold execRestPoint
  dsimp only
  (repeat' split) <;> simp

@[simp] theorem execPackResistanceMeasured_goesOn (resistance) (s : State) :
    GoesOn s.pending (execPackResistanceMeasured resistance s) := by
  unfold execPackResistanceMeasured
  split <;> simp

@[simp] theorem execLearningRecordWrite_goesOn (s : State) : GoesOn s.pending (execLearningRecordWrite s) := by
  simp [execLearningRecordWrite]

@[simp] theorem execRelearn_goesOn (q) (s : State) : GoesOn s.pending (execRelearn q s) := by simp [execRelearn]

@[simp] theorem loadLearning_pending (s : State) : s.loadLearning.pending = s.pending := by
  unfold State.loadLearning
  dsimp only
  split <;> simp

@[simp] theorem execDayCount_goesOn (s : State) : GoesOn s.pending (execDayCount s) := by simp [execDayCount]

@[simp] theorem execMonitorSample_goesOn (readings) (s : State) : GoesOn s.pending (execMonitorSample readings s) := by
  simp [execMonitorSample]

@[simp] theorem execThermalThreshold_goesOn (mainDie temp) (s : State) :
    GoesOn s.pending (execThermalThreshold mainDie temp s) := by
  simp [execThermalThreshold]

@[simp] theorem planMemories_pending (s : State) : s.planMemories.1.pending = s.pending := by simp [State.planMemories]

@[simp] theorem clearDrift_pending (s : State) : s.clearDrift.pending = s.pending := by rfl

@[simp] theorem runReplan_pending (s : State) (cause) : (s.runReplan cause).pending = s.pending := by simp [State.runReplan]

@[simp] theorem replanAsked_pending (s : State) (cause) : (s.replanAsked cause).pending = s.pending := by
  simp [State.replanAsked]

@[simp] theorem execReplanDue_goesOn (s : State) : GoesOn s.pending (execReplanDue s) := by simp [execReplanDue]

@[simp] theorem execReplanNow_goesOn (q) (s : State) : GoesOn s.pending (execReplanNow q s) := by simp [execReplanNow]

@[simp] theorem execReplan_goesOn (cause) (s : State) : GoesOn s.pending (execReplan cause s) := by simp [execReplan]

@[simp] theorem execReplanDeferralOverdue_goesOn (s : State) : GoesOn s.pending (execReplanDeferralOverdue s) := by
  simp [execReplanDeferralOverdue]

@[simp] theorem execVtrimStep_goesOn (s : State) : GoesOn s.pending (execVtrimStep s) := by simp [execVtrimStep]

/-! ### Machine/Start -/

@[simp] theorem chooseBank_pending (s : State) (okActive okOther) : (s.chooseBank okActive okOther).pending = s.pending := by
  simp [State.chooseBank]

@[simp] theorem scanRegion_pending (s : State) (n) : (s.scanRegion n).pending = s.pending := by simp [State.scanRegion]

@[simp] theorem scanAll_pending (s : State) : s.scanAll.pending = s.pending := by simp [State.scanAll]

@[simp] theorem loadProgress_pending (s : State) : s.loadProgress.pending = s.pending := by
  unfold State.loadProgress
  split <;> simp

@[simp] theorem loadBanks_pending (s : State) : s.loadBanks.pending = s.pending := by
  refine foldl_pending _ (fun s a => ?_) _ _
  dsimp only
  (repeat' split) <;> simp

@[simp] theorem repairSector_pending (s : State) (e) : (s.repairSector e).pending = s.pending := by
  unfold State.repairSector
  dsimp only
  (repeat' split) <;> simp

@[simp] theorem classify_pending (s : State) : s.classify.pending = s.pending := by simp [State.classify]

@[simp] theorem syncCopies_pending (s : State) (k) : (s.syncCopies k).pending = s.pending := by
  unfold State.syncCopies
  dsimp only
  (repeat' split) <;> simp

@[simp] theorem loadSetting_pending (s : State) (k) : (s.loadSetting k).pending = s.pending := by
  unfold State.loadSetting
  dsimp only
  (repeat' split) <;> simp

@[simp] theorem loadSettings_pending (s : State) : s.loadSettings.pending = s.pending := by simp [State.loadSettings]

@[simp] theorem rebuildSlot_pending (s : State) (n) : (s.rebuildSlot n).pending = s.pending := by
  unfold State.rebuildSlot
  dsimp only
  (repeat' split) <;> simp

@[simp] theorem loadKeys_pending (s : State) : s.loadKeys.pending = s.pending := by simp [State.loadKeys]

@[simp] theorem clearSignalBox_pending (s : State) (address) : (s.clearSignalBox address).pending = s.pending := by
  simp [State.clearSignalBox]

@[simp] theorem coldMode_pending (s : State) : s.coldMode.pending = s.pending := by simp [State.coldMode]

@[simp] theorem loadChannels_pending (s : State) : s.loadChannels.pending = s.pending := by simp [State.loadChannels]

@[simp] theorem coldScan_pending (s : State) : s.coldScan.pending = s.pending := by
  simp [State.coldScan]

@[simp] theorem execSignalBoxColdStart_goesOn (romOk bankAOk bankBOk address) (s : State) (corrected bad) :
    GoesOn s.pending (execSignalBoxColdStart romOk bankAOk bankBOk address s corrected bad) := by
  simp [execSignalBoxColdStart]

@[simp] theorem keepFault_pending (s : State) (x) : (s.keepFault x).pending = s.pending := by
  unfold State.keepFault
  split <;> simp

@[simp] theorem execStationmasterRestart_goesOn (cause imageOk) (s : State) (corrected bad) :
    GoesOn s.pending (execStationmasterRestart cause imageOk s corrected bad) := by
  simp [execStationmasterRestart]

/-! ### Machine/Read -/

@[simp] theorem readAct_pending (src k) (s : State) : (readAct src k s).1.pending = s.pending := by
  unfold readAct
  split <;> simp

@[simp] theorem execZopRead_goesOn (q index sub) (s : State) : GoesOn s.pending (execZopRead q index sub s) := by
  simp [execZopRead]

@[simp] theorem describeAct_pending (index sub) (s : State) : (describeAct index sub s).1.pending = s.pending := by
  unfold describeAct
  split <;> simp

@[simp] theorem execDescribe_goesOn (q index sub) (s : State) : GoesOn s.pending (execDescribe q index sub s) := by
  simp [execDescribe]

@[simp] theorem execFetch_goesOn (q) (s : State) : GoesOn s.pending (execFetch q s) := by simp [execFetch]

@[simp] theorem execExecutePendingTimeout_goesOn (src tag) (s : State) :
    GoesOn s.pending (execExecutePendingTimeout src tag s) := by
  unfold execExecutePendingTimeout
  split <;> simp

@[simp] theorem execPendingResultExpiry_goesOn (src tag) (s : State) :
    GoesOn s.pending (execPendingResultExpiry src tag s) := by
  unfold execPendingResultExpiry
  (repeat' split) <;> simp

@[simp] theorem execSessionIdleTimeout_goesOn (src) (s : State) : GoesOn s.pending (execSessionIdleTimeout src s) := by
  simp [execSessionIdleTimeout]

/-! ### Machine/Mailbox -/

@[simp] theorem reads_pending (f) (s : State) : (reads f s).1.pending = s.pending := by rfl

@[simp] theorem runMail_goesOn (ld) (act : MailAct) (s : State) (h : (act s).1.pending = s.pending) :
    GoesOn s.pending (runMail ld act s) := by
  unfold runMail; split <;> simp [h]

@[simp] theorem openBytes_pending (len) (s : State) : (openBytes len s).2.pending = s.pending := by rfl

@[simp] theorem identifyAct_pending (ld) (s : State) : (identifyAct ld s).1.pending = s.pending := by rfl

@[simp] theorem execMbxIdentifyMemoryDevice_goesOn (ld) (s : State) : GoesOn s.pending (execMbxIdentifyMemoryDevice ld s) := by
  simp [execMbxIdentifyMemoryDevice]

@[simp] theorem execMbxGetPartitionInfo_goesOn (ld) (s : State) : GoesOn s.pending (execMbxGetPartitionInfo ld s) := by
  simp [execMbxGetPartitionInfo]

@[simp] theorem execMbxGetSupportedLogs_goesOn (ld) (s : State) : GoesOn s.pending (execMbxGetSupportedLogs ld s) := by
  simp [execMbxGetSupportedLogs]

@[simp] theorem execMbxGetLog_goesOn (ld) (s : State) : GoesOn s.pending (execMbxGetLog ld s) := by simp [execMbxGetLog]

@[simp] theorem execMbxGetFwInfo_goesOn (ld) (s : State) : GoesOn s.pending (execMbxGetFwInfo ld s) := by
  simp [execMbxGetFwInfo]

@[simp] theorem getEventsAct_pending (ld log) (s : State) : (getEventsAct ld log s).1.pending = s.pending := by
  simp [getEventsAct]

@[simp] theorem execMbxGetEventRecords_goesOn (ld log) (s : State) : GoesOn s.pending (execMbxGetEventRecords ld log s) := by
  simp [execMbxGetEventRecords]

@[simp] theorem clearEventsAct_pending (ld log count) (s : State) : (clearEventsAct ld log count s).1.pending = s.pending := by
  simp [clearEventsAct]

@[simp] theorem execMbxClearEventRecords_goesOn (ld log count) (s : State) :
    GoesOn s.pending (execMbxClearEventRecords ld log count s) := by
  simp [execMbxClearEventRecords]

@[simp] theorem execMbxGetEventInterruptPolicy_goesOn (ld) (s : State) :
    GoesOn s.pending (execMbxGetEventInterruptPolicy ld s) := by
  simp [execMbxGetEventInterruptPolicy]

@[simp] theorem execMbxSetEventInterruptPolicy_goesOn (ld policy) (s : State) :
    GoesOn s.pending (execMbxSetEventInterruptPolicy ld policy s) := by
  simp [execMbxSetEventInterruptPolicy]

@[simp] theorem execMbxGetAlertConfiguration_goesOn (ld) (s : State) :
    GoesOn s.pending (execMbxGetAlertConfiguration ld s) := by
  simp [execMbxGetAlertConfiguration]

@[simp] theorem execMbxSetAlertConfiguration_goesOn (ld config) (s : State) :
    GoesOn s.pending (execMbxSetAlertConfiguration ld config s) := by
  simp [execMbxSetAlertConfiguration]

@[simp] theorem execMbxGetTimestamp_goesOn (ld) (s : State) : GoesOn s.pending (execMbxGetTimestamp ld s) := by
  simp [execMbxGetTimestamp]

@[simp] theorem execMbxSetTimestamp_goesOn (ld time) (s : State) : GoesOn s.pending (execMbxSetTimestamp ld time s) := by
  simp [execMbxSetTimestamp]

@[simp] theorem execMbxGetHealthInfo_goesOn (ld) (s : State) : GoesOn s.pending (execMbxGetHealthInfo ld s) := by
  simp [execMbxGetHealthInfo]

@[simp] theorem execMbxGetShutdownState_goesOn (ld) (s : State) : GoesOn s.pending (execMbxGetShutdownState ld s) := by
  simp [execMbxGetShutdownState]

@[simp] theorem execMbxSetShutdownState_goesOn (ld dirty) (s : State) :
    GoesOn s.pending (execMbxSetShutdownState ld dirty s) := by
  simp [execMbxSetShutdownState]

@[simp] theorem poisonListAct_pending (ld) (s : State) : (poisonListAct ld s).1.pending = s.pending := by simp [poisonListAct]

@[simp] theorem execMbxGetPoisonList_goesOn (ld) (s : State) : GoesOn s.pending (execMbxGetPoisonList ld s) := by
  simp [execMbxGetPoisonList]

@[simp] theorem clearPoisonAct_pending (ld dpa data) (s : State) : (clearPoisonAct ld dpa data s).1.pending = s.pending := by
  unfold clearPoisonAct
  split
  · rfl
  · split
    · rfl
    · split
      next e => simp [pending_of_eq (clearPoison_pending s _ _ _) e]
      next => rfl

@[simp] theorem execMbxClearPoison_goesOn (ld dpa data) (s : State) : GoesOn s.pending (execMbxClearPoison ld dpa data s) :=
  runMail_goesOn ld _ s.freshAnswers (clearPoisonAct_pending ..)

@[simp] theorem injectPoisonAct_pending (ld dpa) (s : State) : (injectPoisonAct ld dpa s).1.pending = s.pending := by
  unfold injectPoisonAct
  (repeat' split) <;> simp

@[simp] theorem execMbxInjectPoison_goesOn (ld dpa) (s : State) : GoesOn s.pending (execMbxInjectPoison ld dpa s) :=
  runMail_goesOn ld _ s.freshAnswers (injectPoisonAct_pending ..)

@[simp] theorem execMbxGetScanMediaCapabilities_goesOn (ld) (s : State) : GoesOn s.pending (execMbxGetScanMediaCapabilities ld s) :=
  runMail_goesOn ld _ s rfl

@[simp] theorem scanMediaAct_pending (ld dpa units) (s : State) : (scanMediaAct ld dpa units s).1.pending = s.pending := by
  simp [scanMediaAct]

@[simp] theorem execMbxScanMedia_goesOn (ld dpa length) (s : State) : GoesOn s.pending (execMbxScanMedia ld dpa length s) := by
  simp [execMbxScanMedia]

@[simp] theorem execMbxGetScanMediaResults_goesOn (ld) (s : State) : GoesOn s.pending (execMbxGetScanMediaResults ld s) := by
  simp [execMbxGetScanMediaResults]

@[simp] theorem execMbxGetLsa_goesOn (ld offset length) (s : State) : GoesOn s.pending (execMbxGetLsa ld offset length s) := by
  simp [execMbxGetLsa]

@[simp] theorem storeLsa_pending (s : State) (ld area) : (s.storeLsa ld area).pending = s.pending := by rfl

@[simp] theorem execMbxSetLsa_goesOn (ld offset data) (s : State) : GoesOn s.pending (execMbxSetLsa ld offset data s) := by
  simp [execMbxSetLsa]

@[simp] theorem execMbxUnsupportedOpcode_goesOn (ld opcode) (s : State) :
    GoesOn s.pending (execMbxUnsupportedOpcode ld opcode s) := by
  simp [execMbxUnsupportedOpcode]

@[simp] theorem leveled_pending (ld least) (act : MailAct) (s : State) (h : (act s).1.pending = s.pending) :
    (leveled ld least act s).1.pending = s.pending := by
  unfold leveled; split <;> simp [h]

@[simp] theorem execGetZopLimits_goesOn (ld) (s : State) : GoesOn s.pending (execGetZopLimits ld s) := by
  simp [execGetZopLimits]

@[simp] theorem execGetPersistenceSnapshot_goesOn (ld) (s : State) : GoesOn s.pending (execGetPersistenceSnapshot ld s) := by
  simp [execGetPersistenceSnapshot]

@[simp] theorem execGetCouplingMap_goesOn (ld first) (s : State) : GoesOn s.pending (execGetCouplingMap ld first s) := by
  simp [execGetCouplingMap]

@[simp] theorem execGetVendorIdentity_goesOn (ld) (s : State) : GoesOn s.pending (execGetVendorIdentity ld s) := by
  simp [execGetVendorIdentity]

/-! ### Machine/Fabric -/

@[simp] theorem runFabric_goesOn (p) (act : State → State × List Byte) (s : State) (h : (act s).1.pending = s.pending) :
    GoesOn s.pending (runFabric p act s) := by
  unfold runFabric; split <;> simp [h]

@[simp] theorem setLdValues_pending (s : State) (f ld last bs) : (s.setLdValues f ld last bs).pending = s.pending := by
  induction bs generalizing s ld with
  | nil => rfl
  | cons b bs ih => simp [State.setLdValues, ih]

@[simp] theorem setRun_fst_pending (f p first vs) (s : State) : (setRun f p first vs s).1.pending = s.pending := by
  simp [setRun]

@[simp] theorem execFmGetLdAllocations_goesOn (p) (s : State) : GoesOn s.pending (execFmGetLdAllocations p s) := by
  simp [execFmGetLdAllocations]

@[simp] theorem execFmSetLdAllocations_goesOn (p first fractions) (s : State) :
    GoesOn s.pending (execFmSetLdAllocations p first fractions s) := by
  simp [execFmSetLdAllocations]

@[simp] theorem execFmGetQosControl_goesOn (p) (s : State) : GoesOn s.pending (execFmGetQosControl p s) := by
  simp [execFmGetQosControl]

@[simp] theorem execFmSetQosControl_goesOn (p control) (s : State) : GoesOn s.pending (execFmSetQosControl p control s) := by
  simp [execFmSetQosControl]

@[simp] theorem execFmGetQosStatus_goesOn (p) (s : State) : GoesOn s.pending (execFmGetQosStatus p s) :=
  runFabric_goesOn p _ s rfl

@[simp] theorem execFmGetQosAllocatedBw_goesOn (p first count) (s : State) :
    GoesOn s.pending (execFmGetQosAllocatedBw p first count s) := by
  simp [execFmGetQosAllocatedBw]

@[simp] theorem execFmSetQosAllocatedBw_goesOn (p first fractions) (s : State) :
    GoesOn s.pending (execFmSetQosAllocatedBw p first fractions s) := by
  simp [execFmSetQosAllocatedBw]

@[simp] theorem execFmGetQosBwLimit_goesOn (p first count) (s : State) :
    GoesOn s.pending (execFmGetQosBwLimit p first count s) := by
  simp [execFmGetQosBwLimit]

@[simp] theorem execFmSetQosBwLimit_goesOn (p first limits) (s : State) :
    GoesOn s.pending (execFmSetQosBwLimit p first limits s) := by
  simp [execFmSetQosBwLimit]

/-! ### Machine/FlashRead -/

@[simp] theorem loseImageBlock_pending (s : State) (offset) : (s.loseImageBlock offset).pending = s.pending := by
  obtain ⟨f, h⟩ : ∃ f, @State.loseImageBlock = f := ⟨_, rfl⟩
  rw [h]
  delta State.loseImageBlock at h
  have h := congrFun₂ h s offset
  beta_reduce at h
  rw [← h]
  obtain ⟨g, e, hg⟩ := loseTableLine_opaque
  rw [e]
  simp [hg]

@[simp] theorem loseSegment_pending (s : State) (seal20 segnum) : (s.loseSegment seal20 segnum).pending = s.pending := by
  unfold State.loseSegment
  split <;> simp

@[simp] theorem unreadable_pending (s : State) (name block) : (s.unreadable name block).pending = s.pending := by
  simp [State.unreadable]

@[simp] theorem levelRecovered_pending (s : State) (c block) : (s.levelRecovered c block).pending = s.pending := by
  simp [State.levelRecovered]

@[simp] theorem readPassed_pending (s : State) (c block name k) : (s.readPassed c block name k).pending = s.pending := by
  simp [State.readPassed]

@[simp] theorem execFlashReadComplete_goesOn (c block name outcome) (s : State) :
    GoesOn s.pending (execFlashReadComplete c block name outcome s) := by
  unfold execFlashReadComplete
  split
  · simp
  · dsimp only
    split
    · split <;> simp
    · simp

/-! ### Machine/Loop -/

@[simp] theorem sendOn_pending (s : State) (n k) : (s.sendOn n k).pending = s.pending := by rfl

@[simp] theorem sendFrom_pending (s : State) (ringE stop k) : (s.sendFrom ringE stop k).pending = s.pending := by
  simp [State.sendFrom]

@[simp] theorem isolateStop_pending (s : State) (x) : (s.isolateStop x).pending = s.pending := by simp [State.isolateStop]

@[simp] theorem isolateStops_pending (s : State) : s.isolateStops.pending = s.pending := by simp [State.isolateStops]

@[simp] theorem failLink_pending (s : State) (n) : (s.failLink n).pending = s.pending := by
  unfold State.failLink
  dsimp only
  split
  · rfl
  · rw [replan_pending, isolateStops_pending, foldl_pending _ (fun t k => sendFrom_pending t _ _ k)]
    split <;> simp

@[simp] theorem replayLink_pending (s : State) (n) : (s.replayLink n).pending = s.pending := by simp [State.replayLink]

@[simp] theorem injected_pending (s : State) (n k) : (s.injected n k).pending = s.pending := by simp [State.injected]

@[simp] theorem execLoopLinePacket_goesOn (link seq packet) (s : State) (sent) :
    GoesOn s.pending (execLoopLinePacket link seq packet s sent) := by
  simp [execLoopLinePacket]

@[simp] theorem execLinkFailure_goesOn (link) (s : State) : GoesOn s.pending (execLinkFailure link s) := by
  simp [execLinkFailure]

@[simp] theorem bridgeReplays_pending (s : State) (n) : (s.bridgeReplays n).pending = s.pending := by simp [State.bridgeReplays]

@[simp] theorem execDieBridgeFailure_goesOn (s : State) (good) : GoesOn s.pending (execDieBridgeFailure s good) := by
  unfold execDieBridgeFailure
  (repeat' split) <;> simp

/-! ### Machine/Notify -/

@[simp] theorem busFree_pending (s : State) : s.busFree.pending = s.pending := by rfl

@[simp] theorem attemptFailed_pending (s : State) (nack) : (s.attemptFailed nack).pending = s.pending := by
  unfold State.attemptFailed
  (repeat' split) <;> simp

@[simp] theorem execHostNotifySend_goesOn (acknowledged) (s : State) :
    GoesOn s.pending (execHostNotifySend acknowledged s) := by
  unfold execHostNotifySend
  (repeat' split) <;> simp

@[simp] theorem execArbitrationLost_goesOn (inAddress) (s : State) : GoesOn s.pending (execArbitrationLost inAddress s) := by
  simp [execArbitrationLost]

@[simp] theorem execHostNotifyRetry_goesOn (s : State) : GoesOn s.pending (execHostNotifyRetry s) := by
  unfold execHostNotifyRetry
  (repeat' split) <;> simp

@[simp] theorem execTestNotify_goesOn (q code) (s : State) : GoesOn s.pending (execTestNotify q code s) := by
  simp [execTestNotify]

/-! ### Machine/Tap -/

@[simp] theorem execTapInstruction_goesOn (i) (s : State) : GoesOn s.pending (execTapInstruction i s) := by
  unfold execTapInstruction
  split <;> simp

/-! ### Machine/Zop -/

@[simp] theorem misfit_goesOn (q f) (s : State) : GoesOn s.pending (misfit q f s) := by simp [misfit]

@[simp] theorem writeFrame_goesOn (q f) (s : State) : GoesOn s.pending (writeFrame q f s) := by
  unfold writeFrame
  (repeat' split) <;> simp

@[simp] theorem executeBare_goesOn (q k) (s : State) : GoesOnIfAny s.pending (executeBare q k s) := by
  have h (pass) : GoesOn s.pending (execPipeRetest q pass s.draw) := execPipeRetest_goesOn q pass s.draw
  simp [executeBare, h]

@[simp] theorem executeCarriage_goesOn (q f k n) (s : State) : GoesOnIfAny s.pending (executeCarriage q f k n s) := by
  simp [executeCarriage]

@[simp] theorem executeListed_goesOn (q f k n) (s : State) : GoesOnIfAny s.pending (executeListed q f k n s) := by
  simp [executeListed]

@[simp] theorem executeOther_goesOn (q f k n) (s : State) : GoesOnIfAny s.pending (executeOther q f k n s) := by
  simp [executeOther]

@[simp] theorem executeFrame_goesOn (q f) (s : State) : GoesOn s.pending (executeFrame q f s) :=
  goesOn_getD (goesOnIfAny_orElse (by simp) (goesOnIfAny_orElse (executeCarriage_goesOn q f _ _ s)
    (goesOnIfAny_orElse (executeOther_goesOn q f _ _ s) (executeListed_goesOn q f _ _ s)))) (misfit_goesOn q f s)

@[simp] theorem requestFrame_goesOn (q f) (s : State) : GoesOn s.pending (requestFrame q f s) := by simp [requestFrame]

@[simp] theorem serveFrame_goesOn (src bs) (s : State) : GoesOn s.pending (serveFrame src bs s) := by simp [serveFrame]

@[simp] theorem levelRefused_pending (s : State) (ld bs) : (s.levelRefused ld bs).1.pending = s.pending := by
  simp [State.levelRefused]

@[simp] theorem execZopRequest_goesOn (ld frame) (s : State) : GoesOn s.pending (execZopRequest ld frame s) := by
  simp [execZopRequest]

@[simp] theorem background_pending (s : State) (ld tag key) : (s.background ld tag key).pending = s.pending := by
  unfold State.background
  dsimp only
  split <;> simp

@[simp] theorem execZopRequestInBackground_goesOn (ld frame) (s : State) :
    GoesOn s.pending (execZopRequestInBackground ld frame s) := by
  unfold execZopRequestInBackground
  dsimp only
  split
  · simp
  · split
    · simp
    · split
      · simp
      · split
        · simp
        · obtain ⟨t, e, ht⟩ := serveFrame_goesOn (.mailbox ld) frame { s with out := { s.out with zop := none } }
          rw [e]
          simp [ht]

@[simp] theorem mctpControl_pending (s : State) (src ep body) : (s.mctpControl src ep body).pending = s.pending := by
  simp [State.mctpControl]

@[simp] theorem execMctpMessage_goesOn (source msgType body) (s : State) :
    GoesOn s.pending (execMctpMessage source msgType body s) := by
  unfold execMctpMessage
  (repeat' split) <;> simp

/-! ### Machine/TwoWire -/

@[simp] theorem execWindowSnapshotRefresh_goesOn (s : State) : GoesOn s.pending (execWindowSnapshotRefresh s) := by
  simp [execWindowSnapshotRefresh]

@[simp] theorem addressed_pending (s : State) : s.addressed.pending = s.pending := by rfl

@[simp] theorem readWindow_pending (s : State) (count) : (s.readWindow count).pending = s.pending := by simp [State.readWindow]

@[simp] theorem execTwoWireRead_goesOn (count) (s : State) : GoesOn s.pending (execTwoWireRead count s) := by
  simp [execTwoWireRead]

@[simp] theorem proxyClear_pending (s : State) : s.proxyClear.pending = s.pending := by
  unfold State.proxyClear
  split <;> simp

@[simp] theorem submitProxy_goesOn (s : State) : GoesOn s.pending (submitProxy s) := by
  unfold submitProxy
  extract_lets p
  split
  · split
    · exact (serveFrame_goesOn ..).trans rfl
    · simp
  · split <;> simp
theorem sp2 (s : State) : GoesOn s.pending (submitProxy s) := by
  unfold submitProxy
  dsimp only
  split
  · split
    · exact (serveFrame_goesOn ..).trans rfl
    · simp
  · split <;> simp

@[simp] theorem execProxySubmit_goesOn (s : State) : GoesOn s.pending (execProxySubmit s) := by simp [execProxySubmit]

@[simp] theorem execProxyClear_goesOn (s : State) : GoesOn s.pending (execProxyClear s) := by simp [execProxyClear]

@[simp] theorem execProxyResponseReady_goesOn (s : State) : GoesOn s.pending (execProxyResponseReady s) := by
  unfold execProxyResponseReady
  dsimp only
  (repeat' split) <;> simp

@[simp] theorem writeNotify_pending (s : State) (sub b) : (s.writeNotify sub b).pending = s.pending := by
  unfold State.writeNotify
  (repeat' split) <;> simp

@[simp] theorem writeNotifyPage_pending (s : State) (ws) : (s.writeNotifyPage ws).pending = s.pending := by
  refine foldl_pending _ (fun s a => ?_) _ _
  (repeat' split) <;> simp

@[simp] theorem storeWindow_goesOn (s : State) (page ws) : GoesOn s.pending (storeWindow s page ws) := by
  unfold storeWindow
  dsimp only
  split
  · split
    · split
      · exact submitProxy_goesOn { s with bus := _ }
      · split <;> simp
    · simp
  · split
    · simp
    · split <;> simp

@[simp] theorem windowWrite_goesOn (bytes) (s : State) : GoesOn s.pending (windowWrite bytes s) := by
  unfold windowWrite
  split
  · simp
  · simp
  · extract_lets ptr page open' b t b' u
    split
    · simp [t]
    · split
      · simp [t]
      · exact storeWindow_goesOn u page _

@[simp] theorem pecFailed_pending (s : State) : s.pecFailed.pending = s.pending := by simp [State.pecFailed]

@[simp] theorem writeTransaction_goesOn (bytes) (s : State) : GoesOn s.pending (writeTransaction bytes s) := by
  unfold writeTransaction
  split <;> simp

@[simp] theorem execTwoWireWrite_goesOn (bytes) (s : State) : GoesOn s.pending (execTwoWireWrite bytes s) := by
  unfold execTwoWireWrite
  split
  · exact (writeTransaction_goesOn ..).trans (by simp)
  · simp

@[simp] theorem execQuickCommand_goesOn (s : State) : GoesOn s.pending (execQuickCommand s) := by simp [execQuickCommand]

@[simp] theorem execTwoWireBusCondition_goesOn (c bytes) (s : State) : GoesOn s.pending (execTwoWireBusCondition c bytes s) := by
  unfold execTwoWireBusCondition
  split
  · simp
  · cases c with
    | startInWriteData | stopInWriteData | restartAtAckWrite => exact (writeTransaction_goesOn ..).trans (by simp)
    | startInReadData | stopInReadData | restartAtAckRead | inAddressByte => simp

@[simp] theorem execStretchLimitExpiry_goesOn (second) (s : State) : GoesOn s.pending (execStretchLimitExpiry second s) := by
  simp [execStretchLimitExpiry]

@[simp] theorem execSmbusClockLowTimeout_goesOn (s : State) : GoesOn s.pending (execSmbusClockLowTimeout s) := by
  simp [execSmbusClockLowTimeout]

/-! ### Every command -/

/-- A read of DRAM, where the command is one, names a frame of the population (R282). -/
def framesExist (c : Instr) (s : State) : Prop :=
  ∀ fr line src a b, c = .dramReadDecode fr line src a b → fr.toNat < s.framesPopulated

theorem execDramReadDecode_beyond (frame line source first second) (s : State) (h : s.framesPopulated ≤ frame.toNat) :
    execDramReadDecode frame line source first second s = .fault (.noSuchFrame frame.toNat) := by
  simp [execDramReadDecode, h]

theorem exec_goesOn (c : Instr) (s : State) (h : framesExist c s) : GoesOn s.pending (exec c s) := by
  cases c
  case dramReadDecode fr line src a b => exact execDramReadDecode_goesOn _ _ _ _ _ _ (h fr line src a b rfl)
  all_goals simp [exec]

theorem pending_of_exec_next {c : Instr} {s t : State} (h : exec c s = .next t) : t.pending = s.pending := by
  by_cases hc : framesExist c s
  · obtain ⟨u, hu, hq⟩ := exec_goesOn c s hc
    cases hu.symm.trans h
    exact hq
  · simp only [framesExist, not_forall] at hc
    obtain ⟨fr, line, src, a, b, rfl, hf⟩ := hc
    cases (execDramReadDecode_beyond fr line src a b s (Nat.le_of_not_lt hf)).symm.trans h

/-! ### A step -/

theorem step_command {s : State} {c : Instr} {rest : List Instr} (h : s.pending = c :: rest) :
    step s = exec c { s with pending := rest } := by
  simp [step, h]

theorem step_idle {s : State} (h : s.pending = []) (hd : s.work.delayed = []) : step s = .next s.tick := by
  simp [step, h, hd]

theorem step_delayed {s : State} {c : Instr} {rest : List Instr} (h : s.pending = []) (hd : s.work.delayed = c :: rest) :
    step s = exec c (State.tick { s with work := { s.work with delayed := rest } }) := by
  simp [step, h, hd]

theorem step_next_pending {s t : State} (h : step s = .next t) : t.pending = s.pending.tail := by
  cases hp : s.pending with
  | cons c rest =>
    rw [step_command hp] at h
    exact pending_of_exec_next h
  | nil =>
    cases hd : s.work.delayed with
    | nil =>
      rw [step_idle hp hd] at h
      cases h
      rw [tick_pending, hp, List.tail_nil]
    | cons c rest =>
      rw [step_delayed hp hd] at h
      rw [pending_of_exec_next h, tick_pending, hp, List.tail_nil]

/-! ### A tick -/

/-- The passing of a nanosecond changes the two clocks and the counters. -/
theorem idle_frame (s : State) : ∃ p, s.idle = { s with clock := s.clock + 1, uptime := s.uptime + 1, perf := p } := by
  unfold State.idle State.count
  split <;> exact ⟨_, rfl⟩

theorem verified_of_none_waits {s : State} (h0 : (s.hostPort 0).unverified = []) (h1 : (s.hostPort 1).unverified = []) :
    s.verified = s := by
  simp [State.verified, h0, h1]

theorem tryGlobal_of_none_due {s : State} (h : s.terms.globalDue = none) : s.tryGlobal = s := by
  simp [State.tryGlobal, h]

/-- With no message waiting for its MAC and no global term end due, a tick is the passing of a nanosecond. -/
theorem tick_quiet {s : State} (h0 : (s.hostPort 0).unverified = []) (h1 : (s.hostPort 1).unverified = [])
    (hg : s.terms.globalDue = none) : s.tick = s.idle := by
  have hi : s.idle.terms.globalDue = none := by
    obtain ⟨p, e⟩ := idle_frame s
    rw [e]
    exact hg
  rw [State.tick, verified_of_none_waits h0 h1, tryGlobal_of_none_due hi]

/-- Settles O59: each command's meaning goes on and keeps the queue, by the lemma of each function that it calls; a step is one command on
the queue's rest, or a tick. -/
theorem everyCommandGoesOn : Obligations.EveryCommandGoesOn := by
  refine ⟨exec_goesOn, fun _ _ => step_next_pending, fun s hp hd h0 h1 hg => ?_, fun _ => step_idle, fun _ _ _ => step_delayed⟩
  obtain ⟨p, e⟩ := idle_frame s
  rw [step_idle hp hd, tick_quiet h0 h1 hg, e]
  exact ⟨_, rfl, rfl, rfl, rfl⟩

end Sys2Proof.Machine
end

section
/-! SUPPORT. A packet that its own stop injects, as the counters see it; the obligation LoopLine (O47) stands at the end. -/
namespace Sys2Proof.Machine

/-- The injection of a packet counts once for source 0xF070, in the instance of its stop (R573). -/
theorem injected_perf (s : State) (n : Nat) (k : Packet) (hsrc : k.src.toNat = linkStart n) (hnew : (s.link n).replays = 0) :
    (s.injected n k).perf = (s.count 0xF070 (linkStart n) 1).perf := by
  simp [State.injected, State.sendOn, State.setLink, hsrc, hnew]

/-- A unit in SERVICE whose counter 18 selects the packets injected by every stop (R573). -/
def countingInjected : State :=
  { State.reset with
    ctl := { State.reset.ctl with mode := .service }
    perf := { State.reset.perf with counters := [(18, { Counter.initial with source := 0xF070 })] } }

/-- A packet that stop 0 sends to stop 4. -/
def packetOfStop0 : Packet :=
  { pcrc := 0, dst := 4, src := 0, cls := 0, opc := 0, len := 0, pois := 0, tag := 0, addr := 0, payload := [] }

/-- That unit counts the packet as it leaves stop 0. -/
theorem countingInjected_counts : (countingInjected.injected 0 packetOfStop0).perf.counters
    = [(18, { Counter.initial with source := 0xF070, value := 1 })] := by
  rw [injected_perf _ _ _ rfl rfl]
  decide

/-- Refutes O47: each counter of source 0xF070 counts the packet that a stop injects (R573), so an injection changes more than the
links, which are all that the first clause lets it change. -/
theorem not_loopLine : ¬ Obligations.LoopLine := by
  intro h
  obtain ⟨hinj, -⟩ := h
  obtain ⟨-, -, hframe⟩ := (hinj countingInjected 0 packetOfStop0).2 rfl rfl
  have hcounters := congrArg (fun t => t.perf.counters) hframe
  have hsame : [(18, { Counter.initial with source := 0xF070, value := 1 })] = countingInjected.perf.counters :=
    countingInjected_counts.symm.trans hcounters
  exact absurd hsame (by decide)

end Sys2Proof.Machine
end

section
/-! SUPPORT. What the writes of the translation tables change and leave alone, with the lines that they count as changed (R211); the
obligation FetchesAndEviction (O19) stands at the end. -/
namespace Sys2Proof.Machine

/-! ### Changed lines (R211) -/

/-- The state `t` differs from `s` by what the count of changed lines may move: the frames of the nodes of smaller tables, the lines
changed, the marks of few nodes and of a hold, and what an event moves. -/
def Touched (s t : State) : Prop :=
  ∃ a c n m l p o, t = { s with tables := { s.tables with aux := a }, work := { s.work with changed := c, lowNodes := n },
                                flush := { s.flush with metaHold := m }, log := l, perf := p, od := o }

theorem Touched.refl (s : State) : Touched s s := ⟨_, _, _, _, _, _, _, rfl⟩

theorem Touched.trans {s t u : State} (h : Touched s t) (h' : Touched t u) : Touched s u := by
  obtain ⟨a, c, n, m, l, p, o, rfl⟩ := h
  obtain ⟨a', c', n', m', l', p', o', rfl⟩ := h'
  exact ⟨a', c', n', m', l', p', o', rfl⟩

theorem touched_raise (s : State) (c v : Nat) (is : List (ItemKind × Nat)) : Touched s (s.raise c v is) := by
  obtain ⟨l, p, o, h⟩ := raiseWith_frame s c v is []
  exact ⟨_, _, _, _, l, p, o, h⟩

theorem touched_checkNodes (s : State) : Touched s s.checkNodes := by
  have hlow : ∀ b, Touched s { s with work := { s.work with lowNodes := b } } := fun b => ⟨_, _, b, _, _, _, _, rfl⟩
  unfold State.checkNodes
  dsimp only
  split
  · exact (hlow _).trans (touched_raise _ _ _ _)
  · exact hlow _

theorem touched_placeAux (s : State) (line : Nat) : Touched s (s.placeAux line) := by
  unfold State.placeAux
  split
  · exact .refl s
  · split
    · next f _ =>
      have haux : Touched s { s with tables := { s.tables with aux := mapSet (fun _ => 0) s.tables.aux (line / 64) (f + 1) } } :=
        ⟨_, _, _, _, _, _, _, rfl⟩
      exact haux.trans (touched_checkNodes _)
    · exact .refl s

theorem touched_touch (s : State) (line : Nat) : Touched s (s.touch line) := by
  unfold State.touch
  split
  · exact .refl s
  · have hline : Touched s { s with work := { s.work with changed := s.work.changed ++ [line] } } := ⟨_, _, _, _, _, _, _, rfl⟩
    have hplaced := hline.trans (touched_placeAux _ line)
    dsimp only
    split
    · have hhold : ∀ t : State, Touched t { t with flush := { t.flush with metaHold := true } } := fun t => ⟨_, _, _, _, _, _, _, rfl⟩
      exact (hplaced.trans (hhold _)).trans (touched_raise _ _ _ _)
    · exact hplaced

theorem touched_foldl (lines : List Nat) (s : State) : Touched s (lines.foldl State.touch s) := by
  induction lines generalizing s with
  | nil => exact .refl s
  | cons line lines ih => exact (touched_touch s line).trans (ih _)

theorem touched_ite {s t u : State} (c : Prop) [Decidable c] (ht : Touched s t) (hu : Touched s u) : Touched s (if c then t else u) := by
  split
  · exact ht
  · exact hu

/-! ### Leaf entries -/

/-- A leaf that is written: its entry, the lines of the cache that the nodes do not hold, and the count of changed lines. -/
theorem setLeaf_touched (s : State) (key : Nat) (l : Leaf) :
    ∃ u, Touched { s with tables := { s.tables with leaves := mapSet (fun _ => Leaf.empty) s.tables.leaves key l }
                          work := { s.work with unwritten := u } } (s.setLeaf key l) := by
  have hcache : ∃ u, (if s.leaf key = l then s else s.cacheWrite key) = { s with work := { s.work with unwritten := u } } := by
    unfold State.cacheWrite
    split
    · exact ⟨_, rfl⟩
    · split <;> exact ⟨_, rfl⟩
  obtain ⟨u, hu⟩ := hcache
  refine ⟨u, ?_⟩
  unfold State.setLeaf
  dsimp only
  rw [hu]
  exact (touched_ite _ (.refl _) (touched_touch _ _)).trans ((touched_ite _ (.refl _) (touched_touch _ _)).trans (touched_foldl _ _))

/-- Of a written leaf, the state changes as the map of leaves and the count of changed lines do. -/
theorem setLeaf_frame (s : State) (key : Nat) (l : Leaf) :
    ∃ a c n u m lg p o, s.setLeaf key l = { s with
      tables := { s.tables with leaves := mapSet (fun _ => Leaf.empty) s.tables.leaves key l, aux := a }
      work := { s.work with changed := c, lowNodes := n, unwritten := u }
      flush := { s.flush with metaHold := m }, log := lg, perf := p, od := o } := by
  obtain ⟨u, a, c, n, m, lg, p, o, h⟩ := setLeaf_touched s key l
  exact ⟨a, c, n, u, m, lg, p, o, h⟩

theorem setLeaf_leaf (s : State) (key : Nat) (l : Leaf) (k : Nat) : (s.setLeaf key l).leaf k = if k = key then l else s.leaf k := by
  obtain ⟨a, c, n, u, m, lg, p, o, h⟩ := setLeaf_frame s key l
  rw [h]
  exact mapGet_mapSet ..

@[simp] theorem setLeaf_leaf_same (s : State) (key : Nat) (l : Leaf) : (s.setLeaf key l).leaf key = l := by
  rw [setLeaf_leaf, if_pos rfl]

theorem setLeaf_leaf_other (s : State) (key : Nat) (l : Leaf) {k : Nat} (h : k ≠ key) : (s.setLeaf key l).leaf k = s.leaf k := by
  rw [setLeaf_leaf, if_neg h]

@[simp] theorem setLeaf_carriages (s : State) (key : Nat) (l : Leaf) : (s.setLeaf key l).tables.carriages = s.tables.carriages := by
  obtain ⟨a, c, n, u, m, lg, p, o, h⟩ := setLeaf_frame s key l; rw [h]

@[simp] theorem setLeaf_interior (s : State) (key : Nat) (l : Leaf) : (s.setLeaf key l).tables.interior = s.tables.interior := by
  obtain ⟨a, c, n, u, m, lg, p, o, h⟩ := setLeaf_frame s key l; rw [h]

@[simp] theorem setLeaf_flashMap (s : State) (key : Nat) (l : Leaf) : (s.setLeaf key l).tables.flash = s.tables.flash := by
  obtain ⟨a, c, n, u, m, lg, p, o, h⟩ := setLeaf_frame s key l; rw [h]

@[simp] theorem setLeaf_dram (s : State) (key : Nat) (l : Leaf) : (s.setLeaf key l).dram = s.dram := by
  obtain ⟨a, c, n, u, m, lg, p, o, h⟩ := setLeaf_frame s key l; rw [h]

@[simp] theorem setLeaf_ctl (s : State) (key : Nat) (l : Leaf) : (s.setLeaf key l).ctl = s.ctl := by
  obtain ⟨a, c, n, u, m, lg, p, o, h⟩ := setLeaf_frame s key l; rw [h]

@[simp] theorem setLeaf_saves (s : State) (key : Nat) (l : Leaf) : (s.setLeaf key l).saves = s.saves := by
  obtain ⟨a, c, n, u, m, lg, p, o, h⟩ := setLeaf_frame s key l; rw [h]

@[simp] theorem setLeaf_waiters (s : State) (key : Nat) (l : Leaf) : (s.setLeaf key l).work.waiters = s.work.waiters := by
  obtain ⟨a, c, n, u, m, lg, p, o, h⟩ := setLeaf_frame s key l; rw [h]

@[simp] theorem setLeaf_discarded (s : State) (key : Nat) (l : Leaf) : (s.setLeaf key l).work.discarded = s.work.discarded := by
  obtain ⟨a, c, n, u, m, lg, p, o, h⟩ := setLeaf_frame s key l; rw [h]

/-! ### Depot entries and flash copies -/

/-- A depot entry that is written: its entry, the nodes of the depot table, and the count of changed lines. -/
theorem setDepot_frame (s : State) (i : Nat) (e : DepotEntry) :
    ∃ a c n d m lg p o, s.setDepot i e = { s with
      tables := { s.tables with depot := mapSet (fun _ => DepotEntry.empty) s.tables.depot i e, aux := a }
      work := { s.work with changed := c, lowNodes := n, depotNodes := d }
      flush := { s.flush with metaHold := m }, log := lg, perf := p, od := o } := by
  have hnodes : ∀ t : State, ∃ d, (if t.work.depotNodes.contains (i / 128) then t
      else { t with work := { t.work with depotNodes := i / 128 :: t.work.depotNodes } }) =
        { t with work := { t.work with depotNodes := d } } := by
    intro t
    split <;> exact ⟨_, rfl⟩
  unfold State.setDepot
  dsimp only
  obtain ⟨d, hd⟩ := hnodes { s with tables := { s.tables with depot := mapSet (fun _ => DepotEntry.empty) s.tables.depot i e } }
  rw [hd]
  obtain ⟨a, c, n, m, lg, p, o, h⟩ := touched_ite ((s.depotEntry i).significant = e.significant) (.refl _) (touched_touch _ _)
  exact ⟨a, c, n, d, m, lg, p, o, h⟩

@[simp] theorem setDepot_depotEntry_same (s : State) (i : Nat) (e : DepotEntry) : (s.setDepot i e).depotEntry i = e := by
  obtain ⟨a, c, n, d, m, lg, p, o, h⟩ := setDepot_frame s i e
  rw [h]
  exact mapGet_mapSet_same ..

@[simp] theorem setDepot_leaves (s : State) (i : Nat) (e : DepotEntry) : (s.setDepot i e).tables.leaves = s.tables.leaves := by
  obtain ⟨a, c, n, d, m, lg, p, o, h⟩ := setDepot_frame s i e; rw [h]

@[simp] theorem setDepot_flashMap (s : State) (i : Nat) (e : DepotEntry) : (s.setDepot i e).tables.flash = s.tables.flash := by
  obtain ⟨a, c, n, d, m, lg, p, o, h⟩ := setDepot_frame s i e; rw [h]

@[simp] theorem setDepot_dram (s : State) (i : Nat) (e : DepotEntry) : (s.setDepot i e).dram = s.dram := by
  obtain ⟨a, c, n, d, m, lg, p, o, h⟩ := setDepot_frame s i e; rw [h]

/-- A flash-map entry that is written: its entry, and the count of changed lines. -/
theorem setFlashCopy_frame (s : State) (name : Nat) (x : FlashCopy) :
    ∃ f a c n m lg p o, s.setFlashCopy name x = { s with
      tables := { s.tables with flash := f, aux := a }, work := { s.work with changed := c, lowNodes := n }
      flush := { s.flush with metaHold := m }, log := lg, perf := p, od := o } := by
  unfold State.setFlashCopy
  split
  · exact ⟨_, _, _, _, _, _, _, _, rfl⟩
  · obtain ⟨a, c, n, m, lg, p, o, h⟩ := (touched_touch _ _).trans (touched_ite ((s.flashCopy name).present = true) (.refl _)
      (touched_checkNodes _))
    exact ⟨_, a, c, n, m, lg, p, o, h⟩

/-- A freed flash copy leaves the leaves, the carriages, the interior entries, the frames and the mode alone. -/
theorem freePageCopy_frame (s : State) (key : Nat) :
    ∃ f a w fl lg p o v, s.freePageCopy key = { s with
      tables := { s.tables with flash := f, aux := a }, work := w, flush := fl, log := lg, perf := p, od := o, saves := v } := by
  obtain ⟨f, a, c, n, m, lg, p, o, h⟩ := setFlashCopy_frame s (s.pageName (leafCid key) (leafPage key)) FlashCopy.none
  unfold State.freePageCopy State.freeCopy State.dropLocation
  rw [h]
  exact ⟨_, _, _, _, _, _, _, _, rfl⟩

/-! ### Frames and content -/

/-- A taken frame moves the turn of the channels. -/
theorem takeFrame_frame {s t : State} {f : Nat} (h : s.takeFrame = some (f, t)) :
    t = { s with work := { s.work with nextFrame := t.work.nextFrame } } := by
  unfold State.takeFrame at h
  dsimp only at h
  split at h
  · cases h
  · split at h
    · cases h
    · cases h
      rfl

/-- Writes that are issued leave the state as it is, but for the channels and the counters. -/
theorem issueWrites_frame (s : State) (f : Nat) (lines : List Nat) (source : DramSource) :
    ∃ c p, s.issueWrites f lines source = { s with dram := { s.dram with chans := c }, perf := p } := by
  have hcount : ∃ p, s.count 0xF032 (s.channelOf f) lines.length = { s with perf := p } := by
    unfold State.count
    split <;> exact ⟨_, rfl⟩
  obtain ⟨p, hp⟩ := hcount
  unfold State.issueWrites
  dsimp only
  rw [hp]
  split <;> split <;> exact ⟨_, _, rfl⟩

/-- A frame that is placed holds its content; the state is as it was, but for the frames, the channels and the counters. -/
theorem placeFrame_frame (s : State) (f : Nat) (x : Cipher) :
    ∃ c p, s.placeFrame f x = { s with
      dram := { s.dram with frames := mapSet (fun _ => Cipher.zero) s.dram.frames f x, chans := c }, perf := p } := by
  obtain ⟨c, p, h⟩ := issueWrites_frame (s.setFrame f x) f (List.range 64) .bulk
  exact ⟨c, p, h⟩

theorem placeFrame_content (s : State) (f : Nat) (x : Cipher) (g : Nat) :
    (s.placeFrame f x).frame g = if g = f then x else s.frame g := by
  obtain ⟨c, p, h⟩ := placeFrame_frame s f x
  rw [h]
  exact mapGet_mapSet ..

@[simp] theorem placeFrame_tables (s : State) (f : Nat) (x : Cipher) : (s.placeFrame f x).tables = s.tables := by
  obtain ⟨c, p, h⟩ := placeFrame_frame s f x; rw [h]

@[simp] theorem placeFrame_ctl (s : State) (f : Nat) (x : Cipher) : (s.placeFrame f x).ctl = s.ctl := by
  obtain ⟨c, p, h⟩ := placeFrame_frame s f x; rw [h]

/-- What of the state gives a page its LPN and its key: the carriages and the interior entries. -/
theorem residentImage_of_pageCipher {s t : State} {key : Nat} {im : Image} (hframe : t.frame (t.leaf key).ptr = s.pageCipher key im)
    (hcarriages : t.tables.carriages = s.tables.carriages) (hinterior : t.tables.interior = s.tables.interior) :
    t.residentImage key = im := by
  simp [State.residentImage, hframe, State.pageCipher, Cipher.decrypt, State.carriageKey, State.carriage, State.lpn, State.interior,
    hcarriages, hinterior]

/-! ### The fetch of a page (R145, R271) -/

/-- A page keeps its place in DRAM, and the other leaves, the carriages and interior entries, the frames and the mode stay. -/
structure KeepsPlace (key : Nat) (s t : State) : Prop where
  res : (t.leaf key).res = (s.leaf key).res
  busy : (t.leaf key).busy = (s.leaf key).busy
  ptr : (t.leaf key).ptr = (s.leaf key).ptr
  leaves : ∀ k, k ≠ key → t.leaf k = s.leaf k
  carriages : t.tables.carriages = s.tables.carriages
  interior : t.tables.interior = s.tables.interior
  frames : t.dram.frames = s.dram.frames
  ctl : t.ctl = s.ctl

theorem KeepsPlace.refl (key : Nat) (s : State) : KeepsPlace key s s := ⟨rfl, rfl, rfl, fun _ _ => rfl, rfl, rfl, rfl, rfl⟩

theorem KeepsPlace.trans {key : Nat} {s t u : State} (h : KeepsPlace key s t) (h' : KeepsPlace key t u) : KeepsPlace key s u :=
  ⟨h'.res.trans h.res, h'.busy.trans h.busy, h'.ptr.trans h.ptr, fun k hk => (h'.leaves k hk).trans (h.leaves k hk),
    h'.carriages.trans h.carriages, h'.interior.trans h.interior, h'.frames.trans h.frames, h'.ctl.trans h.ctl⟩

/-- A change of the leaf that moves no page. -/
theorem setLeaf_keepsPlace (s : State) (key : Nat) (l : Leaf) (hres : l.res = (s.leaf key).res) (hbusy : l.busy = (s.leaf key).busy)
    (hptr : l.ptr = (s.leaf key).ptr) : KeepsPlace key s (s.setLeaf key l) := by
  refine ⟨?_, ?_, ?_, fun _ hk => setLeaf_leaf_other s key l hk, by simp, by simp, by simp, by simp⟩ <;>
    simpa only [setLeaf_leaf_same]

theorem markDirty_keepsPlace (s : State) (key : Nat) : KeepsPlace key s (s.markDirty key) := by
  have hleaf := setLeaf_keepsPlace s key
    { s.leaf key with dirty := true, acc := true, ttag := (s.carriage (leafCid key)).term % 256 } rfl rfl rfl
  have hage : ∀ t : State, KeepsPlace key t (t.enqueue key) := fun t => ⟨rfl, rfl, rfl, fun _ _ => rfl, rfl, rfl, rfl, rfl⟩
  unfold State.markDirty
  dsimp only
  split
  · exact hleaf
  · exact hleaf.trans (hage _)

theorem freePageCopy_keepsPlace (s : State) (key : Nat) : KeepsPlace key s (s.freePageCopy key) := by
  obtain ⟨f, a, w, fl, lg, p, o, v, h⟩ := freePageCopy_frame s key
  rw [h]
  exact ⟨rfl, rfl, rfl, fun _ _ => rfl, rfl, rfl, rfl, rfl⟩

/-- A page that leaves its vault is dirty and without a flash copy, at the same place (R271). -/
theorem leaveVault_keepsPlace (s : State) (key : Nat) : KeepsPlace key s (s.leaveVault key) := by
  unfold State.leaveVault
  split
  · refine (freePageCopy_keepsPlace s key).trans (.trans (setLeaf_keepsPlace _ key _ ?_ ?_ ?_) (markDirty_keepsPlace _ key)) <;> rfl
  · exact .refl key s

/-- The state in which a page's cipher is made has its carriage's key and its LPN. -/
theorem pageCipher_congr {s t : State} (key : Nat) (im : Image) (hcarriages : t.tables.carriages = s.tables.carriages)
    (hinterior : t.tables.interior = s.tables.interior) : t.pageCipher key im = s.pageCipher key im := by
  simp [State.pageCipher, State.carriageKey, State.carriage, State.lpn, State.interior, hcarriages, hinterior]

theorem placePage_leaf (s : State) (key f : Nat) (im : Image) (k : Nat) : (s.placePage key f im).leaf k =
    if k = key then { s.leaf key with res := true, busy := false, ptr := f } else s.leaf k := by
  simp only [State.placePage]
  rw [State.leaf, placeFrame_tables]
  exact setLeaf_leaf ..

theorem placePage_frame (s : State) (key f : Nat) (im : Image) (g : Nat) :
    (s.placePage key f im).frame g = if g = f then s.pageCipher key im else s.frame g := by
  simp only [State.placePage]
  rw [placeFrame_content, pageCipher_congr key im (setLeaf_carriages ..) (setLeaf_interior ..), State.frame, setLeaf_dram]
  rfl

@[simp] theorem placePage_carriages (s : State) (key f : Nat) (im : Image) : (s.placePage key f im).tables.carriages = s.tables.carriages := by
  simp [State.placePage]

@[simp] theorem placePage_interior (s : State) (key f : Nat) (im : Image) : (s.placePage key f im).tables.interior = s.tables.interior := by
  simp [State.placePage]

@[simp] theorem placePage_ctl (s : State) (key f : Nat) (im : Image) : (s.placePage key f im).ctl = s.ctl := by
  simp [State.placePage]

@[simp] theorem raise_leaf (s : State) (c v : Nat) (is : List (ItemKind × Nat)) (k : Nat) : (s.raise c v is).leaf k = s.leaf k := by
  simp [State.leaf]

theorem raise_keepsPlace (key : Nat) (s : State) (c v : Nat) (is : List (ItemKind × Nat)) : KeepsPlace key s (s.raise c v is) := by
  constructor <;> simp

theorem setAcc_keepsPlace (s : State) (key : Nat) : KeepsPlace key s (s.setLeaf key { s.leaf key with acc := true }) :=
  setLeaf_keepsPlace s key _ rfl rfl rfl

theorem raiseWhen_keepsPlace (key : Nat) (s : State) (b : Bool) (c v : Nat) (is : List (ItemKind × Nat)) :
    KeepsPlace key s (s.when b (·.raise c v is)) := by
  cases b with
  | false => exact .refl key s
  | true => exact raise_keepsPlace key s c v is

theorem fetchInto_keepsPlace (s : State) (key f name : Nat) (hname : name = s.pageName (leafCid key) (leafPage key)) :
    KeepsPlace key (s.placePage key f (s.flashImage name name)) (s.fetchInto key f) := by
  subst hname
  exact leaveVault_keepsPlace _ key

/-- A page that arrives is placed with its flash copy's plaintext, is accessed, and stays at that place. -/
theorem pageArrives_places (s t : State) (key f name : Nat) (slow : Bool) (hname : name = t.pageName (leafCid key) (leafPage key))
    (h : (s.setLeaf key { s.leaf key with busy := false }).takeFrame = some (f, t)) :
    KeepsPlace key (t.placePage key f (t.flashImage name name)) (s.pageArrives key slow)
      ∧ ((s.pageArrives key slow).leaf key).acc = true := by
  unfold State.pageArrives
  dsimp only
  rw [h]
  refine ⟨((fetchInto_keepsPlace t key f name hname).trans (setAcc_keepsPlace _ key)).trans (raiseWhen_keepsPlace ..), ?_⟩
  cases slow <;> simp [State.when]

/-- The flash copy of a page is named and read in the same way after a leaf is written and a frame is taken. -/
theorem takeFrame_setLeaf_keeps {s t : State} {key f : Nat} {l : Leaf} (h : (s.setLeaf key l).takeFrame = some (f, t)) :
    (∀ k, k ≠ key → t.leaf k = s.leaf k) ∧ t.tables.carriages = s.tables.carriages ∧ t.tables.interior = s.tables.interior
      ∧ t.tables.flash = s.tables.flash ∧ t.dram = s.dram ∧ t.ctl = s.ctl := by
  rw [takeFrame_frame h]
  exact ⟨fun _ hk => setLeaf_leaf_other s key l hk, setLeaf_carriages .., setLeaf_interior .., setLeaf_flashMap .., setLeaf_dram ..,
    setLeaf_ctl ..⟩

/-- A page that arrives is Resident, accessed and no longer busy, in the frame taken, with its flash copy's plaintext; every other entry
and frame, and the mode, stay (R145). -/
theorem pageArrives_page (s t : State) (key f name : Nat) (slow : Bool) (hname : name = s.pageName (leafCid key) (leafPage key))
    (h : (s.setLeaf key { s.leaf key with busy := false }).takeFrame = some (f, t)) :
    ((s.pageArrives key slow).leaf key).res = true ∧ ((s.pageArrives key slow).leaf key).busy = false
    ∧ ((s.pageArrives key slow).leaf key).acc = true ∧ ((s.pageArrives key slow).leaf key).ptr = f
    ∧ (s.pageArrives key slow).residentImage key = s.flashImage name name
    ∧ (∀ k, k ≠ key → (s.pageArrives key slow).leaf k = s.leaf k)
    ∧ (∀ g, g ≠ f → (s.pageArrives key slow).frame g = s.frame g) ∧ (s.pageArrives key slow).ctl = s.ctl := by
  obtain ⟨hleaves, hcarriages, hinterior, hflash, hdram, hctl⟩ := takeFrame_setLeaf_keeps h
  have hcopy : t.flashImage name name = s.flashImage name name := by simp [State.flashImage, State.flashCopy, hflash]
  have hname' : t.pageName (leafCid key) (leafPage key) = name := by
    simp [hname, State.pageName, State.lpn, State.interior, hinterior]
  obtain ⟨hplace, hacc⟩ := pageArrives_places s t key f name slow hname'.symm h
  rw [hcopy] at hplace
  have hframes : ∀ g, (s.pageArrives key slow).frame g = (t.placePage key f (s.flashImage name name)).frame g := fun g => by
    rw [State.frame, hplace.frames]; rfl
  have hleaf : (t.placePage key f (s.flashImage name name)).leaf key = { t.leaf key with res := true, busy := false, ptr := f } := by
    rw [placePage_leaf, if_pos rfl]
  have hptr : ((s.pageArrives key slow).leaf key).ptr = f := by rw [hplace.ptr, hleaf]
  refine ⟨by rw [hplace.res, hleaf], by rw [hplace.busy, hleaf], hacc, hptr, ?_, ?_, ?_, ?_⟩
  · refine residentImage_of_pageCipher (s := t) ?_ (by simp [hplace.carriages]) (by simp [hplace.interior])
    rw [hptr, hframes, placePage_frame, if_pos rfl]
  · intro k hk
    rw [hplace.leaves k hk, placePage_leaf, if_neg hk, hleaves k hk]
  · intro g hg
    rw [hframes, placePage_frame, if_neg hg, State.frame, hdram]
    rfl
  · rw [hplace.ctl, placePage_ctl, hctl]

/-! ### The fetch of a depot page (R168) -/

theorem fetchDepotInto_depotEntry (s : State) (i f : Nat) :
    (s.fetchDepotInto i f).depotEntry i = { s.depotEntry i with res := true, busy := false, frame := f } := by
  simp only [State.fetchDepotInto]
  rw [State.depotEntry, placeFrame_tables]
  exact setDepot_depotEntry_same ..

theorem fetchDepotInto_frame (s : State) (i f g : Nat) : (s.fetchDepotInto i f).frame g = if g = f then
    { key := .slot (s.depotEntry i).slot (s.depotEntry i).slotGen, tweak := tweakDepot i
      image := s.flashImage (flashName 1 i) (flashName 1 i) } else s.frame g := by
  simp only [State.fetchDepotInto]
  rw [placeFrame_content]
  simp [State.depotCipher, State.flashImage, State.flashCopy, State.frame]

@[simp] theorem fetchDepotInto_leaves (s : State) (i f : Nat) : (s.fetchDepotInto i f).tables.leaves = s.tables.leaves := by
  simp [State.fetchDepotInto]

/-- A depot page that arrives is in the frame taken, accessed and no longer busy, with its flash copy's plaintext; the leaves and the other
frames stay. -/
theorem depotArrives_depot (s t : State) (i f : Nat) (slow : Bool)
    (h : (s.setDepot i { s.depotEntry i with busy := false }).takeFrame = some (f, t)) :
    (s.depotArrives i slow).depotEntry i = { s.depotEntry i with busy := false, res := true, acc := true, frame := f }
    ∧ (s.depotArrives i slow).depotImage i = s.flashImage (flashName 1 i) (flashName 1 i)
    ∧ (s.depotArrives i slow).tables.leaves = s.tables.leaves
    ∧ (∀ g, g ≠ f → (s.depotArrives i slow).frame g = s.frame g) := by
  have ht := takeFrame_frame h
  have hentry : t.depotEntry i = { s.depotEntry i with busy := false } := by rw [ht]; exact setDepot_depotEntry_same ..
  have hleaves : t.tables.leaves = s.tables.leaves := by rw [ht]; exact setDepot_leaves ..
  have hflash : t.tables.flash = s.tables.flash := by rw [ht]; exact setDepot_flashMap ..
  have hdram : t.dram = s.dram := by rw [ht]; exact setDepot_dram ..
  have hcopy : ∀ n, t.flashImage n n = s.flashImage n n := fun n => by simp [State.flashImage, State.flashCopy, hflash]
  have harrive : s.depotArrives i slow = ((t.fetchDepotInto i f).setDepot i { (t.fetchDepotInto i f).depotEntry i with acc := true }).when
      slow (·.raise 0x2021 0 [(.u32, i)]) := by
    simp only [State.depotArrives, h]
  have hwhen : ∀ u : State, (u.when slow (·.raise 0x2021 0 [(.u32, i)])).tables = u.tables
      ∧ (u.when slow (·.raise 0x2021 0 [(.u32, i)])).dram = u.dram := by
    cases slow <;> simp [State.when]
  obtain ⟨htables, hframes⟩ := hwhen ((t.fetchDepotInto i f).setDepot i { (t.fetchDepotInto i f).depotEntry i with acc := true })
  rw [← harrive] at htables hframes
  have hsame : (s.depotArrives i slow).depotEntry i = { s.depotEntry i with busy := false, res := true, acc := true, frame := f } := by
    rw [State.depotEntry, htables]
    refine (setDepot_depotEntry_same ..).trans ?_
    rw [fetchDepotInto_depotEntry, hentry]
  have hframe : ∀ g, (s.depotArrives i slow).frame g = (t.fetchDepotInto i f).frame g := fun g => by
    rw [State.frame, hframes, setDepot_dram]
    rfl
  refine ⟨hsame, ?_, ?_, ?_⟩
  · rw [State.depotImage, hsame]
    dsimp only
    rw [hframe, fetchDepotInto_frame, if_pos rfl, hcopy, hentry]
    simp [Cipher.decrypt]
  · rw [htables, setDepot_leaves, fetchDepotInto_leaves, hleaves]
  · intro g hg
    rw [hframe, fetchDepotInto_frame, if_neg hg, State.frame, hdram]
    rfl

/-! ### A wait for a frame (R120, R142) -/

/-- A discarded write is counted, and answered where somebody waits for it. -/
theorem discardAs_frame (s : State) (w : Waiter) : ∃ o h, s.discardAs w = { s with
    work := { s.work with discarded := s.work.discarded + 1 }, out := o, host := h } := by
  have hwrite : ∀ t : State, ∃ o h, t.completeWrite w.ld w.dpa = { t with out := o, host := h } := by
    intro t
    unfold State.completeWrite State.freeBuffer State.complete State.setHostPort
    (repeat' split) <;> exact ⟨_, _, rfl⟩
  unfold State.discardAs
  split
  · exact ⟨_, _, rfl⟩
  · obtain ⟨o, h, e⟩ := hwrite { s with work := { s.work with discarded := s.work.discarded + 1 } }
    exact ⟨o, h, e⟩

/-! ### The eviction sweep (R141) -/

/-- What the sweep makes of a leaf entry: it stays, or loses ACC, or, of a clean page with a flash copy, its frame. -/
def Leaf.SweptTo (l l' : Leaf) : Prop :=
  l' = l ∨ l' = { l with acc := false }
    ∨ (l.dirty = false ∧ l.fq = false ∧ l.busy = false ∧ l.pois = false ∧ l.flc = true ∧ l' = { l with acc := false, res := false, ptr := 0 })

theorem Leaf.SweptTo.trans {l l' l'' : Leaf} (h : l.SweptTo l') (h' : l'.SweptTo l'') : l.SweptTo l'' := by
  obtain rfl | rfl | ⟨hd, hq, hb, hp, hf, rfl⟩ := h
  · exact h'
  · obtain rfl | rfl | ⟨hd, hq, hb, hp, hf, rfl⟩ := h'
    · exact .inr (.inl rfl)
    · exact .inr (.inl rfl)
    · exact .inr (.inr ⟨hd, hq, hb, hp, hf, rfl⟩)
  · refine .inr (.inr ⟨hd, hq, hb, hp, hf, ?_⟩)
    obtain rfl | rfl | ⟨-, -, -, -, -, rfl⟩ := h' <;> rfl

/-- What a sweep may do to the state: leaves are swept, and only the tables, their housekeeping and what an event moves change. -/
structure SweepStep (s t : State) : Prop where
  leaves : ∀ k, (s.leaf k).SweptTo (t.leaf k)
  frame : t = { s with tables := t.tables, work := t.work, flush := t.flush, od := t.od, log := t.log, perf := t.perf }

theorem SweepStep.refl (s : State) : SweepStep s s := ⟨fun _ => .inl rfl, rfl⟩

theorem SweepStep.trans {s t u : State} (h : SweepStep s t) (h' : SweepStep t u) : SweepStep s u := by
  refine ⟨fun k => (h.leaves k).trans (h'.leaves k), ?_⟩
  have e := h'.frame
  rw [h.frame] at e
  exact e

theorem setLeaf_sweepStep (s : State) (key : Nat) (l : Leaf) (h : (s.leaf key).SweptTo l) : SweepStep s (s.setLeaf key l) := by
  constructor
  · intro k
    rw [setLeaf_leaf]
    split
    · next hk => rwa [hk]
    · exact .inl rfl
  · obtain ⟨a, c, n, u, m, lg, p, o, e⟩ := setLeaf_frame s key l
    rw [e]

theorem setDepot_sweepStep (s : State) (i : Nat) (e : DepotEntry) : SweepStep s (s.setDepot i e) := by
  constructor
  · intro k
    rw [State.leaf, State.leaf, setDepot_leaves]
    exact .inl rfl
  · obtain ⟨a, c, n, d, m, lg, p, o, h⟩ := setDepot_frame s i e
    rw [h]

theorem raise_sweepStep (s : State) (c v : Nat) (is : List (ItemKind × Nat)) : SweepStep s (s.raise c v is) := by
  constructor
  · intro k
    rw [raise_leaf]
    exact .inl rfl
  · obtain ⟨l, p, o, h⟩ := raiseWith_frame s c v is []
    unfold State.raise
    rw [h]

theorem checkEntry_sweepStep (s : State) (i : Nat) : SweepStep s (s.checkEntry i) := by
  unfold State.checkEntry
  dsimp only
  split
  · exact (setDepot_sweepStep ..).trans (raise_sweepStep ..)
  · exact .refl s

/-- The sweep at one page or depot page: ACC is cleared, or the page loses its frame, or nothing happens. -/
theorem sweepAt_sweepStep (s : State) (x : SweepItem) : SweepStep s (s.sweepAt x) := by
  cases x with
  | page key =>
    unfold State.sweepAt
    dsimp only
    split
    · exact setLeaf_sweepStep s key _ (.inr (.inl rfl))
    · next hacc =>
      split
      · next hclean =>
        simp only [Bool.and_eq_true, Bool.not_eq_true'] at hclean
        obtain ⟨⟨⟨⟨hd, hb⟩, hq⟩, hp⟩, hf⟩ := hclean
        refine setLeaf_sweepStep s key _ (.inr (.inr ⟨hd, hq, hb, hp, hf, ?_⟩))
        rw [Bool.not_eq_true] at hacc
        rw [← hacc]
      · exact .refl s
  | depot i =>
    have hcheck := checkEntry_sweepStep s i
    unfold State.sweepAt
    dsimp only
    split
    · exact hcheck.trans (setDepot_sweepStep ..)
    · split
      · exact hcheck.trans (setDepot_sweepStep ..)
      · exact hcheck

theorem work_sweepStep (s : State) (w : MapWork) : SweepStep s { s with work := w } := ⟨fun _ => .inl rfl, rfl⟩

theorem noteWhen_sweepStep (s : State) (b : Bool) (c : Nat) : SweepStep s (s.when b (·.note c)) := by
  cases b with
  | false => exact .refl s
  | true => exact raise_sweepStep s c 0 []

theorem sweepPass_sweepStep (xs : List (Nat × SweepItem)) (s : State) : SweepStep s (s.sweepPass xs) := by
  induction xs generalizing s with
  | nil => exact .refl s
  | cons x xs ih =>
    unfold State.sweepPass
    split
    · exact .refl s
    · exact ((sweepAt_sweepStep s x.2).trans (work_sweepStep ..)).trans (ih _)

/-! ### The commands -/

/-- Without a hold of R213, a command of the Map region takes effect at once. -/
theorem mapCommand_open (s : State) (c : Instr) (k : State → Out) (h : s.flush.metaHold = false) : s.mapCommand c k = k s := by
  simp [State.mapCommand, h]

/-- The fetch of a page ends with what its outcome makes of the page, before held requests are tried again. -/
theorem exec_pageFetchComplete (s : State) (cid : BitVec 16) (page : BitVec 28) (o : FetchOutcome) (slow : Bool)
    (hbusy : (s.leaf (leafKey cid.toNat page.toNat)).busy = true) (honly : (s.leaf (leafKey cid.toNat page.toNat)).flashOnly = true)
    (hopen : s.flush.metaHold = false) (hstate : (s.carriage cid.toNat).state ≠ .deleting) :
    exec (.nonresidentFetchComplete (.page cid page) o slow) s
      = .next (s.pageFetched (leafKey cid.toNat page.toNat) o slow).resume := by
  show execNonresidentFetchComplete (.page cid page) o slow s = _
  unfold execNonresidentFetchComplete
  rw [mapCommand_open s _ _ hopen]
  simp [hbusy, honly, hstate]

/-- The fetch of a depot page, likewise. -/
theorem exec_depotFetchComplete (s : State) (i : BitVec 32) (o : FetchOutcome) (slow : Bool)
    (hvalid : (s.depotEntry i.toNat).valid = true) (hbusy : (s.depotEntry i.toNat).busy = true)
    (hres : (s.depotEntry i.toNat).res = false) (hopen : s.flush.metaHold = false) :
    exec (.nonresidentFetchComplete (.depot i) o slow) s = .next (s.depotFetched i.toNat o slow).resume := by
  show execNonresidentFetchComplete (.depot i) o slow s = _
  unfold execNonresidentFetchComplete
  rw [mapCommand_open s _ _ hopen]
  simp [hvalid, hbusy, hres]

/-- A fetch whose copy is unreadable, and lies in no vault, poisons its page alone. -/
theorem fetchFails_page (s : State) (key : Nat) (h : s.saves.restore.locations.find? (fun e => e.1 = key) = none) :
    ∃ v : State, s.fetchFails key = v.raise 0x2020 0 [(.carriage, leafCid key), (.u32, leafPage key)]
      ∧ v.leaf key = { s.leaf key with busy := false, pois := true } ∧ (∀ k, k ≠ key → v.leaf k = s.leaf k)
      ∧ v.dram = s.dram ∧ v.ctl = s.ctl := by
  refine ⟨(s.setLeaf key { s.leaf key with busy := false }).poisonLeaf key, ?_, ?_, fun k hk => ?_, ?_, ?_⟩
  · unfold State.fetchFails
    dsimp only
    rw [setLeaf_saves, h]
  · rw [State.poisonLeaf, setLeaf_leaf_same, setLeaf_leaf_same]
  · rw [State.poisonLeaf, setLeaf_leaf_other _ _ _ hk, setLeaf_leaf_other _ _ _ hk]
  · simp [State.poisonLeaf]
  · simp [State.poisonLeaf]

/-- The wait for a frame of the first of these requests is over, with event 0x2053 (R142); the others still wait. -/
def State.waitedOut (s : State) (w : Waiter) (ws : List Waiter) : State :=
  { s with work := { s.work with waiters := ws } }.raise 0x2053 0 [(.carriage, w.cid)]

/-- A read that has waited too long for a frame completes with poison (R120). -/
theorem exec_frameWaitTimeout_read (s : State) (ld : Ld) (dpa : BitVec 64) (w : Waiter) (ws : List Waiter)
    (hopen : s.flush.metaHold = false) (h : takeWaiter ld.val dpa.toNat false s.work.waiters = some (w, ws)) (hquiet : w.quiet = false) :
    exec (.frameWaitTimeout ld dpa false) s = .next ((s.waitedOut w ws).completePoison w.ld w.dpa) := by
  show execFrameWaitTimeout ld dpa false s = _
  unfold execFrameWaitTimeout
  rw [mapCommand_open s _ _ hopen, h]
  simp only [hquiet]
  rfl

/-- A write that has waited too long for a frame poisons its page, and is discarded (R120). -/
theorem exec_frameWaitTimeout_write (s : State) (ld : Ld) (dpa : BitVec 64) (w : Waiter) (ws : List Waiter)
    (hopen : s.flush.metaHold = false) (h : takeWaiter ld.val dpa.toNat true s.work.waiters = some (w, ws)) :
    ∃ t o x, t = (s.waitedOut w ws).poisonLeaf (leafKey w.cid w.page) ∧ exec (.frameWaitTimeout ld dpa true) s
      = .next { t with work := { t.work with discarded := t.work.discarded + 1 }, out := o, host := x } := by
  obtain ⟨o, x, hdiscard⟩ := discardAs_frame ((s.waitedOut w ws).poisonLeaf (leafKey w.cid w.page)) w
  have hexec : exec (.frameWaitTimeout ld dpa true) s = .next (if w.quiet
      then { ((s.waitedOut w ws).poisonLeaf (leafKey w.cid w.page)).discardAs w with out := (s.waitedOut w ws).out }
      else ((s.waitedOut w ws).poisonLeaf (leafKey w.cid w.page)).discardAs w) := by
    show execFrameWaitTimeout ld dpa true s = _
    unfold execFrameWaitTimeout
    rw [mapCommand_open s _ _ hopen, h]
    rfl
  rw [hexec, hdiscard]
  split
  · exact ⟨_, _, x, rfl, rfl⟩
  · exact ⟨_, o, x, rfl, rfl⟩

/-- A sweep that is due changes what a sweep changes, before held requests are tried again (R141). -/
theorem exec_evictionSweep_due (s : State) (hopen : s.flush.metaHold = false)
    (hdue : s.work.sweeping = true ∨ s.framesFree < s.get OD.spaceFreeLow) :
    ∃ u, exec .evictionSweep s = .next u.resume ∧ SweepStep s u := by
  have hgoes : (!s.work.sweeping && s.get OD.spaceFreeLow ≤ s.framesFree) = false := by
    rcases hdue with h | h
    · simp [h]
    · simp [Nat.not_le.mpr h]
  have hexec : exec .evictionSweep s = execEvictionSweep s := rfl
  rw [hexec, execEvictionSweep, mapCommand_open s _ _ hopen]
  simp only [hgoes, Bool.false_eq_true, if_false]
  exact ⟨_, rfl, (sweepPass_sweepStep s.sweepList s).trans (.trans (work_sweepStep _ _) (noteWhen_sweepStep _ _ _))⟩

/-- Settles O19: a fetch by what its outcome makes of the page or depot page, a wait for a frame by what becomes of its request, and the
sweep by induction over the frames that it meets. -/
theorem fetchesAndEviction : Obligations.FetchesAndEviction := by
  refine ⟨?_, ?_, ?_, ?_⟩
  · rintro s cid page slow key name rfl hname hbusy honly hopen hstate
    have hexec := fun o => exec_pageFetchComplete s cid page o slow hbusy honly hopen hstate
    refine ⟨fun f t hframe => ?_, fun hvault => ?_, fun hsealed hon => ?_, hexec .staging⟩
    · exact ⟨_, hexec .ok, pageArrives_page s t _ f name slow hname hframe⟩
    · obtain ⟨v, hv, hpage⟩ := fetchFails_page s _ hvault
      refine ⟨v, ?_, hpage⟩
      rw [hexec, ← hv]
      rfl
    · rw [hexec]
      simp [State.pageFetched, State.moveEnds, State.sealFails, hsealed, hon]
  · intro s i slow hvalid hbusy hres hopen
    have hexec := fun o => exec_depotFetchComplete s i o slow hvalid hbusy hres hopen
    exact ⟨fun f t hframe => ⟨_, hexec .ok, depotArrives_depot s t i.toNat f slow hframe⟩, hexec .mismatchTwice⟩
  · rintro s ld dpa w ws key rfl hopen
    refine ⟨exec_frameWaitTimeout_read s ld dpa w ws hopen, fun h => ?_⟩
    obtain ⟨t, o, x, ht, hexec⟩ := exec_frameWaitTimeout_write s ld dpa w ws hopen h
    refine ⟨_, hexec, ?_⟩
    have hleaf : ∀ k, (s.waitedOut w ws).leaf k = s.leaf k := fun k => raise_leaf _ _ _ _ k
    subst ht
    refine ⟨by simp [State.poisonLeaf, State.waitedOut], by simp [State.poisonLeaf, State.waitedOut], ?_, fun k hk => ?_,
      by simp [State.poisonLeaf, State.waitedOut], by simp [State.poisonLeaf, State.waitedOut]⟩
    · exact (setLeaf_leaf_same ..).trans (by rw [hleaf])
    · exact (setLeaf_leaf_other _ _ _ hk).trans (hleaf k)
  · intro s hopen
    refine ⟨fun hidle hfree => ?_, fun hdue => ?_⟩
    · have hexec : exec .evictionSweep s = execEvictionSweep s := rfl
      rw [hexec, execEvictionSweep, mapCommand_open s _ _ hopen]
      simp [hidle, hfree]
    · obtain ⟨u, hexec, hstep⟩ := exec_evictionSweep_due s hopen hdue
      exact ⟨u, hexec, hstep.leaves, by rw [hstep.frame], hstep.frame⟩

end Sys2Proof.Machine
end

section
/-! SUPPORT. What isolations and frozen channels leave, and the last transition, along every operation that a decision or a resumed request
goes through; the obligation IsolationsAndDecisions (O9) stands at the end. -/
namespace Sys2Proof.Machine

/-! ### What stays -/

/-- What a channel's freeze leaves: whether it serves, the cause and the time (R307). -/
def freezesOf (m : SMap Chan) (c : Nat) : Bool × Nat × Nat :=
  let x := mapGet (fun _ => Chan.initial) m c
  (x.state == .inService, x.freezeCause, x.freezeTime)

/-- The objects that tell of the last transition (R52) and of the fences of the ports (R105). -/
def keptObjects (od : SMap Nat) : Nat × Nat × Nat :=
  (mapGet odDefault od OD.modeLastCause, mapGet odDefault od (OD.hpFenceCause 0), mapGet odDefault od (OD.hpFenceCause 1))

/-- The isolations of R16 are those of `s`: ports, banks of the translation cache, pipes, flash channels, and what the freezes of DRAM
channels left. -/
@[simp] abbrev KeepsOutages (s t : State) : Prop :=
  t.iso = s.iso ∧ t.work.badBanks = s.work.badBanks ∧ t.crypt.quarantined = s.crypt.quarantined
    ∧ t.flash.chans = s.flash.chans ∧ freezesOf t.dram.chans = freezesOf s.dram.chans

/-- So are the mode, and the objects of the last transition and of the fences. -/
@[simp] abbrev Steady (s t : State) : Prop :=
  KeepsOutages s t ∧ t.ctl = s.ctl ∧ keptObjects t.od = keptObjects s.od

theorem KeepsOutages.trans {s t u : State} (h : KeepsOutages s t) (h' : KeepsOutages t u) : KeepsOutages s u := by
  obtain ⟨hiso, hbanks, hpipes, hflash, hdram⟩ := h
  obtain ⟨hiso', hbanks', hpipes', hflash', hdram'⟩ := h'
  exact ⟨hiso'.trans hiso, hbanks'.trans hbanks, hpipes'.trans hpipes, hflash'.trans hflash, hdram'.trans hdram⟩

theorem Steady.trans {s t u : State} (h : Steady s t) (h' : Steady t u) : Steady s u := by
  obtain ⟨hout, hctl, hod⟩ := h
  obtain ⟨hout', hctl', hod'⟩ := h'
  exact ⟨KeepsOutages.trans hout hout', hctl'.trans hctl, hod'.trans hod⟩

@[simp] theorem ite_stateFields (c : Prop) [Decidable c] (a b : State) :
    (if c then a else b).iso = (if c then a.iso else b.iso) ∧ (if c then a else b).work = (if c then a.work else b.work)
    ∧ (if c then a else b).crypt = (if c then a.crypt else b.crypt) ∧ (if c then a else b).flash = (if c then a.flash else b.flash)
    ∧ (if c then a else b).dram = (if c then a.dram else b.dram) ∧ (if c then a else b).ctl = (if c then a.ctl else b.ctl)
    ∧ (if c then a else b).od = (if c then a.od else b.od) := by
  split <;> simp

@[simp] theorem ite_badBanks (c : Prop) [Decidable c] (v w : MapWork) :
    (if c then v else w).badBanks = if c then v.badBanks else w.badBanks :=
  apply_ite MapWork.badBanks c v w

@[simp] theorem ite_quarantined (c : Prop) [Decidable c] (x y : Crypt) :
    (if c then x else y).quarantined = if c then x.quarantined else y.quarantined :=
  apply_ite Crypt.quarantined c x y

@[simp] theorem ite_flashChans (c : Prop) [Decidable c] (f g : Flash) :
    (if c then f else g).chans = if c then f.chans else g.chans :=
  apply_ite Flash.chans c f g

@[simp] theorem ite_dramChans (c : Prop) [Decidable c] (d e : Dram) : (if c then d else e).chans = if c then d.chans else e.chans :=
  apply_ite Dram.chans c d e

@[simp] theorem freezesOf_ite (c : Prop) [Decidable c] (m n : SMap Chan) :
    freezesOf (if c then m else n) = if c then freezesOf m else freezesOf n :=
  apply_ite freezesOf c m n

@[simp] theorem keptObjects_ite (c : Prop) [Decidable c] (p q : SMap Nat) :
    keptObjects (if c then p else q) = if c then keptObjects p else keptObjects q :=
  apply_ite keptObjects c p q

@[simp] theorem foldl_keepsOutages {α : Type} (f : State → α → State) (h : ∀ s a, KeepsOutages s (f s a)) (l : List α)
    (s : State) : KeepsOutages s (l.foldl f s) := by
  induction l generalizing s with
  | nil => simp
  | cons a l ih => exact KeepsOutages.trans (h s a) (ih _)

@[simp] theorem foldl_steady {α : Type} (f : State → α → State) (h : ∀ s a, Steady s (f s a)) (l : List α) (s : State) :
    Steady s (l.foldl f s) := by
  induction l generalizing s with
  | nil => simp
  | cons a l ih => exact Steady.trans (h s a) (ih _)

/-! ### Objects, events and channels -/

/-- The objects that stay lie below 0x2200. -/
theorem keptObjects_mapSet (od : SMap Nat) (k v : Nat) (h : 0x220000 ≤ k) : keptObjects (mapSet odDefault od k v) = keptObjects od := by
  have hkey : ∀ n, n < 0x220000 → n ≠ k := fun n hn => by omega
  simp [keptObjects, mapGet_mapSet, hkey, OD.modeLastCause, OD.hpFenceCause]

@[simp] theorem put_steady (s : State) (k v : Nat) (h : 0x220000 ≤ k) : Steady s (s.put k v) :=
  ⟨⟨rfl, rfl, rfl, rfl, rfl⟩, rfl, keptObjects_mapSet _ _ _ h⟩

@[simp] theorem bump_steady (s : State) (k n : Nat) (h : 0x220000 ≤ k) : Steady s (s.bump k n) := put_steady s k _ h

theorem dropKey_le (n : Nat) : 0x220000 ≤ dropKey n := by
  unfold dropKey
  simp only [OD.logbookDroppedNote]
  omega

theorem mcPoisonedLines_le (c : Nat) : 0x220000 ≤ OD.mcPoisonedLines c := by
  unfold OD.mcPoisonedLines
  omega

@[simp] theorem raiseWith_steady (s : State) (c v is a) : Steady s (s.raiseWith c v is a) := by
  refine ⟨by simp, by simp, ?_⟩
  have hbump : ∀ t : State, keptObjects (t.bump (dropKey (severityOf c)) 1).od = keptObjects t.od :=
    fun t => by
      obtain ⟨-, -, hod⟩ := bump_steady t _ 1 (dropKey_le (severityOf c))
      exact hod
  unfold State.raiseWith
  dsimp only
  split <;> split <;> simp [hbump]

@[simp] theorem raise_steady (s : State) (c v is) : Steady s (s.raise c v is) := raiseWith_steady s c v is []

@[simp] theorem note_steady (s : State) (c) : Steady s (s.note c) := raiseWith_steady s c 0 [] []

@[simp] theorem when_stateFields (s : State) (c : Bool) (f : State → State) :
    (s.when c f).iso = (if c then (f s).iso else s.iso) ∧ (s.when c f).work = (if c then (f s).work else s.work)
    ∧ (s.when c f).crypt = (if c then (f s).crypt else s.crypt) ∧ (s.when c f).flash = (if c then (f s).flash else s.flash)
    ∧ (s.when c f).dram = (if c then (f s).dram else s.dram) ∧ (s.when c f).ctl = (if c then (f s).ctl else s.ctl)
    ∧ (s.when c f).od = (if c then (f s).od else s.od) := by
  cases c <;> simp [State.when]

/-- A channel that is written serves no more, with the cause and the time of its freeze, as before. -/
theorem setChan_steady (s : State) (c : Nat) (x : Chan)
    (h : (x.state == .inService, x.freezeCause, x.freezeTime) = freezesOf s.dram.chans c) : Steady s (s.setChan c x) := by
  refine ⟨⟨rfl, rfl, rfl, rfl, ?_⟩, rfl, rfl⟩
  funext k
  simp only [freezesOf, State.setChan, mapGet_mapSet]
  split
  · next hk => rw [hk]; exact h
  · rfl

/-! ### Tables -/

@[simp] theorem checkNodes_steady (s : State) : Steady s (s.checkNodes) := by simp [State.checkNodes]

@[simp] theorem placeAux_steady (s : State) (line) : Steady s (s.placeAux line) := by
  unfold State.placeAux
  (repeat' split) <;> simp

@[simp] theorem touch_steady (s : State) (line) : Steady s (s.touch line) := by simp [State.touch]

@[simp] theorem cacheWrite_steady (s : State) (key) : Steady s (s.cacheWrite key) := by simp [State.cacheWrite]

@[simp] theorem setLeaf_steady (s : State) (key l) : Steady s (s.setLeaf key l) := by simp [State.setLeaf]

@[simp] theorem setInterior_steady (s : State) (key e) : Steady s (s.setInterior key e) := by simp [State.setInterior]

@[simp] theorem setCarriage_steady (s : State) (cid c) : Steady s (s.setCarriage cid c) := by simp [State.setCarriage]

@[simp] theorem setDepot_steady (s : State) (i e) : Steady s (s.setDepot i e) := by simp [State.setDepot]

@[simp] theorem setFlashCopy_steady (s : State) (name c) : Steady s (s.setFlashCopy name c) := by simp [State.setFlashCopy]

@[simp] theorem setSnaps_steady (s : State) (cid r) : Steady s (s.setSnaps cid r) := by simp [State.setSnaps]

theorem takeFrame_steady {s t : State} {f : Nat} (h : s.takeFrame = some (f, t)) : Steady s t := by
  rw [takeFrame_frame h]
  simp

@[simp] theorem setFrame_steady (s : State) (f c) : Steady s (s.setFrame f c) := by simp [State.setFrame]

@[simp] theorem checkSpace_steady (s : State) : Steady s (s.checkSpace) := by simp [State.checkSpace]

@[simp] theorem poisonLeaf_steady (s : State) (key) : Steady s (s.poisonLeaf key) := by simp [State.poisonLeaf]

@[simp] theorem poisonInterior_steady (s : State) (k) : Steady s (s.poisonInterior k) := by simp [State.poisonInterior]

@[simp] theorem depotUnref_steady (s : State) (i) : Steady s (s.depotUnref i) := by simp [State.depotUnref]

@[simp] theorem freeCopy_steady (s : State) (name) : Steady s (s.freeCopy name) := by simp [State.freeCopy]

@[simp] theorem dropLocation_steady (s : State) (key) : Steady s (s.dropLocation key) := by simp [State.dropLocation]

@[simp] theorem freePageCopy_steady (s : State) (key) : Steady s (s.freePageCopy key) := by simp [State.freePageCopy]

@[simp] theorem releaseRecord_steady (cid) (s : State) (r) : Steady s (State.releaseRecord cid s r) := by
  unfold State.releaseRecord
  split <;> simp

@[simp] theorem dropSnapshot_steady (s : State) (cid cause) : Steady s (s.dropSnapshot cid cause) := by simp [State.dropSnapshot]

@[simp] theorem addRecord_steady (s : State) (cid page k) : Steady s (s.addRecord cid page k) := by simp [State.addRecord]

@[simp] theorem retainCopy_steady (s : State) (key) : Steady s (s.retainCopy key) := by simp [State.retainCopy]

@[simp] theorem growEntry_steady (s : State) (cid level page) : Steady s ((s.growEntry cid level page).1) := by
  unfold State.growEntry
  dsimp only
  (repeat' split) <;> simp

theorem growEntry_steady_of_eq {s t : State} {cid level page : Nat} {e : WalkEnd} (h : s.growEntry cid level page = (t, e)) :
    Steady s t := by
  have := growEntry_steady s cid level page
  rwa [h] at this

@[simp] theorem growPath_steady (s : State) (cid page) : Steady s ((s.growPath cid page).1) := by
  unfold State.growPath
  split
  next t h3 =>
    split
    next u h2 => exact ((growEntry_steady_of_eq h3).trans (growEntry_steady_of_eq h2)).trans (growEntry_steady ..)
    next => exact (growEntry_steady_of_eq h3).trans (growEntry_steady ..)
  next => exact growEntry_steady ..

theorem growPath_steady_of_eq {s t : State} {cid page : Nat} {e : WalkEnd} (h : s.growPath cid page = (t, e)) : Steady s t := by
  have := growPath_steady s cid page
  rwa [h] at this

@[simp] theorem enqueue_steady (s : State) (key) : Steady s (s.enqueue key) := by simp [State.enqueue]

@[simp] theorem markDirty_steady (s : State) (key) : Steady s (s.markDirty key) := by simp [State.markDirty]

@[simp] theorem depotRefused_steady (s : State) (cid i r) : Steady s (s.depotRefused cid i r) := by
  unfold State.depotRefused
  split <;> simp

/-! ### Records, the translation cache, the planner -/

@[simp] theorem setRegion_steady (s : State) (n r) : Steady s (s.setRegion n r) := by simp [State.setRegion]

@[simp] theorem record_steady (s : State) (region type key payload) : Steady s (s.record region type key payload) := by simp [State.record]

@[simp] theorem journal_steady (s : State) (type key payload) : Steady s (s.journal type key payload) := by simp [State.journal]

@[simp] theorem recordState_steady (s : State) (type key) : Steady s (s.recordState type key) := by simp [State.recordState]

@[simp] theorem lookup_steady (s : State) (cid page) : Steady s (s.lookup cid page) := by simp [State.lookup]

@[simp] theorem setHostPort_steady (s : State) (p h) : Steady s (s.setHostPort p h) := by simp [State.setHostPort]

@[simp] theorem returnAll_steady (s : State) : Steady s (s.returnAll) := by simp [State.returnAll]

@[simp] theorem evaluateThrottle_steady (s : State) : Steady s (s.evaluateThrottle) := by
  unfold State.evaluateThrottle
  (repeat' split) <;> simp [OD.qosThrottleState]

@[simp] theorem sendResidue_steady (s : State) : Steady s (s.sendResidue) := by simp [State.sendResidue]

@[simp] theorem applyCeiling_steady (s : State) : Steady s (s.applyCeiling) := by
  simp [State.applyCeiling, OD.plannerBinding, OD.plannerEffectiveCeiling]

theorem foldl_put_steady (ps : List (Nat × Nat)) (s : State) (h : ∀ e ∈ ps, 0x220000 ≤ e.1) :
    Steady s (ps.foldl (fun s e => s.put e.1 e.2) s) := by
  induction ps generalizing s with
  | nil => simp
  | cons e ps ih => exact (put_steady s e.1 e.2 (h e (by simp))).trans (ih _ fun e he => h e (by simp [he]))

@[simp] theorem planCompute_steady (s : State) : Steady s (s.planCompute) := by
  rw [State.planCompute]
  dsimp only
  generalize hputs : List.foldl _ s _ = t
  have hsteady : Steady s t := by
    rw [← hputs]
    exact foldl_put_steady _ s (by simp (decide := true))
  exact hsteady.trans (by simp)

@[simp] theorem replan_steady (s : State) : Steady s (s.replan) := by simp [State.replan]

/-! ### The host's path -/

@[simp] theorem complete_steady (s : State) (ld c) : Steady s (s.complete ld c) := by simp [State.complete]

@[simp] theorem freeBuffer_steady (s : State) (p) : Steady s (s.freeBuffer p) := by simp [State.freeBuffer]

@[simp] theorem completeWrite_steady (s : State) (ld dpa) : Steady s (s.completeWrite ld dpa) := by simp [State.completeWrite]

@[simp] theorem completePoison_steady (s : State) (ld dpa) : Steady s (s.completePoison ld dpa) := by simp [State.completePoison]

@[simp] theorem completeZeros_steady (s : State) (ld dpa) : Steady s (s.completeZeros ld dpa) := by simp [State.completeZeros]

@[simp] theorem completeData_steady (s : State) (ld dpa d) : Steady s (s.completeData ld dpa d) := by simp [State.completeData]

@[simp] theorem discardWrite_steady (s : State) (ld dpa) : Steady s (s.discardWrite ld dpa) := by simp [State.discardWrite]

@[simp] theorem discardAs_steady (s : State) (w) : Steady s (s.discardAs w) := by
  unfold State.discardAs
  split <;> simp

@[simp] theorem wait_steady (s : State) (w) : Steady s (s.wait w) := by simp [State.wait]

@[simp] theorem waitFrame_steady (s : State) (w) : Steady s (s.waitFrame w) := by simp [State.waitFrame]

@[simp] theorem waitPage_steady (s : State) (w) : Steady s (s.waitPage w) := by simp [State.waitPage]

@[simp] theorem setOutcome_steady (s : State) (cid n) : Steady s (s.setOutcome cid n) := by simp [State.setOutcome]

@[simp] theorem poisonRestored_steady (s : State) (key) : Steady s (s.poisonRestored key) := by simp [State.poisonRestored]

@[simp] theorem vaultUnreadable_steady (s : State) (key) : Steady s (s.vaultUnreadable key) := by simp [State.vaultUnreadable]

@[simp] theorem parentUnreadable_steady (s : State) (key) : Steady s (s.parentUnreadable key) := by
  simp [State.parentUnreadable, OD.vaultDirtyShutdowns]

@[simp] theorem fetchFails_steady (s : State) (key) : Steady s (s.fetchFails key) := by
  unfold State.fetchFails
  dsimp only
  (repeat' split) <;> simp

@[simp] theorem startFetch_steady (s : State) (key) : Steady s (s.startFetch key) := by simp [State.startFetch]

@[simp] theorem startDepotFetch_steady (s : State) (i) : Steady s (s.startDepotFetch i) := by simp [State.startDepotFetch]

@[simp] theorem fetchFor_steady (s : State) (w : Waiter) (start : State → State) (h : Steady s (start s)) :
    Steady s (s.fetchFor w start) := by
  unfold State.fetchFor
  split
  · simp
  · split
    · simp
    · exact h.trans (waitPage_steady ..)

/-- The writes of a channel that are issued leave what its freeze left. -/
@[simp] theorem issueWrites_steady (s : State) (f lines source) : Steady s (s.issueWrites f lines source) := by
  unfold State.issueWrites
  extract_lets c t x new held
  have hcount : Steady s t := by simp [t]
  split
  · exact hcount
  · exact hcount.trans (setChan_steady _ _ _ rfl)

@[simp] theorem issueWrite_steady (s : State) (f line) : Steady s (s.issueWrite f line) := by simp [State.issueWrite]

@[simp] theorem placeFrame_steady (s : State) (f c) : Steady s (s.placeFrame f c) := by simp [State.placeFrame]

@[simp] theorem poisonLine_steady (s : State) (f line) : Steady s (s.poisonLine f line) := by
  unfold State.poisonLine
  exact (setFrame_steady ..).trans (bump_steady _ _ _ (mcPoisonedLines_le _))

@[simp] theorem failLines_steady (s : State) (old new failed) : Steady s (s.failLines old new failed) := by simp [State.failLines]

@[simp] theorem copyOff_steady (s : State) (old new) : Steady s (s.copyOff old new) := by simp [State.copyOff, OD.freezeThawDone]

@[simp] theorem thawPage_steady (s : State) (key) : Steady s (s.thawPage key) := by
  unfold State.thawPage
  dsimp only
  split
  · split
    next h => exact (takeFrame_steady h).trans (by simp)
    next => simp
  · simp

@[simp] theorem moveNode_steady (s : State) (k) : Steady s (s.moveNode k) := by
  unfold State.moveNode
  dsimp only
  (repeat' split) <;> simp

@[simp] theorem thawWalk_steady (s : State) (cid page) : Steady s (s.thawWalk cid page) := by
  unfold State.thawWalk
  (repeat' split) <;> simp

@[simp] theorem thawDepot_steady (s : State) (i) : Steady s (s.thawDepot i) := by
  unfold State.thawDepot
  dsimp only
  split
  · split
    next h => exact (takeFrame_steady h).trans (by simp)
    next => simp
  · simp

@[simp] theorem cipherLine_steady (s : State) : Steady s (s.cipherLine) := by simp [State.cipherLine]

@[simp] theorem readResident_steady (s : State) (ld dpa key line blockFails) : Steady s (s.readResident ld dpa key line blockFails) := by
  simp [State.readResident]

@[simp] theorem checkEntry_steady (s : State) (i) : Steady s (s.checkEntry i) := by simp [State.checkEntry]

@[simp] theorem readDepot_steady (s : State) (w i blockFails) : Steady s (s.readDepot w i blockFails) := by
  unfold State.readDepot
  dsimp only
  (repeat' split) <;> simp

@[simp] theorem readPage_steady (s : State) (w blockFails) : Steady s (s.readPage w blockFails) := by simp [State.readPage]

@[simp] theorem serveRead_steady (s : State) (w blockFails) : Steady s (s.serveRead w blockFails) := by simp [State.serveRead]

@[simp] theorem storeLine_steady (s : State) (ld dpa key line d bad) : Steady s (s.storeLine ld dpa key line d bad) := by
  simp [State.storeLine, mcPoisonedLines_le]

@[simp] theorem storeFor_steady (s : State) (w) : Steady s (s.storeFor w) := by
  unfold State.storeFor
  split <;> simp

theorem snapshotBefore_steady {s t : State} {key : Nat} (h : s.snapshotBefore key = some t) : Steady s t := by
  unfold State.snapshotBefore at h
  dsimp only at h
  split at h
  · cases h; simp
  · split at h
    · split at h
      · split at h
        next => cases h
        next e => cases h; exact (takeFrame_steady e).trans (by simp)
      · cases h; simp
    · cases h; simp

theorem changeResident_steady {s t : State} {w : Waiter} (h : s.changeResident w = some t) : Steady s t := by
  obtain ⟨u, hu, rfl⟩ := Option.map_eq_some_iff.1 h
  exact (snapshotBefore_steady hu).trans (storeFor_steady u w)

@[simp] theorem writeResident_steady (s : State) (w) : Steady s (s.writeResident w) := by
  unfold State.writeResident
  split
  · simp
  · split
    · simp
    · split
      next => simp
      next h => exact changeResident_steady h

@[simp] theorem fillPage_steady (s : State) (key f im) : Steady s (s.fillPage key f im) := by simp [State.fillPage]

@[simp] theorem refusePage_steady (s : State) (w) : Steady s (s.refusePage w) := by simp [State.refusePage]

@[simp] theorem writeUnallocated_steady (s : State) (w) : Steady s (s.writeUnallocated w) := by
  unfold State.writeUnallocated
  split
  · simp
  · split
    next t e =>
      refine (growPath_steady_of_eq e).trans ?_
      split
      next => simp
      next h => exact (takeFrame_steady h).trans (by simp)
    next t _ _ e => exact (growPath_steady_of_eq e).trans (discardAs_steady ..)

@[simp] theorem writeDepot_steady (s : State) (w) : Steady s (s.writeDepot w) := by
  unfold State.writeDepot
  dsimp only
  have hentry : Steady s ((s.thawDepot (s.leaf (leafKey w.cid w.page)).ptr).checkEntry (s.leaf (leafKey w.cid w.page)).ptr) := by simp
  refine hentry.trans ?_
  split
  · split
    · simp
    · split
      · simp
      · split
        · simp
        · split
          next t e =>
            refine (growPath_steady_of_eq e).trans ?_
            split
            · split <;> simp
            · split
              · simp
              · split
                next => simp
                next h => exact (takeFrame_steady h).trans (by simp)
          next e => exact (growPath_steady_of_eq e).trans (discardAs_steady ..)
  · simp

@[simp] theorem writePage_steady (s : State) (w) : Steady s (s.writePage w) := by simp [State.writePage]

@[simp] theorem serveWrite_steady (s : State) (w) : Steady s (s.serveWrite w) := by simp [State.serveWrite]

@[simp] theorem serveHeld_steady (s : State) (w) : Steady s (s.serveHeld w) := by simp [State.serveHeld]

@[simp] theorem resumeOne_steady (s : State) (w) : Steady s (s.resumeOne w) := by simp [State.resumeOne]

@[simp] theorem storeTicket_steady (s : State) (t) : Steady s (s.storeTicket t) := by
  simp [State.storeTicket, OD.ticketNextTicket, OD.ticketGeneration]

@[simp] theorem settleTickets_steady (s : State) (store) : Steady s (s.settleTickets store) := by simp [State.settleTickets]

@[simp] theorem resumeHead_steady (s : State) : Steady s (s.resumeHead) := by
  unfold State.resumeHead
  split <;> simp

@[simp] theorem resumeAll_steady (n : Nat) (s : State) : Steady s (State.resumeAll n s) := by
  induction n generalizing s with
  | zero => simp [State.resumeAll]
  | succ n ih => exact (resumeHead_steady s).trans (ih _)

@[simp] theorem signalGpf_steady (s : State) (p) : Steady s (s.signalGpf p) := by simp [State.signalGpf]

@[simp] theorem resume_steady (s : State) : Steady s (s.resume) := by simp [State.resume]

/-! ### Sessions -/

@[simp] theorem transmit_steady (s : State) (src op tag i b r) : Steady s (s.transmit src op tag i b r) := by
  obtain ⟨o, u, h⟩ := transmit_frame s src op tag i b r
  rw [h]
  simp

@[simp] theorem endBackground_steady (s : State) (src) : Steady s (endBackground src s) := by
  unfold endBackground
  split <;> simp

@[simp] theorem finishIn_steady (s : State) (key r x) : Steady s (s.finishIn key r x) := by
  unfold State.finishIn
  split <;> simp

@[simp] theorem finishFor_steady (s : State) (x key r) : Steady s (s.finishFor x key r) := by
  unfold State.finishFor
  split <;> simp

@[simp] theorem giveUp_steady (s : State) (key as) : Steady s (s.giveUp key as) := by simp [State.giveUp]

/-! ### Entering a mode -/

theorem ctl_of_steady {s t : State} (h : Steady s t) : t.ctl = s.ctl := by
  obtain ⟨-, hctl, -⟩ := h
  exact hctl

theorem lastCause_of_steady {s t : State} (h : Steady s t) : t.get OD.modeLastCause = s.get OD.modeLastCause := by
  obtain ⟨-, -, hod⟩ := h
  exact congrArg Prod.fst hod

/-- A port's fence cause stays. -/
theorem fenceCause_of_steady {s t : State} (h : Steady s t) (p : Port) : t.get (OD.hpFenceCause p.val) = s.get (OD.hpFenceCause p.val) := by
  obtain ⟨-, -, hod⟩ := h
  match p with
  | 0 => exact congrArg (·.2.1) hod
  | 1 => exact congrArg (·.2.2) hod

@[simp] theorem clearPerturbation_keepsOutages (s : State) (cause) : KeepsOutages s (s.clearPerturbation cause) := by
  simp [State.clearPerturbation]

@[simp] theorem revokeUnlock_keepsOutages (s : State) : KeepsOutages s (s.revokeUnlock) := by simp [State.revokeUnlock]

@[simp] theorem releaseSlots_steady (s : State) (n) : Steady s (s.releaseSlots n) := by simp [State.releaseSlots]

@[simp] theorem releaseBatsel_steady (s : State) : Steady s (s.releaseBatsel) := by simp [State.releaseBatsel]

@[simp] theorem advancePointer_keepsOutages (s : State) (n) : KeepsOutages s (s.advancePointer n) := by simp [State.advancePointer]

@[simp] theorem stopDrill_keepsOutages (s : State) (result keepBatsel) : KeepsOutages s (s.stopDrill result keepBatsel) := by
  simp [State.stopDrill, State.keep]

@[simp] theorem abortDrill_keepsOutages (s : State) (result keepBatsel) : KeepsOutages s (s.abortDrill result keepBatsel) := by
  simp [State.abortDrill]

@[simp] theorem changePanic_steady (s : State) (p on) : Steady s (s.changePanic p on) := by
    by_cases hp : p = 0 <;> simp [State.changePanic, hp, OD.qosPanicCountHp0, OD.qosPanicCountHp1]

@[simp] theorem stopTraining_keepsOutages (s : State) (p) : KeepsOutages s (s.stopTraining p) := by simp [State.stopTraining]

@[simp] theorem fence_keepsOutages (s : State) (form trigger) : KeepsOutages s (s.fence form trigger) := by simp [State.fence]

@[simp] theorem stopFlush_steady (s : State) : Steady s (s.stopFlush) := by simp [State.stopFlush]

@[simp] theorem abandoned_steady (s : State) (row object) : Steady s (s.abandoned row object) := by simp [State.abandoned]

@[simp] theorem dropClean_steady (cid) (s : State) (key) : Steady s (State.dropClean cid s key) := by simp [State.dropClean]

@[simp] theorem setCState_steady (s : State) (cid c) : Steady s (s.setCState cid c) := by simp [State.setCState]

@[simp] theorem abandonTerms_keepsOutages (s : State) : KeepsOutages s (s.abandonTerms) := by
  unfold State.abandonTerms
  dsimp only
  (repeat' split) <;> simp

@[simp] theorem rewindTransfer_keepsOutages (s : State) : KeepsOutages s (s.rewindTransfer) := by
  unfold State.rewindTransfer
  (repeat' split) <;> simp

@[simp] theorem abandonAll_keepsOutages (s : State) : KeepsOutages s (s.abandonAll) := by simp [State.abandonAll]

@[simp] theorem resumeApply_steady (s : State) : Steady s (s.resumeApply) := by simp [State.resumeApply]

@[simp] theorem startPeriod_steady (s : State) (old m) : Steady s (s.startPeriod old m) := by simp [State.startPeriod]

/-- A frozen channel that goes on to salvage serves no more, as before. -/
@[simp] theorem beginSalvage_steady (s : State) (c) : Steady s (s.beginSalvage c) := by
  unfold State.beginSalvage
  split
  · next h =>
    refine setChan_steady s c _ ?_
    have hfrozen : (s.chan c).state = .frozen := by simp at h; exact h.2
    show _ = ((s.chan c).state == .inService, (s.chan c).freezeCause, (s.chan c).freezeTime)
    rw [hfrozen]
    rfl
  · simp

@[simp] theorem enterMode_keepsOutages (s : State) (m cause) : KeepsOutages s (s.enterMode m cause) := by
  unfold State.enterMode
  dsimp only
  (repeat' split) <;> simp

/-- The end of a transition: the mode is set, and then its record is written (R52). -/
theorem enterMode_ends (s : State) (m : Mode) (cause : Nat) : ∃ u v : State, Steady { u with ctl := { u.ctl with mode := m } } v
    ∧ s.enterMode m cause = (((v.put OD.modePreviousMode s.ctl.mode.code).put OD.modeLastCause cause).put
      OD.modeLastTransition v.clock).raise 0x8001 0 [(.u8, s.ctl.mode.code), (.u8, m.code), (.u8, cause)] := by
  unfold State.enterMode
  extract_lets
  rename_i v _
  exact ⟨_, v, ((resumeApply_steady _).trans (foldl_steady _ beginSalvage_steady _ _)).trans (startPeriod_steady _ _ _), rfl⟩

/-- A transition leads to its mode, and its cause stands in OD 0x1100. -/
theorem enterMode_mode (s : State) (m : Mode) (cause : Nat) :
    (s.enterMode m cause).ctl.mode = m ∧ (s.enterMode m cause).get OD.modeLastCause = cause := by
  obtain ⟨u, v, ⟨-, hctl, -⟩, h⟩ := enterMode_ends s m cause
  rw [h]
  refine ⟨by simp [hctl], ?_⟩
  rw [lastCause_of_steady (raise_steady ..), get_put_other _ _ _ _ (by decide), get_put_same]

@[simp] theorem startSave_keepsOutages (s : State) (kind cause) : KeepsOutages s (s.startSave kind cause) := by simp [State.startSave]

@[simp] theorem enterFreeze_keepsOutages (s : State) (cause) : KeepsOutages s (s.enterFreeze cause) := by simp [State.enterFreeze]

@[simp] theorem decide_keepsOutages (s : State) : KeepsOutages s (s.decide) := by
  unfold State.decide
  dsimp only
  (repeat' split) <;> simp

@[simp] theorem requestDecision_keepsOutages (s : State) (r) : KeepsOutages s (s.requestDecision r) := by simp [State.requestDecision]

@[simp] theorem isolated_keepsOutages (s : State) (r block remaining) : KeepsOutages s (s.isolated r block remaining) := by
  unfold State.isolated
  split <;> simp

@[simp] theorem reportSince_keepsOutages (s : State) (old) : KeepsOutages s (s.reportSince old) := by simp [State.reportSince]

/-! ### Chip-level decisions -/

/-- The save path is judged without the log, the counters, the objects and the flush queue. -/
theorem savePathUsable_of_frame {s t : State} (h : ∃ l p o f, t = { s with log := l, perf := p, od := o, flush := f }) :
    t.savePathUsable = s.savePathUsable := by
  obtain ⟨l, p, o, f, rfl⟩ := h
  rfl

theorem savePathUsable_raise (s : State) (c v : Nat) (is : List (ItemKind × Nat)) :
    (s.raise c v is).savePathUsable = s.savePathUsable := by
  obtain ⟨l, p, o, h⟩ := raiseWith_frame s c v is []
  exact savePathUsable_of_frame ⟨l, p, o, s.flush, h⟩

theorem savePathUsable_flush (s : State) (f) : { s with flush := f }.savePathUsable = s.savePathUsable :=
  savePathUsable_of_frame ⟨s.log, s.perf, s.od, f, rfl⟩

/-- A save starts in SAVE, with its cause in OD 0x1100 and its run at step 2 (R241). -/
theorem startSave_run (s : State) (kind : SaveKind) (cause : Nat) :
    (s.startSave kind cause).ctl.mode = .save ∧ (s.startSave kind cause).get OD.modeLastCause = cause
      ∧ ∃ x, (s.startSave kind cause).saves.run = some x
        ∧ x.kind = kind ∧ x.cause = cause ∧ x.mode = s.ctl.mode ∧ x.step = 2 := by
  unfold State.startSave
  extract_lets old parent chain tooMuch restore area s1 s2 seq run seals _ v s3
  have hs2 : s2 = s1.stopFlush.enterMode .save cause := rfl
  obtain ⟨hmode, hcause⟩ := enterMode_mode s1.stopFlush .save cause
  rw [← hs2] at hmode hcause
  clear_value s2
  have h3 : Steady s2 s3 := journal_steady s2 0x0001 0 (s2.vaultRecordBytes seq parent seals)
  have hmode3 : s3.ctl.mode = .save := by rw [ctl_of_steady h3, hmode]
  have hcause3 : s3.get OD.modeLastCause = cause := (lastCause_of_steady h3).trans hcause
  split
  · exact ⟨hmode3, hcause3, run, rfl, rfl, rfl, rfl, rfl⟩
  · exact ⟨hmode3, hcause3, run, rfl, rfl, rfl, rfl, rfl⟩

/-- FREEZE is entered with its cause in OD 0x1100. -/
theorem enterFreeze_mode (s : State) (cause : Nat) :
    (s.enterFreeze cause).ctl.mode = .freeze ∧ (s.enterFreeze cause).get OD.modeLastCause = cause := by
  unfold State.enterFreeze
  extract_lets t
  obtain ⟨hmode, hcause⟩ := enterMode_mode t.stopFlush .freeze cause
  have h := resume_steady (t.stopFlush.enterMode .freeze cause)
  exact ⟨by rw [ctl_of_steady h, hmode], (lastCause_of_steady h).trans hcause⟩

/-- In SERVICE and MAINTENANCE a decision starts a save where the save path is usable (R17). -/
theorem decide_startSave {s : State} (hmode : s.ctl.mode = .service ∨ s.ctl.mode = .maintenance) (husable : s.savePathUsable = true) :
    ∃ t : State, t.ctl = s.ctl ∧ s.decide = t.startSave .decision 0x0A := by
  unfold State.decide
  obtain hm | hm := hmode <;> cases s.flush.drill <;> simp only [hm, savePathUsable_flush, husable, if_true] <;>
    exact ⟨_, by rw [raise_ctl], rfl⟩

theorem decide_enterFreeze {s : State}
    (h : (s.ctl.mode = .service ∨ s.ctl.mode = .maintenance) ∧ s.savePathUsable = false
      ∨ s.ctl.mode = .boot ∨ s.ctl.mode = .restore) :
    ∃ t : State, s.decide = t.enterFreeze 0x0A := by
  unfold State.decide
  obtain ⟨hm | hm, husable⟩ | hm | hm := h <;> cases s.flush.drill <;>
    simp [savePathUsable_flush, *] <;> exact ⟨_, rfl⟩

/-- In SAVE a decision is recorded in the save's run. -/
theorem decide_saving {s : State} {x : SaveRun} (hmode : s.ctl.mode = .save) (hrun : s.saves.run = some x) :
    s.decide.saves.run = some { x with decision := true } ∧ s.decide.ctl = s.ctl := by
  unfold State.decide
  cases s.flush.drill <;> simp [hmode, hrun]

/-- In OFF, VAULT and FREEZE a decision counts as a command that is not listed. -/
theorem decide_idle {s : State} (hmode : s.ctl.mode = .off ∨ s.ctl.mode = .vault ∨ s.ctl.mode = .freeze) :
    s.decide.ctl = s.ctl ∧ s.decide.tables = s.tables := by
  unfold State.decide
  obtain hm | hm | hm := hmode <;> cases s.flush.drill <;> simp [hm, State.unlist]

/-- What a decision is taken on is as before the request for it. -/
theorem requestDecision_decides (s : State) (r : Region) :
    ∃ u : State, s.requestDecision r = u.decide ∧ u.ctl = s.ctl ∧ u.tables = s.tables ∧ u.saves = s.saves
      ∧ u.savePathUsable = s.savePathUsable :=
  ⟨_, rfl, raise_ctl .., raise_tables .., raise_saves .., savePathUsable_raise ..⟩

theorem exec_chipDecisionRequest {s : State} (r : Region) (h : s.ctl.stopped = false) :
    exec (.chipDecisionRequest r) s = .next (s.requestDecision r) := by
  show execChipDecisionRequest r s = _
  simp [execChipDecisionRequest, h]

/-- CHIP_DECISION_REQUEST, mode by mode (R17). -/
theorem chipDecisionRequest_next {s : State} (r : Region) (hstopped : s.ctl.stopped = false) :
    ((s.ctl.mode = .service ∨ s.ctl.mode = .maintenance) → s.savePathUsable = true →
        ∃ t x, exec (.chipDecisionRequest r) s = .next t ∧ t.ctl.mode = .save ∧ t.get OD.modeLastCause = 0x0A
          ∧ t.saves.run = some x ∧ x.kind = .decision ∧ x.cause = 0x0A ∧ x.mode = s.ctl.mode ∧ x.step = 2)
      ∧ ((s.ctl.mode = .service ∨ s.ctl.mode = .maintenance) → s.savePathUsable = false →
        ∃ t, exec (.chipDecisionRequest r) s = .next t ∧ t.ctl.mode = .freeze ∧ t.get OD.modeLastCause = 0x0A)
      ∧ ((s.ctl.mode = .boot ∨ s.ctl.mode = .restore) →
        ∃ t, exec (.chipDecisionRequest r) s = .next t ∧ t.ctl.mode = .freeze ∧ t.get OD.modeLastCause = 0x0A)
      ∧ (∀ x, s.ctl.mode = .save → s.saves.run = some x →
        ∃ t, exec (.chipDecisionRequest r) s = .next t ∧ t.saves.run = some { x with decision := true } ∧ t.ctl = s.ctl)
      ∧ ((s.ctl.mode = .off ∨ s.ctl.mode = .vault ∨ s.ctl.mode = .freeze) →
        ∃ t, exec (.chipDecisionRequest r) s = .next t ∧ t.ctl = s.ctl ∧ t.tables = s.tables) := by
  rw [exec_chipDecisionRequest r hstopped]
  obtain ⟨u, hu, hctl, htables, hsaves, hpath⟩ := requestDecision_decides s r
  rw [hu, ← hctl, ← htables, ← hsaves, ← hpath]
  refine ⟨fun hmode husable => ?_, fun hmode husable => ?_, fun hmode => ?_, fun x hmode hrun => ?_, fun hmode => ?_⟩
  · obtain ⟨t, ht, hsave⟩ := decide_startSave hmode husable
    obtain ⟨hsaving, hcause, x, hrun, hkind, hxcause, hxmode, hstep⟩ := startSave_run t .decision 0x0A
    rw [hsave]
    exact ⟨_, x, rfl, hsaving, hcause, hrun, hkind, hxcause, by rw [hxmode, ht], hstep⟩
  · obtain ⟨t, hfreeze⟩ := decide_enterFreeze (.inl ⟨hmode, husable⟩)
    rw [hfreeze]
    exact ⟨_, rfl, enterFreeze_mode t 0x0A⟩
  · obtain ⟨t, hfreeze⟩ := decide_enterFreeze (.inr hmode)
    rw [hfreeze]
    exact ⟨_, rfl, enterFreeze_mode t 0x0A⟩
  · exact ⟨_, rfl, decide_saving hmode hrun⟩
  · exact ⟨_, rfl, decide_idle hmode⟩

/-! ### Within the budgets -/

/-- An isolation within its region's budget is reported, and no decision is asked for (R16). -/
theorem isolated_steady_of_within {s : State} {r : Region} (block remaining : Nat) (h : s.overBudget r = false) :
    Steady s (s.isolated r block remaining) := by
  have hflush : ∀ f, { s with flush := f }.overBudget r = false := fun f => by cases r <;> exact h
  unfold State.isolated
  cases s.flush.drill <;> simp [h, hflush]

/-- One more of a range counts where one starts to. -/
theorem countP_range_succ_of_flip {p q : Nat → Bool} {n c : Nat} (hc : c < n) (hp : p c = false) (hq : q c = true)
    (h : ∀ k, k ≠ c → q k = p k) : (List.range n).countP q = (List.range n).countP p + 1 := by
  induction n with
  | zero => omega
  | succ n ih =>
    rw [List.range_succ, List.countP_append, List.countP_append]
    by_cases hn : c = n
    · subst hn
      have hbelow : (List.range c).countP q = (List.range c).countP p :=
        List.countP_congr fun k hk => by rw [h k (by have := List.mem_range.mp hk; omega)]
      simp [hbelow, hp, hq]
    · rw [ih (by omega)]
      simp [h n (Ne.symm hn)]
      omega

/-! ### A flash channel out of service -/

theorem when_steady (s : State) (c : Bool) (f : State → State) (h : Steady s (f s)) : Steady s (s.when c f) := by
  cases c
  · exact ⟨⟨rfl, rfl, rfl, rfl, rfl⟩, rfl, rfl⟩
  · exact h

@[simp] theorem checkGc_steady (s : State) : Steady s s.checkGc := by
  simp [State.checkGc, OD.gcFreeShare, OD.gcGcState]

@[simp] theorem recomputeBacking_steady (s : State) : Steady s s.recomputeBacking := by
  simp [State.recomputeBacking, OD.spaceBackingPagesTotal]

@[simp] theorem loseCopy_steady (s : State) (name) : Steady s (s.loseCopy name) := by simp [State.loseCopy]

@[simp] theorem loseBoth_steady (s : State) (c) : Steady s (s.loseBoth c) := by
  unfold State.loseBoth
  dsimp only
  split
  · simp
  · exact (raise_steady ..).trans (foldl_steady _ loseCopy_steady _ _)

@[simp] theorem fchan_setFchan_same (s : State) (c : Nat) (x : FChan) : (s.setFchan c x).fchan c = x := mapGet_mapSet_same ..

theorem fchan_setFchan_other (s : State) (c k : Nat) (x : FChan) (h : k ≠ c) : (s.setFchan c x).fchan k = s.fchan k :=
  mapGet_mapSet_other _ _ _ _ _ h

/-- One more flash channel is out where a channel in service goes out. -/
theorem fchansOut_setFchan {s : State} {c : Nat} {x : FChan} (hc : c < 64) (hold : (s.fchan c).state = 0) (hnew : x.state ≠ 0) :
    (s.setFchan c x).fchansOut = s.fchansOut + 1 :=
  countP_range_succ_of_flip hc (by simp [hold]) (by simp [hnew]) fun k hk => by rw [fchan_setFchan_other _ _ _ _ hk]

/-- The channel is out with its cause, and the mode is kept while no more than 8 are out (R333). -/
theorem channelOut_out {s : State} {c : Nat} (cause : Nat) (h : (s.fchan c).state = 0) :
    ((s.channelOut c cause).fchan c).state = 1 ∧ ((s.channelOut c cause).fchan c).cause = cause
      ∧ (c < 64 → s.fchansOut < 8 → (s.channelOut c cause).ctl = s.ctl) := by
  unfold State.channelOut
  rw [if_neg (by simp [h])]
  obtain ⟨x, hx⟩ : ∃ x, x = { s.fchan c with state := 1, cause := cause, rebuilding := true } := ⟨_, rfl⟩
  extract_lets old s1 s2 s3
  generalize hs4 : s3.when (s3.ctl.mode == .save) _ = s4
  obtain ⟨⟨-, -, -, hchans, -⟩, hctl, -⟩ : Steady (s.setFchan c x) s4 := by
    have hs3 : Steady (s.setFchan c x) s3 := by simp [s3, s2, s1, old, hx]
    rw [← hs4]
    exact hs3.trans (when_steady _ _ _ (raise_steady ..))
  obtain ⟨-, -, -, hkept, -⟩ := isolated_keepsOutages s4 .flash c s3.channelsInService
  have hfchan : (s4.isolated .flash c s3.channelsInService).fchan c = x := by
    rw [State.fchan, hkept, hchans]
    exact mapGet_mapSet_same ..
  refine ⟨by rw [hfchan, hx], by rw [hfchan, hx], fun hc hout => ?_⟩
  have hcount : s4.fchansOut = s.fchansOut + 1 := by
    rw [State.fchansOut]
    simp only [State.fchan, hchans]
    exact fchansOut_setFchan hc h (by simp [hx])
  have hwithin : s4.overBudget .flash = false := by
    simp only [State.overBudget, hcount, decide_eq_false_iff_not]
    omega
  exact (ctl_of_steady (isolated_steady_of_within c s3.channelsInService hwithin)).trans hctl

/-! ### A frozen DRAM channel -/

@[simp] theorem chan_setChan_same (s : State) (c : Nat) (x : Chan) : (s.setChan c x).chan c = x := mapGet_mapSet_same ..

theorem chan_setChan_other (s : State) (c k : Nat) (x : Chan) (h : k ≠ c) : (s.setChan c x).chan k = s.chan k :=
  mapGet_mapSet_other _ _ _ _ _ h

theorem freezesOf_chan (s : State) (c : Nat) :
    freezesOf s.dram.chans c = ((s.chan c).state == .inService, (s.chan c).freezeCause, (s.chan c).freezeTime) := rfl

theorem chansOut_of_dram {s t : State} (h : t.dram = s.dram) : t.chansOut = s.chansOut ∧ t.populated = s.populated := by
  have hout : t.chansOut = { s with dram := t.dram }.chansOut := rfl
  have hpop : t.populated = { s with dram := t.dram }.populated := rfl
  rw [hout, hpop, h]
  exact ⟨rfl, rfl⟩

@[simp] theorem record_dram (s : State) (region type key payload) : (s.record region type key payload).dram = s.dram := by
  unfold State.record
  split <;> rfl

@[simp] theorem recordState_dram (s : State) (type key) : (s.recordState type key).dram = s.dram := by
  simp [State.recordState, State.draw]

theorem chansOut_setChan_of_state {s : State} {c : Nat} {x : Chan} (h : x.state = (s.chan c).state) :
    (s.setChan c x).chansOut = s.chansOut := by
  have hstates : ∀ k, ((s.setChan c x).chan k).state = (s.chan k).state := fun k => by
    by_cases hk : k = c
    · rw [hk, chan_setChan_same, h]
    · rw [chan_setChan_other _ _ _ _ hk]
  have hpops : ∀ k, (s.setChan c x).isPopulated k = s.isPopulated k := fun _ => rfl
  simp only [State.chansOut, hstates, hpops]

/-- One more populated channel is out where one in service is frozen. -/
theorem chansOut_setChan {s : State} {c : Nat} {x : Chan} (hc : c < 16) (hpop : s.isPopulated c = true)
    (hold : (s.chan c).state = .inService) (hnew : x.state = .frozen) : (s.setChan c x).chansOut = s.chansOut + 1 :=
  have hpops : ∀ k, (s.setChan c x).isPopulated k = s.isPopulated k := fun _ => rfl
  countP_range_succ_of_flip hc (by simp [hold]) (by simp [hpops, hpop, hnew]) fun k hk => by
    rw [hpops, chan_setChan_other _ _ _ _ hk]

@[simp] theorem salvaged_steady (s : State) (c) : Steady s (s.salvaged c) := by
  unfold State.salvaged
  split <;> simp

/-- A frozen channel that is salvaged by the save serves no more, as before. -/
theorem salvageSave_steady {s : State} {c : Nat} (h : ((s.chan c).state == .inService) = false) :
    Steady s ((s.setChan c { s.chan c with state := .salvageSave }).salvaged c) := by
  refine (setChan_steady s c _ ?_).trans (salvaged_steady ..)
  rw [freezesOf_chan, h]
  rfl

@[simp] theorem logFreeze_steady (s : State) (c more) : Steady s (s.logFreeze c more) := raiseWith_steady ..

@[simp] theorem logFreeze_dram (s : State) (c more) : (s.logFreeze c more).dram = s.dram := raiseWith_dram ..

theorem mcLastFreezeCause_le (c : Nat) : 0x220000 ≤ OD.mcLastFreezeCause c := by
  unfold OD.mcLastFreezeCause
  omega

/-- A channel in service is frozen at the present time with its cause, and the mode is kept while no more than a quarter are out (R306). -/
theorem freezeMc_frozen {s : State} {c : Nat} (cause : Nat) (h : (s.chan c).state = .inService) :
    freezesOf (s.freezeMc c cause).dram.chans c = (false, cause, s.clock)
      ∧ (c < 16 → s.isPopulated c = true → 4 * (s.chansOut + 1) ≤ s.populated → (s.freezeMc c cause).ctl = s.ctl) := by
  unfold State.freezeMc
  rw [if_neg (by simp [h])]
  extract_lets record oldDram s0 s1 saving s2 s3 x3
  have hs3 : s3 = (s2.recordState 0x0112 c).isolated .memory c (s2.populated - s2.chansOut) := rfl
  clear_value s3
  generalize hs4 : s2.recordState 0x0112 c = s4 at hs3
  have hdram : s4.dram = s1.dram := by simp [← hs4, s2]
  obtain ⟨-, hctl, -⟩ : Steady s1 s4 := by
    rw [← hs4]
    exact ((put_steady _ _ _ (mcLastFreezeCause_le c)).trans (logFreeze_steady ..)).trans (recordState_steady ..)
  have hfrozen : freezesOf s3.dram.chans c = (false, cause, s.clock) := by
    obtain ⟨-, -, -, -, hkept⟩ := isolated_keepsOutages s4 .memory c (s2.populated - s2.chansOut)
    rw [hs3, hkept, hdram, freezesOf_chan, chan_setChan_same]
    rfl
  obtain ⟨⟨-, -, -, -, hchans⟩, hctl5, -⟩ : Steady s3 (if saving = true
      then (s3.setChan c { s3.chan c with state := .salvageSave }).salvaged c
      else s3.beginSalvage c) := by
    split
    · exact salvageSave_steady (congrArg Prod.fst hfrozen)
    · exact beginSalvage_steady s3 c
  refine ⟨(congrFun hchans c).trans hfrozen, fun hc hpop hquarter => hctl5.trans ?_⟩
  obtain ⟨hout, hpopulated⟩ := chansOut_of_dram hdram
  have hout1 : s1.chansOut = s.chansOut + 1 := chansOut_setChan (s := s0) hc hpop h rfl
  have hpopulated1 : s1.populated = s.populated := rfl
  have hwithin : s4.overBudget .memory = false := by
    simp only [State.overBudget, hout, hpopulated, hout1, hpopulated1, decide_eq_false_iff_not]
    omega
  rw [hs3]
  exact (ctl_of_steady (isolated_steady_of_within c (s2.populated - s2.chansOut) hwithin)).trans hctl

/-! ### An isolated port -/

@[simp] theorem dropReads_steady (s : State) (p) : Steady s (s.dropReads p) := by simp [State.dropReads]

/-- A fenced port is isolated with fence cause 3, and nothing else goes out (R105). -/
theorem fencePort_outages (s : State) (p : Port) :
    (s.fencePort p.val).iso.ports = s.iso.ports ||| (1#2 <<< p.val) ∧ (s.fencePort p.val).ctl = s.ctl
      ∧ (s.fencePort p.val).work.badBanks = s.work.badBanks ∧ (s.fencePort p.val).crypt.quarantined = s.crypt.quarantined
      ∧ (s.fencePort p.val).get (OD.hpFenceCause p.val) = 3 := by
  unfold State.fencePort
  extract_lets s1 iso s2 oldPort s3
  obtain ⟨⟨hiso3, hbanks3, hpipes3, -, -⟩, hctl3, -⟩ : Steady s2 s3 := setHostPort_steady ..
  have hcause : s3.get (OD.hpFenceCause p.val) = 3 := by
    rw [fenceCause_of_steady (setHostPort_steady ..) p]
    show s1.get _ = 3
    rw [get_put_other _ _ _ _ (by simp [OD.hpFenceCause, OD.hpLinkState]), get_put_same]
  have hadmitted : OD.hpFenceCause p.val ≠ OD.hpMemAdmitted p.val := by simp [OD.hpFenceCause, OD.hpMemAdmitted]
  refine ⟨?_, ?_, ?_, ?_, ?_⟩
  · simp [State.putFlag, hiso3, s2, iso, s1]
  · simp [State.putFlag, hctl3, s2, s1]
  · simp [State.putFlag, hbanks3, s2, s1]
  · simp [State.putFlag, hpipes3, s2, s1]
  · rw [fenceCause_of_steady (raise_steady ..) p, State.putFlag, get_put_other _ _ _ _ hadmitted]
    exact hcause

@[simp] theorem newBits_self {w : Nat} (x : BitVec w) : newBits x x = [] := by simp [newBits]

/-- A port alone is within the host region's budget of one. -/
theorem onePort_new : ∀ p : Port, newBits (0 ||| (1#2 <<< p.val)) 0 = [p.val] ∧ popcount 2 (0 ||| (1#2 <<< p.val)).toNat = 1 := by
  decide

/-- One port that is newly out is the one isolation to report, where no bank or pipe went out. -/
theorem reportSince_of_port {s u : State} {b : Nat} (hport : newBits u.iso.ports s.iso.ports = [b])
    (hbanks : u.work.badBanks = s.work.badBanks) (hpipes : u.crypt.quarantined = s.crypt.quarantined) :
    u.reportSince s = u.isolated .host b (2 - popcount 2 u.iso.ports.toNat) := by
  simp [State.reportSince, hport, hbanks, hpipes]

/-- The port is isolated; where no port was, the mode is kept (R105). -/
theorem fencePort_reported (s : State) (p : Port) :
    ((s.fencePort p.val).reportSince s).iso.ports.getLsbD p.val = true
      ∧ (s.iso.ports = 0 → ((s.fencePort p.val).reportSince s).get (OD.hpFenceCause p.val) = 3
        ∧ ((s.fencePort p.val).reportSince s).ctl = s.ctl) := by
  obtain ⟨hports, hctl, hbanks, hpipes, hcause⟩ := fencePort_outages s p
  generalize s.fencePort p.val = u at hports hctl hbanks hpipes hcause
  constructor
  · obtain ⟨hiso, -⟩ := reportSince_keepsOutages u s
    rw [hiso, hports]
    simp [Nat.le_of_lt_succ p.isLt]
  · intro hnone
    obtain ⟨hnew, hone⟩ := onePort_new p
    rw [hnone] at hports
    have hwithin : u.overBudget .host = false := by
      simp only [State.overBudget, hports, hone]
      rfl
    have hsteady := isolated_steady_of_within p.val (2 - popcount 2 u.iso.ports.toNat) hwithin
    rw [reportSince_of_port (by rw [hports, hnone, hnew]) hbanks hpipes]
    exact ⟨(fenceCause_of_steady hsteady p).trans hcause, (ctl_of_steady hsteady).trans hctl⟩

/-! ### Self-check failures -/

theorem exec_selfCheckFailure (s : State) (b : SelfCheckBlock) : exec (.selfCheckFailure b) s = execSelfCheckFailure b s := rfl

theorem exec_selfCheckFailure_port (s : State) (p : Port) (h : s.mainDieRuns = true) :
    exec (.selfCheckFailure (.port p)) s = .next ((s.fencePort p.val).reportSince s) := by
  simp [exec_selfCheckFailure, execSelfCheckFailure, h]

theorem exec_selfCheckFailure_flash (s : State) (c : Fc) (h : s.mainDieRuns = true) :
    exec (.selfCheckFailure (.flash c)) s = .next (s.channelOut c.val 3) := by
  simp [exec_selfCheckFailure, execSelfCheckFailure, h]

/-- A mode register that failed leaves an entry in the channel's error list before the freeze: nothing that the freeze is judged by. -/
theorem exec_selfCheckFailure_dram (s : State) (c : Mc) (m : Bool) (h : s.mainDieRuns = true) :
    ∃ u : State, exec (.selfCheckFailure (.dram c m)) s = .next (u.freezeMc c.val (if m then 4 else 8)) ∧ u.clock = s.clock
      ∧ u.ctl = s.ctl ∧ (u.chan c.val).state = (s.chan c.val).state ∧ u.isPopulated c.val = s.isPopulated c.val
      ∧ u.chansOut = s.chansOut ∧ u.populated = s.populated := by
  rw [exec_selfCheckFailure]
  cases m with
  | false => exact ⟨s, by simp [execSelfCheckFailure, h], rfl, rfl, rfl, rfl, rfl, rfl⟩
  | true =>
    exact ⟨s.addError c.val 5 0 0xFF 0 0, by simp [execSelfCheckFailure, h], rfl, rfl, by simp [State.addError], rfl,
      chansOut_setChan_of_state rfl, rfl⟩

theorem exec_selfCheckFailure_unlisted (s : State) (b : SelfCheckBlock) (h : s.mainDieRuns = false) :
    exec (.selfCheckFailure b) s = .next s.unlist := by
  simp [exec_selfCheckFailure, execSelfCheckFailure, h]

/-- Settles O9: a decision's mode is that of the transition it starts, and an isolation within its region's budget, reported without a
request for a decision, is `Steady`; what a decision does beyond the budget keeps the isolations (`KeepsOutages`). -/
theorem isolationsAndDecisions : Obligations.IsolationsAndDecisions := by
  unfold Obligations.IsolationsAndDecisions
  intro s
  refine ⟨fun r hstopped => chipDecisionRequest_next r hstopped, fun c hruns hserves => ?_, fun c m hruns hserves => ?_,
    fun p hruns => ?_, fun b hruns => exec_selfCheckFailure_unlisted s b hruns⟩
  · obtain ⟨hstate, hcause, hctl⟩ := channelOut_out 3 hserves
    exact ⟨_, exec_selfCheckFailure_flash s c hruns, hstate, hcause, hctl c.isLt⟩
  · obtain ⟨u, hexec, hclock, huctl, hstate, hpop, hout, hpopulated⟩ := exec_selfCheckFailure_dram s c m hruns
    obtain ⟨hfrozen, hctl⟩ := freezeMc_frozen (if m then 4 else 8) (hstate.trans hserves)
    rw [hpop, hout, hpopulated, huctl] at hctl
    rw [freezesOf_chan, hclock, Prod.mk.injEq, Prod.mk.injEq] at hfrozen
    obtain ⟨hserves', hcause, htime⟩ := hfrozen
    exact ⟨_, hexec, hcause, htime, by simpa using hserves', hctl c.isLt⟩
  · exact ⟨_, exec_selfCheckFailure_port s p hruns, fencePort_reported s p⟩

end Sys2Proof.Machine
end

section
/-! SUPPORT. Every step keeps the modes in agreement: each function of the model either leaves the control state and the drill as they are
(`_modes`), or keeps the agreement while it changes them (`_ok`). -/
namespace Sys2Proof.Machine

/-! ### Modes in agreement -/

/-- Test perturbation is unlocked only in MAINTENANCE (R60) and armed only when unlocked (R581), and a drill runs only in SERVICE (R49, R221). -/
def Agree (m : Mode) (unlocked armed drilling : Bool) : Prop :=
  (unlocked = true → m = .maintenance) ∧ (armed = true → unlocked = true) ∧ (drilling = true → m = .service)

/-- The modes of a state agree: `State.modesAgree` as a proposition (`modesAgree_iff`). -/
@[simp] abbrev ModesOk (s : State) : Prop := Agree s.ctl.mode s.ctl.unlocked s.ctl.armed s.flush.drill.isSome

theorem modesAgree_iff (s : State) : s.modesAgree = true ↔ ModesOk s := by
  cases hu : s.ctl.unlocked <;> cases ha : s.ctl.armed <;> cases hd : s.flush.drill <;>
    simp [State.modesAgree, Agree, hu, ha, hd]

/-- All that `ModesOk` reads is the same in two states. -/
@[simp] abbrev SameModes (s t : State) : Prop := t.ctl = s.ctl ∧ t.flush.drill = s.flush.drill

theorem SameModes.trans {s t u : State} (h : SameModes s t) (h' : SameModes t u) : SameModes s u :=
  ⟨h'.1.trans h.1, h'.2.trans h.2⟩

theorem SameModes.ok {s t : State} (h : SameModes s t) (hs : ModesOk s) : ModesOk t := by
  rw [ModesOk, h.1, h.2]; exact hs

@[simp] theorem ite_flush (c : Prop) [Decidable c] (a b : State) :
    (if c then a else b).flush = if c then a.flush else b.flush :=
  apply_ite ..

@[simp] theorem ite_drill (c : Prop) [Decidable c] (a b : Flush) :
    (if c then a else b).drill = if c then a.drill else b.drill :=
  apply_ite ..

@[simp] theorem ite_fst_ctl {α : Type} (c : Prop) [Decidable c] (a b : State × α) :
    (if c then a else b).1.ctl = if c then a.1.ctl else b.1.ctl := by
  split <;> rfl

@[simp] theorem ite_fst_flush {α : Type} (c : Prop) [Decidable c] (a b : State × α) :
    (if c then a else b).1.flush = if c then a.1.flush else b.1.flush := by
  split <;> rfl

@[simp] theorem foldl_modes {α : Type} (f : State → α → State) (h : ∀ s a, SameModes s (f s a)) (l : List α) (s : State) :
    SameModes s (l.foldl f s) := by
  induction l generalizing s with
  | nil => exact ⟨rfl, rfl⟩
  | cons a l ih => exact (h s a).trans (ih _)

theorem foldl_ok {α : Type} (f : State → α → State) (h : ∀ s a, ModesOk s → ModesOk (f s a)) (l : List α) (s : State)
    (hs : ModesOk s) : ModesOk (l.foldl f s) := by
  induction l generalizing s with
  | nil => exact hs
  | cons a l ih => exact ih _ (h s a hs)

theorem foldl_fst_modes {α β : Type} (f : State × β → α → State × β) (h : ∀ r a, SameModes r.1 (f r a).1)
    (l : List α) (r : State × β) : SameModes r.1 (l.foldl f r).1 := by
  induction l generalizing r with
  | nil => exact ⟨rfl, rfl⟩
  | cons a l ih => exact (h r a).trans (ih _)

theorem modes_of_eq {α : Type} {x : State × α} {s t : State} {a : α} (hx : SameModes s x.1) (h : x = (t, a)) :
    SameModes s t := by
  rwa [h] at hx

theorem ok_of_eq {α : Type} {x : State × α} {t : State} {a : α} (hx : ModesOk x.1) (h : x = (t, a)) : ModesOk t := by
  rwa [h] at hx

/-- The next state of an outcome, where there is one, has its modes in agreement. -/
def OkIfNext (o : Out) : Prop := ∀ t, o = .next t → ModesOk t

@[simp] theorem okIfNext_next (t : State) : OkIfNext (.next t) ↔ ModesOk t := by simp [OkIfNext]

@[simp] theorem okIfNext_fault (r) : OkIfNext (.fault r) := fun _ h => nomatch h

@[simp] theorem okIfNext_ite (c : Prop) [Decidable c] (a b : Out) :
    OkIfNext (if c then a else b) ↔ if c then OkIfNext a else OkIfNext b := by
  split <;> rfl

/-- The same of an outcome that a request's frame may not name. -/
def OkIfAny (a : Option Out) : Prop := ∀ o, a = some o → OkIfNext o

@[simp] theorem okIfAny_none : OkIfAny none := fun _ h => nomatch h

@[simp] theorem okIfAny_some (o : Out) : OkIfAny (some o) ↔ OkIfNext o := by simp [OkIfAny]

@[simp] theorem okIfAny_ite (c : Prop) [Decidable c] (a b : Option Out) :
    OkIfAny (if c then a else b) ↔ if c then OkIfAny a else OkIfAny b := by
  split <;> rfl

theorem okIfAny_orElse {a b : Option Out} (ha : OkIfAny a) (hb : OkIfAny b) : OkIfAny (a.orElse fun _ => b) := by
  cases a with
  | none => exact hb
  | some a => exact ha

theorem okIfNext_getD {a : Option Out} {d : Out} (ha : OkIfAny a) (hd : OkIfNext d) : OkIfNext (a.getD d) := by
  cases a with
  | none => exact hd
  | some a => exact ha a rfl

@[simp] theorem when_flush (s : State) (c : Bool) (f : State → State) :
    (s.when c f).flush = if c then (f s).flush else s.flush := by
  cases c <;> simp [State.when]

/-! ### Machine/Ops -/

@[simp] theorem loadPlan_modes (s : State) (v) : SameModes s (s.loadPlan v) := by simp [State.loadPlan]

@[simp] theorem storeBytes_modes (s : State) (k v) : SameModes s (s.storeBytes k v) := by
  unfold State.storeBytes
  split <;> simp

@[simp] theorem keep_modes (s : State) (k v) : SameModes s (s.keep k v) := by simp [State.keep]

@[simp] theorem countFixed_modes (s : State) (n) : SameModes s (s.countFixed n) := ⟨rfl, rfl⟩

@[simp] theorem setHostPort_modes (s : State) (p h) : SameModes s (s.setHostPort p h) := by simp [State.setHostPort]

@[simp] theorem freshAnswers_modes (s : State) : SameModes s s.freshAnswers := ⟨rfl, rfl⟩

@[simp] theorem idle_modes (s : State) : SameModes s s.idle := by simp [State.idle]

/-! ### Machine/Tables -/

@[simp] theorem setChan_modes (s : State) (c x) : SameModes s (s.setChan c x) := ⟨rfl, rfl⟩

@[simp] theorem setFchan_modes (s : State) (c x) : SameModes s (s.setFchan c x) := ⟨rfl, rfl⟩

@[simp] theorem setSlot_modes (s : State) (n x) : SameModes s (s.setSlot n x) := ⟨rfl, rfl⟩

@[simp] theorem checkNodes_modes (s : State) : SameModes s s.checkNodes := by simp [State.checkNodes]

@[simp] theorem placeAux_modes (s : State) (line) : SameModes s (s.placeAux line) := by
  unfold State.placeAux
  (repeat' split) <;> simp

@[simp] theorem touch_modes (s : State) (line) : SameModes s (s.touch line) := by simp [State.touch]

@[simp] theorem probe_modes (s : State) : SameModes s s.probe := ⟨rfl, rfl⟩

@[simp] theorem delay_modes (s : State) (c) : SameModes s (s.delay c) := ⟨rfl, rfl⟩

@[simp] theorem mapCommand_ok (s : State) (c : Instr) (k : State → Out) (h : OkIfNext (k s)) (hs : ModesOk s) :
    OkIfNext (s.mapCommand c k) := by
  unfold State.mapCommand; split <;> simp [h, hs]

@[simp] theorem await_ok (s : State) (n : Nat) (c : Instr) (k : State → Out) (h : OkIfNext (k s)) (hs : ModesOk s) :
    OkIfNext (s.await n c k) := by
  unfold State.await; split <;> simp [h, hs]

@[simp] theorem command_ok (s : State) (n : Nat) (c : Instr) (k : State → Out) (h : OkIfNext (k s)) (hs : ModesOk s) :
    OkIfNext (s.command n c k) := by
  rcases command_cases s n c k with e | e <;> simp [e, h, hs]

@[simp] theorem cacheWrite_modes (s : State) (key) : SameModes s (s.cacheWrite key) := by simp [State.cacheWrite]

@[simp] theorem setLeaf_modes (s : State) (key l) : SameModes s (s.setLeaf key l) := by simp [State.setLeaf]

@[simp] theorem setInterior_modes (s : State) (key e) : SameModes s (s.setInterior key e) := by
  simp [State.setInterior]

@[simp] theorem setCarriage_modes (s : State) (cid c) : SameModes s (s.setCarriage cid c) := by
  simp [State.setCarriage]

@[simp] theorem setCouplings_modes (s : State) (ld cs) : SameModes s (s.setCouplings ld cs) := by
  simp [State.setCouplings]

@[simp] theorem setDepot_modes (s : State) (i e) : SameModes s (s.setDepot i e) := by simp [State.setDepot]

@[simp] theorem setFlashCopy_modes (s : State) (name c) : SameModes s (s.setFlashCopy name c) := by
  simp [State.setFlashCopy]

@[simp] theorem setSnaps_modes (s : State) (cid r) : SameModes s (s.setSnaps cid r) := by simp [State.setSnaps]

theorem takeFrame_modes {s t : State} {f : Nat} (h : s.takeFrame = some (f, t)) : SameModes s t := by
  rw [takeFrame_frame h]
  simp

@[simp] theorem setFrame_modes (s : State) (f c) : SameModes s (s.setFrame f c) := ⟨rfl, rfl⟩

@[simp] theorem checkSpace_modes (s : State) : SameModes s s.checkSpace := by simp [State.checkSpace]

@[simp] theorem poisonLeaf_modes (s : State) (key) : SameModes s (s.poisonLeaf key) := by simp [State.poisonLeaf]

@[simp] theorem poisonInterior_modes (s : State) (k) : SameModes s (s.poisonInterior k) := by
  simp [State.poisonInterior]

@[simp] theorem depotUnref_modes (s : State) (i) : SameModes s (s.depotUnref i) := by simp [State.depotUnref]

@[simp] theorem depotRef_modes (s : State) (i) : SameModes s (s.depotRef i) := by simp [State.depotRef]

@[simp] theorem supersede_modes (s : State) (name) : SameModes s (s.supersede name) := by simp [State.supersede]

@[simp] theorem freeCopy_modes (s : State) (name) : SameModes s (s.freeCopy name) := by simp [State.freeCopy]

@[simp] theorem dropLocation_modes (s : State) (key) : SameModes s (s.dropLocation key) := ⟨rfl, rfl⟩

@[simp] theorem freePageCopy_modes (s : State) (key) : SameModes s (s.freePageCopy key) := by
  simp [State.freePageCopy]

@[simp] theorem releasePage_modes (s : State) (key) : SameModes s (s.releasePage key) := by simp [State.releasePage]

@[simp] theorem releaseRecord_modes (cid) (s : State) (r) : SameModes s (State.releaseRecord cid s r) := by
  unfold State.releaseRecord
  split <;> simp

@[simp] theorem releaseDetached_modes (cid) (s : State) (r) : SameModes s (State.releaseDetached cid s r) := by
  simp [State.releaseDetached]

@[simp] theorem releaseDetachedOf_modes (s : State) (cid test) : SameModes s (s.releaseDetachedOf cid test) := by
  simp [State.releaseDetachedOf]

@[simp] theorem dropSnapshot_modes (s : State) (cid cause) : SameModes s (s.dropSnapshot cid cause) := by
  simp [State.dropSnapshot]

@[simp] theorem addRecord_modes (s : State) (cid page k) : SameModes s (s.addRecord cid page k) := by
  simp [State.addRecord]

@[simp] theorem retainCopy_modes (s : State) (key) : SameModes s (s.retainCopy key) := by simp [State.retainCopy]

@[simp] theorem growEntry_modes (s : State) (cid level page) : SameModes s (s.growEntry cid level page).1 := by
  unfold State.growEntry
  dsimp only
  (repeat' split) <;> simp

@[simp] theorem growPath_modes (s : State) (cid page) : SameModes s (s.growPath cid page).1 := by
  unfold State.growPath
  split
  next t h3 =>
    have ht := modes_of_eq (growEntry_modes s cid 3 page) h3
    split
    next u h2 => exact (ht.trans (modes_of_eq (growEntry_modes t cid 2 page) h2)).trans (growEntry_modes ..)
    next => exact ht.trans (growEntry_modes ..)
  next => exact growEntry_modes ..

@[simp] theorem growNodes_modes (s : State) (cid page) : SameModes s (s.growNodes cid page).1 := by
  unfold State.growNodes
  refine foldl_fst_modes _ (fun r level => ?_) _ (s, _)
  split
  · dsimp only
    split
    · exact ⟨rfl, rfl⟩
    · split <;> simp
  · exact ⟨rfl, rfl⟩

@[simp] theorem growPair_modes (s : State) (cid page) : SameModes s (s.growPair cid page) := by
  unfold State.growPair
  split <;> simp

@[simp] theorem enqueue_modes (s : State) (key) : SameModes s (s.enqueue key) := ⟨rfl, rfl⟩

@[simp] theorem markDirty_modes (s : State) (key) : SameModes s (s.markDirty key) := by simp [State.markDirty]

@[simp] theorem depotRefused_modes (s : State) (cid i r) : SameModes s (s.depotRefused cid i r) := by
  unfold State.depotRefused
  split <;> simp

/-! ### Machine/EFlash -/

@[simp] theorem setRegion_modes (s : State) (n r) : SameModes s (s.setRegion n r) := ⟨rfl, rfl⟩

@[simp] theorem record_modes (s : State) (region type key payload) : SameModes s (s.record region type key payload) := by
  simp [State.record]

@[simp] theorem journal_modes (s : State) (type key payload) : SameModes s (s.journal type key payload) := by
  simp [State.journal]

@[simp] theorem recordWaiting_modes (s : State) : SameModes s s.recordWaiting := by simp [State.recordWaiting]

@[simp] theorem recordSetting_modes (s : State) (key) : SameModes s (s.recordSetting key) := by
  simp [State.recordSetting]

@[simp] theorem dropSetting_modes (s : State) (key) : SameModes s (s.dropSetting key) := by simp [State.dropSetting]

@[simp] theorem recordState_modes (s : State) (type key) : SameModes s (s.recordState type key) := by
  simp [State.recordState]

@[simp] theorem countErases_modes (s : State) (sector n) : SameModes s (s.countErases sector n) := by
  simp [State.countErases]

@[simp] theorem noteFormat_modes (s : State) (n sector) : SameModes s (s.noteFormat n sector) := ⟨rfl, rfl⟩

@[simp] theorem retireSector_modes (s : State) (sector) : SameModes s (s.retireSector sector) := by
  unfold State.retireSector
  dsimp only
  (repeat' split) <;> simp

@[simp] theorem eraseSector_modes (s : State) (sector passAt) : SameModes s (s.eraseSector sector passAt) := by
  unfold State.eraseSector
  dsimp only
  (repeat' split) <;> simp

@[simp] theorem compactRegion_modes (s : State) (n) : SameModes s (s.compactRegion n) := by
  unfold State.compactRegion
  dsimp only
  (repeat' split) <;> simp

@[simp] theorem compactSettings_modes (s : State) : SameModes s s.compactSettings := by simp [State.compactSettings]

@[simp] theorem execEflashRecordWrite_ok (region type key payload mismatches) (s : State) (h : ModesOk s) :
    OkIfNext (execEflashRecordWrite region type key payload mismatches s) := by
  simp [execEflashRecordWrite, h]

@[simp] theorem execEflashSectorErase_ok (sector passAt) (s : State) (h : ModesOk s) :
    OkIfNext (execEflashSectorErase sector passAt s) := by
  simp [execEflashSectorErase, h]

@[simp] theorem execJournalCompaction_ok (s : State) (h : ModesOk s) : OkIfNext (execJournalCompaction s) := by
  simp [execJournalCompaction, h]

@[simp] theorem rewriteWeak_modes (s : State) (w) : SameModes s (s.rewriteWeak w) := by
  refine foldl_modes _ (fun s a => ?_) _ _
  dsimp only
  (repeat' split) <;> simp

@[simp] theorem spoilRec_modes (s : State) (w) : SameModes s (s.spoilRec w) := by simp [State.spoilRec]

@[simp] theorem readErrors_modes (s : State) (corrected bad) : SameModes s (s.readErrors corrected bad) := by
  simp [State.readErrors]

@[simp] theorem execMarginReadDue_ok (weak) (s : State) (h : ModesOk s) : OkIfNext (execMarginReadDue weak s) := by
  simp [execMarginReadDue, h]

@[simp] theorem execPersistentWriteRecord_ok (s : State) (h : ModesOk s) : OkIfNext (execPersistentWriteRecord s) := by
  unfold execPersistentWriteRecord
  split <;> simp [h]

/-! ### Machine/Cache -/

@[simp] theorem lookup_modes (s : State) (cid page) : SameModes s (s.lookup cid page) := by simp [State.lookup]

@[simp] theorem quarantineBank_modes (s : State) (bank) : SameModes s (s.quarantineBank bank) := by
  simp [State.quarantineBank]

/-! ### Machine/Planner -/

@[simp] theorem returnAll_modes (s : State) : SameModes s s.returnAll := ⟨rfl, rfl⟩

@[simp] theorem returnCut_modes (s : State) : SameModes s s.returnCut := by simp [State.returnCut]

@[simp] theorem evaluateThrottle_modes (s : State) : SameModes s s.evaluateThrottle := by
  unfold State.evaluateThrottle
  (repeat' split) <;> simp

@[simp] theorem sendResidue_modes (s : State) : SameModes s s.sendResidue := by simp [State.sendResidue]

@[simp] theorem applyCeiling_modes (s : State) : SameModes s s.applyCeiling := by simp [State.applyCeiling]

@[simp] theorem planCompute_modes (s : State) : SameModes s s.planCompute := by
  rw [State.planCompute]
  dsimp only
  generalize hputs : List.foldl _ s _ = t
  have ht : SameModes s t := by
    rw [← hputs]
    exact foldl_modes _ (fun u e => by simp) _ s
  exact ht.trans (by simp)

@[simp] theorem replan_modes (s : State) : SameModes s s.replan := by simp [State.replan]

/-! ### Machine/Sessions -/

@[simp] theorem ok_modes (s : State) : SameModes s (ok s).1 := ⟨rfl, rfl⟩

@[simp] theorem okWith_modes (s : State) (p) : SameModes s (okWith s p).1 := ⟨rfl, rfl⟩

@[simp] theorem fail_modes (s : State) (status) : SameModes s (fail s status).1 := ⟨rfl, rfl⟩

@[simp] theorem refuse_modes (s : State) (lastResult n) : SameModes s (refuse s lastResult n).1 := ⟨rfl, rfl⟩

@[simp] theorem okResult_modes (s : State) (lastResult) : SameModes s (okResult s lastResult).1 := ⟨rfl, rfl⟩

@[simp] theorem setSel_modes (s : State) (src k v) : SameModes s (s.setSel src k v) := ⟨rfl, rfl⟩

@[simp] theorem sendMctp_modes (s : State) (src msg) : SameModes s (s.sendMctp src msg) := by
  unfold State.sendMctp
  split <;> simp

@[simp] theorem transmit_modes (s : State) (src opcode tag index sub r) :
    SameModes s (s.transmit src opcode tag index sub r) := by
  unfold State.transmit
  split <;> simp

@[simp] theorem respond_modes (s : State) (src tag crc f r) : SameModes s (s.respond src tag crc f r) := by
  simp [State.respond]

@[simp] theorem answerPending_modes (s : State) (src) : SameModes s (s.answerPending src) := by
  unfold State.answerPending
  dsimp only
  (repeat' split) <;> simp

@[simp] theorem endBackground_modes (src) (s : State) : SameModes s (endBackground src s) := by
  unfold endBackground
  split <;> simp

@[simp] theorem finishIn_modes (s : State) (key r x) : SameModes s (s.finishIn key r x) := by
  unfold State.finishIn
  split <;> simp

@[simp] theorem finish_modes (s : State) (key r) : SameModes s (s.finish key r) := by
  unfold State.finish
  split <;> simp

@[simp] theorem finishFor_modes (s : State) (x key r) : SameModes s (s.finishFor x key r) := by
  unfold State.finishFor
  split <;> simp

@[simp] theorem finishAll_modes (s : State) (key as) : SameModes s (s.finishAll key as) := by simp [State.finishAll]

@[simp] theorem giveUp_modes (s : State) (key as) : SameModes s (s.giveUp key as) := by simp [State.giveUp]

@[simp] theorem finishOk_modes (s : State) (key) : SameModes s (finishOk s key) := by simp [finishOk]

@[simp] theorem interrupt_modes (s : State) (mine) : SameModes s (s.interrupt mine) := by
  refine foldl_modes _ (fun s a => ?_) _ _
  dsimp only
  (repeat' split) <;> simp

@[simp] theorem fetchAct_modes (src tag) (s : State) : SameModes s (fetchAct src tag s).1 := by
  unfold fetchAct
  dsimp only
  (repeat' split) <;> simp

@[simp] theorem reportStatus_modes (s : State) (src f st) : SameModes s (s.reportStatus src f st) := by
  simp [State.reportStatus]

@[simp] theorem execute_ok (s : State) (src tag crc f) (act : Act) (h : ∀ t, ModesOk t → ModesOk (act t).1) (hs : ModesOk s) :
    ModesOk (s.execute src tag crc f act) := by
  unfold State.execute
  split
  · simpa using hs
  · split
    next e => simpa using ok_of_eq (h s hs) e
    next e => simpa using ok_of_eq (h s hs) e

@[simp] theorem serveNew_ok (s : State) (src tag crc f) (act : Act) (h : ∀ t, ModesOk t → ModesOk (act t).1) (hs : ModesOk s) :
    ModesOk (s.serveNew src tag crc f act) := by
  have hfetch := execute_ok s src tag crc f (fetchAct src tag) (by simp) hs
  have hact := execute_ok s src tag crc f act h hs
  unfold State.serveNew
  (repeat' split) <;> simp [hs, hfetch, hact]

@[simp] theorem serve_ok (s : State) (src tag crc ok f) (act : Act) (h : ∀ t, ModesOk t → ModesOk (act t).1) (hs : ModesOk s) :
    ModesOk (s.serve src tag crc ok f act) := by
  have hnew := fun t ht => serveNew_ok t src tag crc.toNat f act h ht
  unfold State.serve
  dsimp only
  (repeat' split) <;> simp [hs, hnew]

@[simp] theorem runNow_ok (q op index sub p) (act : Act) (s : State) (h : ∀ t, ModesOk t → ModesOk (act t).1) (hs : ModesOk s) :
    OkIfNext (runNow q op index sub p act s) := by
  simpa [runNow] using serve_ok s q.src q.tag.toNat q.crc true _ act h hs

@[simp] theorem runReq_ok (c q op index sub p) (act : Act) (s : State) (h : ∀ t, ModesOk t → ModesOk (act t).1) (hs : ModesOk s) :
    OkIfNext (runReq c q op index sub p act s) := by
  rcases runReq_cases c q op index sub p act s with e | e
  · rw [e]; exact runNow_ok q op index sub p act s h hs
  · simp [e, hs]

@[simp] theorem runCmd_ok (c q key p) (act : Act) (s : State) (h : ∀ t, ModesOk t → ModesOk (act t).1) (hs : ModesOk s) :
    OkIfNext (runCmd c q key p act s) := runReq_ok c q _ _ _ p act s h hs

/-! ### Machine/HostPath -/

@[simp] theorem complete_modes (s : State) (ld c) : SameModes s (s.complete ld c) := by simp [State.complete]

@[simp] theorem freeBuffer_modes (s : State) (p) : SameModes s (s.freeBuffer p) := by simp [State.freeBuffer]

@[simp] theorem completeWrite_modes (s : State) (ld dpa) : SameModes s (s.completeWrite ld dpa) := by
  simp [State.completeWrite]

@[simp] theorem completePoison_modes (s : State) (ld dpa) : SameModes s (s.completePoison ld dpa) := by
  simp [State.completePoison]

@[simp] theorem completeZeros_modes (s : State) (ld dpa) : SameModes s (s.completeZeros ld dpa) := by
  simp [State.completeZeros]

@[simp] theorem completeData_modes (s : State) (ld dpa d) : SameModes s (s.completeData ld dpa d) := by
  simp [State.completeData]

@[simp] theorem uncoupledAccess_modes (s : State) (ld dpa isWrite) : SameModes s (s.uncoupledAccess ld dpa isWrite) := by
  simp [State.uncoupledAccess]

@[simp] theorem readOnlyWrite_modes (s : State) (ld dpa) : SameModes s (s.readOnlyWrite ld dpa) := by
  simp [State.readOnlyWrite]

@[simp] theorem discardWrite_modes (s : State) (ld dpa) : SameModes s (s.discardWrite ld dpa) := by
  simp [State.discardWrite]

@[simp] theorem discardAs_modes (s : State) (w) : SameModes s (s.discardAs w) := by
  unfold State.discardAs
  split <;> simp

@[simp] theorem pipeMismatch_modes (s : State) (x b) : SameModes s (s.pipeMismatch x b) := by
  simp [State.pipeMismatch]

@[simp] theorem pipeFaults_modes (s : State) (ps) : SameModes s (s.pipeFaults ps).1 := by simp [State.pipeFaults]

@[simp] theorem startTraining_modes (s : State) (p) : SameModes s (s.startTraining p) := by simp [State.startTraining]

@[simp] theorem changePanic_modes (s : State) (p on) : SameModes s (s.changePanic p on) := by simp [State.changePanic]

@[simp] theorem cacheFault_modes (s : State) (key) : SameModes s (s.cacheFault key) := by simp [State.cacheFault]

@[simp] theorem wait_modes (s : State) (w) : SameModes s (s.wait w) := by simp [State.wait]

@[simp] theorem waitFrame_modes (s : State) (w) : SameModes s (s.waitFrame w) := by simp [State.waitFrame]

@[simp] theorem waitPage_modes (s : State) (w) : SameModes s (s.waitPage w) := ⟨rfl, rfl⟩

@[simp] theorem setOutcome_modes (s : State) (cid n) : SameModes s (s.setOutcome cid n) := by simp [State.setOutcome]

@[simp] theorem poisonRestored_modes (s : State) (key) : SameModes s (s.poisonRestored key) := by
  simp [State.poisonRestored]

@[simp] theorem vaultUnreadable_modes (s : State) (key) : SameModes s (s.vaultUnreadable key) := by
  simp [State.vaultUnreadable]

@[simp] theorem parentUnreadable_modes (s : State) (key) : SameModes s (s.parentUnreadable key) := by
  simp [State.parentUnreadable]

@[simp] theorem fetchFails_modes (s : State) (key) : SameModes s (s.fetchFails key) := by
  unfold State.fetchFails
  dsimp only
  (repeat' split) <;> simp

@[simp] theorem startFetch_modes (s : State) (key) : SameModes s (s.startFetch key) := by simp [State.startFetch]

@[simp] theorem startDepotFetch_modes (s : State) (i) : SameModes s (s.startDepotFetch i) := by
  simp [State.startDepotFetch]

@[simp] theorem fetchFor_modes (s : State) (w : Waiter) (start : State → State) (h : SameModes s (start s)) :
    SameModes s (s.fetchFor w start) := by
  simp [State.fetchFor, h]

@[simp] theorem issueWrites_modes (s : State) (f lines source) : SameModes s (s.issueWrites f lines source) := by
  simp [State.issueWrites]

@[simp] theorem issueWrite_modes (s : State) (f line) : SameModes s (s.issueWrite f line) := by
  simp [State.issueWrite]

@[simp] theorem placeFrame_modes (s : State) (f c) : SameModes s (s.placeFrame f c) := by simp [State.placeFrame]

@[simp] theorem poisonLine_modes (s : State) (f line) : SameModes s (s.poisonLine f line) := ⟨rfl, rfl⟩

@[simp] theorem failLines_modes (s : State) (old new failed) : SameModes s (s.failLines old new failed) := by
  simp [State.failLines]

@[simp] theorem copyOff_modes (s : State) (old new) : SameModes s (s.copyOff old new) := by simp [State.copyOff]

@[simp] theorem thawPage_modes (s : State) (key) : SameModes s (s.thawPage key) := by
  unfold State.thawPage
  dsimp only
  split
  · split
    next h => exact (takeFrame_modes h).trans (by simp)
    next => exact ⟨rfl, rfl⟩
  · exact ⟨rfl, rfl⟩

@[simp] theorem moveNode_modes (s : State) (k) : SameModes s (s.moveNode k) := by
  unfold State.moveNode
  dsimp only
  (repeat' split) <;> simp

@[simp] theorem thawWalk_modes (s : State) (cid page) : SameModes s (s.thawWalk cid page) := by
  unfold State.thawWalk
  (repeat' split) <;> simp

@[simp] theorem thawDepot_modes (s : State) (i) : SameModes s (s.thawDepot i) := by
  unfold State.thawDepot
  dsimp only
  split
  · split
    next h => exact (takeFrame_modes h).trans (by simp)
    next => exact ⟨rfl, rfl⟩
  · exact ⟨rfl, rfl⟩

@[simp] theorem cipherLine_modes (s : State) : SameModes s s.cipherLine := by simp [State.cipherLine]

@[simp] theorem readResident_modes (s : State) (ld dpa key line blockFails) :
    SameModes s (s.readResident ld dpa key line blockFails) := by
  simp [State.readResident]

@[simp] theorem checkEntry_modes (s : State) (i) : SameModes s (s.checkEntry i) := by simp [State.checkEntry]

@[simp] theorem readDepot_modes (s : State) (w i blockFails) : SameModes s (s.readDepot w i blockFails) := by
  unfold State.readDepot
  dsimp only
  (repeat' split) <;> simp

@[simp] theorem readPage_modes (s : State) (w blockFails) : SameModes s (s.readPage w blockFails) := by
  simp [State.readPage]

@[simp] theorem serveRead_modes (s : State) (w blockFails) : SameModes s (s.serveRead w blockFails) := by
  simp [State.serveRead]

@[simp] theorem hostRead_modes (s : State) (ld dpa blockFails) : SameModes s (s.hostRead ld dpa blockFails) := by
  unfold State.hostRead
  (repeat' split) <;> simp

@[simp] theorem storeLine_modes (s : State) (ld dpa key line d bad) : SameModes s (s.storeLine ld dpa key line d bad) := by
  simp [State.storeLine]

@[simp] theorem storeFor_modes (s : State) (w) : SameModes s (s.storeFor w) := by
  unfold State.storeFor
  split <;> simp

theorem snapshotBefore_modes {s t : State} {key : Nat} (h : s.snapshotBefore key = some t) : SameModes s t := by
  unfold State.snapshotBefore at h
  dsimp only at h
  split at h
  · cases h; simp
  · split at h
    · split at h
      · split at h
        next => cases h
        next e => cases h; exact (takeFrame_modes e).trans (by simp)
      · cases h; simp
    · cases h; simp

theorem changeResident_modes {s t : State} {w : Waiter} (h : s.changeResident w = some t) : SameModes s t := by
  obtain ⟨u, hu, rfl⟩ := Option.map_eq_some_iff.1 h
  exact (snapshotBefore_modes hu).trans (storeFor_modes u w)

@[simp] theorem writeResident_modes (s : State) (w) : SameModes s (s.writeResident w) := by
  unfold State.writeResident
  split
  · simp
  · split
    · simp
    · split
      next => simp
      next h => exact changeResident_modes h

@[simp] theorem fillPage_modes (s : State) (key f im) : SameModes s (s.fillPage key f im) := by simp [State.fillPage]

@[simp] theorem refusePage_modes (s : State) (w) : SameModes s (s.refusePage w) := by simp [State.refusePage]

@[simp] theorem writeUnallocated_modes (s : State) (w) : SameModes s (s.writeUnallocated w) := by
  unfold State.writeUnallocated
  split
  · simp
  · split
    next t e =>
      refine (modes_of_eq (growPath_modes ..) e).trans ?_
      split
      next => simp
      next h => exact (takeFrame_modes h).trans (by simp)
    next e => exact (modes_of_eq (growPath_modes ..) e).trans (discardAs_modes ..)

@[simp] theorem writeDepot_modes (s : State) (w) : SameModes s (s.writeDepot w) := by
  unfold State.writeDepot
  dsimp only
  have hentry : SameModes s ((s.thawDepot (s.leaf (leafKey w.cid w.page)).ptr).checkEntry (s.leaf (leafKey w.cid w.page)).ptr) := by
    simp
  refine hentry.trans ?_
  split
  · split
    · simp
    · split
      · simp
      · split
        · simp
        · split
          next t e =>
            refine (modes_of_eq (growPath_modes ..) e).trans ?_
            split
            · split <;> simp
            · split
              · simp
              · split
                next => simp
                next h => exact (takeFrame_modes h).trans (by simp)
          next e => exact (modes_of_eq (growPath_modes ..) e).trans (discardAs_modes ..)
  · simp

@[simp] theorem writePage_modes (s : State) (w) : SameModes s (s.writePage w) := by simp [State.writePage]

@[simp] theorem serveWrite_modes (s : State) (w) : SameModes s (s.serveWrite w) := by simp [State.serveWrite]

@[simp] theorem takeWrite_modes (s : State) (w) : SameModes s (s.takeWrite w) := by simp [State.takeWrite]

@[simp] theorem hostWrite_modes (s : State) (ld dpa d bad) : SameModes s (s.hostWrite ld dpa d bad) := by
  unfold State.hostWrite
  split <;> simp

@[simp] theorem serveHeld_modes (s : State) (w) : SameModes s (s.serveHeld w) := by simp [State.serveHeld]

@[simp] theorem resumeOne_modes (s : State) (w) : SameModes s (s.resumeOne w) := by simp [State.resumeOne]

@[simp] theorem storeTicket_modes (s : State) (t) : SameModes s (s.storeTicket t) := by simp [State.storeTicket]

@[simp] theorem settleTickets_modes (s : State) (store) : SameModes s (s.settleTickets store) := by
  simp [State.settleTickets]

@[simp] theorem resumeHead_modes (s : State) : SameModes s s.resumeHead := by
  unfold State.resumeHead
  split <;> simp

@[simp] theorem resumeAll_modes (n) (s : State) : SameModes s (State.resumeAll n s) := by
  induction n generalizing s with
  | zero => exact ⟨rfl, rfl⟩
  | succ n ih => exact (resumeHead_modes s).trans (ih _)

@[simp] theorem signalGpf_modes (s : State) (p) : SameModes s (s.signalGpf p) := by simp [State.signalGpf]

@[simp] theorem resume_modes (s : State) : SameModes s s.resume := by simp [State.resume]

@[simp] theorem dropReads_modes (s : State) (p) : SameModes s (s.dropReads p) := by simp [State.dropReads]

@[simp] theorem fencePort_modes (s : State) (p) : SameModes s (s.fencePort p) := by simp [State.fencePort]

@[simp] theorem bufferFault_modes (s : State) (p) : SameModes s (s.bufferFault p) := by simp [State.bufferFault]

/-! ### Machine/Rings -/

@[simp] theorem setLink_modes (s : State) (n l) : SameModes s (s.setLink n l) := ⟨rfl, rfl⟩

/-! ### Machine/Modes -/

theorem clearPerturbation_modes (s : State) (cause) :
    (s.clearPerturbation cause).ctl = { s.ctl with armed := false } ∧ (s.clearPerturbation cause).flush.drill = s.flush.drill := by
  unfold State.clearPerturbation
  split
  · simp
  next h => rw [Bool.not_eq_true] at h; rw [← h]; simp

@[simp] theorem clearPerturbation_ok (s : State) (cause) (h : ModesOk s) : ModesOk (s.clearPerturbation cause) := by
  obtain ⟨hunlock, -, hdrill⟩ := h
  simpa [clearPerturbation_modes, Agree] using And.intro hunlock hdrill

theorem revokeUnlock_ok (s : State) (cause) (h : ModesOk s) : ModesOk (s.clearPerturbation cause).revokeUnlock := by
  obtain ⟨hlock, -, hdrill⟩ := h
  obtain ⟨hctl, hd⟩ := clearPerturbation_modes s cause
  simp only [ModesOk, State.revokeUnlock, hctl, hd]
  exact ⟨nofun, nofun, hdrill⟩

@[simp] theorem releaseSlots_modes (s : State) (n) : SameModes s (s.releaseSlots n) := by simp [State.releaseSlots]

@[simp] theorem releaseBatsel_modes (s : State) : SameModes s s.releaseBatsel := ⟨rfl, rfl⟩

@[simp] theorem advancePointer_modes (s : State) (n) : SameModes s (s.advancePointer n) := by
  simp [State.advancePointer]

theorem stopDrill_modes (s : State) (result keepBatsel) :
    (s.stopDrill result keepBatsel).ctl = s.ctl ∧ (s.stopDrill result keepBatsel).flush.drill = none := by
  unfold State.stopDrill
  split
  next h => exact ⟨rfl, Option.isNone_iff_eq_none.1 h⟩
  next => simp [State.keep]

@[simp] theorem stopDrill_ok (s : State) (result keepBatsel) (h : ModesOk s) : ModesOk (s.stopDrill result keepBatsel) := by
  obtain ⟨hctl, hdrill⟩ := stopDrill_modes s result keepBatsel
  obtain ⟨hunlock, harm, -⟩ := h
  rw [ModesOk, hctl, hdrill]
  exact ⟨hunlock, harm, nofun⟩

theorem abortDrill_modes (s : State) (result keepBatsel) :
    (s.abortDrill result keepBatsel).ctl = s.ctl ∧ (s.abortDrill result keepBatsel).flush.drill = none := by
  simp [State.abortDrill, stopDrill_modes]

@[simp] theorem abortDrill_ok (s : State) (result keepBatsel) (h : ModesOk s) : ModesOk (s.abortDrill result keepBatsel) := by
  simp [State.abortDrill, h]

@[simp] theorem stopTraining_modes (s : State) (p) : SameModes s (s.stopTraining p) := by simp [State.stopTraining]

@[simp] theorem fence_modes (s : State) (form trigger) : SameModes s (s.fence form trigger) := by simp [State.fence]

@[simp] theorem stopFlush_modes (s : State) : SameModes s s.stopFlush := by simp [State.stopFlush]

@[simp] theorem abandoned_modes (s : State) (row object) : SameModes s (s.abandoned row object) := by
  simp [State.abandoned]

@[simp] theorem dropClean_modes (cid) (s : State) (key) : SameModes s (State.dropClean cid s key) := by
  simp [State.dropClean]

@[simp] theorem setCState_modes (s : State) (cid c) : SameModes s (s.setCState cid c) := by simp [State.setCState]

@[simp] theorem abandonTerms_modes (s : State) : SameModes s s.abandonTerms := by
  unfold State.abandonTerms
  dsimp only
  (repeat' split) <;> simp

@[simp] theorem rewindTransfer_modes (s : State) : SameModes s s.rewindTransfer := by
  unfold State.rewindTransfer
  (repeat' split) <;> simp

@[simp] theorem abandonAll_modes (s : State) : SameModes s s.abandonAll := by simp [State.abandonAll]

@[simp] theorem resumeApply_modes (s : State) : SameModes s s.resumeApply := by simp [State.resumeApply]

@[simp] theorem beginSalvage_modes (s : State) (c) : SameModes s (s.beginSalvage c) := by simp [State.beginSalvage]

@[simp] theorem startPeriod_modes (s : State) (old m) : SameModes s (s.startPeriod old m) := by
  simp [State.startPeriod]

@[simp] theorem enterMode_ok (s : State) (m cause) (h : ModesOk s) : ModesOk (s.enterMode m cause) := by
  obtain ⟨hunlock, harm, -⟩ := h
  unfold State.enterMode
  extract_lets +onlyGivenNames old s1 s2 s3 _ s4 _ s5
  have hdrill : s1.ctl = s.ctl ∧ (s1.flush.drill.isSome = true → m = .service) := by
    simp only [s1]
    split
    next hm => exact ⟨rfl, fun _ => by simpa using hm⟩
    next => split <;> simp [stopDrill_modes, abortDrill_modes]
  clear_value s1
  have hperturb : Agree m s2.ctl.unlocked s2.ctl.armed s2.flush.drill.isSome := by
    simp only [s2]
    split
    next => simpa [State.revokeUnlock, clearPerturbation_modes, Agree] using hdrill.2
    next hm =>
      rw [hdrill.1]
      refine ⟨fun hu => ?_, harm, hdrill.2⟩
      have := hunlock hu
      simp only [old] at hm
      simpa [this] using hm
  clear_value s2
  have hkept : s5.ctl = s2.ctl ∧ s5.flush.drill = s2.flush.drill := by
    simp only [s5, s4, s3]
    (repeat' split) <;> simp
  clear_value s5
  simpa [hkept] using hperturb

@[simp] theorem changeVault_modes (s : State) (seq f) : SameModes s (s.changeVault seq f) := ⟨rfl, rfl⟩

@[simp] theorem programSegments_modes (s : State) (r n) : SameModes s (s.programSegments r n) := by
  unfold State.programSegments
  split <;> simp

@[simp] theorem streamPages_modes (s : State) (r page keys) : SameModes s (s.streamPages r page keys) := by
  simp [State.streamPages]

@[simp] theorem cutStream_modes (s : State) : SameModes s s.cutStream := by
  unfold State.cutStream
  split <;> simp

@[simp] theorem mainDieReset_ok (s : State) (h : ModesOk s) : ModesOk s.mainDieReset := by
  obtain ⟨hunlock, harm, -⟩ := h
  simpa [State.mainDieReset, Agree, Flush.initial] using And.intro hunlock harm

@[simp] theorem dropReport_modes (s : State) : SameModes s s.dropReport := ⟨rfl, rfl⟩

@[simp] theorem enterBoot_ok (s : State) (cause) (h : ModesOk s) : ModesOk (s.enterBoot cause) := by
  simp [State.enterBoot, h]

@[simp] theorem enterVault_ok (s : State) (cause) (h : ModesOk s) : ModesOk (s.enterVault cause) := by
  simp [State.enterVault, h]

@[simp] theorem enterOff_ok (s : State) (cause) (h : ModesOk s) : ModesOk (s.enterOff cause) := by
  simp [State.enterOff, h]

@[simp] theorem startSave_ok (s : State) (kind cause) (h : ModesOk s) : ModesOk (s.startSave kind cause) := by
  simp [State.startSave, h]

@[simp] theorem enterFreeze_ok (s : State) (cause) (h : ModesOk s) : ModesOk (s.enterFreeze cause) := by
  simp [State.enterFreeze, h]

@[simp] theorem decide_ok (s : State) (h : ModesOk s) : ModesOk s.decide := by
  unfold State.decide
  extract_lets +onlyGivenNames taken _ s1
  have hs : ModesOk s1 := by
    simp only [s1]
    split
    next e => rw [ModesOk, e] at h; exact h
    next => exact h
  clear_value s1
  simp only [taken]
  (repeat' split) <;> simp [hs]

@[simp] theorem requestDecision_ok (s : State) (r) (h : ModesOk s) : ModesOk (s.requestDecision r) := by
  simp [State.requestDecision, h]

@[simp] theorem isolated_ok (s : State) (r block remaining) (h : ModesOk s) : ModesOk (s.isolated r block remaining) := by
  unfold State.isolated
  extract_lets _ s1
  have hs : ModesOk s1 := by
    simp only [s1]
    split
    next e => rw [ModesOk, e] at h; exact h
    next => exact h
  clear_value s1
  split
  · exact (replan_modes _).ok (requestDecision_ok s1 r hs)
  · simp [hs]

@[simp] theorem reportSince_ok (s : State) (old) (h : ModesOk s) :
    ModesOk (s.reportSince old) :=
  foldl_ok _ (fun t b => isolated_ok t _ b _) _ _ (foldl_ok _ (fun t b => isolated_ok t _ b _) _ _
    (foldl_ok _ (fun t b => isolated_ok t _ b _) _ _ h))

/-! ### Machine/Counters -/

@[simp] theorem setCounter_modes (s : State) (n c) : SameModes s (s.setCounter n c) := ⟨rfl, rfl⟩

@[simp] theorem counterSourceAct_modes (q sub value) (s : State) : SameModes s (counterSourceAct q sub value s).1 := by
  simp [counterSourceAct]

@[simp] theorem execCounterSourceWrite_ok (q sub value) (s : State) (h : ModesOk s) :
    OkIfNext (execCounterSourceWrite q sub value s) := by
  simp [execCounterSourceWrite, h]

@[simp] theorem sampleOverflow_modes (s : State) (n overflows) : SameModes s (s.sampleOverflow n overflows) := by
  simp [State.sampleOverflow]

@[simp] theorem execCounterOverflow_ok (n) (s : State) (h : ModesOk s) : OkIfNext (execCounterOverflow n s) := by
  simp [execCounterOverflow, h]

@[simp] theorem execCounterSnapshot_ok (q) (s : State) (h : ModesOk s) : OkIfNext (execCounterSnapshot q s) := by
  simp [execCounterSnapshot, h]

@[simp] theorem loadSeeds_modes (s : State) : SameModes s s.loadSeeds := ⟨rfl, rfl⟩

@[simp] theorem execTicketSeedWrite_ok (q seed) (s : State) (h : ModesOk s) : OkIfNext (execTicketSeedWrite q seed s) := by
  simp [execTicketSeedWrite, h]

@[simp] theorem clearTickets_modes (s : State) : SameModes s s.clearTickets := ⟨rfl, rfl⟩

@[simp] theorem execTicketClear_ok (q) (s : State) (h : ModesOk s) :
    OkIfNext (execTicketClear q s) := by simp [execTicketClear, h]

@[simp] theorem refuseUnlock_modes (s : State) (r) : SameModes s (refuseUnlock s r).1 := by simp [refuseUnlock]

@[simp] theorem execPerturbationUnlock_ok (q unit word) (s : State) (h : ModesOk s) :
    OkIfNext (execPerturbationUnlock q unit word s) := by
  refine runCmd_ok _ _ _ _ _ _ (fun t ht => ?_) h
  dsimp only
  split
  · simp [ht]
  · split
    · simp [ht]
    next hm =>
      split
      · simp [ht]
      · obtain ⟨-, -, hdrill⟩ := ht
        simp at hm
        simpa [Agree, hm] using hdrill

@[simp] theorem execPerturbationArm_ok (q) (s : State) (h : ModesOk s) : OkIfNext (execPerturbationArm q s) := by
  refine runCmd_ok _ _ _ _ _ _ (fun t ht => ?_) h
  dsimp only
  split
  next hlocked =>
    obtain ⟨hunlock, -, hdrill⟩ := ht
    simp at hlocked
    simpa [Agree, hlocked] using hdrill
  · simp [ht]

@[simp] theorem execPerturbationDisarm_ok (q) (s : State) (h : ModesOk s) : OkIfNext (execPerturbationDisarm q s) := by
  refine runCmd_ok _ _ _ _ _ _ (fun t ht => ?_) h
  split <;> simp [ht]

/-! ### Machine/Notices -/

@[simp] theorem placeNotice_modes (s : State) (n atHead q) : SameModes s (s.placeNotice n atHead q) := by
  simp [State.placeNotice]

@[simp] theorem noticeLost_modes (s : State) (code cause) : SameModes s (s.noticeLost code cause) := by
  simp [State.noticeLost]

@[simp] theorem queueMessage_modes (s : State) (code severity atHead) : SameModes s (s.queueMessage code severity atHead) := by
  unfold State.queueMessage
  (repeat' split) <;> simp

@[simp] theorem notifyNow_modes (s : State) (code) : SameModes s (s.notifyNow code) := by simp [State.notifyNow]

@[simp] theorem notifyRecorded_modes (s : State) (code) : SameModes s (s.notifyRecorded code) := by
  simp [State.notifyRecorded]

/-! ### Machine/Power -/

@[simp] theorem setPower_modes (s : State) (p) : SameModes s (s.setPower p) := ⟨rfl, rfl⟩

@[simp] theorem stopHold_modes (s : State) : SameModes s s.stopHold := ⟨rfl, rfl⟩

@[simp] theorem railFell_modes (s : State) : SameModes s s.railFell := ⟨rfl, rfl⟩

@[simp] theorem warnMaintenance_ok (s : State) (h : ModesOk s) : ModesOk s.warnMaintenance := by
  unfold State.warnMaintenance
  split
  · exact revokeUnlock_ok s 3 h
  · exact h

@[simp] theorem arm_ok (s : State) (h : ModesOk s) : ModesOk s.arm := by simp [State.arm, h]

@[simp] theorem countSignal_modes (s : State) : SameModes s s.countSignal := by
  unfold State.countSignal
  dsimp only
  (repeat' split) <;> simp

@[simp] theorem execWarn_ok (s : State) (h : ModesOk s) : OkIfNext (execWarn s) := by
  unfold execWarn
  dsimp only
  (repeat' split) <;> simp [h]

@[simp] theorem commitPins_modes (s : State) (c) : SameModes s (s.commitPins c) := by
  unfold State.commitPins
  split <;> simp

@[simp] theorem leaveRestoring_ok (s : State) (r) (h : ModesOk s) : ModesOk (s.leaveRestoring r) := by
  unfold State.leaveRestoring
  dsimp only
  (repeat' split) <;> simp -implicitDefEqProofs [h]

@[simp] theorem commitInSave_ok (s : State) (r) (h : ModesOk s) : ModesOk (s.commitInSave r) := by
  unfold State.commitInSave
  dsimp only
  (repeat' split) <;> simp -implicitDefEqProofs [h]

@[simp] theorem commitInBoot_ok (s : State) (cause) (h : ModesOk s) : ModesOk (s.commitInBoot cause) := by
  unfold State.commitInBoot
  (repeat' split) <;> simp [h]

@[simp] theorem commitByMode_ok (s : State) (cause) (h : ModesOk s) : ModesOk (s.commitByMode cause) := by
  unfold State.commitByMode
  (repeat' split) <;> simp [h]

@[simp] theorem execCommit_ok (source) (s : State) (h : ModesOk s) : OkIfNext (execCommit source s) := by simp [execCommit, h]

@[simp] theorem disarm_modes (s : State) : SameModes s s.disarm := by simp [State.disarm]

@[simp] theorem execDisarm_ok (s : State) (h : ModesOk s) : OkIfNext (execDisarm s) := by simp [execDisarm, h]

@[simp] theorem powerReturned_modes (s : State) : SameModes s s.powerReturned := ⟨rfl, rfl⟩

@[simp] theorem powerReturn_ok (s : State) (h : ModesOk s) : ModesOk s.powerReturn := by
  unfold State.powerReturn
  dsimp only
  (repeat' split) <;> simp -implicitDefEqProofs [h]

@[simp] theorem execPowerReturnEvent_ok (s : State) (h : ModesOk s) : OkIfNext (execPowerReturnEvent s) := by
  simp [execPowerReturnEvent, h]

@[simp] theorem execPowerSignalChangeInSave_ok (s : State) (h : ModesOk s) : OkIfNext (execPowerSignalChangeInSave s) := by
  simp [execPowerSignalChangeInSave, h]

@[simp] theorem releaseAfterSave_modes (s : State) : SameModes s s.releaseAfterSave := by
  simp [State.releaseAfterSave]

@[simp] theorem execReleaseComparatorCrossing_ok (rail pwrfailHigh) (s : State) (h : ModesOk s) :
    OkIfNext (execReleaseComparatorCrossing rail pwrfailHigh s) := by
  simp [execReleaseComparatorCrossing, h]

@[simp] theorem execBatselNoCurrent_ok (s : State) (h : ModesOk s) : OkIfNext (execBatselNoCurrent s) := by
  simp [execBatselNoCurrent, h]

@[simp] theorem execMainDiePowerGood_ok (s : State) (h : ModesOk s) : OkIfNext (execMainDiePowerGood s) := by
  unfold execMainDiePowerGood
  dsimp only
  (repeat' split) <;> simp [h]

@[simp] theorem execMdPwrgdLost_ok (s : State) (h : ModesOk s) : OkIfNext (execMdPwrgdLost s) := by
  unfold execMdPwrgdLost
  dsimp only
  (repeat' split) <;> simp [h]

@[simp] theorem execCrystalFail_ok (s : State) (h : ModesOk s) : OkIfNext (execCrystalFail s) := by simp [execCrystalFail, h]

@[simp] theorem execVsbEarlyWarning_ok (recovered) (s : State) (h : ModesOk s) : OkIfNext (execVsbEarlyWarning recovered s) := by
  simp [execVsbEarlyWarning, h]

@[simp] theorem interruptErase_modes (s : State) : SameModes s s.interruptErase := by
  unfold State.interruptErase
  split <;> simp

@[simp] theorem execPowerOnReset_ok (s : State) : OkIfNext (execPowerOnReset s) := by
  simp [execPowerOnReset, Agree, State.mainDieReset, Flush.initial]

/-! ### Machine/Update -/

@[simp] theorem setBank_modes (s : State) (b x) : SameModes s (s.setBank b x) := by simp [State.setBank]

@[simp] theorem journalBank_modes (s : State) (b r) : SameModes s (s.journalBank b r) := by simp [State.journalBank]

@[simp] theorem journalProgress_modes (s : State) : SameModes s s.journalProgress := by simp [State.journalProgress]

@[simp] theorem setUpdate_modes (s : State) (u) : SameModes s (s.setUpdate u) := by simp [State.setUpdate]

@[simp] theorem endPackage_modes (s : State) : SameModes s s.endPackage := by simp [State.endPackage]

@[simp] theorem closeSignalBoxSessions_modes (s : State) : SameModes s s.closeSignalBoxSessions := ⟨rfl, rfl⟩

@[simp] theorem proxyInternal_modes (s : State) : SameModes s s.proxyInternal := by simp [State.proxyInternal]

@[simp] theorem loadItcm_modes (s : State) : SameModes s s.loadItcm := ⟨rfl, rfl⟩

@[simp] theorem smRestart_modes (s : State) (cause) : SameModes s (s.smRestart cause) := by simp [State.smRestart]

@[simp] theorem toDefault_modes (s : State) (k) : SameModes s (s.toDefault k) := by simp [State.toDefault]

@[simp] theorem migrateOne_modes (old new) (s : State) (k) : SameModes s (State.migrateOne old new s k) := by
  unfold State.migrateOne
  split <;> simp

@[simp] theorem migrate_modes (s : State) (old new) : SameModes s (s.migrate old new) := by simp [State.migrate]

@[simp] theorem closePorterSessions_modes (s : State) : SameModes s s.closePorterSessions := by
  refine foldl_modes _ (fun s a => ?_) _ _
  (repeat' split) <;> simp

@[simp] theorem runBank_modes (s : State) (old new) : SameModes s (s.runBank old new) := by
  simp [State.runBank]

@[simp] theorem journalActive_modes (s : State) (b trial) : SameModes s (s.journalActive b trial) := by
  simp [State.journalActive]

@[simp] theorem activate_modes (s : State) : SameModes s s.activate := by simp [State.activate]

@[simp] theorem deferActivation_modes (s : State) (cause) : SameModes s (s.deferActivation cause) := by
  simp [State.deferActivation]

@[simp] theorem activateAtBoundary_modes (s : State) : SameModes s s.activateAtBoundary := by
  simp [State.activateAtBoundary]

@[simp] theorem activateAtBoot_modes (s : State) : SameModes s s.activateAtBoot := by simp [State.activateAtBoot]

@[simp] theorem rollBack_modes (s : State) (cause) : SameModes s (s.rollBack cause) := by simp [State.rollBack]

@[simp] theorem trialFails_modes (s : State) (cause) : SameModes s (s.trialFails cause) := by simp [State.trialFails]

@[simp] theorem refuseBlock_modes (s : State) (b r ends) : SameModes s (s.refuseBlock b r ends).1 := by
  simp [State.refuseBlock]

@[simp] theorem takeBlock_modes (s : State) (b) : SameModes s (s.takeBlock b) := by simp [State.takeBlock]

@[simp] theorem takeHeader_modes (s : State) (b) : SameModes s (s.takeHeader b) := by simp [State.takeHeader]

@[simp] theorem submitAct_modes (src) (s : State) : SameModes s (submitAct src s).1 := by
  unfold submitAct
  dsimp only
  (repeat' split) <;> simp

@[simp] theorem execBlockPart_ok (q bytes) (s : State) (h : ModesOk s) : OkIfNext (execBlockPart q bytes s) := by
  simp [execBlockPart, h]

@[simp] theorem execSubmitBlock_ok (q) (s : State) (h : ModesOk s) :
    OkIfNext (execSubmitBlock q s) := by simp [execSubmitBlock, h]

@[simp] theorem abortAct_modes (s : State) : SameModes s (abortAct s).1 := by
  unfold abortAct
  split <;> simp

@[simp] theorem execUpdateAbort_ok (q) (s : State) (h : ModesOk s) :
    OkIfNext (execUpdateAbort q s) := by simp [execUpdateAbort, h]

@[simp] theorem applyAct_modes (s : State) : SameModes s (applyAct s).1 := by simp [applyAct]

@[simp] theorem execApplyPackage_ok (q) (s : State) (h : ModesOk s) :
    OkIfNext (execApplyPackage q s) := by simp [execApplyPackage, h]

@[simp] theorem rejectBank_modes (s : State) (result) : SameModes s (s.rejectBank result) := by
  simp [State.rejectBank]

@[simp] theorem sectorApplied_modes (s : State) (sector len) : SameModes s (s.sectorApplied sector len) := by
  simp [State.sectorApplied]

@[simp] theorem writeSector_modes (s : State) (len bytes readBacks) : SameModes s (s.writeSector len bytes readBacks) := by
  simp [State.writeSector]

@[simp] theorem execApplySectorComplete_ok (readBacks) (s : State) (h : ModesOk s) :
    OkIfNext (execApplySectorComplete readBacks s) := by
  unfold execApplySectorComplete
  (repeat' split) <;> simp [h]

@[simp] theorem execBankVerificationComplete_ok (digestOk signatureOk regionsOk) (s : State) (h : ModesOk s) :
    OkIfNext (execBankVerificationComplete digestOk signatureOk regionsOk s) := by
  simp [execBankVerificationComplete, h]

@[simp] theorem setDeparture_modes (s : State) (time mode) : SameModes s (s.setDeparture time mode) := by
  simp [State.setDeparture]

@[simp] theorem execSchedule_ok (q time mode) (s : State) (h : ModesOk s) : OkIfNext (execSchedule q time mode s) := by
  simp [execSchedule, h]

@[simp] theorem execScheduleCancel_ok (q) (s : State) (h : ModesOk s) : OkIfNext (execScheduleCancel q s) := by
  simp [execScheduleCancel, h]

@[simp] theorem execRollback_ok (q) (s : State) (h : ModesOk s) : OkIfNext (execRollback q s) := by simp [execRollback, h]

@[simp] theorem execTrialConfirmation_ok (s : State) (h : ModesOk s) : OkIfNext (execTrialConfirmation s) := by
  simp [execTrialConfirmation, h]

/-! ### Machine/Objects -/

@[simp] theorem planChanged_modes (s : State) : SameModes s s.planChanged := by
  unfold State.planChanged
  split <;> simp

@[simp] theorem setPlanEntry_modes (s : State) (i cid) : SameModes s (s.setPlanEntry i cid) := ⟨rfl, rfl⟩

@[simp] theorem updateReserve_modes (s : State) : SameModes s s.updateReserve := by simp [State.updateReserve]

@[simp] theorem written_modes (s : State) (k v) : SameModes s (s.written k v) := by simp [State.written]

@[simp] theorem setClock_modes (s : State) (t) : SameModes s (s.setClock t) := by simp [State.setClock]

@[simp] theorem storeScalar_modes (s : State) (o k v) : SameModes s (s.storeScalar o k v) := by
  simp [State.storeScalar]

@[simp] theorem writeCounter_modes (src sub v) (s : State) : SameModes s (writeCounter src sub v s).1 := by
  simp [writeCounter]

@[simp] theorem withStaged_modes (s : State) (xs) : SameModes s (s.withStaged xs) := by simp [State.withStaged]

@[simp] theorem stageAct_modes (k v) (s : State) : SameModes s (stageAct k v s).1 := by simp [stageAct]

@[simp] theorem setRatio_modes (s : State) (o v) : SameModes s (s.setRatio o v) := by simp [State.setRatio]

@[simp] theorem applyWrite_modes (src o k v) (s : State) : SameModes s (applyWrite src o k v s).1 := by
  simp [applyWrite]

@[simp] theorem writeAct_modes (src k v) (s : State) : SameModes s (writeAct src k v s).1 := by
  unfold writeAct
  split <;> simp

@[simp] theorem execObjectWrite_ok (q index sub value) (s : State) (h : ModesOk s) :
    OkIfNext (execObjectWrite q index sub value s) := by
  simp [execObjectWrite, h]

@[simp] theorem execStagedObjectWrite_ok (q index sub value) (s : State) (h : ModesOk s) :
    OkIfNext (execStagedObjectWrite q index sub value s) := by
  simp [execStagedObjectWrite, h]

@[simp] theorem execTimeSet_ok (q time) (s : State) (h : ModesOk s) : OkIfNext (execTimeSet q time s) := by simp [execTimeSet, h]

@[simp] theorem execThresholdWrite_ok (q sub level) (s : State) (h : ModesOk s) :
    OkIfNext (execThresholdWrite q sub level s) := by
  simp [execThresholdWrite, h]

@[simp] theorem execDividerRatioWrite_ok (q ratio) (s : State) (h : ModesOk s) : OkIfNext (execDividerRatioWrite q ratio s) := by
  simp [execDividerRatioWrite, h]

@[simp] theorem execSaveCeilingMaxWrite_ok (q size) (s : State) (h : ModesOk s) :
    OkIfNext (execSaveCeilingMaxWrite q size s) := by
  simp [execSaveCeilingMaxWrite, h]

@[simp] theorem compareAct_modes (src k payload) (s : State) : SameModes s (compareAct src k payload s).1 := by
  unfold compareAct
  split <;> simp

@[simp] theorem execCompareWrite_ok (q index sub payload) (s : State) (h : ModesOk s) :
    OkIfNext (execCompareWrite q index sub payload s) := by
  simp [execCompareWrite, h]

@[simp] theorem execReadStaged_ok (q index sub) (s : State) (h : ModesOk s) : OkIfNext (execReadStaged q index sub s) := by
  refine runReq_ok _ _ _ _ _ _ _ _ (fun t ht => ?_) h
  (repeat' split) <;> simp [ht]

@[simp] theorem endCommitted_modes (s : State) : SameModes s s.endCommitted := ⟨rfl, rfl⟩

@[simp] theorem applyCommitted_modes (s : State) (atBoot) : SameModes s (s.applyCommitted atBoot) := by
  unfold State.applyCommitted
  dsimp only
  (repeat' split) <;> simp

@[simp] theorem applyAtBoundary_modes (s : State) : SameModes s s.applyAtBoundary := by simp [State.applyAtBoundary]

@[simp] theorem applyAtBoot_modes (s : State) : SameModes s s.applyAtBoot := by simp [State.applyAtBoot]

@[simp] theorem execDiscardStaged_ok (q) (s : State) (h : ModesOk s) : OkIfNext (execDiscardStaged q s) := by
  simp [execDiscardStaged, h]

/-! ### Machine/Flash -/

@[simp] theorem setBlock_modes (s : State) (k b) : SameModes s (s.setBlock k b) := ⟨rfl, rfl⟩

@[simp] theorem checkGc_modes (s : State) : SameModes s s.checkGc := by simp [State.checkGc]

@[simp] theorem recomputeBacking_modes (s : State) : SameModes s s.recomputeBacking := by
  simp [State.recomputeBacking]

@[simp] theorem programIn_modes (s : State) (stream name c) : SameModes s (s.programIn stream name c) := by
  simp [State.programIn]

@[simp] theorem program_modes (s : State) (name c) : SameModes s (s.program name c) := by simp [State.program]

@[simp] theorem nextWseq_modes (s : State) : SameModes s s.nextWseq := ⟨rfl, rfl⟩

@[simp] theorem moveCopy_modes (s : State) (b e) : SameModes s (s.moveCopy b e) := by simp [State.moveCopy]

@[simp] theorem relocate_modes (s : State) (k) : SameModes s (s.relocate k) := by simp [State.relocate]

@[simp] theorem loseSlots_modes (s : State) (n) : SameModes s (s.loseSlots n) := by simp [State.loseSlots]

@[simp] theorem loseCopy_modes (s : State) (name) : SameModes s (s.loseCopy name) := by simp [State.loseCopy]

@[simp] theorem loseBoth_modes (s : State) (c) : SameModes s (s.loseBoth c) := by simp [State.loseBoth]

@[simp] theorem channelOut_ok (s : State) (c cause) (h : ModesOk s) : ModesOk (s.channelOut c cause) := by
  unfold State.channelOut
  dsimp only
  (repeat' split) <;> simp -implicitDefEqProofs [h]

@[simp] theorem retireDie_ok (s : State) (c die) (h : ModesOk s) : ModesOk (s.retireDie c die) := by
  unfold State.retireDie
  dsimp only
  (repeat' split) <;> simp -implicitDefEqProofs [h]

@[simp] theorem retireBlock_ok (s : State) (c die k code) (h : ModesOk s) : ModesOk (s.retireBlock c die k code) := by
  unfold State.retireBlock
  dsimp only
  (repeat' split) <;> simp -implicitDefEqProofs [h]

@[simp] theorem checkWear_modes (s : State) : SameModes s s.checkWear := by simp [State.checkWear]

@[simp] theorem stripeUnit_modes (s : State) (g stream) : SameModes s (s.stripeUnit g stream) := by
  simp [State.stripeUnit]

@[simp] theorem programSnap_modes (s : State) : SameModes s s.programSnap := by
  unfold State.programSnap
  dsimp only
  (repeat' split) <;> simp

@[simp] theorem snapMove_ok (s : State) (ps) (h : ModesOk s) : ModesOk (s.snapMove ps) := by simp [State.snapMove, h]

@[simp] theorem execFlashProgramComplete_ok (c die block bytes ok) (s : State) (pairings stream) (h : ModesOk s) :
    OkIfNext (execFlashProgramComplete c die block bytes ok s pairings stream) := by
  unfold execFlashProgramComplete
  dsimp only
  (repeat' split) <;> simp [h]

@[simp] theorem execFlashEraseComplete_ok (c die block ok) (s : State) (h : ModesOk s) :
    OkIfNext (execFlashEraseComplete c die block ok s) := by
  simp [execFlashEraseComplete, h]

@[simp] theorem execStripeCloseTimeout_ok (group) (s : State) (stream) (h : ModesOk s) :
    OkIfNext (execStripeCloseTimeout group s stream) := by
  simp [execStripeCloseTimeout, h]

@[simp] theorem execLunTimeout_ok (c die) (s : State) (h : ModesOk s) : OkIfNext (execLunTimeout c die s) := by
  simp [execLunTimeout, h]

@[simp] theorem execChannelStatusTimeout_ok (c) (s : State) (h : ModesOk s) : OkIfNext (execChannelStatusTimeout c s) := by
  simp [execChannelStatusTimeout, h]

@[simp] theorem execFlashZqShortDue_ok (c) (s : State) (h : ModesOk s) : OkIfNext (execFlashZqShortDue c s) := by
  simp [execFlashZqShortDue, h]

@[simp] theorem endConversion_modes (s : State) : SameModes s s.endConversion := by
  unfold State.endConversion
  split <;> simp

@[simp] theorem execBackingRecompute_ok (s : State) (h : ModesOk s) : OkIfNext (execBackingRecompute s) := by
  simp [execBackingRecompute, h]

@[simp] theorem execGcRelocation_ok (block) (s : State) (bad) (h : ModesOk s) : OkIfNext (execGcRelocation block s bad) := by
  simp [execGcRelocation, h]

@[simp] theorem execFlashReturnChannel_ok (q c) (s : State) (h : ModesOk s) : OkIfNext (execFlashReturnChannel q c s) := by
  simp [execFlashReturnChannel, h]

@[simp] theorem execSaveSlotErase_ok (s : State) (h : ModesOk s) : OkIfNext (execSaveSlotErase s) := by
  refine await_ok _ _ _ _ ?_ h
  dsimp only
  (repeat' split) <;> simp [h]

@[simp] theorem execStripeRebuildComplete_ok (c) (s : State) (h : ModesOk s) : OkIfNext (execStripeRebuildComplete c s) := by
  simp [execStripeRebuildComplete, h]

/-! ### Machine/Dram -/

@[simp] theorem setTally_modes (s : State) (c sub t) : SameModes s (s.setTally c sub t) := ⟨rfl, rfl⟩

@[simp] theorem logFreeze_modes (s : State) (c more) : SameModes s (s.logFreeze c more) := by simp [State.logFreeze]

@[simp] theorem salvaged_modes (s : State) (c) : SameModes s (s.salvaged c) := by
  unfold State.salvaged
  split <;> simp

@[simp] theorem freezeMc_ok (s : State) (c cause) (h : ModesOk s) : ModesOk (s.freezeMc c cause) := by
  unfold State.freezeMc
  dsimp only
  (repeat' split) <;> simp -implicitDefEqProofs [h]

@[simp] theorem loseEntries_modes (s : State) (k line) : SameModes s (s.loseEntries k line) := by
  simp [State.loseEntries]

@[simp] theorem loseRoot_modes (s : State) (cid line) : SameModes s (s.loseRoot cid line) := by simp [State.loseRoot]

@[simp] theorem loseSeals_modes (s : State) (k line) : SameModes s (s.loseSeals k line) := by simp [State.loseSeals]

@[simp] theorem damageCarriage_modes (s : State) (cid) : SameModes s (s.damageCarriage cid) := by
  simp [State.damageCarriage]

@[simp] theorem loseRecords_modes (s : State) (cid first) : SameModes s (s.loseRecords cid first) := by
  simp [State.loseRecords]

@[simp] theorem loseAuxLine_modes (s : State) (line) : SameModes s (s.loseAuxLine line) := by simp [State.loseAuxLine]

@[simp] theorem loseTableLine_modes (s : State) (f line) : SameModes s (s.loseTableLine f line) := by
  obtain ⟨g, e⟩ : ∃ g, @State.loseTableLine = g := ⟨_, rfl⟩
  rw [e]
  delta State.loseTableLine at e
  have e := congrFun₃ e s f line
  beta_reduce at e
  rw [← e]
  generalize s.pageOfTable f = o
  (repeat' split) <;> simp

/-- `loseTableLine` as some function that keeps the modes: what it does to a table is not evaluated where a proof uses this. -/
theorem loseTableLine_modes_opaque : ∃ g, @State.loseTableLine = g ∧ ∀ s f line, SameModes s (g s f line) :=
  ⟨_, rfl, loseTableLine_modes⟩

@[simp] theorem addError_modes (s : State) (c kind source device f line) :
    SameModes s (s.addError c kind source device f line) := ⟨rfl, rfl⟩

@[simp] theorem markDevice_modes (s : State) (c p d) : SameModes s (s.markDevice c p d) := by simp [State.markDevice]

@[simp] theorem bankStorm_modes (s : State) (c bank) : SameModes s (s.bankStorm c bank) := by simp [State.bankStorm]

@[simp] theorem correctedLine_modes (s : State) (f line source d) : SameModes s (s.correctedLine f line source d) := by
  simp [State.correctedLine]

@[simp] theorem markFailed_modes (s : State) (f line) : SameModes s (s.markFailed f line) := by
  obtain ⟨g, e, hg⟩ := loseTableLine_modes_opaque
  simp [State.markFailed, e, hg]

@[simp] theorem freezeFor_ok (s : State) (f line cause) (h : ModesOk s) : ModesOk (s.freezeFor f line cause) := by
  obtain ⟨g, e, hg⟩ : ∃ g, @State.markFailed = g ∧ ∀ s f line, SameModes s (g s f line) := ⟨_, rfl, markFailed_modes⟩
  simp [State.freezeFor, e, hg, h]

@[simp] theorem uncorrectableLine_ok (s : State) (f line source) (h : ModesOk s) :
    ModesOk (s.uncorrectableLine f line source) := by
  unfold State.uncorrectableLine
  dsimp only
  (repeat' split) <;> simp -implicitDefEqProofs [h]

@[simp] theorem addressError_ok (s : State) (f line source) (h : ModesOk s) : ModesOk (s.addressError f line source) := by
  unfold State.addressError
  dsimp only
  (repeat' split) <;> simp -implicitDefEqProofs [h]

@[simp] theorem decoded_ok (s : State) (f line source) (again : State → State) (d) (h : ModesOk (again s)) (hs : ModesOk s) :
    ModesOk (s.decoded f line source again d) := by
  cases d <;> simp [State.decoded, h, hs]
  split <;> simp [h, hs]

@[simp] theorem execDramReadDecode_ok (frame line source first second) (s : State) (h : ModesOk s) :
    OkIfNext (execDramReadDecode frame line source first second s) := by
  have hcount : ModesOk (s.count 0xF031 (s.channelOf frame.toNat) 1) := by simp [h]
  have hline := uncorrectableLine_ok _ frame.toNat line source hcount
  unfold execDramReadDecode
  dsimp only
  split
  · simp
  · split
    · simp [h]
    · exact (okIfNext_next _).2 (decoded_ok _ _ _ _ _ _ (decoded_ok _ _ _ _ _ _ hline hcount) hcount)

@[simp] theorem execDramAlert_ok (c) (s : State) (held) (h : ModesOk s) : OkIfNext (execDramAlert c s held) := by
  unfold execDramAlert
  dsimp only
  (repeat' split) <;> simp [h]

@[simp] theorem execRefreshDue_ok (c bank) (s : State) (h : ModesOk s) : OkIfNext (execRefreshDue c bank s) := by
  simp [execRefreshDue, h]

@[simp] theorem execRefreshDeadlineMiss_ok (c _bank) (s : State) (h : ModesOk s) :
    OkIfNext (execRefreshDeadlineMiss c _bank s) := by simp -implicitDefEqProofs [execRefreshDeadlineMiss, h]

@[simp] theorem execMr4Poll_ok (c rank mr4) (s : State) (h : ModesOk s) : OkIfNext (execMr4Poll c rank mr4 s) := by
  simp [execMr4Poll, h]

@[simp] theorem checkFallback_modes (s : State) (c sub) : SameModes s (s.checkFallback c sub) := by
  simp [State.checkFallback]

@[simp] theorem activateRow_modes (s : State) (c sub rank bank row) : SameModes s (s.activateRow c sub rank bank row) := by
  simp [State.activateRow]

@[simp] theorem refreshAround_modes (s : State) (c sub rank bank row) : SameModes s (s.refreshAround c sub rank bank row) := by
  simp [State.refreshAround]

@[simp] theorem refreshRows_modes (c sub rank bank n rows) (s : State) :
    SameModes s (State.refreshRows c sub rank bank n rows s) := by
  induction n generalizing rows s with
  | zero => exact ⟨rfl, rfl⟩
  | succ n ih =>
    cases rows with
    | nil => exact ⟨rfl, rfl⟩
    | cons r rs =>
      unfold State.refreshRows
      split
      · exact (refreshAround_modes ..).trans (ih ..)
      · exact SameModes.trans (by simp) (ih ..)

@[simp] theorem neighbours_modes (s : State) (c sub rank bank row) : SameModes s (s.neighbours c sub rank bank row) := by
  simp [State.neighbours]

@[simp] theorem execPanicPacket_ok (p raised) (s : State) (h : ModesOk s) : OkIfNext (execPanicPacket p raised s) := by
  have hrow (t : State) (e : Nat × Chan) : SameModes t (e.2.tallies.foldl (fun t y =>
      (y.2.entries.filter (fun r => y.2.threshold ≤ r.count)).foldl (fun t r => t.neighbours e.1 y.1 r.rank r.bank r.row) t) t) :=
    foldl_modes _ (fun t y => foldl_modes _ (fun t r => neighbours_modes t ..) _ t) _ t
  unfold execPanicPacket
  extract_lets bit panic issue chans _ t
  split
  · simpa [t] using h
  · exact (okIfNext_next _).2 ((foldl_modes _ hrow _ t).ok h)

@[simp] theorem execActivateTallyUpdate_ok (c subch rank bank row) (s : State) (h : ModesOk s) :
    OkIfNext (execActivateTallyUpdate c subch rank bank row s) := by
  simp [execActivateTallyUpdate, h]

@[simp] theorem execTallyWindowEnd_ok (c subch) (s : State) (h : ModesOk s) : OkIfNext (execTallyWindowEnd c subch s) := by
  simp [execTallyWindowEnd, h]

@[simp] theorem execClosePageTimeout_ok (c bank) (s : State) (h : ModesOk s) : OkIfNext (execClosePageTimeout c bank s) := by
  simp [execClosePageTimeout, h]

@[simp] theorem execZqCalibrationDue_ok (c) (s : State) (h : ModesOk s) : OkIfNext (execZqCalibrationDue c s) := by
  simp [execZqCalibrationDue, h]

@[simp] theorem execDqsOscillatorRead_ok (c rank drift) (s : State) (h : ModesOk s) :
    OkIfNext (execDqsOscillatorRead c rank drift s) := by
  simp [execDqsOscillatorRead, h]

@[simp] theorem scrubCorrected_modes (s : State) (c rank) : SameModes s (s.scrubCorrected c rank) := by
  simp [State.scrubCorrected]

@[simp] theorem scrubPassEnds_modes (s : State) (c ecs) : SameModes s (s.scrubPassEnds c ecs) := by
  simp [State.scrubPassEnds]

@[simp] theorem execPatrolScrubRead_ok (c result) (s : State) (ecs) (h : ModesOk s) :
    OkIfNext (execPatrolScrubRead c result s ecs) := by
  refine await_ok _ _ _ _ ?_ h
  dsimp only
  (repeat' split) <;> simp [h]

@[simp] theorem execFreezeChannel_ok (q c) (s : State) (h : ModesOk s) : OkIfNext (execFreezeChannel q c s) := by
  refine runCmd_ok _ _ _ _ _ _ (fun t ht => ?_) h
  (repeat' split) <;> simp [ht]

@[simp] theorem execDramReturnChannel_ok (q c) (s : State) (h : ModesOk s) : OkIfNext (execDramReturnChannel q c s) := by
  simp [execDramReturnChannel, h]

@[simp] theorem execForceFullTraining_ok (q) (s : State) (h : ModesOk s) : OkIfNext (execForceFullTraining q s) := by
  simp [execForceFullTraining, h]

@[simp] theorem loseChanged_modes (s : State) (c) : SameModes s (s.loseChanged c) := by simp [State.loseChanged]

@[simp] theorem moveAux_modes (s : State) (n) : SameModes s (s.moveAux n) := by
  unfold State.moveAux
  split <;> simp

@[simp] theorem moveTablePage_modes (s : State) (i) : SameModes s (s.moveTablePage i) := by
  unfold State.moveTablePage
  split <;> simp

@[simp] theorem moveNodes_modes (s : State) (c) : SameModes s (s.moveNodes c) := by
  unfold State.moveNodes
  have hroot : ∀ (u : State) (e : Nat × Carriage), SameModes u (match u.takeNode 1 with
      | some n => u.setCarriage e.1 { u.carriage e.1 with root := n }
      | none => u) := fun u e => by split <;> simp
  refine SameModes.trans ?_ (foldl_modes _ (fun u n => moveAux_modes u n) _ _)
  refine SameModes.trans ?_ (foldl_modes _ (fun u (e : Nat × Interior) => moveNode_modes u e.1) _ _)
  refine SameModes.trans ?_ (foldl_modes _ hroot _ _)
  exact foldl_modes _ (fun u i => moveTablePage_modes u i) _ _

@[simp] theorem poisonChannel_modes (s : State) (c) : SameModes s (s.poisonChannel c) := by simp [State.poisonChannel]

@[simp] theorem execSalvageInitComplete_ok (c) (s : State) (h : ModesOk s) : OkIfNext (execSalvageInitComplete c s) := by
  obtain ⟨g, e⟩ : ∃ g, @State.framesPerChannel = g := ⟨_, rfl⟩
  unfold execSalvageInitComplete
  rw [e]
  dsimp only
  (repeat' split) <;> simp [h]

@[simp] theorem execSalvageInitTimeout_ok (c) (s : State) (h : ModesOk s) : OkIfNext (execSalvageInitTimeout c s) := by
  unfold execSalvageInitTimeout
  dsimp only
  (repeat' split) <;> simp [h]

theorem takeFrameForMove_modes {s t : State} {f : Nat} (h : s.takeFrameForMove = some (f, t)) : SameModes s t := by
  unfold State.takeFrameForMove at h
  split at h
  next e => cases h; exact takeFrame_modes e
  next =>
    split at h
    · simpa using takeFrame_modes h
    · cases h

@[simp] theorem moveResidue_modes (failed) (s : State) (key) : SameModes s (State.moveResidue failed s key) := by
  unfold State.moveResidue
  dsimp only
  split
  next h => simp [takeFrameForMove_modes h]
  next => simp

@[simp] theorem moveSnap_modes (failed c) (s : State) (e) : SameModes s (State.moveSnap failed c s e) := by
  refine foldl_modes _ (fun s r => ?_) _ _
  split
  · split
    · split
      next h => exact (takeFrameForMove_modes h).trans (by simp)
      next => simp
    · simp
  all_goals simp

@[simp] theorem moveTables_modes (s : State) (c failed) : SameModes s (s.moveTables c failed) := by
  obtain ⟨g, e, hg⟩ := loseTableLine_modes_opaque
  simp [State.moveTables, e, hg]

@[simp] theorem sweepChannel_modes (s : State) (c) : SameModes s (s.sweepChannel c) := by simp [State.sweepChannel]

@[simp] theorem execThawPassComplete_ok (c failedLines) (s : State) (h : ModesOk s) :
    OkIfNext (execThawPassComplete c failedLines s) := by
  obtain ⟨g, e⟩ : ∃ g, @State.framesPerChannel = g := ⟨_, rfl⟩
  simp [execThawPassComplete, e, h]

/-! ### Machine/Logbook -/

@[simp] theorem checkSeqMark_ok (s : State) (h : ModesOk s) :
    ModesOk s.checkSeqMark := by simp -implicitDefEqProofs [State.checkSeqMark, h]

@[simp] theorem skipSeq_ok (s : State) (h : ModesOk s) : ModesOk s.skipSeq := by simp -implicitDefEqProofs [State.skipSeq, h]

@[simp] theorem setCxlLogs_modes (s : State) (ld c) : SameModes s (s.setCxlLogs ld c) := ⟨rfl, rfl⟩

@[simp] theorem setMail_modes (s : State) (ld m) : SameModes s (s.setMail ld m) := ⟨rfl, rfl⟩

@[simp] theorem deliverTo_modes (s : State) (r ld) : SameModes s (s.deliverTo r ld) := by simp [State.deliverTo]

@[simp] theorem deliver_modes (s : State) (o r) : SameModes s (s.deliver o r) := by simp [State.deliver]

@[simp] theorem dropRecord_modes (s : State) (code) : SameModes s (s.dropRecord code) := by simp [State.dropRecord]

@[simp] theorem recordRing_ok (s : State) (o) (h : ModesOk s) : ModesOk (s.recordRing o) := by
  unfold State.recordRing
  dsimp only
  (repeat' split) <;> simp -implicitDefEqProofs [h]

@[simp] theorem recordMain_ok (s : State) (o) (h : ModesOk s) : ModesOk (s.recordMain o) := by
  unfold State.recordMain
  dsimp only
  (repeat' split) <;> simp -implicitDefEqProofs [h]

@[simp] theorem recordOccurrence_ok (s : State) (o) (h : ModesOk s) : ModesOk (s.recordOccurrence o) := by
  unfold State.recordOccurrence
  (repeat' split) <;> simp [h]

@[simp] theorem execLogbookRecord_ok (s : State) (h : ModesOk s) : OkIfNext (execLogbookRecord s) := by
  refine await_ok _ _ _ _ ?_ h
  dsimp only
  (repeat' split) <;> simp [h]

@[simp] theorem reclaimSummary_modes (s : State) : SameModes s s.reclaimSummary := by
  unfold State.reclaimSummary
  dsimp only
  (repeat' split) <;> simp

@[simp] theorem mirrorRec_modes (s : State) (r) : SameModes s (s.mirrorRec r) := by simp [State.mirrorRec]

@[simp] theorem execLogbookMirror_ok (s : State) (h : ModesOk s) :
    OkIfNext (execLogbookMirror s) := by simp [execLogbookMirror, h]

@[simp] theorem clearFatalAct_modes (seq) (s : State) : SameModes s (clearFatalAct seq s).1 := by simp [clearFatalAct]

@[simp] theorem execClearFatal_ok (q seq) (s : State) (h : ModesOk s) : OkIfNext (execClearFatal q seq s) := by
  simp [execClearFatal, h]

@[simp] theorem passRecord_modes (s : State) (x) : SameModes s (s.passRecord x) := by simp [State.passRecord]

@[simp] theorem passRing_modes (s : State) : SameModes s s.passRing := by simp [State.passRing]

@[simp] theorem rebuildLog_modes (s : State) (vault) : SameModes s (s.rebuildLog vault) := by simp [State.rebuildLog]

/-! ### Machine/Receive -/

@[simp] theorem drawTicket_modes (s : State) (ld dpa isWrite) : SameModes s (s.drawTicket ld dpa isWrite) := by
  simp [State.drawTicket]

@[simp] theorem cacheFaultAt_modes (s : State) (ld dpa) : SameModes s (s.cacheFaultAt ld dpa) := by
  unfold State.cacheFaultAt
  split <;> simp

@[simp] theorem readUnder_modes (s : State) (ld dpa x) : SameModes s (s.readUnder ld dpa x) := by
  unfold State.readUnder
  split <;> simp

@[simp] theorem writeUnder_modes (s : State) (ld dpa d x) : SameModes s (s.writeUnder ld dpa d x) := by
  unfold State.writeUnder
  split <;> simp

@[simp] theorem serveMessage_modes (s : State) (m) : SameModes s (s.serveMessage m) := by
  unfold State.serveMessage
  split <;> simp

@[simp] theorem receive_modes (s : State) (m) : SameModes s (s.receive m) := by simp [State.receive]

@[simp] theorem verifyNext_modes (p n) (s : State) : SameModes s (State.verifyNext p n s) := by
  induction n generalizing s with
  | zero => exact ⟨rfl, rfl⟩
  | succ n ih =>
    unfold State.verifyNext
    split
    · exact ⟨rfl, rfl⟩
    · simp [ih]

@[simp] theorem verify_modes (s : State) (p) : SameModes s (s.verify p) := by simp [State.verify]

@[simp] theorem verified_ok (s : State) (h : ModesOk s) : ModesOk s.verified := by
  unfold State.verified
  (repeat' split) <;> simp [h]

/-! ### Machine/Save -/

@[simp] theorem placePage_modes (s : State) (key f im) : SameModes s (s.placePage key f im) := by
  simp [State.placePage]

@[simp] theorem leaveVault_modes (s : State) (key) : SameModes s (s.leaveVault key) := by simp [State.leaveVault]

@[simp] theorem fetchInto_modes (s : State) (key f) : SameModes s (s.fetchInto key f) := by simp [State.fetchInto]

@[simp] theorem sealFails_modes (s : State) (key) : SameModes s (s.sealFails key) := by simp [State.sealFails]

@[simp] theorem fetchChecked_modes (s : State) (key f) : SameModes s (s.fetchChecked key f) := by
  simp [State.fetchChecked]

@[simp] theorem arrivedPoisoned_modes (s : State) (key line) : SameModes s (s.arrivedPoisoned key line) := by
  simp [State.arrivedPoisoned]

@[simp] theorem moveEnds_ok (s : State) (key o) (arrive : State → State) (h : ∀ t, ModesOk t → ModesOk (arrive t))
    (hs : ModesOk s) :
    ModesOk (s.moveEnds key o arrive) := by
  have harr := h s hs
  unfold State.moveEnds
  cases o with
  | pipes ps =>
    have hps : ModesOk (s.pipeFaults ps).1 := (pipeFaults_modes s ps).ok hs
    refine reportSince_ok _ _ ?_
    dsimp only
    split
    · exact (fetchFails_modes ..).ok hps
    · exact h _ hps
  | mismatchTwice => dsimp only; split <;> simp [hs, harr]
  | ok | unreadable | okAfterRepeat | staging | transport => simp [hs, harr]

@[simp] theorem moveIn_ok (s : State) (o key f) (h : ModesOk s) : ModesOk (s.moveIn o key f) := by
  unfold State.moveIn
  split
  · simp [h]
  · exact moveEnds_ok _ _ _ _ (fun t ht => by simp [ht]) h

@[simp] theorem fetchDepotInto_modes (s : State) (i f) : SameModes s (s.fetchDepotInto i f) := by
  simp [State.fetchDepotInto]

@[simp] theorem fetchDepotChecked_modes (s : State) (i f) : SameModes s (s.fetchDepotChecked i f) := by
  simp [State.fetchDepotChecked]

@[simp] theorem depotFails_modes (s : State) (i code) : SameModes s (s.depotFails i code) := by
  simp [State.depotFails]

@[simp] theorem depotEnds_ok (s : State) (i o) (arrive : State → State) (h : ∀ t, ModesOk t → ModesOk (arrive t))
    (hs : ModesOk s) :
    ModesOk (s.depotEnds i o arrive) := by
  have harr := h s hs
  unfold State.depotEnds
  cases o with
  | pipes ps =>
    have hps : ModesOk (s.pipeFaults ps).1 := (pipeFaults_modes s ps).ok hs
    refine reportSince_ok _ _ ?_
    dsimp only
    split
    · exact (depotFails_modes ..).ok hps
    · exact h _ hps
  | transport => dsimp only; split <;> simp [harr]
  | ok | unreadable | okAfterRepeat | staging | mismatchTwice => simp [hs, harr]

@[simp] theorem depotMoveIn_ok (s : State) (o i f) (h : ModesOk s) : ModesOk (s.depotMoveIn o i f) := by
  unfold State.depotMoveIn
  split
  · simp [h]
  · exact depotEnds_ok _ _ _ _ (fun t ht => by simp [ht]) h

@[simp] theorem salvageDepot_modes (s : State) (i) : SameModes s (s.salvageDepot i) := by
  unfold State.salvageDepot
  dsimp only
  split
  · split
    next h => simp [takeFrameForMove_modes h]
    next => exact ⟨rfl, rfl⟩
  · exact ⟨rfl, rfl⟩

@[simp] theorem drainFetch_ok (faults) (s : State) (key) (h : ModesOk s) : ModesOk (State.drainFetch faults s key) := by
  unfold State.drainFetch
  dsimp only
  split
  · split
    next e => exact moveIn_ok _ _ _ _ ((takeFrameForMove_modes e).ok h)
    next => exact h
  · split
    · split
      next e => exact depotMoveIn_ok _ _ _ _ ((takeFrameForMove_modes e).ok h)
      next => exact h
    · split <;> simp [h]

@[simp] theorem drainWrite_ok (faults) (s : State) (w) (h : ModesOk s) : ModesOk (State.drainWrite faults s w) := by
  have hf := drainFetch_ok faults s (leafKey w.cid w.page) h
  unfold State.drainWrite
  dsimp only
  (repeat' split) <;> simp [hf]

@[simp] theorem drain_ok (faults) (s : State) (h : ModesOk s) : ModesOk (State.drain faults s) := by
  have hws : ∀ (ws : List Waiter) (t : State), ModesOk t → ModesOk (ws.foldl (State.drainWrite faults) t) :=
    fun ws t ht => foldl_ok _ (fun u w => drainWrite_ok faults u w) ws t ht
  simp [State.drain, h, hws]

@[simp] theorem salvageChannel_modes (s : State) (c) : SameModes s (s.salvageChannel c) := by
  obtain ⟨g, e, hg⟩ := loseTableLine_modes_opaque
  unfold State.salvageChannel
  rw [e]
  dsimp only
  (repeat' split) <;> simp [hg]

@[simp] theorem setRun_modes (s : State) (r) : SameModes s (s.setRun r) := ⟨rfl, rfl⟩

@[simp] theorem saveStep_ok (s : State) (n) (f : SaveRun → State → State) (h : ∀ r, ModesOk (f r s)) (hs : ModesOk s) :
    OkIfNext (s.saveStep n f) := by
  unfold State.saveStep
  split
  · split
    · simpa using h _
    · simp [hs]
  · simp [hs]

@[simp] theorem execSaveDrainComplete_ok (s : State) (faults) (h : ModesOk s) : OkIfNext (execSaveDrainComplete s faults) := by
  refine saveStep_ok _ _ _ (fun r => ?_) h
  dsimp only
  (repeat' split) <;> simp [h]

@[simp] theorem execSaveHeaderProgrammed_ok (s : State) (h : ModesOk s) : OkIfNext (execSaveHeaderProgrammed s) := by
  simp [execSaveHeaderProgrammed, h]

@[simp] theorem carryTables_modes (s : State) (r records objects) : SameModes s (s.carryTables r records objects) := by
  unfold State.carryTables
  (repeat' split) <;> simp

@[simp] theorem execSaveMetadataProgrammed_ok (s : State) (h : ModesOk s) : OkIfNext (execSaveMetadataProgrammed s) := by
  simp [execSaveMetadataProgrammed, h]

@[simp] theorem reportSalvage_modes (s : State) (seq) : SameModes s (s.reportSalvage seq) := by
  refine foldl_modes _ (fun s a => ?_) _ _
  dsimp only
  (repeat' split) <;> simp

@[simp] theorem execSaveStreamProgrammed_ok (s : State) (faults) (h : ModesOk s) :
    OkIfNext (execSaveStreamProgrammed s faults) := by
  refine saveStep_ok _ _ _ (fun r => reportSince_ok _ _ ?_) h
  simp [h]

@[simp] theorem execSaveLogProgrammed_ok (s : State) (h : ModesOk s) : OkIfNext (execSaveLogProgrammed s) := by
  simp [execSaveLogProgrammed, h]

@[simp] theorem vaultInvoke_modes (s : State) : SameModes s s.vaultInvoke := by simp [State.vaultInvoke]

@[simp] theorem reportVault_modes (s : State) (v duration) : SameModes s (s.reportVault v duration) := by
  simp [State.reportVault]

@[simp] theorem endSalvage_modes (s : State) (c) : SameModes s (s.endSalvage c) := by simp [State.endSalvage]

@[simp] theorem execSealComplete_ok (copy1 copy2 energy) (s : State) (h : ModesOk s) :
    OkIfNext (execSealComplete copy1 copy2 energy s) := by
  refine saveStep_ok _ _ _ (fun r => ?_) h
  obtain ⟨t, e, ht⟩ : ∃ t, s.vaultInvoke = t ∧ ModesOk t := ⟨_, rfl, (vaultInvoke_modes s).ok h⟩
  rw [e]
  dsimp only
  split <;> simp [ht]

@[simp] theorem applyReset_ok (s : State) (h : ModesOk s) : ModesOk s.applyReset := by
  unfold State.applyReset
  dsimp only
  (repeat' split) <;> simp -implicitDefEqProofs [h]

@[simp] theorem leaveSave_ok (s : State) (r) (h : ModesOk s) : ModesOk (s.leaveSave r) := by
  unfold State.leaveSave
  (repeat' split) <;> simp [h]

@[simp] theorem execVaultRecordComplete_ok (s : State) (h : ModesOk s) : OkIfNext (execVaultRecordComplete s) := by
  refine saveStep_ok _ _ _ (fun r => leaveSave_ok _ r ?_) h
  split <;> simp [h]

/-! ### Machine/Restore -/

@[simp] theorem openPort_modes (s : State) (p) : SameModes s (s.openPort p) := by simp [State.openPort]

@[simp] theorem openMem_modes (s : State) : SameModes s s.openMem := by simp [State.openMem]

@[simp] theorem firstPlan_modes (s : State) : SameModes s s.firstPlan := by simp [State.firstPlan]

@[simp] theorem enterService_ok (s : State) (cause) (h : ModesOk s) :
    ModesOk (s.enterService cause) := by simp [State.enterService, h]

@[simp] theorem readSeals_modes (s : State) (copy1 copy2 header metaMark unreadable) :
    SameModes s (s.readSeals copy1 copy2 header metaMark unreadable) := by
  unfold State.readSeals
  split <;> simp

@[simp] theorem loadImage_modes (s : State) : SameModes s s.loadImage := ⟨rfl, rfl⟩

@[simp] theorem deriveKeys_modes (s : State) : SameModes s s.deriveKeys := by simp [State.deriveKeys]

@[simp] theorem discardDram_modes (s : State) : SameModes s s.discardDram := ⟨rfl, rfl⟩

@[simp] theorem initChannel_modes (s : State) (c) : SameModes s (s.initChannel c) := by
  unfold State.initChannel
  dsimp only
  (repeat' split) <;> simp

@[simp] theorem startRestore_ok (s : State) (v cls cause warm) (h : ModesOk s) :
    ModesOk (s.startRestore v cls cause warm) := by simp [State.startRestore, h]

@[simp] theorem mapVaultPage_modes (seq) (s : State) (e) : SameModes s (State.mapVaultPage seq s e) := by
  simp [State.mapVaultPage]

@[simp] theorem mapParentPage_modes (s : State) (e) : SameModes s (s.mapParentPage e) := by
  unfold State.mapParentPage
  (repeat' split) <;> simp

@[simp] theorem loseLeaf_modes (s : State) (key) : SameModes s (s.loseLeaf key) := by simp [State.loseLeaf]

@[simp] theorem loseNode_modes (s : State) (k) : SameModes s (s.loseNode k) := by simp [State.loseNode]

@[simp] theorem loadObjects_modes (s : State) (objects) : SameModes s (s.loadObjects objects) := by
  simp [State.loadObjects]

@[simp] theorem loadVault_modes (s : State) (v) : SameModes s (s.loadVault v) := by simp [State.loadVault]

@[simp] theorem normalise_modes (s : State) (e) : SameModes s (s.normalise e) := by
  unfold State.normalise
  split <;> simp

@[simp] theorem rollCarriages_modes (s : State) (v cls) : SameModes s (s.rollCarriages v cls) := by
  simp [State.rollCarriages]

@[simp] theorem admitEarly_modes (s : State) : SameModes s s.admitEarly := by simp [State.admitEarly]

@[simp] theorem finishRestore_ok (s : State) (h : ModesOk s) : ModesOk s.finishRestore := by simp [State.finishRestore, h]

@[simp] theorem reportOutcomes_modes (s : State) (cls) : SameModes s (s.reportOutcomes cls) := by
  simp [State.reportOutcomes]

@[simp] theorem endPhase_modes (s : State) (v) : SameModes s (s.endPhase v) := by simp [State.endPhase]

@[simp] theorem metaDone_modes (s : State) : SameModes s s.metaDone := ⟨rfl, rfl⟩

@[simp] theorem coldTables_modes (s : State) (v cls) : SameModes s (s.coldTables v cls) := by simp [State.coldTables]

@[simp] theorem keepOutcomes_modes (s : State) (old) : SameModes s (s.keepOutcomes old) := by
  simp [State.keepOutcomes]

@[simp] theorem coldPhase_modes (s : State) (v cls) : SameModes s (s.coldPhase v cls) := by simp [State.coldPhase]

@[simp] theorem warmPhase_ok (s : State) (v) (h : ModesOk s) : ModesOk (s.warmPhase v) := by
  unfold State.warmPhase
  dsimp only
  (repeat' split) <;> simp -implicitDefEqProofs [h]

@[simp] theorem execRestoreMetadataPhaseComplete_ok (s : State) (h : ModesOk s) :
    OkIfNext (execRestoreMetadataPhaseComplete s) := by
  refine await_ok _ _ _ _ ?_ h
  (repeat' split) <;> simp [h]

@[simp] theorem backgroundFetch_ok (faults) (s : State) (key) (h : ModesOk s) : ModesOk (State.backgroundFetch faults s key) := by
  unfold State.backgroundFetch
  dsimp only
  split
  · exact h
  · split
    · split
      next e => exact moveIn_ok _ _ _ _ ((takeFrameForMove_modes e).ok h)
      next => exact h
    · split
      · exact h
      · split
        next e => exact moveIn_ok _ _ _ _ ((takeFrame_modes e).ok h)
        next => exact h

@[simp] theorem fetchItems_ok (s : State) (faults todo) (h : ModesOk s) : ModesOk (s.fetchItems faults todo) := by
  have hitems := foldl_ok _ (fun t (i : FetchItem) ht => backgroundFetch_ok faults t i.key ht) todo s h
  simpa [State.fetchItems] using hitems

@[simp] theorem execRestoreComplete_ok (unreadable) (s : State) (faults) (h : ModesOk s) :
    OkIfNext (execRestoreComplete unreadable s faults) := by
  have hfails (t : State) (ks : List Nat) (ht : ModesOk t) : ModesOk (ks.foldl State.fetchFails t) :=
    foldl_ok _ (fun u k hu => (fetchFails_modes u k).ok hu) ks t ht
  refine await_ok _ _ _ _ ?_ h
  dsimp only
  split
  · have hitems (ks : List Nat) (fs : List ((Nat × Nat) × FetchOutcome)) (todo : List FetchItem) :=
      fetchItems_ok _ fs todo (hfails s ks h)
    refine (okIfNext_ite ..).2 ?_
    split
    · exact (okIfNext_next _).2 ((resume_modes _).ok (hitems _ _ _))
    · exact (okIfNext_next _).2 ((resume_modes _).ok ((finishRestore_ok _ (hitems _ _ _))))
  · simp [h]

@[simp] theorem execRestoreCheckpointDue_ok (step planPosition segment) (s : State) (h : ModesOk s) :
    OkIfNext (execRestoreCheckpointDue step planPosition segment s) := by
  refine await_ok _ _ _ _ ?_ h
  dsimp only
  (repeat' split) <;> simp [h]

@[simp] theorem releaseVault_modes (s : State) (v) : SameModes s (s.releaseVault v) := by simp [State.releaseVault]

@[simp] theorem releaseChain_modes (s : State) : SameModes s s.releaseChain := by
  unfold State.releaseChain
  split
  · have hvaults := foldl_modes State.releaseVault releaseVault_modes s.saves.vaults.reverse s
    exact hvaults.trans (by simp)
  · simp

@[simp] theorem releaseOlder_modes (s : State) : SameModes s s.releaseOlder := by
  unfold State.releaseOlder
  split <;> simp

@[simp] theorem retrainPorts_modes (s : State) : SameModes s s.retrainPorts := by simp [State.retrainPorts]

@[simp] theorem execSaveThenRestoreEntry_ok (s : State) (h : ModesOk s) : OkIfNext (execSaveThenRestoreEntry s) := by
  unfold execSaveThenRestoreEntry
  (repeat' split) <;> simp [h]

@[simp] theorem execPlanLoad_ok (q first ids) (s : State) (h : ModesOk s) : OkIfNext (execPlanLoad q first ids s) := by
  simp [execPlanLoad, h]

@[simp] theorem execClearOutcomes_ok (q) (s : State) (h : ModesOk s) : OkIfNext (execClearOutcomes q s) := by
  simp [execClearOutcomes, h]

/-! ### Machine/Boot -/

@[simp] theorem reach'_modes (s : State) (n) : SameModes s (s.reach' n) := ⟨rfl, rfl⟩

theorem bootStep_ok (s : State) (n) (f : State → State) (h : ModesOk (f s)) (hs : ModesOk s) : OkIfNext (s.bootStep n f) := by
  unfold State.bootStep
  split
  · exact (okIfNext_next _).2 h
  · simp [hs]

@[simp] theorem bootFailUpdate_modes (s : State) (step) : SameModes s (s.bootFailUpdate step) := by
  simp [State.bootFailUpdate]

@[simp] theorem bootFail_ok (s : State) (step cause) (h : ModesOk s) : ModesOk (s.bootFail step cause) := by
  unfold State.bootFail
  dsimp only
  (repeat' split) <;> simp -implicitDefEqProofs [h]

@[simp] theorem execBootStepTimeout_ok (step) (s : State) (h : ModesOk s) : OkIfNext (execBootStepTimeout step s) := by
  simp [execBootStepTimeout, h]

@[simp] theorem startAttempt_ok (s : State) (h : ModesOk s) : ModesOk s.startAttempt := by simp [State.startAttempt, h]

@[simp] theorem execBootRetryDelayExpiry_ok (s : State) (h : ModesOk s) : OkIfNext (execBootRetryDelayExpiry s) := by
  simp [execBootRetryDelayExpiry, h]

@[simp] theorem startSeq_ok (s : State) (h : ModesOk s) : ModesOk s.startSeq := by
  unfold State.startSeq
  (repeat' split) <;> simp [h]

@[simp] theorem execBootStart_ok (mainDieTemp) (s : State) (h : ModesOk s) : OkIfNext (execBootStart mainDieTemp s) := by
  refine bootStep_ok _ _ _ ?_ h
  have hstart : ModesOk ((s.applyAtBoot.activateAtBoot.startSeq.passRing).loadSeeds.clearTickets) := by simp [h]
  have htrain (t : State) (p : Nat) (up : Bool) (ht : ModesOk t) : ModesOk (if up then t.startTraining p else t) := by
    split <;> simp [ht]
  exact (reach'_modes _ 1).ok (htrain _ 1 _ (htrain _ 0 _ hstart))

@[simp] theorem startPorters_modes (s : State) : SameModes s s.startPorters := ⟨rfl, rfl⟩

@[simp] theorem execPortersLoaded_ok (hashUnitOk signaturesOk digestsOk) (s : State) (h : ModesOk s) :
    OkIfNext (execPortersLoaded hashUnitOk signaturesOk digestsOk s) := by
  refine bootStep_ok _ _ _ ?_ h
  dsimp only
  split <;> simp [h]

@[simp] theorem loseSlot_modes (s : State) (n) : SameModes s (s.loseSlot n) := by simp [State.loseSlot]

@[simp] theorem testPipes_modes (s : State) (pass) : SameModes s (s.testPipes pass) := by simp [State.testPipes]

@[simp] theorem advanceSlot_modes (s : State) (e) : SameModes s (s.advanceSlot e) := by simp [State.advanceSlot]

@[simp] theorem advanceCounters_modes (s : State) : SameModes s s.advanceCounters := by simp [State.advanceCounters]

@[simp] theorem checkVaultKey_modes (s : State) (check) : SameModes s (s.checkVaultKey check).1 := by
  unfold State.checkVaultKey
  dsimp only
  (repeat' split) <;> simp

@[simp] theorem execVaultKeyDerived_ok (check pipesPass badSlots) (s : State) (h : ModesOk s) :
    OkIfNext (execVaultKeyDerived check pipesPass badSlots s) := by
  refine bootStep_ok _ _ _ ?_ h
  dsimp only
  split
  next t e =>
    have ht := (modes_of_eq (checkVaultKey_modes s check) e).ok h
    simp [ht]
  next t e =>
    have ht := (modes_of_eq (checkVaultKey_modes s check) e).ok h
    have hslots := (foldl_modes State.loseSlot loseSlot_modes (badSlots.map (·.toNat)) t).ok ht
    have hpipes := (testPipes_modes _ pipesPass).ok hslots
    split
    · exact bootFail_ok _ _ _ hpipes
    · exact (reach'_modes _ 3).ok ((advanceCounters_modes _).ok hpipes)

@[simp] theorem fcFails_modes (s : State) (c) : SameModes s (s.fcFails c) := by simp [State.fcFails]

@[simp] theorem eraseChannel_modes (s : State) (c) : SameModes s (s.eraseChannel c) := by simp [State.eraseChannel]

@[simp] theorem bringUpFc_modes (rate bad failed) (s : State) (c) : SameModes s (State.bringUpFc rate bad failed s c) := by
  simp [State.bringUpFc]

@[simp] theorem divideMedia_modes (s : State) : SameModes s s.divideMedia := by simp [State.divideMedia]

@[simp] theorem markFactory_modes (s : State) (bad) : SameModes s (s.markFactory bad) := by simp [State.markFactory]

@[simp] theorem execFlashChannelsReady_ok (rate badDies failedTraining) (s : State) (factoryBad) (h : ModesOk s) :
    OkIfNext (execFlashChannelsReady rate badDies failedTraining s factoryBad) := by
  refine bootStep_ok _ _ _ ?_ h
  have hchans (r : Nat) (bad : List (Nat × Nat)) := (foldl_modes (State.bringUpFc r bad failedTraining)
    (bringUpFc_modes _ _ _) (List.range 64) s).ok h
  have hmedia (t : State) (r : Nat) (ht : ModesOk t) : ModesOk ((t.put OD.flashRate r).markFactory factoryBad).divideMedia :=
    (divideMedia_modes _).ok ((markFactory_modes _ factoryBad).ok ht)
  dsimp only
  split
  · exact bootFail_ok _ _ _ (hmedia _ _ (hchans _ _))
  · exact (reach'_modes _ 4).ok (hmedia _ _ (hchans _ _))

@[simp] theorem mcOffline_modes (s : State) (c code) : SameModes s (s.mcOffline c code) := by simp [State.mcOffline]

@[simp] theorem mcTrained_modes (s : State) (c full) : SameModes s (s.mcTrained c full) := by simp [State.mcTrained]

@[simp] theorem bringUpMc_modes (stored mismatched failed) (s : State) (c) :
    SameModes s (State.bringUpMc stored mismatched failed s c) := by
  simp [State.bringUpMc]

@[simp] theorem reportMc_modes (deviceRate drfm) (s : State) (c) : SameModes s (State.reportMc deviceRate drfm s c) := by
  obtain ⟨g, e⟩ : ∃ g, @State.framesPerChannel = g := ⟨_, rfl⟩
  simp [State.reportMc, e]

@[simp] theorem storeTraining_modes (s : State) (chans) : SameModes s (s.storeTraining chans) := by
  simp [State.storeTraining]

@[simp] theorem execDramChannelsTrained_ok (mismatched failed) (s : State) (deviceRate drfm) (h : ModesOk s) :
    OkIfNext (execDramChannelsTrained mismatched failed s deviceRate drfm) := by
  obtain ⟨g, hg⟩ : ∃ g, @State.framesPopulated = g := ⟨_, rfl⟩
  obtain ⟨g', hg'⟩ : ∃ g, @State.poolFrames = g := ⟨_, rfl⟩
  unfold execDramChannelsTrained
  rw [hg, hg']
  generalize List.range 16 = l
  refine bootStep_ok _ _ _ ?_ h
  extract_lets +onlyGivenNames stored _ s1 full s2 s3 s4 s5 s6
  have h1 : ModesOk s1 := h
  have h2 : ModesOk s2 :=
    foldl_ok (State.bringUpMc stored mismatched failed) (fun t c => (bringUpMc_modes stored mismatched failed t c).ok) l s1 h1
  clear_value s2
  have h3 : ModesOk s3 := (storeTraining_modes s2 _).ok h2
  clear_value s3
  have h4 : ModesOk s4 := foldl_ok (State.reportMc deviceRate drfm) (fun t c => (reportMc_modes deviceRate drfm t c).ok) l s3 h3
  clear_value s4
  have h6 : ModesOk s6 := by
    simp only [ModesOk, s6, s5, put_ctl, put_flush]
    exact h4
  clear_value s6
  split
  · exact bootFail_ok _ _ _ h6
  · exact h6

@[simp] theorem execSealRecordsRead_ok (copy1 copy2 header metaMark unreadable) (s : State) (h : ModesOk s) :
    OkIfNext (execSealRecordsRead copy1 copy2 header metaMark unreadable s) := by
  exact bootStep_ok _ _ _ ((reach'_modes _ 6).ok ((readSeals_modes s copy1 copy2 header metaMark unreadable).ok h)) h

@[simp] theorem countDirty_modes (s : State) : SameModes s s.countDirty := by simp [State.countDirty]

@[simp] theorem execBootComplete_ok (s : State) (h : ModesOk s) : OkIfNext (execBootComplete s) := by
  refine bootStep_ok _ _ _ ?_ h
  dsimp only
  (repeat' split) <;> simp [h]

@[simp] theorem beginRestart_modes (s : State) : SameModes s s.beginRestart := ⟨rfl, rfl⟩

@[simp] theorem checkpointNow_modes (s : State) : SameModes s s.checkpointNow := by simp [State.checkpointNow]

@[simp] theorem latch_ok (s : State) (watchdog) (h : ModesOk s) : ModesOk (s.latch watchdog) := by
  unfold State.latch
  dsimp only
  (repeat' split) <;> simp -implicitDefEqProofs [h]

@[simp] theorem resetNow_ok (s : State) (h : ModesOk s) : ModesOk s.resetNow := by
  unfold State.resetNow
  dsimp only
  (repeat' split) <;> simp -implicitDefEqProofs [h]

@[simp] theorem execResetNAssert_ok (s : State) (h : ModesOk s) : OkIfNext (execResetNAssert s) := by
  unfold execResetNAssert
  dsimp only
  (repeat' split) <;> simp [h]

@[simp] theorem execResetNRelease_ok (s : State) (h : ModesOk s) : OkIfNext (execResetNRelease s) := by
  unfold execResetNRelease
  dsimp only
  (repeat' split) <;> simp [h]

@[simp] theorem refuseMode_modes (s : State) (m) : SameModes s (refuseMode s m).1 := by simp [refuseMode]

@[simp] theorem modeAct_ok (src m) (s : State) (h : ModesOk s) : ModesOk (modeAct src m s).1 := by
  unfold modeAct
  (repeat' split) <;> simp [h]

@[simp] theorem execModeRequest_ok (q mode) (s : State) (h : ModesOk s) : OkIfNext (execModeRequest q mode s) := by
  refine runCmd_ok _ _ _ _ _ _ (fun t ht => ?_) h
  simp [ht]

@[simp] theorem watchdogRestart_ok (s : State) (h : ModesOk s) : ModesOk s.watchdogRestart := by
  unfold State.watchdogRestart
  (repeat' split) <;> simp [h]

@[simp] theorem execStationmasterWatchdogExpiry_ok (s : State) (h : ModesOk s) :
    OkIfNext (execStationmasterWatchdogExpiry s) := by
  unfold execStationmasterWatchdogExpiry
  dsimp only
  (repeat' split) <;> simp [h]

@[simp] theorem setPorter_modes (s : State) (n p) : SameModes s (s.setPorter n p) := ⟨rfl, rfl⟩

@[simp] theorem reloadPorter_modes (s : State) (n) : SameModes s (s.reloadPorter n) := ⟨rfl, rfl⟩

@[simp] theorem expirePorter_ok (s : State) (n) (h : ModesOk s) : ModesOk (s.expirePorter n) := by
  unfold State.expirePorter
  dsimp only
  (repeat' split) <;> simp -implicitDefEqProofs [h]

@[simp] theorem porterExpiry_ok (s : State) (n) (h : ModesOk s) : ModesOk (s.porterExpiry n) := by
  unfold State.porterExpiry
  dsimp only
  (repeat' split) <;> simp -implicitDefEqProofs [h]

@[simp] theorem eflashDone_ok (s : State) (h : ModesOk s) : ModesOk s.eflashDone := by
  have hporters (ns : List Nat) (t : State) (ht : ModesOk t) :
      ModesOk (ns.foldl (fun s n => if s.inMode [.off, .vault, .save] then s else s.expirePorter n) t) :=
    foldl_ok _ (fun u n hu => by
      split
      · exact hu
      · exact expirePorter_ok u n hu) ns t ht
  unfold State.eflashDone
  dsimp only
  refine hporters _ _ ?_
  (repeat' split) <;> simp [h]

@[simp] theorem execEflashOperationComplete_ok (s : State) (h : ModesOk s) : OkIfNext (execEflashOperationComplete s) := by
  simp [execEflashOperationComplete, h]

@[simp] theorem execPorterWatchdogExpiry_ok (pt) (s : State) (segment) (h : ModesOk s) :
    OkIfNext (execPorterWatchdogExpiry pt s segment) := by
  simp [execPorterWatchdogExpiry, h]

@[simp] theorem execPorterReloadComplete_ok (pt hashOk) (s : State) (h : ModesOk s) :
    OkIfNext (execPorterReloadComplete pt hashOk s) := by
  simp [execPorterReloadComplete, h]

@[simp] theorem execPorterMemoryError_ok (pt) (s : State) (h : ModesOk s) : OkIfNext (execPorterMemoryError pt s) := by
  simp [execPorterMemoryError, h]

@[simp] theorem execChipDecisionRequest_ok (region) (s : State) (h : ModesOk s) :
    OkIfNext (execChipDecisionRequest region s) := by
  simp [execChipDecisionRequest, h]

@[simp] theorem execSelfCheckFailure_ok (b) (s : State) (h : ModesOk s) : OkIfNext (execSelfCheckFailure b s) := by
  unfold execSelfCheckFailure
  (repeat' split) <;> simp [h]

/-! ### Machine/Residue -/

@[simp] theorem claimPage_modes (s : State) (e) : SameModes s (s.claimPage e) := by simp [State.claimPage]

@[simp] theorem setAside_modes (s : State) (e) : SameModes s (s.setAside e) := by simp [State.setAside]

@[simp] theorem dropEntry_modes (s : State) (e) : SameModes s (s.dropEntry e) := ⟨rfl, rfl⟩

@[simp] theorem tryEntry_modes (s : State) (e) : SameModes s (s.tryEntry e) := by simp [State.tryEntry]

@[simp] theorem checkAge_modes (s : State) : SameModes s s.checkAge := by
  unfold State.checkAge
  split <;> simp

@[simp] theorem takeEntry_ok (s : State) (e pairings) (h : ModesOk s) : ModesOk (s.takeEntry e pairings) := by
  unfold State.takeEntry
  dsimp only
  (repeat' split) <;> simp -implicitDefEqProofs [h]

@[simp] theorem execFlushClaim_ok (s : State) (pairings) (h : ModesOk s) : OkIfNext (execFlushClaim s pairings) := by
  refine mapCommand_ok _ _ _ ?_ h
  dsimp only
  (repeat' split) <;> simp [h]

@[simp] theorem execFlushSetAsideRetry_ok (s : State) (h : ModesOk s) : OkIfNext (execFlushSetAsideRetry s) := by
  refine mapCommand_ok _ _ _ ?_ h
  (repeat' split) <;> simp [h]

@[simp] theorem confirmClaim_modes (s : State) (c) : SameModes s (s.confirmClaim c) := by simp [State.confirmClaim]

@[simp] theorem execFlushConfirm_ok (id page) (s : State) (h : ModesOk s) : OkIfNext (execFlushConfirm id page s) := by
  unfold execFlushConfirm
  dsimp only
  split
  · simp [h]
  · refine mapCommand_ok _ _ _ ?_ h
    split <;> simp [h]

@[simp] theorem execMetadataCheckpointStart_ok (s : State) (h : ModesOk s) : OkIfNext (execMetadataCheckpointStart s) := by
  simp [execMetadataCheckpointStart, h]

@[simp] theorem endHold_modes (s : State) : SameModes s s.endHold := by simp [State.endHold]

@[simp] theorem execMetadataCheckpointComplete_ok (s : State) (h : ModesOk s) : OkIfNext (execMetadataCheckpointComplete s) := by
  refine await_ok _ _ _ _ ?_ h
  dsimp only
  (repeat' split) <;> simp [h]

@[simp] theorem execPlannerCompute_ok (s : State) (h : ModesOk s) :
    OkIfNext (execPlannerCompute s) := by simp [execPlannerCompute, h]

@[simp] theorem setWear_modes (s : State) (k) : SameModes s (s.setWear k) := ⟨rfl, rfl⟩

@[simp] theorem wearFollows_modes (s : State) (v24) : SameModes s (s.wearFollows v24) := by simp [State.wearFollows]

@[simp] theorem execWearIntervalBoundary_ok (s : State) (h : ModesOk s) : OkIfNext (execWearIntervalBoundary s) := by
  simp [execWearIntervalBoundary, h]

theorem startDrill_ok (s : State) (hm : s.ctl.mode = .service) (h : ModesOk s) : ModesOk s.startDrill := by
  have hd : ModesOk s → Agree s.ctl.mode s.ctl.unlocked s.ctl.armed true := fun h => by simpa [Agree, hm] using h
  unfold State.startDrill
  dsimp only
  split <;> simp [hd h]

theorem tryDrill_ok (s : State) (hm : s.ctl.mode = .service) (h : ModesOk s) : ModesOk s.tryDrill := by
  unfold State.tryDrill
  split
  · exact startDrill_ok s hm h
  · simp -implicitDefEqProofs [h]

@[simp] theorem execDrillStart_ok (q) (s : State) (h : ModesOk s) : OkIfNext (execDrillStart q s) := by
  refine runCmd_ok _ _ _ _ _ _ (fun t ht => ?_) h
  split
  · simp [ht]
  · have hm : t.ctl.mode = .service := by simp_all
    exact tryDrill_ok t hm ht

@[simp] theorem execDrillDue_ok (s : State) (h : ModesOk s) : OkIfNext (execDrillDue s) := by
  refine await_ok _ _ _ _ ?_ h
  dsimp only
  split
  · simp [h]
  · have hm : s.ctl.mode = .service := by simp_all
    exact (okIfNext_next _).2 (tryDrill_ok s hm h)

@[simp] theorem execDrillStreamComplete_ok (rate) (s : State) (h : ModesOk s) : OkIfNext (execDrillStreamComplete rate s) := by
  refine await_ok _ _ _ _ ?_ h
  dsimp only
  split
  next d hd =>
    have hrun : Agree s.ctl.mode s.ctl.unlocked s.ctl.armed true := by simpa [hd] using h
    split
    · exact (okIfNext_next _).2 hrun
    · simp [h]
  next => simp [h]

@[simp] theorem acceptDrill_modes (s : State) (d fixed power dieRate) : SameModes s (s.acceptDrill d fixed power dieRate) := by
  simp [State.acceptDrill]

@[simp] theorem execDrillSealComplete_ok (sealTime power dieRate) (s : State) (h : ModesOk s) :
    OkIfNext (execDrillSealComplete sealTime power dieRate s) := by
  have hidle : Agree s.ctl.mode s.ctl.unlocked s.ctl.armed false := by
    obtain ⟨hunlock, harm, -⟩ := h
    exact ⟨hunlock, harm, by simp⟩
  refine await_ok _ _ _ _ ?_ h
  dsimp only
  (repeat' split) <;> simp -implicitDefEqProofs [h, hidle]

@[simp] theorem execDrillBoundTimeout_ok (s : State) (h : ModesOk s) : OkIfNext (execDrillBoundTimeout s) := by
  simp [execDrillBoundTimeout, h]

@[simp] theorem execDrillOverdue_ok (s : State) (h : ModesOk s) : OkIfNext (execDrillOverdue s) := by simp [execDrillOverdue, h]

/-! ### Machine/Carriages -/

@[simp] theorem carriageCmd_ok (c q key p) (act : Act) (s : State) (h : ∀ t, ModesOk t → ModesOk (act t).1) (hs : ModesOk s) :
    OkIfNext (carriageCmd c q key p act s) := by
  unfold carriageCmd
  refine runCmd_ok c q key p _ s (fun t ht => ?_) hs
  split
  · simp [ht]
  · exact h t ht

@[simp] theorem refuseC_modes (s : State) (n) : SameModes s (refuseC s n).1 := ⟨rfl, rfl⟩

@[simp] theorem refuseUnlisted_modes (s : State) (n) : SameModes s (refuseUnlisted s n).1 := ⟨rfl, rfl⟩

@[simp] theorem okC_modes (s : State) : SameModes s (okC s).1 := ⟨rfl, rfl⟩

@[simp] theorem execCarriageAdvance_ok (q) (s : State) (h : ModesOk s) : OkIfNext (execCarriageAdvance q s) := by
  refine runCmd_ok _ _ _ _ _ _ (fun t ht => ?_) h
  dsimp only
  (repeat' split) <;> simp [ht]

@[simp] theorem reserveExtents_modes (s : State) (cid g n) : SameModes s (s.reserveExtents cid g n) := by
  induction n generalizing s g with
  | zero => exact ⟨rfl, rfl⟩
  | succ n ih =>
    rw [State.reserveExtents]
    refine SameModes.trans ?_ (ih _ _)
    split
    · split <;> simp
    · exact ⟨rfl, rfl⟩

@[simp] theorem takeKeygen_modes (s : State) : SameModes s s.takeKeygen.2 := by
  unfold State.takeKeygen
  dsimp only
  split <;> simp

@[simp] theorem deriveKey_modes (s : State) (cid g) : SameModes s (s.deriveKey cid g) := ⟨rfl, rfl⟩

@[simp] theorem writeNew_modes (s : State) (cid root flags size label) : SameModes s (s.writeNew cid root flags size label) := by
  simp [State.writeNew]

@[simp] theorem createAct_modes (id flags size label) (s : State) : SameModes s (createAct id flags size label s).1 := by
  unfold createAct
  (repeat' split) <;> simp

@[simp] theorem execCarriageCreate_ok (q id flags size label) (s : State) (h : ModesOk s) :
    OkIfNext (execCarriageCreate q id flags size label s) := by
  simp [execCarriageCreate, h]

@[simp] theorem beginDelete_modes (s : State) (cid) : SameModes s (s.beginDelete cid) := by simp [State.beginDelete]

@[simp] theorem execCarriageDelete_ok (q id) (s : State) (h : ModesOk s) : OkIfNext (execCarriageDelete q id s) := by
  refine runCmd_ok _ _ _ _ _ _ (fun t ht => ?_) h
  dsimp only
  (repeat' split) <;> simp [ht]

@[simp] theorem freeInterior_modes (s : State) (cid test) : SameModes s (s.freeInterior cid test) := by
  simp [State.freeInterior]

@[simp] theorem freeCarriage_modes (s : State) (cid) : SameModes s (s.freeCarriage cid) := by
  simp [State.freeCarriage]

@[simp] theorem execCarriageReleaseComplete_ok (id) (s : State) (h : ModesOk s) :
    OkIfNext (execCarriageReleaseComplete id s) := by
  simp [execCarriageReleaseComplete, h]

@[simp] theorem finishResize_modes (s : State) (cid size) : SameModes s (s.finishResize cid size) := by
  simp [State.finishResize]

@[simp] theorem resizeAct_modes (cid size) (s : State) : SameModes s (resizeAct cid size s).1 := by
  unfold resizeAct
  split <;> simp

@[simp] theorem execCarriageResize_ok (q id size) (s : State) (h : ModesOk s) : OkIfNext (execCarriageResize q id size s) := by
  simp [execCarriageResize, h]

@[simp] theorem releaseBeyond_modes (s : State) (cid size) : SameModes s (s.releaseBeyond cid size) := by
  simp [State.releaseBeyond]

@[simp] theorem execResizeReleaseComplete_ok (s : State) (h : ModesOk s) : OkIfNext (execResizeReleaseComplete s) := by
  refine command_ok _ _ _ _ ?_ h
  dsimp only
  (repeat' split) <;> simp [h]

@[simp] theorem execSetSeal_ok (q id on) (s : State) (h : ModesOk s) : OkIfNext (execSetSeal q id on s) := by
  refine runCmd_ok _ _ _ _ _ _ (fun t ht => ?_) h
  dsimp only
  (repeat' split) <;> simp [ht]

@[simp] theorem execSetLabel_ok (q id label) (s : State) (h : ModesOk s) : OkIfNext (execSetLabel q id label s) := by
  simp [execSetLabel, h]

@[simp] theorem clearRange_modes (s : State) (cid k) : SameModes s (s.clearRange cid k) := by simp [State.clearRange]

@[simp] theorem recordPoisoned_modes (s : State) (key) : SameModes s (s.recordPoisoned key) := by
  simp [State.recordPoisoned]

@[simp] theorem refillPage_modes (s : State) (key line d) : SameModes s (s.refillPage key line d).1 := by
  unfold State.refillPage
  dsimp only
  split
  · exact ⟨rfl, rfl⟩
  · split
    next e =>
      have ht := modes_of_eq (growPath_modes s _ _) e
      split
      next => exact ht
      next h => simp [takeFrame_modes h, ht]
    next e => exact modes_of_eq (growPath_modes s _ _) e

@[simp] theorem clearPoison_modes (s : State) (key line d) : SameModes s (s.clearPoison key line d).1 := by
  unfold State.clearPoison
  split <;> simp

@[simp] theorem execClearPagePoison_ok (q id page) (s : State) (h : ModesOk s) : OkIfNext (execClearPagePoison q id page s) := by
  refine carriageCmd_ok _ _ _ _ _ _ (fun t ht => ?_) h
  dsimp only
  split
  · simp [ht]
  · split
    · simp [ht]
    · split
      · simp [ht]
      · split
        next e => simp [(modes_of_eq (clearPoison_modes t _ _ _) e).ok ht]
        all_goals simp [ht]

@[simp] theorem pageArrives_modes (s : State) (key slow) : SameModes s (s.pageArrives key slow) := by
  unfold State.pageArrives
  dsimp only
  split
  next => simp
  next h => simp [takeFrame_modes h]

@[simp] theorem pageFetched_ok (s : State) (key o slow) (h : ModesOk s) :
    ModesOk (s.pageFetched key o slow) := by simp [State.pageFetched, h]

@[simp] theorem depotArrives_modes (s : State) (i slow) : SameModes s (s.depotArrives i slow) := by
  unfold State.depotArrives
  dsimp only
  split
  next => exact ⟨rfl, rfl⟩
  next h => simp [takeFrame_modes h]

@[simp] theorem depotFetched_ok (s : State) (i o slow) (h : ModesOk s) :
    ModesOk (s.depotFetched i o slow) := by simp [State.depotFetched, h]

@[simp] theorem execNonresidentFetchComplete_ok (name outcome slow) (s : State) (h : ModesOk s) :
    OkIfNext (execNonresidentFetchComplete name outcome slow s) := by
  unfold execNonresidentFetchComplete
  split <;> simp [h]

@[simp] theorem execFrameWaitTimeout_ok (ld dpa isWrite) (s : State) (h : ModesOk s) :
    OkIfNext (execFrameWaitTimeout ld dpa isWrite s) := by
  refine mapCommand_ok _ _ _ ?_ h
  dsimp only
  (repeat' split) <;> simp [h]

@[simp] theorem sweepAt_modes (s : State) (x) : SameModes s (s.sweepAt x) := by
  unfold State.sweepAt
  split <;> simp

@[simp] theorem sweepPass_modes (s : State) (items) : SameModes s (s.sweepPass items) := by
  induction items generalizing s with
  | nil => exact ⟨rfl, rfl⟩
  | cons x xs ih => simp [State.sweepPass, ih]

@[simp] theorem execEvictionSweep_ok (s : State) (h : ModesOk s) :
    OkIfNext (execEvictionSweep s) := by simp [execEvictionSweep, h]

@[simp] theorem coupleAct_modes (ld e) (s : State) : SameModes s (coupleAct ld e s).1 := by
  unfold coupleAct
  split <;> simp

@[simp] theorem uncoupleAct_modes (ld dpa x) (s : State) : SameModes s (uncoupleAct ld dpa x s).1 := by
  unfold uncoupleAct
  split <;> simp

@[simp] theorem queueCoupling_modes (i key) (act : Act) (s : State) (h : SameModes s (act s).1) :
    SameModes s (queueCoupling i key act s).1 := by
  unfold queueCoupling; split <;> simp [h]

@[simp] theorem execCouple_ok (q ld entry) (s : State) (h : ModesOk s) :
    OkIfNext (execCouple q ld entry s) := by simp [execCouple, h]

@[simp] theorem execUncouple_ok (q ld dpa) (s : State) (h : ModesOk s) : OkIfNext (execUncouple q ld dpa s) := by
  simp [execUncouple, h]

@[simp] theorem runCoupling_ok (s : State) (q key) (act : Act) (h : ∀ t, ModesOk t → ModesOk (act t).1) (hs : ModesOk s) :
    ModesOk (s.runCoupling q key act) := by
  unfold State.runCoupling
  split
  next e => exact (finishFor_modes ..).ok (ok_of_eq (h s hs) e)
  next e => exact ok_of_eq (h s hs) e

@[simp] theorem drainCouplings_ok (s : State) (n) (h : ModesOk s) : ModesOk (s.drainCouplings n) := by
  induction n generalizing s with
  | zero => exact h
  | succ n ih =>
    unfold State.drainCouplings
    split
    · exact h
    · split <;> simp [ih, h]

@[simp] theorem execUncoupleComplete_ok (s : State) (h : ModesOk s) : OkIfNext (execUncoupleComplete s) := by
  refine command_ok _ _ _ _ ?_ h
  dsimp only
  (repeat' split) <;> simp [h]

/-! ### Machine/Depot -/

@[simp] theorem tallyUp_modes (s : State) (k) : SameModes s (s.tallyUp k) := ⟨rfl, rfl⟩

@[simp] theorem checkEntries_modes (s : State) (slot fp) : SameModes s (s.checkEntries slot fp) := by
  simp [State.checkEntries]

@[simp] theorem pickEqual_modes (im is) (s : State) : SameModes s (State.pickEqual im is s).2 := by
  induction is generalizing s with
  | nil => exact ⟨rfl, rfl⟩
  | cons i is ih =>
    unfold State.pickEqual
    split
    · exact ⟨rfl, rfl⟩
    · simp [ih]

@[simp] theorem newDepotPage_modes (s : State) (i slot fp im) : SameModes s (s.newDepotPage i slot fp im) := by
  simp [State.newDepotPage]

@[simp] theorem mergeInto_modes (s : State) (key i) : SameModes s (s.mergeInto key i) := by simp [State.mergeInto]

@[simp] theorem zeroPage_modes (s : State) (key) : SameModes s (s.zeroPage key).1 := by
  unfold State.zeroPage
  split
  next => exact ⟨rfl, rfl⟩
  next h => simp [snapshotBefore_modes h]

@[simp] theorem mergePage_modes (s : State) (key slot im) : SameModes s (s.mergePage key slot im).1 := by
  unfold State.mergePage
  dsimp only
  have hp := pickEqual_modes im ((s.checkEntries slot (fingerprintTop (fingerprint (s.slot slot).root im))).candidates slot
    (fingerprintTop (fingerprint (s.slot slot).root im))) (s.checkEntries slot (fingerprintTop (fingerprint (s.slot slot).root im)))
  split
  next e => rw [e] at hp; simpa using hp
  next e =>
    rw [e] at hp
    split <;> simpa using hp

@[simp] theorem admitPage_modes (s : State) (key slot) : SameModes s (s.admitPage key slot).1 := by
  unfold State.admitPage
  split <;> simp

@[simp] theorem admitAll_modes (slot ks) (s : State) : SameModes s (State.admitAll slot ks s).1 := by
  induction ks generalizing s with
  | nil => exact ⟨rfl, rfl⟩
  | cons k ks ih =>
    unfold State.admitAll
    split <;> next e =>
      have ht := modes_of_eq (admitPage_modes s k slot) e
      simp [ih, ht]

@[simp] theorem zeroCounts_modes (s : State) : SameModes s s.zeroCounts := by simp [State.zeroCounts]

@[simp] theorem runAdmission_modes (s : State) (x) : SameModes s (s.runAdmission x) := by simp [State.runAdmission]

@[simp] theorem admitAct_modes (cid first count slot) (s : State) : SameModes s (admitAct cid first count slot s).1 := by
  unfold admitAct
  split <;> simp

@[simp] theorem execAdmission_ok (q id first count slot) (s : State) (h : ModesOk s) :
    OkIfNext (execAdmission q id first count slot s) := by
  simp [execAdmission, h]

@[simp] theorem execAdmissionComplete_ok (s : State) (h : ModesOk s) : OkIfNext (execAdmissionComplete s) := by
  refine command_ok _ _ _ _ ?_ h
  dsimp only
  (repeat' split) <;> simp [h]

theorem mapPages_modes {cid n page i : Nat} {s t : State} (h : State.mapPages cid n page i s = some t) : SameModes s t := by
  induction n generalizing page i s with
  | zero => cases h; exact ⟨rfl, rfl⟩
  | succ n ih =>
    unfold State.mapPages at h
    split at h
    next u e =>
      have hu := modes_of_eq (growNodes_modes s cid page) e
      exact hu.trans (SameModes.trans (by simp) (ih h))
    next => cases h

@[simp] theorem mapAct_modes (cid page depot count) (s : State) : SameModes s (mapAct cid page depot count s).1 := by
  have hcheck (l : List (Nat × DepotEntry)) : SameModes s (l.foldl (fun s e => s.checkEntry e.1) s) :=
    foldl_modes _ (fun t e => checkEntry_modes t e.1) l s
  unfold mapAct
  dsimp only
  split
  · split
    next t h =>
      have ht : SameModes s t := (hcheck _).trans (mapPages_modes h)
      exact ht.trans (okResult_modes t _)
    next => exact hcheck _
  · exact hcheck _

@[simp] theorem execMapDepot_ok (q id page depot count) (s : State) (h : ModesOk s) :
    OkIfNext (execMapDepot q id page depot count s) := by
  refine runCmd_ok _ _ _ _ _ _ (fun t ht => ?_) h
  simp [ht]

/-! ### Machine/Ports -/

@[simp] theorem setPerst_modes (s : State) (p b) : SameModes s (s.setPerst p b) := by simp [State.setPerst]

@[simp] theorem train_modes (s : State) (p) : SameModes s (s.train p) := by simp [State.train]

@[simp] theorem linkDown_modes (s : State) (p) : SameModes s (s.linkDown p) := by simp [State.linkDown]

@[simp] theorem resetCxl_modes (s : State) (p) : SameModes s (s.resetCxl p) := by simp [State.resetCxl]

@[simp] theorem execPerstNAssert_ok (p) (s : State) (h : ModesOk s) : OkIfNext (execPerstNAssert p s) := by
  unfold execPerstNAssert
  dsimp only
  (repeat' split) <;> simp [h]

@[simp] theorem execPerstNDeassert_ok (p) (s : State) (h : ModesOk s) : OkIfNext (execPerstNDeassert p s) := by
  simp [execPerstNDeassert, h]

@[simp] theorem execLinkUp_ok (p rate width flit bound) (s : State) (h : ModesOk s) :
    OkIfNext (execLinkUp p rate width flit bound s) := by
  simp [execLinkUp, h]

@[simp] theorem execSurpriseLinkDown_ok (p) (s : State) (h : ModesOk s) : OkIfNext (execSurpriseLinkDown p s) := by
  simp [execSurpriseLinkDown, h]

@[simp] theorem execIdeKmMessage_ok (p stream key) (s : State) (h : ModesOk s) : OkIfNext (execIdeKmMessage p stream key s) := by
  simp [execIdeKmMessage, h]

@[simp] theorem execIdeMacFailure_ok (p) (s : State) (h : ModesOk s) : OkIfNext (execIdeMacFailure p s) := by
  simp [execIdeMacFailure, h]

@[simp] theorem execGpfPhase2Request_ok (p) (s : State) (h : ModesOk s) : OkIfNext (execGpfPhase2Request p s) := by
  simp [execGpfPhase2Request, h]

@[simp] theorem execResidueUpdate_ok (s : State) (h : ModesOk s) :
    OkIfNext (execResidueUpdate s) := by simp [execResidueUpdate, h]

@[simp] theorem execExpressPanicChange_ok (p occupancy age) (s : State) (h : ModesOk s) :
    OkIfNext (execExpressPanicChange p occupancy age s) := by
  simp [execExpressPanicChange, h]

@[simp] theorem execExpressPanicHeld_ok (p) (s : State) (h : ModesOk s) : OkIfNext (execExpressPanicHeld p s) := by
  simp [execExpressPanicHeld, h]

@[simp] theorem programDecoder_modes (s : State) (ld d x) : SameModes s (s.programDecoder ld d x) := ⟨rfl, rfl⟩

@[simp] theorem execConfigurationRequest_ok (p r) (s : State) (h : ModesOk s) : OkIfNext (execConfigurationRequest p r s) := by
  unfold execConfigurationRequest
  split <;> simp [h]

@[simp] theorem spendCredit_modes (s : State) (p) : SameModes s (s.spendCredit p) := by simp [State.spendCredit]

@[simp] theorem execCxlMemRead_ok (ld dpa fault) (s : State) (h : ModesOk s) : OkIfNext (execCxlMemRead ld dpa fault s) := by
  simp [execCxlMemRead, h]

@[simp] theorem execCxlMemWrite_ok (ld dpa data fault) (s : State) (h : ModesOk s) :
    OkIfNext (execCxlMemWrite ld dpa data fault s) := by
  simp [execCxlMemWrite, h]

/-! ### Machine/Terms -/

@[simp] theorem beginTerm_modes (s : State) (cid cmd) : SameModes s (s.beginTerm cid cmd) := ⟨rfl, rfl⟩

@[simp] theorem deferTerm_modes (s : State) (cid cmd) : SameModes s (s.deferTerm cid cmd) := by simp [State.deferTerm]

@[simp] theorem requestTerm_modes (s : State) (cid cmd) : SameModes s (s.requestTerm cid cmd) := by
  simp [State.requestTerm]

@[simp] theorem requestExportTerm_modes (s : State) (cid) : SameModes s (s.requestExportTerm cid) := by
  simp [State.requestExportTerm]

@[simp] theorem runDeferred_modes (s : State) : SameModes s s.runDeferred := by simp [State.runDeferred]

@[simp] theorem freeEmptyNodes_modes (s : State) (cid) : SameModes s (s.freeEmptyNodes cid) := by
  simp [State.freeEmptyNodes]

@[simp] theorem detach_modes (s : State) (cid) : SameModes s (s.detach cid) := by simp [State.detach]

@[simp] theorem takeCopies_modes (s : State) (p) : SameModes s (s.takeCopies p).2 := foldl_modes _ poisonLeaf_modes _ _

@[simp] theorem beginCopies_modes (s : State) (cid) : SameModes s (s.beginCopies cid) := by
  unfold State.beginCopies
  split
  · exact ⟨rfl, rfl⟩
  · simp

@[simp] theorem beginExport_modes (s : State) (cid) : SameModes s (s.beginExport cid) := by
  unfold State.beginExport
  split <;> simp

@[simp] theorem clearSeals_modes (s : State) (cid) : SameModes s (s.clearSeals cid) := by simp [State.clearSeals]

@[simp] theorem endTerm_modes (s : State) (cid) : SameModes s (s.endTerm cid) := by simp [State.endTerm]

@[simp] theorem freeUnreferenced_modes (s : State) : SameModes s s.freeUnreferenced := by
  simp [State.freeUnreferenced]

@[simp] theorem endGlobal_modes (s : State) : SameModes s s.endGlobal := by simp [State.endGlobal]

@[simp] theorem tryGlobal_modes (s : State) : SameModes s s.tryGlobal := by
  unfold State.tryGlobal
  split <;> simp

@[simp] theorem tick_ok (s : State) (h : ModesOk s) : ModesOk s.tick := by simp [State.tick, h]

@[simp] theorem startGlobal_modes (s : State) (cmds) : SameModes s (s.startGlobal cmds) := by simp [State.startGlobal]

@[simp] theorem execEndGlobalTerm_ok (q) (s : State) (h : ModesOk s) : OkIfNext (execEndGlobalTerm q s) := by
  simp [execEndGlobalTerm, h]

@[simp] theorem execGlobalTermEnd_ok (s : State) (h : ModesOk s) :
    OkIfNext (execGlobalTermEnd s) := by simp [execGlobalTermEnd, h]

@[simp] theorem commitSet_modes (s : State) (point) : SameModes s (s.commitSet point) := ⟨rfl, rfl⟩

@[simp] theorem commitAct_modes (point) (s : State) : SameModes s (commitAct point s).1 := by simp [commitAct]

@[simp] theorem execCommitStaged_ok (q point) (s : State) (h : ModesOk s) : OkIfNext (execCommitStaged q point s) := by
  simp [execCommitStaged, h]

@[simp] theorem execEndCarriageTerm_ok (q id) (s : State) (h : ModesOk s) : OkIfNext (execEndCarriageTerm q id s) := by
  simp [execEndCarriageTerm, h]

@[simp] theorem execTermEndCommit_ok (id) (s : State) (h : ModesOk s) : OkIfNext (execTermEndCommit id s) := by
  refine command_ok _ _ _ _ ?_ h
  dsimp only
  (repeat' split) <;> simp [h]

@[simp] theorem execRetagPassComplete_ok (id) (s : State) (h : ModesOk s) : OkIfNext (execRetagPassComplete id s) := by
  simp [execRetagPassComplete, h]

@[simp] theorem beginPark_modes (s : State) (cid) : SameModes s (s.beginPark cid) := by simp [State.beginPark]

@[simp] theorem beginRecall_modes (s : State) (cid) : SameModes s (s.beginRecall cid) := by simp [State.beginRecall]

@[simp] theorem admitMove_modes (s : State) (park cid) : SameModes s (s.admitMove park cid).1 := by
  simp [State.admitMove]

@[simp] theorem execPark_ok (q id) (s : State) (h : ModesOk s) : OkIfNext (execPark q id s) := by simp [execPark, h]

@[simp] theorem sideStripes_modes (fuel n g) (s : State) : SameModes s (State.sideStripes fuel n g s).2 := by
  induction fuel generalizing n g s with
  | zero => exact ⟨rfl, rfl⟩
  | succ fuel ih =>
    unfold State.sideStripes
    dsimp only
    split
    · exact ⟨rfl, rfl⟩
    · split <;> simp [ih]

@[simp] theorem programSiding_modes (s : State) (p) : SameModes s (s.programSiding p) := by
  simp [State.programSiding]

@[simp] theorem execParkCopyComplete_ok (id) (s : State) (faults) (h : ModesOk s) :
    OkIfNext (execParkCopyComplete id s faults) := by
  refine command_ok _ _ _ _ ?_ h
  dsimp only
  (repeat' split) <;> simp [h]

@[simp] theorem sidePage_modes (s : State) (cid page c seal?) : SameModes s (s.sidePage cid page c seal?) := by
  simp [State.sidePage]

@[simp] theorem releaseCopy_modes (p) (s : State) (e) : SameModes s (State.releaseCopy p s e).1 := by
  simp [State.releaseCopy]

@[simp] theorem releasePark_modes (s : State) (p) : SameModes s (s.releasePark p) := by
  have hcopies := foldl_fst_modes (fun (r : State × Nat) e =>
    ((State.releaseCopy p r.1 e).1, if (State.releaseCopy p r.1 e).2 then r.2 + 1 else r.2))
    (fun r e => releaseCopy_modes p r.1 e) p.copies (s, 0)
  exact hcopies

@[simp] theorem execParkReleasePassComplete_ok (id) (s : State) (h : ModesOk s) :
    OkIfNext (execParkReleasePassComplete id s) := by
  refine command_ok _ _ _ _ ?_ h
  (repeat' split) <;> simp [h]

@[simp] theorem cancelPark_modes (s : State) (cid) : SameModes s (s.cancelPark cid) := by simp [State.cancelPark]

@[simp] theorem recallAct_modes (cid) (s : State) : SameModes s (recallAct cid s).1 := by
  unfold recallAct
  dsimp only
  (repeat' split) <;> simp

@[simp] theorem execRecall_ok (q id) (s : State) (h : ModesOk s) : OkIfNext (execRecall q id s) := by simp [execRecall, h]

@[simp] theorem noteFilled_modes (s : State) (key) : SameModes s (s.noteFilled key) := by simp [State.noteFilled]

@[simp] theorem recallPage_ok (faults) (s : State) (key) (h : ModesOk s) : ModesOk (State.recallPage faults s key) := by
  unfold State.recallPage
  split
  · exact h
  · split
    next e => exact (noteFilled_modes _ _).ok (moveIn_ok _ _ _ _ ((takeFrame_modes e).ok h))
    next => exact h

@[simp] theorem execRecallComplete_ok (id) (s : State) (faults) (h : ModesOk s) : OkIfNext (execRecallComplete id s faults) := by
  refine command_ok _ _ _ _ ?_ h
  have hpages := foldl_ok (State.recallPage faults) (fun t k => recallPage_ok faults t k) (s.recallPages id.toNat) s h
  dsimp only
  split
  · simp [h]
  · split
    · exact (okIfNext_next _).2 ((resume_modes _).ok (SameModes.ok (by simp) hpages))
    · exact (okIfNext_next _).2 ((resume_modes _).ok hpages)

@[simp] theorem execParkQueueDequeue_ok (s : State) (h : ModesOk s) : OkIfNext (execParkQueueDequeue s) := by
  refine command_ok _ _ _ _ ?_ h
  dsimp only
  (repeat' split) <;> simp [h]

@[simp] theorem execRevert_ok (q id) (s : State) (h : ModesOk s) : OkIfNext (execRevert q id s) := by
  refine runCmd_ok _ _ _ _ _ _ (fun t ht => ?_) h
  dsimp only
  (repeat' split) <;> simp [ht]

@[simp] theorem revertPage_modes (cid) (s : State) (r) : SameModes s (State.revertPage cid s r) := by
  unfold State.revertPage
  split <;> simp

@[simp] theorem execRevertComplete_ok (id) (s : State) (h : ModesOk s) : OkIfNext (execRevertComplete id s) := by
  simp [execRevertComplete, h]

@[simp] theorem execSnapshotReleaseComplete_ok (id) (s : State) (h : ModesOk s) :
    OkIfNext (execSnapshotReleaseComplete id s) := by
  simp [execSnapshotReleaseComplete, h]

/-! ### Machine/Transfer -/

@[simp] theorem clearPage_modes (s : State) (key) : SameModes s (s.clearPage key) := by simp [State.clearPage]

theorem putPage_modes {s t : State} {key : Nat} {im : Image} (h : s.putPage key im = some t) : SameModes s t := by
  unfold State.putPage at h
  dsimp only at h
  split at h
  · cases h
  · split at h
    · obtain ⟨u, hu, rfl⟩ := Option.map_eq_some_iff.1 h
      simp [snapshotBefore_modes hu]
    · split at h
      · cases h
      · split at h
        next e =>
          obtain ⟨⟨f, u⟩, hu, rfl⟩ := Option.map_eq_some_iff.1 h
          simp [takeFrame_modes hu, modes_of_eq (growPath_modes s _ _) e]
        next => cases h

@[simp] theorem exportAct_modes (source output unit key) (s : State) : SameModes s (exportAct source output unit key s).1 := by
  unfold exportAct
  split <;> simp

@[simp] theorem execExportCarriage_ok (q source output unit key) (s : State) (h : ModesOk s) :
    OkIfNext (execExportCarriage q source output unit key s) := by
  simp [execExportCarriage, h]

theorem writePages_modes {cid page : Nat} {bs : List (List Byte)} {s t : State} (h : State.writePages cid page bs s = some t) :
    SameModes s t := by
  induction bs generalizing page s with
  | nil => cases h; exact ⟨rfl, rfl⟩
  | cons b bs ih =>
    unfold State.writePages at h
    dsimp only at h
    split at h
    · exact ih h
    · obtain ⟨u, hu, h⟩ := Option.bind_eq_some_iff.1 h
      exact (putPage_modes hu).trans (ih h)

@[simp] theorem checkSnapshot_modes (s : State) (cid) : SameModes s (s.checkSnapshot cid) := by
  simp [State.checkSnapshot]

@[simp] theorem dropExport_modes (s : State) (e) : SameModes s (s.dropExport e) := by simp [State.dropExport]

@[simp] theorem execExportComplete_ok (s : State) (pairings) (h : ModesOk s) : OkIfNext (execExportComplete s pairings) := by
  refine command_ok _ _ _ _ ?_ h
  dsimp only
  split
  · simp [h]
  · split
    · simp [h]
    · have hfaults : ModesOk ((s.pipeFaults pairings).1.reportSince s) :=
        reportSince_ok _ _ ((pipeFaults_modes s pairings).ok h)
      generalize (s.pipeFaults pairings).1.reportSince s = u at *
      split
      · simp [hfaults]
      · split
        · simp [hfaults]
        · split
          · simp [hfaults]
          · split
            next => simp [hfaults]
            next e => simp [(writePages_modes e).ok ((checkSnapshot_modes _ _).ok hfaults)]

@[simp] theorem writeShadow_modes (s : State) (cid root) : SameModes s (s.writeShadow cid root) := by
  simp [State.writeShadow]

@[simp] theorem startImport_modes (s : State) (input cid root p key) : SameModes s (s.startImport input cid root p key) := by
  simp [State.startImport]

@[simp] theorem importFrom_modes (s : State) (input result flags b) : SameModes s (s.importFrom input result flags b).1 := by
  unfold State.importFrom
  (repeat' split) <;> simp

@[simp] theorem importAct_modes (input result flags) (s : State) : SameModes s (importAct input result flags s).1 := by
  simp [importAct]

@[simp] theorem execImportCarriage_ok (q input result flags) (s : State) (h : ModesOk s) :
    OkIfNext (execImportCarriage q input result flags s) := by
  simp [execImportCarriage, h]

theorem applyManifest_modes {s t : State} {cid : Nat} {b : List Byte} (h : s.applyManifest cid b = some t) : SameModes s t := by
  unfold State.applyManifest at h
  dsimp only at h
  split at h
  · cases h
  · split at h
    · cases h; simp
    · split at h
      · cases h
      · cases h; simp

theorem applyDepot_modes {s t : State} {key slot : Nat} {ct : List Byte} (h : s.applyDepot key slot ct = some t) :
    SameModes s t := by
  unfold State.applyDepot at h
  dsimp only at h
  split at h
  · cases h
  · split at h
    next u e =>
      have hu := modes_of_eq (growNodes_modes s _ _) e
      split at h <;> cases h
      all_goals next e => exact hu.trans (modes_of_eq (mergePage_modes u _ _ _) e)
    next => cases h

theorem applyEntry_modes {s t : State} {cid : Nat} {entry data rest : List Byte} (h : s.applyEntry cid entry data = some
    (t, rest)) :
    SameModes s t := by
  unfold State.applyEntry at h
  dsimp only at h
  split at h
  · cases h
  · split at h
    · obtain ⟨u, hu, e⟩ := Option.map_eq_some_iff.1 h
      cases e
      exact putPage_modes hu
    · obtain ⟨u, hu, e⟩ := Option.map_eq_some_iff.1 h
      cases e
      exact applyDepot_modes hu
    · split at h
      next e => cases h; simp [modes_of_eq (growNodes_modes s _ _) e]
      next => cases h
    · cases h

theorem applyEntries_modes {cid : Nat} {es : List (List Byte)} {data : List Byte} {s t : State}
    (h : State.applyEntries cid es data s = some t) :
    SameModes s t := by
  induction es generalizing data s with
  | nil => cases h; exact ⟨rfl, rfl⟩
  | cons e es ih =>
    obtain ⟨⟨u, rest⟩, hu, h⟩ := Option.bind_eq_some_iff.1 h
    exact (applyEntry_modes hu).trans (ih h)

theorem applyBody_modes {s t : State} {i : ImportRun} {pages : Nat} {body : List Byte} (h : s.applyBody i pages body = .inl t) :
    SameModes s t := by
  unfold State.applyBody at h
  dsimp only at h
  split at h
  · split at h
    next u e =>
      cases h
      exact (applyManifest_modes e : SameModes s u)
    next => cases h
  · split at h
    · cases h
    · split at h
      next e =>
        cases h
        exact applyEntries_modes e
      next => cases h

theorem importRecord_modes {s t : State} {i : ImportRun} (h : s.importRecord i = .inl t) : SameModes s t := by
  unfold State.importRecord at h
  dsimp only at h
  iterate 7
    split at h
    · cases h
  exact applyBody_modes h

@[simp] theorem failImport_modes (s : State) (i cause) : SameModes s (s.failImport i cause) := by
  simp [State.failImport]

@[simp] theorem execImportRecordVerified_ok (record) (s : State) (pairings) (h : ModesOk s) :
    OkIfNext (execImportRecordVerified record s pairings) := by
  refine command_ok _ _ _ _ ?_ h
  dsimp only
  split
  · simp [h]
  · split
    · simp [h]
    · have hfaults : ModesOk ((s.pipeFaults pairings).1.reportSince s) :=
        reportSince_ok _ _ ((pipeFaults_modes s pairings).ok h)
      generalize (s.pipeFaults pairings).1.reportSince s = u at *
      split
      · simp [hfaults]
      · split
        next => simp [hfaults]
        next e =>
          split at e
          · cases e
          · have ht := (importRecord_modes e).ok hfaults
            split <;> simp [ht]

/-! ### Machine/Keys -/

@[simp] theorem journalSlot_modes (s : State) (n) : SameModes s (s.journalSlot n) := by simp [State.journalSlot]

@[simp] theorem freeSlot_modes (s : State) (n) : SameModes s (s.freeSlot n) := by simp [State.freeSlot]

@[simp] theorem loadSlot_modes (s : State) (n type root) : SameModes s (s.loadSlot n type root) := by
  simp [State.loadSlot]

@[simp] theorem loadAct_modes (n blob) (s : State) : SameModes s (loadAct n blob s).1 := by
  unfold loadAct
  split <;> simp

@[simp] theorem holdSlot_modes (s : State) (n c) : SameModes s (s.holdSlot n c) := by simp [State.holdSlot]

@[simp] theorem execKeyLoad_ok (q slot blob) (s : State) (h : ModesOk s) : OkIfNext (execKeyLoad q slot blob s) := by
  simp [execKeyLoad, h]

@[simp] theorem eraseAct_modes (n) (s : State) : SameModes s (eraseAct n s).1 := by simp [eraseAct]

@[simp] theorem execKeySlotErase_ok (q slot) (s : State) (h : ModesOk s) : OkIfNext (execKeySlotErase q slot s) := by
  simp [execKeySlotErase, h]

@[simp] theorem spend_modes (s : State) (n) : SameModes s (s.spend n) := by simp [State.spend]

@[simp] theorem sealNow_modes (s : State) (n aad plain) : SameModes s (s.sealNow n aad plain).1 := by
  simp [State.sealNow]

@[simp] theorem sealAct_ok (src tag n aad plain pairings) (s : State) (h : ModesOk s) :
    ModesOk (sealAct src tag n aad plain pairings s).1 := by
  unfold sealAct
  dsimp only
  (repeat' split) <;> simp -implicitDefEqProofs [h]

@[simp] theorem execSealBlob_ok (q slot aad plaintext) (s : State) (pairings) (h : ModesOk s) :
    OkIfNext (execSealBlob q slot aad plaintext s pairings) := by
  refine runCmd_ok _ _ _ _ _ _ (fun t ht => ?_) h
  simp [ht]

@[simp] theorem unsealAct_ok (n aad nonce ct tag pairings) (s : State) (h : ModesOk s) :
    ModesOk (unsealAct n aad nonce ct tag pairings s).1 := by
  unfold unsealAct
  dsimp only
  (repeat' split) <;> simp -implicitDefEqProofs [h]

@[simp] theorem execUnsealBlob_ok (q slot aad nonce ciphertext tag) (s : State) (pairings) (h : ModesOk s) :
    OkIfNext (execUnsealBlob q slot aad nonce ciphertext tag s pairings) := by
  refine runCmd_ok _ _ _ _ _ _ (fun t ht => ?_) h
  simp [ht]

@[simp] theorem resumeSeal_ok (s : State) (w) (h : ModesOk s) : ModesOk (s.resumeSeal w) := by
  obtain ⟨g, e⟩ : ∃ g, @State.resumeSeal = g := ⟨_, rfl⟩
  rw [e]
  delta State.resumeSeal at e
  have e := congrFun₂ e s w
  beta_reduce at e
  rw [← e]
  obtain ⟨a, ea, ha⟩ : ∃ a, @sealAct = a ∧ ∀ src tag n aad p ps s, ModesOk s → ModesOk (a src tag n aad p ps s).1 :=
    ⟨_, rfl, sealAct_ok⟩
  rw [ea]
  dsimp only
  split
  next hr =>
    have ht := ok_of_eq (ha _ _ _ _ _ _ _ (by simp [h])) hr
    split
    · exact (finishIn_modes ..).ok ht
    · exact ht
  next hr => exact ok_of_eq (ha _ _ _ _ _ _ _ (by simp [h])) hr

@[simp] theorem execNonceMarkRecorded_ok (context) (s : State) (h : ModesOk s) : OkIfNext (execNonceMarkRecorded context s) := by
  have hwaits := fun (ws : List SealWait) (t : State) => foldl_ok State.resumeSeal (fun u w => resumeSeal_ok u w) ws t
  unfold execNonceMarkRecorded
  dsimp only
  split
  · simp [h]
  · refine (okIfNext_next _).2 (hwaits _ _ ?_)
    simp [h]

@[simp] theorem pipeTested_modes (s : State) (p pass) : SameModes s (s.pipeTested p pass) := by
  simp [State.pipeTested]

@[simp] theorem execPipeSelftestComplete_ok (pipe pass) (s : State) (h : ModesOk s) :
    OkIfNext (execPipeSelftestComplete pipe pass s) := by
  simp [execPipeSelftestComplete, h]

@[simp] theorem execPipeRetest_ok (q pass) (s : State) (h : ModesOk s) : OkIfNext (execPipeRetest q pass s) := by
  simp [execPipeRetest, h]

@[simp] theorem setPassRow_modes (s : State) (cid row) : SameModes s (s.setPassRow cid row) := by
  simp [State.setPassRow]

@[simp] theorem passAct_modes (cid change) (s : State) : SameModes s (passAct cid change s).1 := by simp [passAct]

@[simp] theorem execPassGrant_ok (q id slot) (s : State) (h : ModesOk s) : OkIfNext (execPassGrant q id slot s) := by
  simp [execPassGrant, h]

@[simp] theorem execPassRevoke_ok (q id slot) (s : State) (h : ModesOk s) : OkIfNext (execPassRevoke q id slot s) := by
  simp [execPassRevoke, h]

@[simp] theorem execRevokeSlot_ok (q slot) (s : State) (h : ModesOk s) : OkIfNext (execRevokeSlot q slot s) := by
  simp [execRevokeSlot, h]

/-! ### Machine/Gauge -/

@[simp] theorem computeEnergy_modes (s : State) : SameModes s s.computeEnergy := by
  unfold State.computeEnergy
  dsimp only
  (repeat' split) <;> simp

@[simp] theorem execEnergyRecompute_ok (s : State) (h : ModesOk s) : OkIfNext (execEnergyRecompute s) := by
  simp [execEnergyRecompute, h]

@[simp] theorem enterClass_modes (s : State) (old was) : SameModes s (s.enterClass old was) := by
  simp [State.enterClass]

@[simp] theorem estimateFrom_modes (s : State) (was) : SameModes s (s.estimateFrom was) := by
  unfold State.estimateFrom
  dsimp only
  (repeat' split) <;> simp

@[simp] theorem estimate_modes (s : State) : SameModes s s.estimate := by simp [State.estimate]

@[simp] theorem showReading_modes (s : State) (r) : SameModes s (s.showReading r) := ⟨rfl, rfl⟩

@[simp] theorem checkTemps_modes (s : State) (old r) : SameModes s (s.checkTemps old r) := by simp [State.checkTemps]

@[simp] theorem packReturns_modes (s : State) (r) : SameModes s (s.packReturns r) := by simp [State.packReturns]

@[simp] theorem watchRest_modes (s : State) (r) : SameModes s (s.watchRest r) := by simp [State.watchRest]

@[simp] theorem execGaugeSample_ok (reading) (s : State) (h : ModesOk s) : OkIfNext (execGaugeSample reading s) := by
  simp [execGaugeSample, h]

@[simp] theorem execPackAbsent_ok (s : State) (h : ModesOk s) : OkIfNext (execPackAbsent s) := by simp [execPackAbsent, h]

@[simp] theorem oweRecord_modes (s : State) (flags) : SameModes s (s.oweRecord flags) := ⟨rfl, rfl⟩

@[simp] theorem setCapacity_modes (s : State) (q) : SameModes s (s.setCapacity q) := by simp [State.setCapacity]

@[simp] theorem setR25_modes (s : State) (r) : SameModes s (s.setR25 r) := by simp [State.setR25]

@[simp] theorem acceptCapacity_modes (s : State) (new) : SameModes s (s.acceptCapacity new) := by
  simp [State.acceptCapacity]

@[simp] theorem rejectCapacity_modes (s : State) (cause) : SameModes s (s.rejectCapacity cause) := by
  simp [State.rejectCapacity]

@[simp] theorem learnBetween_modes (s : State) (x soc) : SameModes s (s.learnBetween x soc) := by
  simp [State.learnBetween]

@[simp] theorem checkAgreement_modes (s : State) (soc) : SameModes s (s.checkAgreement soc) := by
  simp [State.checkAgreement]

@[simp] theorem anchor_modes (s : State) (r soc) : SameModes s (s.anchor r soc) := ⟨rfl, rfl⟩

@[simp] theorem execRestPoint_ok (s : State) (h : ModesOk s) : OkIfNext (execRestPoint s) := by
  unfold execRestPoint
  dsimp only
  (repeat' split) <;> simp [h]

@[simp] theorem execPackResistanceMeasured_ok (resistance) (s : State) (h : ModesOk s) :
    OkIfNext (execPackResistanceMeasured resistance s) := by
  unfold execPackResistanceMeasured
  split <;> simp [h]

@[simp] theorem execLearningRecordWrite_ok (s : State) (h : ModesOk s) : OkIfNext (execLearningRecordWrite s) := by
  simp [execLearningRecordWrite, h]

@[simp] theorem execRelearn_ok (q) (s : State) (h : ModesOk s) : OkIfNext (execRelearn q s) := by simp [execRelearn, h]

@[simp] theorem loadLearning_modes (s : State) : SameModes s s.loadLearning := by
  unfold State.loadLearning
  dsimp only
  split <;> simp

@[simp] theorem execDayCount_ok (s : State) (h : ModesOk s) : OkIfNext (execDayCount s) := by simp [execDayCount, h]

@[simp] theorem execMonitorSample_ok (readings) (s : State) (h : ModesOk s) : OkIfNext (execMonitorSample readings s) := by
  simp [execMonitorSample, h]

@[simp] theorem execThermalThreshold_ok (mainDie temp) (s : State) (h : ModesOk s) :
    OkIfNext (execThermalThreshold mainDie temp s) := by
  simp [execThermalThreshold, h]

@[simp] theorem planMemories_modes (s : State) : SameModes s s.planMemories.1 := by simp [State.planMemories]

@[simp] theorem clearDrift_modes (s : State) : SameModes s s.clearDrift := ⟨rfl, rfl⟩

@[simp] theorem runReplan_modes (s : State) (cause) : SameModes s (s.runReplan cause) := by simp [State.runReplan]

@[simp] theorem replanAsked_modes (s : State) (cause) : SameModes s (s.replanAsked cause) := by
  simp [State.replanAsked]

@[simp] theorem execReplanDue_ok (s : State) (h : ModesOk s) : OkIfNext (execReplanDue s) := by simp [execReplanDue, h]

@[simp] theorem execReplanNow_ok (q) (s : State) (h : ModesOk s) : OkIfNext (execReplanNow q s) := by simp [execReplanNow, h]

@[simp] theorem execReplan_ok (cause) (s : State) (h : ModesOk s) : OkIfNext (execReplan cause s) := by simp [execReplan, h]

@[simp] theorem execReplanDeferralOverdue_ok (s : State) (h : ModesOk s) : OkIfNext (execReplanDeferralOverdue s) := by
  simp [execReplanDeferralOverdue, h]

@[simp] theorem execVtrimStep_ok (s : State) (h : ModesOk s) : OkIfNext (execVtrimStep s) := by simp [execVtrimStep, h]

/-! ### Machine/Start -/

@[simp] theorem chooseBank_ok (s : State) (okActive okOther) (h : ModesOk s) : ModesOk (s.chooseBank okActive okOther) := by
  unfold State.chooseBank
  dsimp only
  (repeat' split) <;> simp -implicitDefEqProofs [h]

@[simp] theorem scanRegion_modes (s : State) (n) : SameModes s (s.scanRegion n) := by simp [State.scanRegion]

@[simp] theorem scanAll_modes (s : State) : SameModes s s.scanAll := by simp [State.scanAll]

@[simp] theorem loadProgress_modes (s : State) : SameModes s s.loadProgress := by
  unfold State.loadProgress
  split <;> simp

@[simp] theorem loadBanks_modes (s : State) : SameModes s s.loadBanks := by
  refine foldl_modes _ (fun s a => ?_) _ _
  dsimp only
  (repeat' split) <;> simp

@[simp] theorem repairSector_modes (s : State) (e) : SameModes s (s.repairSector e) := by
  unfold State.repairSector
  dsimp only
  (repeat' split) <;> simp

@[simp] theorem classify_modes (s : State) : SameModes s s.classify := by simp [State.classify]

@[simp] theorem syncCopies_modes (s : State) (k) : SameModes s (s.syncCopies k) := by
  unfold State.syncCopies
  dsimp only
  (repeat' split) <;> simp

@[simp] theorem loadSetting_modes (s : State) (k) : SameModes s (s.loadSetting k) := by
  unfold State.loadSetting
  dsimp only
  (repeat' split) <;> simp

@[simp] theorem loadSettings_modes (s : State) : SameModes s s.loadSettings := by simp [State.loadSettings]

@[simp] theorem rebuildSlot_modes (s : State) (n) : SameModes s (s.rebuildSlot n) := by
  unfold State.rebuildSlot
  dsimp only
  (repeat' split) <;> simp

@[simp] theorem loadKeys_modes (s : State) : SameModes s s.loadKeys := by simp [State.loadKeys]

@[simp] theorem clearSignalBox_ok (s : State) (address) (h : ModesOk s) :
    ModesOk (s.clearSignalBox address) := by simp [State.clearSignalBox, h]

@[simp] theorem coldMode_ok (s : State) (h : ModesOk s) : ModesOk s.coldMode := by
  unfold State.coldMode
  dsimp only
  (repeat' split) <;> simp -implicitDefEqProofs [h]

@[simp] theorem loadChannels_modes (s : State) : SameModes s s.loadChannels := by simp [State.loadChannels]

@[simp] theorem coldScan_ok (s : State) (h : ModesOk s) : ModesOk s.coldScan := by simp [State.coldScan, h]

@[simp] theorem execSignalBoxColdStart_ok (romOk bankAOk bankBOk address) (s : State) (corrected bad) (h : ModesOk s) :
    OkIfNext (execSignalBoxColdStart romOk bankAOk bankBOk address s corrected bad) := by
  have hclear := clearSignalBox_ok s address.toNat h
  unfold execSignalBoxColdStart
  split
  · simp [h]
  · extract_lets +onlyGivenNames t _ u _ v a w
    have hu : ModesOk u := hclear
    clear_value u
    split
    · exact (okIfNext_next _).2 (enterOff_ok _ _ hu)
    · have hw : ModesOk w := by simp -implicitDefEqProofs [w, v, hu]
      clear_value w
      simp [hw]

@[simp] theorem keepFault_modes (s : State) (x) : SameModes s (s.keepFault x) := by
  unfold State.keepFault
  split <;> simp

@[simp] theorem execStationmasterRestart_ok (cause imageOk) (s : State) (corrected bad) (h : ModesOk s) :
    OkIfNext (execStationmasterRestart cause imageOk s corrected bad) := by
  simp [execStationmasterRestart, h]

/-! ### Machine/Read -/

@[simp] theorem readAct_modes (src k) (s : State) : SameModes s (readAct src k s).1 := by
  unfold readAct
  split <;> simp

@[simp] theorem execZopRead_ok (q index sub) (s : State) (h : ModesOk s) : OkIfNext (execZopRead q index sub s) := by
  simp [execZopRead, h]

@[simp] theorem describeAct_modes (index sub) (s : State) : SameModes s (describeAct index sub s).1 := by
  unfold describeAct
  split <;> simp

@[simp] theorem execDescribe_ok (q index sub) (s : State) (h : ModesOk s) : OkIfNext (execDescribe q index sub s) := by
  simp [execDescribe, h]

@[simp] theorem execFetch_ok (q) (s : State) (h : ModesOk s) : OkIfNext (execFetch q s) := by simp [execFetch, h]

@[simp] theorem execExecutePendingTimeout_ok (src tag) (s : State) (h : ModesOk s) :
    OkIfNext (execExecutePendingTimeout src tag s) := by
  unfold execExecutePendingTimeout
  split <;> simp [h]

@[simp] theorem execPendingResultExpiry_ok (src tag) (s : State) (h : ModesOk s) :
    OkIfNext (execPendingResultExpiry src tag s) := by
  unfold execPendingResultExpiry
  (repeat' split) <;> simp [h]

@[simp] theorem execSessionIdleTimeout_ok (src) (s : State) (h : ModesOk s) : OkIfNext (execSessionIdleTimeout src s) := by
  simp [execSessionIdleTimeout, h]

/-! ### Machine/Mailbox -/

@[simp] theorem reads_modes (f) (s : State) : SameModes s (reads f s).1 := ⟨rfl, rfl⟩

@[simp] theorem runMail_ok (ld) (act : MailAct) (s : State) (h : SameModes s (act s).1) (hs : ModesOk s) :
    OkIfNext (runMail ld act s) := by
  unfold runMail; split <;> simp [h, hs]

@[simp] theorem identifyAct_modes (ld) (s : State) : SameModes s (identifyAct ld s).1 := ⟨rfl, rfl⟩

@[simp] theorem execMbxIdentifyMemoryDevice_ok (ld) (s : State) (h : ModesOk s) :
    OkIfNext (execMbxIdentifyMemoryDevice ld s) := by
  simp [execMbxIdentifyMemoryDevice, h]

@[simp] theorem execMbxGetPartitionInfo_ok (ld) (s : State) (h : ModesOk s) : OkIfNext (execMbxGetPartitionInfo ld s) := by
  simp [execMbxGetPartitionInfo, h]

@[simp] theorem execMbxGetSupportedLogs_ok (ld) (s : State) (h : ModesOk s) : OkIfNext (execMbxGetSupportedLogs ld s) := by
  simp [execMbxGetSupportedLogs, h]

@[simp] theorem execMbxGetLog_ok (ld) (s : State) (h : ModesOk s) : OkIfNext (execMbxGetLog ld s) := by simp [execMbxGetLog, h]

@[simp] theorem execMbxGetFwInfo_ok (ld) (s : State) (h : ModesOk s) : OkIfNext (execMbxGetFwInfo ld s) := by
  simp [execMbxGetFwInfo, h]

@[simp] theorem getEventsAct_modes (ld log) (s : State) : SameModes s (getEventsAct ld log s).1 := by
  simp [getEventsAct]

@[simp] theorem execMbxGetEventRecords_ok (ld log) (s : State) (h : ModesOk s) : OkIfNext (execMbxGetEventRecords ld log s) := by
  simp [execMbxGetEventRecords, h]

@[simp] theorem clearEventsAct_modes (ld log count) (s : State) : SameModes s (clearEventsAct ld log count s).1 := by
  simp [clearEventsAct]

@[simp] theorem execMbxClearEventRecords_ok (ld log count) (s : State) (h : ModesOk s) :
    OkIfNext (execMbxClearEventRecords ld log count s) := by
  simp [execMbxClearEventRecords, h]

@[simp] theorem execMbxGetEventInterruptPolicy_ok (ld) (s : State) (h : ModesOk s) :
    OkIfNext (execMbxGetEventInterruptPolicy ld s) := by
  simp [execMbxGetEventInterruptPolicy, h]

@[simp] theorem execMbxSetEventInterruptPolicy_ok (ld policy) (s : State) (h : ModesOk s) :
    OkIfNext (execMbxSetEventInterruptPolicy ld policy s) := by
  simp [execMbxSetEventInterruptPolicy, h]

@[simp] theorem execMbxGetAlertConfiguration_ok (ld) (s : State) (h : ModesOk s) :
    OkIfNext (execMbxGetAlertConfiguration ld s) := by
  simp [execMbxGetAlertConfiguration, h]

@[simp] theorem execMbxSetAlertConfiguration_ok (ld config) (s : State) (h : ModesOk s) :
    OkIfNext (execMbxSetAlertConfiguration ld config s) := by
  simp [execMbxSetAlertConfiguration, h]

@[simp] theorem execMbxGetTimestamp_ok (ld) (s : State) (h : ModesOk s) : OkIfNext (execMbxGetTimestamp ld s) := by
  simp [execMbxGetTimestamp, h]

@[simp] theorem execMbxSetTimestamp_ok (ld time) (s : State) (h : ModesOk s) : OkIfNext (execMbxSetTimestamp ld time s) := by
  simp [execMbxSetTimestamp, h]

@[simp] theorem execMbxGetHealthInfo_ok (ld) (s : State) (h : ModesOk s) : OkIfNext (execMbxGetHealthInfo ld s) := by
  simp [execMbxGetHealthInfo, h]

@[simp] theorem execMbxGetShutdownState_ok (ld) (s : State) (h : ModesOk s) : OkIfNext (execMbxGetShutdownState ld s) := by
  simp [execMbxGetShutdownState, h]

@[simp] theorem execMbxSetShutdownState_ok (ld dirty) (s : State) (h : ModesOk s) :
    OkIfNext (execMbxSetShutdownState ld dirty s) := by
  simp [execMbxSetShutdownState, h]

@[simp] theorem poisonListAct_modes (ld) (s : State) : SameModes s (poisonListAct ld s).1 := by simp [poisonListAct]

@[simp] theorem execMbxGetPoisonList_ok (ld) (s : State) (h : ModesOk s) : OkIfNext (execMbxGetPoisonList ld s) := by
  simp [execMbxGetPoisonList, h]

@[simp] theorem clearPoisonAct_modes (ld dpa data) (s : State) : SameModes s (clearPoisonAct ld dpa data s).1 := by
  unfold clearPoisonAct
  split
  · exact ⟨rfl, rfl⟩
  · split
    · exact ⟨rfl, rfl⟩
    · split
      next e => simp [modes_of_eq (clearPoison_modes s _ _ _) e]
      next => exact ⟨rfl, rfl⟩

@[simp] theorem execMbxClearPoison_ok (ld dpa data) (s : State) (h : ModesOk s) :
    OkIfNext (execMbxClearPoison ld dpa data s) := runMail_ok ld _ s.freshAnswers (clearPoisonAct_modes ..) h

@[simp] theorem injectPoisonAct_modes (ld dpa) (s : State) : SameModes s (injectPoisonAct ld dpa s).1 := by
  unfold injectPoisonAct
  (repeat' split) <;> simp

@[simp] theorem execMbxInjectPoison_ok (ld dpa) (s : State) (h : ModesOk s) :
    OkIfNext (execMbxInjectPoison ld dpa s) := runMail_ok ld _ s.freshAnswers (injectPoisonAct_modes ..) h

@[simp] theorem execMbxGetScanMediaCapabilities_ok (ld) (s : State) (h : ModesOk s) :
    OkIfNext (execMbxGetScanMediaCapabilities ld s) := runMail_ok ld _ s ⟨rfl, rfl⟩ h

@[simp] theorem scanMediaAct_modes (ld dpa units) (s : State) : SameModes s (scanMediaAct ld dpa units s).1 := by
  simp [scanMediaAct]

@[simp] theorem execMbxScanMedia_ok (ld dpa length) (s : State) (h : ModesOk s) :
    OkIfNext (execMbxScanMedia ld dpa length s) := by
  simp [execMbxScanMedia, h]

@[simp] theorem execMbxGetScanMediaResults_ok (ld) (s : State) (h : ModesOk s) : OkIfNext (execMbxGetScanMediaResults ld s) := by
  simp [execMbxGetScanMediaResults, h]

@[simp] theorem execMbxGetLsa_ok (ld offset length) (s : State) (h : ModesOk s) :
    OkIfNext (execMbxGetLsa ld offset length s) := by
  simp [execMbxGetLsa, h]

@[simp] theorem storeLsa_modes (s : State) (ld area) : SameModes s (s.storeLsa ld area) := ⟨rfl, rfl⟩

@[simp] theorem execMbxSetLsa_ok (ld offset data) (s : State) (h : ModesOk s) : OkIfNext (execMbxSetLsa ld offset data s) := by
  simp [execMbxSetLsa, h]

@[simp] theorem execMbxUnsupportedOpcode_ok (ld opcode) (s : State) (h : ModesOk s) :
    OkIfNext (execMbxUnsupportedOpcode ld opcode s) := by
  simp [execMbxUnsupportedOpcode, h]

@[simp] theorem leveled_modes (ld least) (act : MailAct) (s : State) (h : SameModes s (act s).1) :
    SameModes s (leveled ld least act s).1 := by
  unfold leveled; split <;> simp [h]

@[simp] theorem execGetZopLimits_ok (ld) (s : State) (h : ModesOk s) : OkIfNext (execGetZopLimits ld s) := by
  simp [execGetZopLimits, h]

@[simp] theorem execGetPersistenceSnapshot_ok (ld) (s : State) (h : ModesOk s) : OkIfNext (execGetPersistenceSnapshot ld s) := by
  simp [execGetPersistenceSnapshot, h]

@[simp] theorem execGetCouplingMap_ok (ld first) (s : State) (h : ModesOk s) : OkIfNext (execGetCouplingMap ld first s) := by
  simp [execGetCouplingMap, h]

@[simp] theorem execGetVendorIdentity_ok (ld) (s : State) (h : ModesOk s) : OkIfNext (execGetVendorIdentity ld s) := by
  simp [execGetVendorIdentity, h]

/-! ### Machine/Fabric -/

@[simp] theorem runFabric_ok (p) (act : State → State × List Byte) (s : State) (h : SameModes s (act s).1) (hs : ModesOk s) :
    OkIfNext (runFabric p act s) := by
  unfold runFabric; split <;> simp [h, hs]

@[simp] theorem setLdValues_modes (s : State) (f ld last bs) : SameModes s (s.setLdValues f ld last bs) := by
  induction bs generalizing s ld with
  | nil => exact ⟨rfl, rfl⟩
  | cons b bs ih => simp [State.setLdValues, ih]

@[simp] theorem setRun_fst_modes (f p first vs) (s : State) : SameModes s (setRun f p first vs s).1 := by
  simp [setRun]

@[simp] theorem execFmGetLdAllocations_ok (p) (s : State) (h : ModesOk s) : OkIfNext (execFmGetLdAllocations p s) := by
  simp [execFmGetLdAllocations, h]

@[simp] theorem execFmSetLdAllocations_ok (p first fractions) (s : State) (h : ModesOk s) :
    OkIfNext (execFmSetLdAllocations p first fractions s) := by
  simp [execFmSetLdAllocations, h]

@[simp] theorem execFmGetQosControl_ok (p) (s : State) (h : ModesOk s) : OkIfNext (execFmGetQosControl p s) := by
  simp [execFmGetQosControl, h]

@[simp] theorem execFmSetQosControl_ok (p control) (s : State) (h : ModesOk s) : OkIfNext (execFmSetQosControl p control s) := by
  simp [execFmSetQosControl, h]

@[simp] theorem execFmGetQosStatus_ok (p) (s : State) (h : ModesOk s) :
    OkIfNext (execFmGetQosStatus p s) := runFabric_ok p _ s ⟨rfl, rfl⟩ h

@[simp] theorem execFmGetQosAllocatedBw_ok (p first count) (s : State) (h : ModesOk s) :
    OkIfNext (execFmGetQosAllocatedBw p first count s) := by
  simp [execFmGetQosAllocatedBw, h]

@[simp] theorem execFmSetQosAllocatedBw_ok (p first fractions) (s : State) (h : ModesOk s) :
    OkIfNext (execFmSetQosAllocatedBw p first fractions s) := by
  simp [execFmSetQosAllocatedBw, h]

@[simp] theorem execFmGetQosBwLimit_ok (p first count) (s : State) (h : ModesOk s) :
    OkIfNext (execFmGetQosBwLimit p first count s) := by
  simp [execFmGetQosBwLimit, h]

@[simp] theorem execFmSetQosBwLimit_ok (p first limits) (s : State) (h : ModesOk s) :
    OkIfNext (execFmSetQosBwLimit p first limits s) := by
  simp [execFmSetQosBwLimit, h]

/-! ### Machine/FlashRead -/

@[simp] theorem loseImageBlock_modes (s : State) (offset) : SameModes s (s.loseImageBlock offset) := by
  obtain ⟨f, h⟩ : ∃ f, @State.loseImageBlock = f := ⟨_, rfl⟩
  rw [h]
  delta State.loseImageBlock at h
  have h := congrFun₂ h s offset
  beta_reduce at h
  rw [← h]
  obtain ⟨g, e, hg⟩ := loseTableLine_modes_opaque
  rw [e]
  simp [hg]

@[simp] theorem loseSegment_modes (s : State) (seal20 segnum) : SameModes s (s.loseSegment seal20 segnum) := by
  unfold State.loseSegment
  split <;> simp

@[simp] theorem unreadable_ok (s : State) (name block) (h : ModesOk s) : ModesOk (s.unreadable name block) := by
  unfold State.unreadable
  dsimp only
  (repeat' split) <;> simp -implicitDefEqProofs [h]

@[simp] theorem levelRecovered_modes (s : State) (c block) : SameModes s (s.levelRecovered c block) := by
  simp [State.levelRecovered]

@[simp] theorem readPassed_modes (s : State) (c block name k) : SameModes s (s.readPassed c block name k) := by
  simp [State.readPassed]

@[simp] theorem execFlashReadComplete_ok (c block name outcome) (s : State) (h : ModesOk s) :
    OkIfNext (execFlashReadComplete c block name outcome s) := by
  unfold execFlashReadComplete
  split
  · simp [h]
  · dsimp only
    split
    · split <;> simp [h]
    · simp [h]

/-! ### Machine/Loop -/

@[simp] theorem sendOn_modes (s : State) (n k) : SameModes s (s.sendOn n k) := ⟨rfl, rfl⟩

@[simp] theorem sendFrom_modes (s : State) (ringE stop k) : SameModes s (s.sendFrom ringE stop k) := by
  simp [State.sendFrom]

@[simp] theorem isolateStop_modes (s : State) (x) : SameModes s (s.isolateStop x) := by simp [State.isolateStop]

@[simp] theorem isolateStops_ok (s : State) (h : ModesOk s) : ModesOk s.isolateStops := by
  unfold State.isolateStops
  dsimp only
  exact foldl_ok _ (fun t x => requestDecision_ok t _) _ _ ((foldl_modes _ isolateStop_modes _ s).ok h)

@[simp] theorem failLink_ok (s : State) (n) (h : ModesOk s) : ModesOk (s.failLink n) := by
  unfold State.failLink
  dsimp only
  split
  · exact h
  · refine (replan_modes _).ok (isolateStops_ok _ ((foldl_modes _ (fun t k => sendFrom_modes t _ _ k) _ _).ok ?_))
    split
    next d hd =>
      have hdrill : s.flush.drill = some d := by simpa using hd
      simpa [hdrill] using h
    next => simp [h]

@[simp] theorem replayLink_ok (s : State) (n) (h : ModesOk s) : ModesOk (s.replayLink n) := by
  unfold State.replayLink
  dsimp only
  (repeat' split) <;> simp -implicitDefEqProofs [h]

@[simp] theorem injected_modes (s : State) (n k) : SameModes s (s.injected n k) := by simp [State.injected]

@[simp] theorem execLoopLinePacket_ok (link seq packet) (s : State) (sent) (h : ModesOk s) :
    OkIfNext (execLoopLinePacket link seq packet s sent) := by
  simp [execLoopLinePacket, h]

@[simp] theorem execLinkFailure_ok (link) (s : State) (h : ModesOk s) : OkIfNext (execLinkFailure link s) := by
  simp [execLinkFailure, h]

@[simp] theorem bridgeReplays_modes (s : State) (n) : SameModes s (s.bridgeReplays n) := by simp [State.bridgeReplays]

@[simp] theorem execDieBridgeFailure_ok (s : State) (good) (h : ModesOk s) : OkIfNext (execDieBridgeFailure s good) := by
  unfold execDieBridgeFailure
  (repeat' split) <;> simp [h]

/-! ### Machine/Notify -/

@[simp] theorem busFree_modes (s : State) : SameModes s s.busFree := ⟨rfl, rfl⟩

@[simp] theorem attemptFailed_modes (s : State) (nack) : SameModes s (s.attemptFailed nack) := by
  unfold State.attemptFailed
  (repeat' split) <;> simp

@[simp] theorem execHostNotifySend_ok (acknowledged) (s : State) (h : ModesOk s) :
    OkIfNext (execHostNotifySend acknowledged s) := by
  unfold execHostNotifySend
  (repeat' split) <;> simp [h]

@[simp] theorem execArbitrationLost_ok (inAddress) (s : State) (h : ModesOk s) : OkIfNext (execArbitrationLost inAddress s) := by
  simp [execArbitrationLost, h]

@[simp] theorem execHostNotifyRetry_ok (s : State) (h : ModesOk s) : OkIfNext (execHostNotifyRetry s) := by
  unfold execHostNotifyRetry
  (repeat' split) <;> simp [h]

@[simp] theorem execTestNotify_ok (q code) (s : State) (h : ModesOk s) : OkIfNext (execTestNotify q code s) := by
  simp [execTestNotify, h]

/-! ### Machine/Tap -/

@[simp] theorem execTapInstruction_ok (i) (s : State) (h : ModesOk s) : OkIfNext (execTapInstruction i s) := by
  unfold execTapInstruction
  split <;> simp [h]

/-! ### Machine/Zop -/

@[simp] theorem misfit_ok (q f) (s : State) (h : ModesOk s) : OkIfNext (misfit q f s) := by simp [misfit, h]

@[simp] theorem writeFrame_ok (q f) (s : State) (h : ModesOk s) : OkIfNext (writeFrame q f s) := by
  unfold writeFrame
  (repeat' split) <;> simp [h]

@[simp] theorem executeBare_ok (q k) (s : State) (h : ModesOk s) :
    OkIfAny (executeBare q k s) := by simp -implicitDefEqProofs [executeBare, h]

@[simp] theorem executeCarriage_ok (q f k n) (s : State) (h : ModesOk s) : OkIfAny (executeCarriage q f k n s) := by
  simp [executeCarriage, h]

@[simp] theorem executeListed_ok (q f k n) (s : State) (h : ModesOk s) : OkIfAny (executeListed q f k n s) := by
  simp [executeListed, h]

@[simp] theorem executeOther_ok (q f k n) (s : State) (h : ModesOk s) : OkIfAny (executeOther q f k n s) := by
  simp [executeOther, h]

@[simp] theorem executeFrame_ok (q f) (s : State) (h : ModesOk s) :
    OkIfNext (executeFrame q f s) := okIfNext_getD (okIfAny_orElse (by simp [h]) (okIfAny_orElse (executeCarriage_ok q f _ _ s h)
    (okIfAny_orElse (executeOther_ok q f _ _ s h) (executeListed_ok q f _ _ s h)))) (misfit_ok q f s h)

@[simp] theorem requestFrame_ok (q f) (s : State) (h : ModesOk s) : OkIfNext (requestFrame q f s) := by simp [requestFrame, h]

@[simp] theorem serveFrame_ok (src bs) (s : State) (h : ModesOk s) : OkIfNext (serveFrame src bs s) := by simp [serveFrame, h]

@[simp] theorem levelRefused_modes (s : State) (ld bs) : SameModes s (s.levelRefused ld bs).1 := by
  simp [State.levelRefused]

@[simp] theorem execZopRequest_ok (ld frame) (s : State) (h : ModesOk s) : OkIfNext (execZopRequest ld frame s) := by
  simp [execZopRequest, h]

@[simp] theorem background_modes (s : State) (ld tag key) : SameModes s (s.background ld tag key) := by
  unfold State.background
  dsimp only
  split <;> simp

@[simp] theorem execZopRequestInBackground_ok (ld frame) (s : State) (h : ModesOk s) :
    OkIfNext (execZopRequestInBackground ld frame s) := by
  unfold execZopRequestInBackground
  dsimp only
  split
  · simp [h]
  · split
    · simp [h]
    · split
      · simp [h]
      · split
        · simp [h]
        · have hserved := serveFrame_ok (.mailbox ld) frame { s with out := { s.out with zop := none } } h
          split
          next t e =>
            have ht : ModesOk t := hserved t e
            simp [ht]
          all_goals exact fun _ hn => nomatch hn

@[simp] theorem mctpControl_modes (s : State) (src ep body) : SameModes s (s.mctpControl src ep body) := by
  simp [State.mctpControl]

@[simp] theorem execMctpMessage_ok (source msgType body) (s : State) (h : ModesOk s) :
    OkIfNext (execMctpMessage source msgType body s) := by
  unfold execMctpMessage
  (repeat' split) <;> simp [h]

/-! ### Machine/TwoWire -/

@[simp] theorem execWindowSnapshotRefresh_ok (s : State) (h : ModesOk s) : OkIfNext (execWindowSnapshotRefresh s) := by
  simp [execWindowSnapshotRefresh, h]

@[simp] theorem addressed_modes (s : State) : SameModes s s.addressed := ⟨rfl, rfl⟩

@[simp] theorem readWindow_modes (s : State) (count) : SameModes s (s.readWindow count) := by simp [State.readWindow]

@[simp] theorem execTwoWireRead_ok (count) (s : State) (h : ModesOk s) : OkIfNext (execTwoWireRead count s) := by
  simp [execTwoWireRead, h]

@[simp] theorem proxyClear_modes (s : State) : SameModes s s.proxyClear := by
  unfold State.proxyClear
  split <;> simp

@[simp] theorem submitProxy_ok (s : State) (h : ModesOk s) : OkIfNext (submitProxy s) := by
  unfold submitProxy
  extract_lets p
  split
  · split
    · exact serveFrame_ok _ _ _ h
    · simp [h]
  · split <;> simp [h]

@[simp] theorem execProxySubmit_ok (s : State) (h : ModesOk s) : OkIfNext (execProxySubmit s) := by simp [execProxySubmit, h]

@[simp] theorem execProxyClear_ok (s : State) (h : ModesOk s) : OkIfNext (execProxyClear s) := by simp [execProxyClear, h]

@[simp] theorem execProxyResponseReady_ok (s : State) (h : ModesOk s) : OkIfNext (execProxyResponseReady s) := by
  unfold execProxyResponseReady
  dsimp only
  (repeat' split) <;> simp [h]

@[simp] theorem writeNotify_modes (s : State) (sub b) : SameModes s (s.writeNotify sub b) := by
  unfold State.writeNotify
  (repeat' split) <;> simp

@[simp] theorem writeNotifyPage_modes (s : State) (ws) : SameModes s (s.writeNotifyPage ws) := by
  refine foldl_modes _ (fun s a => ?_) _ _
  (repeat' split) <;> simp

@[simp] theorem storeWindow_ok (s : State) (page ws) (h : ModesOk s) : OkIfNext (storeWindow s page ws) := by
  unfold storeWindow
  dsimp only
  (repeat' split) <;> simp [h]

@[simp] theorem windowWrite_ok (bytes) (s : State) (h : ModesOk s) : OkIfNext (windowWrite bytes s) := by
  unfold windowWrite
  dsimp only
  (repeat' split) <;> simp [h]

@[simp] theorem pecFailed_modes (s : State) : SameModes s s.pecFailed := by simp [State.pecFailed]

@[simp] theorem writeTransaction_ok (bytes) (s : State) (h : ModesOk s) : OkIfNext (writeTransaction bytes s) := by
  unfold writeTransaction
  split <;> simp [h]

@[simp] theorem execTwoWireWrite_ok (bytes) (s : State) (h : ModesOk s) :
    OkIfNext (execTwoWireWrite bytes s) := by simp [execTwoWireWrite, h]

@[simp] theorem execQuickCommand_ok (s : State) (h : ModesOk s) : OkIfNext (execQuickCommand s) := by simp [execQuickCommand, h]

@[simp] theorem execTwoWireBusCondition_ok (c bytes) (s : State) (h : ModesOk s) :
    OkIfNext (execTwoWireBusCondition c bytes s) := by
  unfold execTwoWireBusCondition
  (repeat' split) <;> simp [h]

@[simp] theorem execStretchLimitExpiry_ok (second) (s : State) (h : ModesOk s) : OkIfNext (execStretchLimitExpiry second s) := by
  simp [execStretchLimitExpiry, h]

@[simp] theorem execSmbusClockLowTimeout_ok (s : State) (h : ModesOk s) : OkIfNext (execSmbusClockLowTimeout s) := by
  simp [execSmbusClockLowTimeout, h]

/-! ### A step -/

theorem exec_ok (c : Instr) (s : State) (h : ModesOk s) : OkIfNext (exec c s) := by
  cases c
  all_goals simp [exec, h]

/-- Settles O60: each command keeps the modes in agreement, by the lemma of each function that it calls; a step is one command on the queue's
rest, or a tick. -/
theorem stepKeepsModes : Obligations.StepKeepsModes := by
  intro s t hs ht
  rw [modesAgree_iff] at hs ⊢
  cases hp : s.pending with
  | cons c rest =>
    rw [step_command hp] at ht
    exact exec_ok c { s with pending := rest } hs t ht
  | nil =>
    cases hd : s.work.delayed with
    | nil =>
      rw [step_idle hp hd] at ht
      cases ht
      exact tick_ok s hs
    | cons c rest =>
      rw [step_delayed hp hd] at ht
      exact exec_ok c _ (tick_ok { s with work := { s.work with delayed := rest } } hs) t ht

end Sys2Proof.Machine
end

section
/-! SUPPORT. How a request that is not executed is answered: which rows run a request, and what serving it does check by check (R443). -/
namespace Sys2Proof.Machine

/-- Every opcode of a row that is a request exists (R441). -/
theorem requestOf_opcode {i : Instr} {q : Req} {f : ReqFrame} (h : requestOf i = some (q, f)) : 1 ≤ f.opcode ∧ f.opcode ≤ 7 := by
  cases i
  all_goals cases h
  all_goals exact ⟨Nat.le_of_ble_eq_true rfl, Nat.le_of_ble_eq_true rfl⟩

/-- A row that is a request runs it, unless it loads or erases a key slot on which depot accesses wait (R369). -/
theorem exec_runs {i : Instr} {q : Req} {f : ReqFrame} {s : State} (h : requestOf i = some (q, f))
    (hs : (byPorters q.src && s.reloads 0) = true ∨ ∀ n, loadsSlot n i = true → s.slotFetching n = false) :
    ∃ act, exec i s = runReq i q f.opcode f.index f.sub f.payload act s := by
  cases i
  case keyLoad q' n blob =>
    cases h
    refine ⟨loadAct n.toNat blob, if_neg ?_⟩
    rcases hs with hs | hs
    · simp [State.slotWaits, hs]
    · simp [State.slotWaits, hs n.toNat (decide_eq_true rfl)]
  case keySlotErase q' n =>
    cases h
    refine ⟨eraseAct n.toNat, if_neg ?_⟩
    rcases hs with hs | hs
    · simp [State.slotWaits, hs]
    · simp [State.slotWaits, hs n.toNat (decide_eq_true rfl)]
  all_goals cases h
  all_goals exact ⟨_, rfl⟩

theorem slotFetching_of_loads {i : Instr} {s : State} (h : s.served i = true) (n : Nat) (hn : loadsSlot n i = true) :
    s.slotFetching n = false := by
  simp only [State.served, Bool.and_eq_true, Bool.not_eq_true', List.any_eq_false] at h
  simp only [State.slotFetching, List.any_eq_false]
  intro e he hb
  simp only [Bool.and_eq_true, decide_eq_true_eq] at hb
  exact h.2 e he (by simp [hb.1, hb.2, hn])

/-- A request that nothing puts off is served at once. -/
theorem exec_served {i : Instr} {q : Req} {f : ReqFrame} {s : State} (h : requestOf i = some (q, f)) (hs : s.served i = true) :
    ∃ act, exec i s = .next (s.serve q.src q.tag.toNat q.crc true f act) := by
  obtain ⟨act, e⟩ := exec_runs h (.inr (slotFetching_of_loads hs))
  exact ⟨act, by rw [e, runReq_prompt _ _ _ _ _ _ _ _ (prompt_of_served s i hs)]; rfl⟩

/-- A request of a session that is there or can be opened, on a transport that is up (R443). -/
def State.opens (s : State) (src : Transport) : Prop :=
  s.transportUp src = true ∧ (findSession src s.zop.sessions ≠ none ∨ s.zop.sessions.length < 64)

theorem serve_down {s : State} {src : Transport} (h : s.transportUp src = false) (tag crc f act) :
    s.serve src tag crc true f act = s := by
  simp [State.serve, h]

theorem serve_full {s : State} {src : Transport} (hup : s.transportUp src = true) (hx : findSession src s.zop.sessions = none)
    (hn : 64 ≤ s.zop.sessions.length) (tag crc f act) :
    s.serve src tag crc true f act = s.transmit src f.opcode tag f.index f.sub { status := stBusy, payload := [] } := by
  simp [State.serve, hup, hx, hn]

/-- What is left of serving a request whose session is there or opened. -/
theorem serve_opens {s : State} {src : Transport} (h : s.opens src) (tag : Nat) (crc : BitVec 32) (f : ReqFrame) (act : Act) :
    s.serve src tag crc true f act =
      if crc != frameCrc f.opcode tag f.index f.sub 0 f.payload then
        ((s.arrived src).reportStatus src f stFrame).transmit src f.opcode tag f.index f.sub { status := stFrame, payload := [] }
      else match ((s.arrived src).session src).last with
      | some l =>
        if l.tag = tag && l.crc = crc.toNat && (s.arrived src).uptime ≤ l.time + 1000000000 then
          (s.arrived src).transmit src l.opcode tag f.index f.sub l.reply
        else (s.arrived src).serveNew src tag crc.toNat f act
      | none => (s.arrived src).serveNew src tag crc.toNat f act := by
  obtain ⟨hup, hroom⟩ := h
  have hfull : ((findSession src s.zop.sessions).isNone && decide (s.zop.sessions.length ≥ 64)) = false := by
    rcases hroom with hroom | hroom
    · simp [Option.isNone_iff_eq_none, hroom]
    · simp [Nat.not_le.2 hroom]
  unfold State.serve
  rw [hup, hfull, session_arrived_last]
  simp only [Bool.not_true, Bool.or_false, Bool.false_eq_true, if_false]
  rfl

theorem serve_badCrc {s : State} {src : Transport} (h : s.opens src) {tag : Nat} {crc : BitVec 32} {f : ReqFrame}
    (hcrc : crc ≠ frameCrc f.opcode tag f.index f.sub 0 f.payload) (act) :
    s.serve src tag crc true f act =
      ((s.arrived src).raise 0x7010 1 [(.u16, sessionNumber src)]).transmit src f.opcode tag f.index f.sub
        { status := stFrame, payload := [] } := by
  rw [serve_opens h, if_pos (by simpa using hcrc), State.reportStatus, if_pos rfl]

theorem serve_fresh {s : State} {q : Req} (h : s.opens q.src) {f : ReqFrame}
    (hcrc : q.crc = frameCrc f.opcode q.tag.toNat f.index f.sub 0 f.payload) (hrep : (s.arrived q.src).repeats q = false) (act) :
    s.serve q.src q.tag.toNat q.crc true f act = (s.arrived q.src).serveNew q.src q.tag.toNat q.crc.toNat f act := by
  rw [serve_opens h, if_neg (by simpa using hcrc)]
  unfold State.repeats at hrep
  split
  next l hl =>
    rw [hl] at hrep
    exact if_neg (by simpa using hrep)
  next => rfl

section Fresh
variable {s : State} {src : Transport} {tag crc : Nat} {f : ReqFrame} (hop : 1 ≤ f.opcode ∧ f.opcode ≤ 7) (hf : f.opcode ≠ opFetch)
include hop hf

theorem serveNew_listed (act : Act) :
    s.serveNew src tag crc f act =
      if (findResult tag (s.session src).results).isSome then s.respond src tag crc f { status := stTagInUse, payload := [] }
      else match s.checkObject src f with
      | some st => (s.reportStatus src f st).respond src tag crc f { status := st, payload := [] }
      | none => s.execute src tag crc f act := by
  have h0 : (decide (f.opcode = 0) || decide (f.opcode > 7)) = false := by simp; omega
  rw [State.serveNew, h0, if_neg Bool.false_ne_true, if_neg hf] <;> rfl

theorem serveNew_tagInUse (act : Act) (h : (findResult tag (s.session src).results).isSome = true) :
    s.serveNew src tag crc f act = s.respond src tag crc f { status := stTagInUse, payload := [] } := by
  rw [serveNew_listed hop hf, if_pos h]

theorem serveNew_refused (act : Act) (hn : findResult tag (s.session src).results = none) {st : Nat}
    (h : s.checkObject src f = some st) :
    s.serveNew src tag crc f act = (s.reportStatus src f st).respond src tag crc f { status := st, payload := [] } := by
  rw [serveNew_listed hop hf, hn, h]
  rfl

theorem serveNew_sixteen (act : Act) (hn : findResult tag (s.session src).results = none) (h : s.checkObject src f = none)
    (hx : f.opcode = opExecute) (h16 : 16 ≤ (s.session src).results.length) :
    s.serveNew src tag crc f act = s.respond src tag crc f { status := stBusy, payload := [] } := by
  rw [serveNew_listed hop hf, hn, h]
  show s.execute src tag crc f act = _
  rw [State.execute, if_pos (by simp [hx, h16])]

end Fresh

theorem answered_eq {i : Instr} {q : Req} {f : ReqFrame} (h : requestOf i = some (q, f)) (s : State) (r : Reply) :
    s.answered i r = s.respond q.src q.tag.toNat q.crc.toNat f r := by
  rw [State.answered, h]

/-- Settles O27: a row that is a request is put off by its session's porter, or served, and then each check of R443 answers in its turn. -/
theorem requestOrder : Obligations.RequestOrder := by
  intro i q f s hi
  refine ⟨fun hp hr => ?_, fun hserved => ?_⟩
  · have hput : (byPorters q.src && s.reloads 0) = true := by simp [hp, hr]
    obtain ⟨act, e⟩ := exec_runs hi (.inl hput)
    rw [e, runReq, if_pos hput]
  obtain ⟨act, e⟩ := exec_served hi hserved
  have hop := requestOf_opcode hi
  refine ⟨fun hdown => ?_, fun hup hx hn => ?_, fun hup hroom => ⟨fun hcrc => ?_, fun hcrc hrep hf => ?_⟩⟩
  · rw [e, serve_down hdown]
  · rw [e, serve_full hup hx hn]
    rfl
  · rw [e, serve_badCrc ⟨hup, hroom⟩ hcrc]
    rfl
  · rw [e, serve_fresh ⟨hup, hroom⟩ hcrc hrep]
    refine ⟨fun htag => ?_, fun hnone => ⟨fun st hst => ?_, fun hnone' hx h16 => ?_⟩⟩
    · rw [serveNew_tagInUse hop hf act htag, answered_eq hi]
      rfl
    · rw [serveNew_refused hop hf act hnone hst, answered_eq hi]
    · rw [serveNew_sixteen hop hf act hnone hnone' hx h16, answered_eq hi]
      rfl

end Sys2Proof.Machine
end

section
/-! SUPPORT. Mode requests: what a transition makes of the control state and its record, and each row of the table of R55 as an equation of modeAct. -/
namespace Sys2Proof.Machine

/-- An event changes no object but the count of what its severity drops. -/
theorem raiseWith_get {k : Nat} (s : State) (c v is a) (h : k < OD.logbookDroppedNote) :
    (s.raiseWith c v is a).get k = s.get k := by
  have hk : k ≠ dropKey (severityOf c) := by unfold dropKey; omega
  unfold State.raiseWith
  extract_lets t
  have ht : t.get k = s.get k := by simp [t, State.get]
  split
  · exact ht
  · exact (get_put_other t _ _ _ hk).trans ht

theorem raise_get {k : Nat} (s : State) (c v is) (h : k < OD.logbookDroppedNote) : (s.raise c v is).get k = s.get k :=
  raiseWith_get s c v is [] h

/-- What a transition makes of the control state: leaving MAINTENANCE revokes the unlock (R582). -/
theorem enterMode_ctl (s : State) (m : Mode) (cause : Nat) :
    (s.enterMode m cause).ctl =
      { (if s.ctl.mode == .maintenance && m != .maintenance then { s.ctl with unlocked := false, armed := false } else s.ctl) with
        mode := m } := by
  unfold State.enterMode
  extract_lets +onlyGivenNames old s1 s2 s3 _ s4 _ s5
  have h1 : s1.ctl = s.ctl := by
    simp only [s1]
    split
    · rfl
    · split
      · exact (stopDrill_modes ..).1
      · exact (abortDrill_modes ..).1
  clear_value s1
  have h2 : s2.ctl = if s.ctl.mode == .maintenance && m != .maintenance then { s.ctl with unlocked := false, armed := false } else s.ctl := by
    simp only [s2]
    split
    · simp [State.revokeUnlock, clearPerturbation_modes, h1]
    · exact h1
  clear_value s2
  have h5 : s5.ctl = s2.ctl := by
    simp only [s5, s4, s3]
    (repeat' split) <;> simp
  clear_value s5
  rw [← h2, ← h5]
  simp

theorem enterMode_previousMode (s : State) (m : Mode) (cause : Nat) :
    (s.enterMode m cause).get OD.modePreviousMode = s.ctl.mode.code := by
  obtain ⟨u, v, -, h⟩ := enterMode_ends s m cause
  rw [h, raise_get _ _ _ _ (by decide), get_put_other _ _ _ _ (by decide), get_put_other _ _ _ _ (by decide), get_put_same]

/-- An accepted mode request runs `modeAct` on the state in which it arrives. -/
theorem modeRequest_accepts {s : State} {q : Req} {m : BitVec 8} (h : s.accepts (.modeRequest q m) = true) :
    exec (.modeRequest q m) s = .next (match modeAct q.src m.toNat (s.arrived q.src) with
      | (t, .reply r) => t.answered (.modeRequest q m) r
      | (t, .later key) => t.goesOnFor (.modeRequest q m) key) :=
  runCmd_accepts _ q _ _ _ s rfl h

theorem modeAct_same (src : Transport) (s : State) : modeAct src s.ctl.mode.code s = ok s := if_pos rfl

/-- A mode request that changes the mode is answered OK in the state `t` that it leads to. -/
theorem modeRequest_changes {s : State} {q : Req} {m : BitVec 8} {t : State} (h : s.accepts (.modeRequest q m) = true)
    (ht : modeAct q.src m.toNat (s.arrived q.src) = ok t) :
    exec (.modeRequest q m) s = .next (t.answered (.modeRequest q m) okReply) := by
  rw [modeRequest_accepts h, ht]
  rfl

theorem modeAct_maintenance {src : Transport} {s : State} (hm : s.ctl.mode = .service) (hd : s.flush.drill = none) :
    modeAct src 7 s = ok (s.enterMode .maintenance 0x09) := by
  simp [modeAct, hm, hd, Mode.code, Mode.ofCode]

theorem modeAct_service {src : Transport} {s : State} (hm : s.ctl.mode = .maintenance) :
    modeAct src 3 s = ok (s.enterMode .service 0x09) := by
  simp [modeAct, hm, Mode.code, Mode.ofCode]

theorem modeAct_freeze {src : Transport} {s : State} (hm : s.ctl.mode = .service ∨ s.ctl.mode = .maintenance) :
    modeAct src 6 s = ok (s.enterFreeze 0x09) := by
  obtain hm | hm := hm <;> simp [modeAct, hm, Mode.code, Mode.ofCode]

theorem modeAct_save {src : Transport} {s : State}
    (hm : s.ctl.mode = .service ∨ s.ctl.mode = .maintenance ∨ s.ctl.mode = .freeze) :
    modeAct src 4 s = ok (s.startSave .requested 0x09) := by
  obtain hm | hm | hm := hm <;> simp [modeAct, hm, Mode.code, Mode.ofCode]

theorem modeAct_restore {src : Transport} {s : State} (hm : s.ctl.mode = .restore) :
    modeAct src 3 s = fail (s.raise 0x8004 0 [(.u8, 3), (.u8, 2)]) stState := by
  simp [modeAct, refuseMode, hm, Mode.code, Mode.ofCode]

/-- Settles O10: an accepted request runs `modeAct` on the state in which it arrives, and each row of the table of R55 is one equation of
`modeAct`; the facts of the transition that it makes are those of `enterMode`, `enterFreeze` and `startSave`. -/
theorem modeRequests : Obligations.ModeRequests := by
  intro s q m h
  have hmode : (s.arrived q.src).ctl.mode = s.ctl.mode := by rw [arrived_ctl]
  have hdrill : (s.arrived q.src).flush.drill = s.flush.drill := by rw [arrived_flush]
  refine ⟨fun hm => ?_, fun hs hm hd => ?_, fun hs hm => ?_, fun hs hm => ?_, fun hs hm => ?_, fun hs hm => ?_⟩
  · refine modeRequest_changes h ?_
    rw [hm, ← hmode]
    exact modeAct_same ..
  · subst hm
    refine ⟨_, modeRequest_changes h (modeAct_maintenance (hmode.trans hs) (hdrill.trans hd)), ?_⟩
    obtain ⟨hnew, hcause⟩ := enterMode_mode (s.arrived q.src) .maintenance 0x09
    rw [answered_ctl, answered_get, answered_get, enterMode_previousMode, hmode, hs]
    exact ⟨hnew, hcause, rfl⟩
  · subst hm
    refine ⟨_, modeRequest_changes h (modeAct_service (hmode.trans hs)), ?_⟩
    obtain ⟨hnew, hcause⟩ := enterMode_mode (s.arrived q.src) .service 0x09
    rw [answered_ctl, answered_get, hnew, hcause, enterMode_ctl, hmode, hs]
    exact ⟨rfl, rfl, rfl, rfl⟩
  · subst hm
    obtain ⟨hnew, -⟩ := enterFreeze_mode (s.arrived q.src) 0x09
    refine ⟨_, modeRequest_changes h (modeAct_freeze (by rwa [hmode])), ?_⟩
    rw [answered_ctl, hnew]
  · subst hm
    obtain ⟨hnew, hcause, x, hrun, hkind, -⟩ := startSave_run (s.arrived q.src) .requested 0x09
    refine ⟨_, x, modeRequest_changes h (modeAct_save (by rwa [hmode])), ?_⟩
    rw [answered_ctl, answered_get, answered_saves]
    exact ⟨hnew, hcause, hrun, hkind⟩
  · subst hm
    rw [modeRequest_accepts h]
    show Host.Outcome.next (match modeAct q.src 3 (s.arrived q.src) with
      | (t, .reply r) => t.answered (.modeRequest q 3) r
      | (t, .later key) => t.goesOnFor (.modeRequest q 3) key) = _
    rw [modeAct_restore (hmode.trans hs)]
    rfl

end Sys2Proof.Machine
end

section
/-! SUPPORT. Settles O14. The links of the host ports: what a link that goes down or trains writes, and what each command of a port's link leaves. -/
namespace Sys2Proof.Machine

/-! ## What events and counters do to objects -/

theorem severityOf_le (c : Nat) : severityOf c ≤ 3 := by
  have hall : ∀ l ∈ [events1, events2, events3, events4, events5, events6, events7, events8], ∀ r ∈ l, r.severity ≤ 3 := by
    decide
  have hrow : ∀ r ∈ eventsOf c, r.severity ≤ 3 := by
    unfold eventsOf
    split
    case h_9 => simp
    all_goals exact hall _ (by simp)
  unfold severityOf
  split
  next r h => exact hrow r (List.mem_of_find?_eq_some h)
  next => exact Nat.zero_le _

/-- A key that is none of the four counters of dropped log records. -/
def Undropped (k : Nat) : Prop := ¬ (OD.logbookDroppedNote ≤ k ∧ k ≤ OD.logbookDroppedNote + 3)

theorem Undropped.ne_dropKey {k : Nat} (h : Undropped k) (c : Nat) : k ≠ dropKey (severityOf c) := by
  have := severityOf_le c
  unfold Undropped at h
  unfold dropKey
  omega

theorem raise_get_undropped {k : Nat} (s : State) (c v is) (h : Undropped k) : (s.raise c v is).get k = s.get k := by
  unfold State.raise State.raiseWith
  extract_lets t
  have ht : t.get k = s.get k := by simp [t, State.get]
  split
  · exact ht
  · exact (get_put_other t _ _ _ (h.ne_dropKey c)).trans ht

theorem bump_get (s : State) (k n j : Nat) :
    (s.bump k n).get j = if j = k then (s.get k + n) % 2 ^ bitsOfKey k else s.get j := get_put ..

theorem putFlag_get (s : State) (k : Nat) (b : Bool) (j : Nat) :
    (s.putFlag k b).get j = if j = k then (if b then 1 else 0) else s.get j := get_put ..


theorem bitsOfKey_hpPerstCount (p : Port) : bitsOfKey (OD.hpPerstCount p.val) = 32 := by
  fin_cases p <;> decide

theorem bitsOfKey_hpSurpriseDowns (p : Port) : bitsOfKey (OD.hpSurpriseDowns p.val) = 32 := by
  fin_cases p <;> decide

/-- The objects of a port are none of the counters of dropped records. -/
theorem undropped_hp {p i : Nat} (hp : p < 2) (hi : i < 256) : Undropped ((0x2000 + 256 * p) * 256 + i) := by
  unfold Undropped
  simp only [OD.logbookDroppedNote]
  omega

/-! ## The port records -/

theorem setHostPort_hostPort (s : State) (p q : Nat) (h : HostPort) :
    (s.setHostPort p h).hostPort q = if p = 0 ↔ q = 0 then h else s.hostPort q := by
  unfold State.setHostPort State.hostPort
  by_cases hp : p = 0 <;> by_cases hq : q = 0 <;> simp [hp, hq]

@[simp] theorem setHostPort_get (s : State) (p h k) : (s.setHostPort p h).get k = s.get k := by
  unfold State.setHostPort
  split <;> rfl

theorem setHostPort_frame (s : State) (p h) :
    s.setHostPort p h = { s with host := (s.setHostPort p h).host } := by
  unfold State.setHostPort
  split <;> rfl

@[simp] theorem setHostPort_decoders (s : State) (p h) : (s.setHostPort p h).host.decoders = s.host.decoders := by
  unfold State.setHostPort
  split <;> rfl

theorem hostPort_of_host {s t : State} (h : t.host = s.host) (p : Nat) : t.hostPort p = s.hostPort p := by
  unfold State.hostPort
  rw [h]

@[simp] theorem put_hostPort (s : State) (k v p) : (s.put k v).hostPort p = s.hostPort p := rfl
@[simp] theorem putFlag_hostPort (s : State) (k b p) : (s.putFlag k b).hostPort p = s.hostPort p := rfl
@[simp] theorem raise_hostPort (s : State) (c v is p) : (s.raise c v is).hostPort p = s.hostPort p :=
  hostPort_of_host (by simp) p

/-! ## What the commands of a port may touch -/

/-- A relation that each step of a fold keeps to holds across the fold. -/
theorem foldl_keeps {R : State → State → Prop} (hrefl : ∀ s, R s s) (htrans : ∀ s t u, R s t → R t u → R s u) {α : Type}
    (f : State → α → State) (h : ∀ s a, R s (f s a)) (l : List α) (s : State) : R s (l.foldl f s) := by
  induction l generalizing s with
  | nil => exact hrefl s
  | cons a l ih => exact htrans _ _ _ (h s a) (ih _)

/-- Nothing differs but what a link that goes down and trains again may touch. -/
def PortFrame (s t : State) : Prop :=
  t = { s with od := t.od, host := t.host, work := t.work, tickets := t.tickets, zop := t.zop, log := t.log, perf := t.perf }

theorem PortFrame.trans {s t u : State} (h : PortFrame s t) (h' : PortFrame t u) : PortFrame s u := by
  unfold PortFrame at *
  refine h'.trans ?_
  rw [h]

/-- Nothing differs but objects, the Host region's state, the event queue and the counters of events. -/
def HostFrame (s t : State) : Prop :=
  t = { s with od := t.od, host := t.host, log := t.log, perf := t.perf }

theorem HostFrame.trans {s t u : State} (h : HostFrame s t) (h' : HostFrame t u) : HostFrame s u := by
  unfold HostFrame at *
  refine h'.trans ?_
  rw [h]

theorem HostFrame.port {s t : State} (h : HostFrame s t) : PortFrame s t := by
  unfold PortFrame HostFrame at *
  refine h.trans ?_
  rw [h]

@[simp] theorem put_hostFrame (s : State) (k v) : HostFrame s (s.put k v) := rfl
@[simp] theorem bump_hostFrame (s : State) (k n) : HostFrame s (s.bump k n) := rfl
@[simp] theorem raise_hostFrame (s : State) (c v is) : HostFrame s (s.raise c v is) := by
  obtain ⟨l, p, o, h⟩ := raiseWith_frame s c v is []
  unfold State.raise
  rw [h]
  rfl

@[simp] theorem setHostPort_hostFrame (s : State) (p h) : HostFrame s (s.setHostPort p h) := by
  unfold State.setHostPort
  split <;> rfl

theorem when_hostFrame {s : State} {f : State → State} (b : Bool) (h : HostFrame s (f s)) : HostFrame s (s.when b f) := by
  cases b
  · rfl
  · exact h

/-! ## A link that goes down -/

/-- The held accesses of a port whose link goes down: reads are dropped, writes complete unseen. -/
theorem dropReads_waiters (s : State) (p : Nat) : (s.dropReads p).work.waiters =
    (s.work.waiters.filter (fun w => w.data.isSome || w.ld / 16 ≠ p)).map
      (fun w => if w.ld / 16 = p then { w with quiet := true } else w) := rfl

theorem dropReads_portFrame (s : State) (p : Nat) : PortFrame s (s.dropReads p) := rfl
theorem dropReads_get (s : State) (p k : Nat) : (s.dropReads p).get k = s.get k := rfl
theorem linkDown_portFrame (s : State) (p : Nat) : PortFrame s (s.linkDown p) := by
  refine (dropReads_portFrame s p).trans (HostFrame.port ?_)
  unfold State.linkDown
  extract_lets a b
  exact ((put_hostFrame ..).trans ((put_hostFrame ..).trans (put_hostFrame ..))).trans
    ((setHostPort_hostFrame ..).trans (put_hostFrame ..))

theorem linkDown_get (s : State) (p k : Nat) : (s.linkDown p).get k =
    if k = OD.hpMemAdmitted p ∨ k = OD.hpWidth p ∨ k = OD.hpRate p ∨ k = OD.hpLinkState p then 0 else s.get k := by
  unfold State.linkDown
  extract_lets a b
  rw [putFlag_get, setHostPort_get, get_put, get_put, get_put, dropReads_get]
  by_cases h1 : k = OD.hpMemAdmitted p <;> by_cases h2 : k = OD.hpWidth p <;> by_cases h3 : k = OD.hpRate p <;> simp [h1, h2, h3]

theorem linkDown_hostPort (s : State) (p q : Nat) : (s.linkDown p).hostPort q =
    if p = 0 ↔ q = 0 then { s.hostPort p with training := false, unverified := [], gpf := false } else s.hostPort q :=
  setHostPort_hostPort ..

theorem linkDown_decoders (s : State) (p : Nat) : (s.linkDown p).host.decoders = s.host.decoders :=
  setHostPort_decoders ..

theorem linkDown_waiters (s : State) (p : Nat) : (s.linkDown p).work.waiters = (s.dropReads p).work.waiters := by
  unfold State.linkDown State.setHostPort
  dsimp only
  split <;> rfl

theorem resetCxl_portFrame (s : State) (p : Nat) : PortFrame s (s.resetCxl p) := by
  unfold State.resetCxl State.setHostPort
  dsimp only
  split <;> rfl

theorem resetCxl_get (s : State) (p k : Nat) : (s.resetCxl p).get k = if k = OD.hpIdeState p then 0 else s.get k := by
  refine (get_put ..).trans ?_
  congr 1
  exact setHostPort_get ..

theorem resetCxl_hostPort (s : State) (p q : Nat) : (s.resetCxl p).hostPort q =
    if p = 0 ↔ q = 0 then { s.hostPort p with keyMem := none, keyIo := none, skid := false } else s.hostPort q :=
  setHostPort_hostPort ..

theorem resetCxl_decoders (s : State) (p : Nat) :
    (s.resetCxl p).host.decoders = s.host.decoders.filter (fun e => portOfLd (e.1 / 4) ≠ p) :=
  setHostPort_decoders ..

theorem resetCxl_work (s : State) (p : Nat) : (s.resetCxl p).work = s.work := by
  unfold State.resetCxl State.setHostPort
  dsimp only
  split <;> rfl


/-! ## A link that trains -/

theorem startTraining_hostFrame (s : State) (p : Nat) : HostFrame s (s.startTraining p) := by
  unfold State.startTraining
  exact (setHostPort_hostFrame ..).trans ((put_hostFrame ..).trans ((put_hostFrame ..).trans (put_hostFrame ..)))

theorem startTraining_get (s : State) (p k : Nat) : (s.startTraining p).get k =
    if k = OD.hpWidth p ∨ k = OD.hpRate p then 0 else if k = OD.hpLinkState p then 1 else s.get k := by
  unfold State.startTraining
  extract_lets h a
  rw [get_put, get_put, get_put, setHostPort_get]
  by_cases h1 : k = OD.hpWidth p <;> by_cases h2 : k = OD.hpRate p <;> simp [h1, h2]

theorem startTraining_hostPort (s : State) (p q : Nat) : (s.startTraining p).hostPort q =
    if p = 0 ↔ q = 0 then { s.hostPort p with training := true, maxWidth := s.get (OD.hpMaxWidth p), reqCredits := s.get (OD.hpReqCredits p)
                                              rwdCredits := s.get (OD.hpRwDCredits p), withheld := 0, reqHeld := 0 }
    else s.hostPort q := setHostPort_hostPort ..

theorem train_of_mayTrain {s : State} {p : Nat} (h : s.mayTrain p = true) : s.train p = s.startTraining p := by
  simp [State.train, State.when, h]

theorem train_of_not_mayTrain {s : State} {p : Nat} (h : s.mayTrain p = false) : s.train p = s := by
  simp [State.train, State.when, h]

theorem train_hostFrame (s : State) (p : Nat) : HostFrame s (s.train p) := when_hostFrame _ (startTraining_hostFrame ..)

/-- A port that starts to train writes its link state, rate and width alone. -/
theorem train_get_other {s : State} {p k : Nat} (h1 : k ≠ OD.hpLinkState p) (h2 : k ≠ OD.hpRate p) (h3 : k ≠ OD.hpWidth p) :
    (s.train p).get k = s.get k := by
  cases h : s.mayTrain p
  · rw [train_of_not_mayTrain h]
  · rw [train_of_mayTrain h, startTraining_get]
    simp [h1, h2, h3]

theorem train_linkState (s : State) (p : Nat) :
    (s.train p).get (OD.hpLinkState p) = if s.mayTrain p then 1 else s.get (OD.hpLinkState p) := by
  cases h : s.mayTrain p
  · rw [train_of_not_mayTrain h]; rfl
  · rw [train_of_mayTrain h, startTraining_get]
    simp [OD.hpLinkState, OD.hpWidth, OD.hpRate]

/-- Training leaves the port's IDE keys alone. -/
theorem train_keys (s : State) (p : Nat) :
    ((s.train p).hostPort p).keyMem = (s.hostPort p).keyMem ∧ ((s.train p).hostPort p).keyIo = (s.hostPort p).keyIo := by
  cases h : s.mayTrain p
  · rw [train_of_not_mayTrain h]; exact ⟨rfl, rfl⟩
  · rw [train_of_mayTrain h, startTraining_hostPort]; simp

theorem setPerst_perstHigh (s : State) (p b) : (s.setPerst p b).perstHigh p = b := by
  unfold State.setPerst State.perstHigh
  by_cases hp : p = 0 <;> simp [hp]

theorem setPerst_frame (s : State) (p b) : s.setPerst p b = { s with pins := (s.setPerst p b).pins } := by
  unfold State.setPerst
  split <;> rfl

theorem PortFrame.of_setPerst {s t : State} {p : Nat} {b : Bool} (h : PortFrame (s.setPerst p b) t) :
    t = { s with pins := t.pins, od := t.od, host := t.host, work := t.work, tickets := t.tickets, zop := t.zop,
                 log := t.log, perf := t.perf } := by
  have hp : t.pins = (s.setPerst p b).pins := by rw [h]
  rw [hp]
  refine Eq.trans h ?_
  unfold State.setPerst
  split <;> rfl

@[simp] theorem setPerst_get (s : State) (p b k) : (s.setPerst p b).get k = s.get k := by
  rw [setPerst_frame]
  rfl

@[simp] theorem setPerst_hostPort (s : State) (p b q) : (s.setPerst p b).hostPort q = s.hostPort q := by
  rw [setPerst_frame]
  rfl

@[simp] theorem setPerst_work (s : State) (p b) : (s.setPerst p b).work = s.work := by rw [setPerst_frame]
@[simp] theorem setPerst_host (s : State) (p b) : (s.setPerst p b).host = s.host := by rw [setPerst_frame]
@[simp] theorem setPerst_boot (s : State) (p b) : (s.setPerst p b).boot = s.boot := by rw [setPerst_frame]

/-! ## PERST_N (R65, R69) -/

/-- A link goes down with the port's CXL state: what PERST_N, a surprise and a failed MAC share. -/
def State.dropLink (s : State) (p : Nat) : State := (s.linkDown p).resetCxl p

theorem dropLink_portFrame (s : State) (p : Nat) : PortFrame s (s.dropLink p) :=
  (linkDown_portFrame ..).trans (resetCxl_portFrame ..)

theorem dropLink_get (s : State) (p k : Nat) : (s.dropLink p).get k =
    if k = OD.hpIdeState p ∨ k = OD.hpMemAdmitted p ∨ k = OD.hpWidth p ∨ k = OD.hpRate p ∨ k = OD.hpLinkState p then 0
    else s.get k := by
  unfold State.dropLink
  rw [resetCxl_get, linkDown_get]
  by_cases h : k = OD.hpIdeState p <;> simp [h]

theorem dropLink_hostPort_same (s : State) (p : Nat) : (s.dropLink p).hostPort p =
    { s.hostPort p with training := false, unverified := [], gpf := false, keyMem := none, keyIo := none, skid := false } := by
  simp [State.dropLink, resetCxl_hostPort, linkDown_hostPort]

theorem dropLink_hostPort_other (s : State) {p q : Nat} (h : ¬ (p = 0 ↔ q = 0)) :
    (s.dropLink p).hostPort q = s.hostPort q := by
  simp [State.dropLink, resetCxl_hostPort, linkDown_hostPort, h]

theorem dropLink_decoders (s : State) (p : Nat) :
    (s.dropLink p).host.decoders = s.host.decoders.filter (fun e => portOfLd (e.1 / 4) ≠ p) :=
  (resetCxl_decoders ..).trans (by rw [linkDown_decoders])

theorem dropLink_work (s : State) (p : Nat) : (s.dropLink p).work.waiters = (s.dropReads p).work.waiters :=
  (congrArg _ (resetCxl_work ..)).trans (linkDown_waiters ..)

/-- Accesses of other ports stay held, and held writes of the port complete unseen. -/
theorem dropReads_keeps {s : State} {p : Nat} {w : Waiter} (hw : w ∈ s.work.waiters) :
    (w.ld / 16 ≠ p → w ∈ (s.dropReads p).work.waiters)
    ∧ (w.ld / 16 = p → w.data.isSome → { w with quiet := true } ∈ (s.dropReads p).work.waiters) := by
  simp only [dropReads_waiters, List.mem_map, List.mem_filter]
  exact ⟨fun h => ⟨w, ⟨hw, by simp [h]⟩, if_neg h⟩, fun h hd => ⟨w, ⟨hw, by simp [hd]⟩, if_pos h⟩⟩

/-! ## PERST_N (R65, R69) -/

/-- PERST_N takes the link down: it counts, and reports a link that was up. -/
def State.perstDown (s : State) (p : Nat) : State :=
  ((s.bump (OD.hpPerstCount p) 1).dropLink p).when (2 ≤ s.get (OD.hpLinkState p)) (·.raise 0x1003 0 [(.port, p)])

theorem perstNAssert_down {s : State} (p : Port) (h : s.ctl.mode = .restore ∨ s.ctl.mode = .service ∨ s.ctl.mode = .freeze
    ∨ s.ctl.mode = .maintenance ∨ s.ctl.mode = .boot ∧ s.reachedStep 1 = true) :
    exec (.perstNAssert p) s = .next ((s.setPerst p.val false).perstDown p.val) := by
  have hb : (s.setPerst p.val false).reachedStep 1 = s.reachedStep 1 := by simp [State.reachedStep]
  change execPerstNAssert p s = _
  unfold execPerstNAssert State.mainDieRuns
  obtain h | h | h | h | ⟨h, h1⟩ := h
  all_goals simp [h, hb, State.perstDown, State.dropLink]
  exact fun hn => absurd h1 (by simp [hn])

theorem perstDown_portFrame (s : State) (p : Nat) : PortFrame s (s.perstDown p) :=
  (HostFrame.port (bump_hostFrame ..)).trans
    ((dropLink_portFrame ..).trans (HostFrame.port (when_hostFrame _ (raise_hostFrame ..))))

theorem when_raise_get {k : Nat} (s : State) (b c v is) (h : Undropped k) :
    (s.when b (·.raise c v is)).get k = s.get k := by
  cases b
  · rfl
  · exact raise_get_undropped _ _ _ _ h

theorem when_raise_host (s : State) (b c v is) : (s.when b (·.raise c v is)).host = s.host := by
  cases b
  · rfl
  · exact raise_host ..

theorem when_raise_work (s : State) (b c v is) : (s.when b (·.raise c v is)).work = s.work := by
  cases b
  · rfl
  · exact raise_work ..

theorem perstDown_get {k : Nat} (s : State) (p : Nat) (h : Undropped k) : (s.perstDown p).get k =
    if k = OD.hpIdeState p ∨ k = OD.hpMemAdmitted p ∨ k = OD.hpWidth p ∨ k = OD.hpRate p ∨ k = OD.hpLinkState p then 0
    else if k = OD.hpPerstCount p then (s.get k + 1) % 2 ^ bitsOfKey k else s.get k := by
  unfold State.perstDown
  rw [when_raise_get _ _ _ _ _ h, dropLink_get, bump_get]
  by_cases hk : k = OD.hpPerstCount p <;> simp [hk]

theorem perstDown_hostPort_same (s : State) (p : Nat) : (s.perstDown p).hostPort p =
    { s.hostPort p with training := false, unverified := [], gpf := false, keyMem := none, keyIo := none, skid := false } :=
  (hostPort_of_host (when_raise_host ..) p).trans (dropLink_hostPort_same ..)

theorem perstDown_hostPort_other (s : State) {p q : Nat} (h : ¬ (p = 0 ↔ q = 0)) :
    (s.perstDown p).hostPort q = s.hostPort q :=
  (hostPort_of_host (when_raise_host ..) q).trans (dropLink_hostPort_other _ h)

theorem perstDown_decoders (s : State) (p : Nat) :
    (s.perstDown p).host.decoders = s.host.decoders.filter (fun e => portOfLd (e.1 / 4) ≠ p) := by
  unfold State.perstDown
  rw [when_raise_host, dropLink_decoders]
  rfl

theorem perstDown_waiters (s : State) (p : Nat) : (s.perstDown p).work.waiters = (s.dropReads p).work.waiters := by
  unfold State.perstDown
  rw [when_raise_work, dropLink_work]
  rfl

theorem perst_linkState (s : State) (p : Port) : (s.perstDown p.val).get (OD.hpLinkState p.val) = 0 := by
  rw [perstDown_get (k := OD.hpLinkState p.val) _ _ (undropped_hp p.isLt (by decide))]
  simp

theorem perst_count (s : State) (p : Port) :
    (s.perstDown p.val).get (OD.hpPerstCount p.val) = (s.get (OD.hpPerstCount p.val) + 1) % 2 ^ 32 := by
  rw [perstDown_get (k := OD.hpPerstCount p.val) _ _ (undropped_hp p.isLt (by decide)), bitsOfKey_hpPerstCount]
  simp [OD.hpPerstCount, OD.hpIdeState, OD.hpMemAdmitted, OD.hpWidth, OD.hpRate, OD.hpLinkState]

theorem other_port (p : Port) : ¬ (p.val = 0 ↔ 1 - p.val = 0) := by
  have := p.isLt
  omega

theorem perstNAssert_running (s : State) (p : Port)
    (h : s.ctl.mode = .restore ∨ s.ctl.mode = .service ∨ s.ctl.mode = .freeze ∨ s.ctl.mode = .maintenance) :
    ∃ t, exec (.perstNAssert p) s = .next t ∧ t.perstHigh p.val = false ∧ t.get (OD.hpLinkState p.val) = 0
        ∧ t.get (OD.hpRate p.val) = 0 ∧ t.get (OD.hpWidth p.val) = 0 ∧ t.get (OD.hpMemAdmitted p.val) = 0
        ∧ t.get (OD.hpIdeState p.val) = 0 ∧ t.get (OD.hpPerstCount p.val) = (s.get (OD.hpPerstCount p.val) + 1) % 2 ^ 32
        ∧ (t.hostPort p.val).keyMem = none ∧ (t.hostPort p.val).keyIo = none ∧ t.hostPort (1 - p.val) = s.hostPort (1 - p.val)
        ∧ t.host.decoders = s.host.decoders.filter (fun e => portOfLd (e.1 / 4) ≠ p.val)
        ∧ (∀ w ∈ s.work.waiters, w.ld / 16 ≠ p.val → w ∈ t.work.waiters)
        ∧ (∀ w ∈ s.work.waiters, w.ld / 16 = p.val → w.data.isSome → { w with quiet := true } ∈ t.work.waiters)
        ∧ (t.hostPort p.val).unverified = []
        ∧ t.objectsAs s [OD.hpLinkState p.val, OD.hpRate p.val, OD.hpWidth p.val, OD.hpMemAdmitted p.val, OD.hpIdeState p.val,
            OD.hpPerstCount p.val, OD.qosPanicCountHp0, OD.qosPanicCountHp1]
        ∧ t = { s with pins := t.pins, od := t.od, host := t.host, work := t.work, tickets := t.tickets, zop := t.zop,
                       log := t.log, perf := t.perf } := by
  refine ⟨_, perstNAssert_down p (by tauto), ?_⟩
  have hframe : PortFrame (s.setPerst p.val false) ((s.setPerst p.val false).perstDown p.val) := perstDown_portFrame ..
  have hzero : ∀ k, Undropped k → (k = OD.hpIdeState p.val ∨ k = OD.hpMemAdmitted p.val ∨ k = OD.hpWidth p.val ∨ k = OD.hpRate p.val
      ∨ k = OD.hpLinkState p.val) → ((s.setPerst p.val false).perstDown p.val).get k = 0 :=
    fun k hk h => (perstDown_get _ _ hk).trans (if_pos h)
  have hund : ∀ i < 256, Undropped ((0x2000 + 256 * p.val) * 256 + i) := fun i hi => undropped_hp p.isLt hi
  have hsame := perstDown_hostPort_same (s.setPerst p.val false) p.val
  refine ⟨?_, hzero _ (hund 1 (by decide)) (by simp), hzero _ (hund 2 (by decide)) (by simp), hzero _ (hund 3 (by decide)) (by simp),
    hzero _ (hund 12 (by decide)) (by simp), hzero _ (hund 9 (by decide)) (by simp), ?_, by rw [hsame], by rw [hsame], ?_, ?_, ?_, ?_,
    by rw [hsame], ?_, ?_⟩
  · rw [hframe]
    exact setPerst_perstHigh ..
  · rw [perst_count, setPerst_get]
  · rw [perstDown_hostPort_other _ (other_port p), setPerst_hostPort]
  · rw [perstDown_decoders, setPerst_host]
  · intro w hw
    rw [perstDown_waiters]
    exact (dropReads_keeps (by rwa [setPerst_work])).1
  · intro w hw
    rw [perstDown_waiters]
    exact (dropReads_keeps (by rwa [setPerst_work])).2
  · intro k hk hd
    simp only [List.mem_cons, not_or] at hk
    rw [perstDown_get _ _ hd, setPerst_get]
    simp [hk]
  · exact hframe.of_setPerst

theorem perstNAssert_save (s : State) (p : Port) (h : s.ctl.mode = .save) : exec (.perstNAssert p) s
    = .next (((s.setPerst p.val false).bump (OD.hpPerstCount p.val) 1).raise 0x8003 0 [(.port, p.val)]) := by
  change execPerstNAssert p s = _
  simp [execPerstNAssert, h]

theorem perstNAssert_boot (s : State) (p : Port) (h : s.ctl.mode = .boot) (h1 : s.reachedStep 1 = true) :
    ∃ t, exec (.perstNAssert p) s = .next t ∧ t.perstHigh p.val = false
      ∧ t.get (OD.hpLinkState p.val) = 0 ∧ t.get (OD.hpPerstCount p.val) = (s.get (OD.hpPerstCount p.val) + 1) % 2 ^ 32
      ∧ (2 ≤ s.get (OD.hpLinkState p.val) → ∃ u : State, t = u.raise 0x1003 0 [(.port, p)]) := by
  refine ⟨_, perstNAssert_down p (by tauto), ?_, perst_linkState .., ?_,
    fun hup => ⟨((s.setPerst p.val false).bump (OD.hpPerstCount p.val) 1).dropLink p.val, ?_⟩⟩
  · rw [perstDown_portFrame]
    exact setPerst_perstHigh ..
  · rw [perst_count, setPerst_get]
  · unfold State.perstDown State.when
    rw [setPerst_get, decide_eq_true hup, if_pos rfl]

theorem perstNAssert_unpowered (s : State) (p : Port) (h : s.ctl.mode = .off ∨ s.ctl.mode = .vault) :
    exec (.perstNAssert p) s = .next (s.setPerst p.val false) := by
  change execPerstNAssert p s = _
  obtain h | h := h <;> simp [execPerstNAssert, h]

theorem perstNDeassert_trains (s : State) (p : Port) :
    ∃ t, exec (.perstNDeassert p) s = .next t ∧ t.perstHigh p.val = true
      ∧ ((s.setPerst p.val true).mayTrain p.val = true → t.get (OD.hpLinkState p.val) = 1 ∧ (t.hostPort p.val).training = true
          ∧ (t.hostPort p.val).maxWidth = s.get (OD.hpMaxWidth p.val))
      ∧ ((s.setPerst p.val true).mayTrain p.val = false → t = s.setPerst p.val true)
      ∧ t = { s with pins := t.pins, od := t.od, host := t.host } := by
  refine ⟨(s.setPerst p.val true).train p.val, rfl, ?_, fun h => ⟨?_, ?_, ?_⟩, train_of_not_mayTrain, ?_⟩
  · rw [(train_hostFrame ..).port]
    exact setPerst_perstHigh ..
  · rw [train_linkState, if_pos h]
  · rw [train_of_mayTrain h, startTraining_hostPort]
    simp
  · rw [train_of_mayTrain h, startTraining_hostPort]
    simp
  · cases h : (s.setPerst p.val true).mayTrain p.val
    · rw [train_of_not_mayTrain h, setPerst_frame]
    · rw [train_of_mayTrain h]
      unfold State.startTraining State.setPerst State.setHostPort
      fin_cases p <;> rfl

/-! ## LINK_UP (R76, R79) -/

theorem openPort_hostFrame (s : State) (p : Nat) : HostFrame s (s.openPort p) := by
  unfold State.openPort
  dsimp only
  split
  · rfl
  · split
    · exact (put_hostFrame ..).trans (put_hostFrame ..)
    · exact put_hostFrame ..

/-- A link that is up without CXL.mem takes it where it is wide enough and no fence holds it. -/
theorem openPort_admits {s : State} {p : Nat} (hl : s.get (OD.hpLinkState p) = 2) (hw : 8 ≤ s.get (OD.hpWidth p))
    (hf : s.get (OD.hpFenceCause p) = 0) :
    s.openPort p = (s.putFlag (OD.hpMemAdmitted p) true).put (OD.hpLinkState p) 3 := by
  have hl' : (s.putFlag (OD.hpMemAdmitted p) true).get (OD.hpLinkState p) = 2 := by
    rw [putFlag_get, if_neg (by simp [OD.hpLinkState, OD.hpMemAdmitted]), hl]
  have hw' : (s.putFlag (OD.hpMemAdmitted p) true).get (OD.hpWidth p) = s.get (OD.hpWidth p) := by
    rw [putFlag_get, if_neg (by simp [OD.hpWidth, OD.hpMemAdmitted])]
  unfold State.openPort
  simp [hl, hl', hw', hf, hw]

/-- What LINK_UP records of a link that has trained, before it admits CXL.mem. -/
def State.linked (s : State) (n rate width flit : Nat) (bound : Option (BitVec 16)) : State :=
  let s := s.setHostPort n { s.hostPort n with training := false, bound := bound.getD 0 }
  let s := ((s.put (OD.hpRate n) rate).put (OD.hpWidth n) width).put (OD.hpFlitMode n) flit
  let s := s.put (OD.hpTopology n) (if bound.isSome then 1 else 0)
  let s := s.put (OD.hpLinkState n) (if s.get (OD.hpFenceCause n) = 0 then 2 else 4)
  s.raise 0x1001 rate [(.port, n), (.u8, width), (.u8, flit)]

theorem linked_hostFrame (s : State) (n rate width flit : Nat) (bound) : HostFrame s (s.linked n rate width flit bound) := by
  unfold State.linked
  exact (setHostPort_hostFrame ..).trans ((((put_hostFrame ..).trans ((put_hostFrame ..).trans (put_hostFrame ..))).trans
    ((put_hostFrame ..).trans (put_hostFrame ..))).trans (raise_hostFrame ..))

theorem linked_get {k : Nat} (s : State) (n rate width flit : Nat) (bound : Option (BitVec 16)) (h : Undropped k) :
    (s.linked n rate width flit bound).get k =
      if k = OD.hpLinkState n then (if s.get (OD.hpFenceCause n) = 0 then 2 else 4)
      else if k = OD.hpTopology n then (if bound.isSome then 1 else 0)
      else if k = OD.hpFlitMode n then flit else if k = OD.hpWidth n then width else if k = OD.hpRate n then rate else s.get k := by
  unfold State.linked
  extract_lets a b c d
  have hfence : d.get (OD.hpFenceCause n) = s.get (OD.hpFenceCause n) := by
    simp [d, c, b, a, get_put, OD.hpFenceCause, OD.hpTopology, OD.hpFlitMode, OD.hpWidth, OD.hpRate]
  rw [raise_get_undropped _ _ _ _ h, get_put, hfence]
  simp only [d, c, b, a, get_put, setHostPort_get]

theorem linked_hostPort (s : State) (n rate width flit : Nat) (bound : Option (BitVec 16)) :
    (s.linked n rate width flit bound).hostPort n = { s.hostPort n with training := false, bound := bound.getD 0 } := by
  unfold State.linked
  simp [setHostPort_hostPort]

theorem memAdmission_of_hostFrame {s t : State} (h : HostFrame s t) : t.memAdmission = s.memAdmission := by
  rw [h]
  rfl

section
variable {s : State} {p : Port} {rate width : Nat} {flit : Fin 3} {bound : Option (BitVec 16)}
  (hl : s.get (OD.hpLinkState p.val) = 1) (ht : trainable (s.hostPort p.val).maxWidth rate width flit.val = true)
include hl ht

theorem linkUp_narrow (hw : width < 8) : exec (.linkUp p rate width flit bound) s =
    .next (((s.linked p.val rate width flit.val bound).putFlag (OD.hpMemAdmitted p.val) false).raise 0x1010 0 [(.port, p.val)]) := by
  change execLinkUp p rate width flit bound s = _
  unfold execLinkUp
  simp only [hl, ht]
  exact if_pos hw

theorem linkUp_wide (hw : ¬ width < 8) : exec (.linkUp p rate width flit bound) s =
    .next (let u := (s.linked p.val rate width flit.val bound).when (rate < 64) (·.raise 0x1011 0 [(.port, p.val)])
      u.when (u.memAdmission && u.get (OD.hpFenceCause p.val) = 0) (·.openPort p.val)) := by
  change execLinkUp p rate width flit bound s = _
  unfold execLinkUp
  simp only [hl, ht]
  exact if_neg hw

/-- What LINK_UP leaves: the trained link in its objects, and CXL.mem where it is wide enough, admitted and not fenced. -/
theorem linkUp_get : ∃ t, exec (.linkUp p rate width flit bound) s = .next t ∧ HostFrame s t
    ∧ t.hostPort p.val = { s.hostPort p.val with training := false, bound := bound.getD 0 }
    ∧ (width < 8 → t.get (OD.hpMemAdmitted p.val) = 0)
    ∧ (t.get (OD.hpLinkState p.val) = if s.get (OD.hpFenceCause p.val) ≠ 0 then 4
              else if 8 ≤ width ∧ s.memAdmission = true then 3 else 2)
    ∧ ∀ k, Undropped k → k ≠ OD.hpMemAdmitted p.val → k ≠ OD.hpLinkState p.val →
        t.get k = (s.linked p.val rate width flit.val bound).get k := by
  have hul : Undropped (OD.hpLinkState p.val) := undropped_hp p.isLt (by decide)
  have hum : Undropped (OD.hpMemAdmitted p.val) := undropped_hp p.isLt (by decide)
  have huw : Undropped (OD.hpWidth p.val) := undropped_hp p.isLt (by decide)
  have huf : Undropped (OD.hpFenceCause p.val) := undropped_hp p.isLt (by decide)
  have hml : OD.hpLinkState p.val ≠ OD.hpMemAdmitted p.val := by simp [OD.hpLinkState, OD.hpMemAdmitted]
  by_cases hw : width < 8
  · refine ⟨_, linkUp_narrow hl ht hw, ?_, ?_, fun _ => ?_, ?_, fun k hk hm _ => ?_⟩
    · exact (linked_hostFrame ..).trans ((put_hostFrame ..).trans (raise_hostFrame ..))
    · rw [raise_hostPort, putFlag_hostPort, linked_hostPort]
    · rw [raise_get_undropped _ _ _ _ hum, putFlag_get]
      simp
    · rw [raise_get_undropped _ _ _ _ hul, putFlag_get, if_neg hml, linked_get _ _ _ _ _ _ hul, if_pos rfl]
      simp [show ¬ 8 ≤ width by omega]
    · rw [raise_get_undropped _ _ _ _ hk, putFlag_get, if_neg hm]
  · refine ⟨_, linkUp_wide hl ht hw, ?_⟩
    extract_lets u
    have hu : HostFrame s u := (linked_hostFrame ..).trans (when_hostFrame _ (raise_hostFrame ..))
    have hget : ∀ k, Undropped k → u.get k = (s.linked p.val rate width flit.val bound).get k :=
      fun k hk => when_raise_get _ _ _ _ _ hk
    have hhost : u.hostPort p.val = { s.hostPort p.val with training := false, bound := bound.getD 0 } :=
      (hostPort_of_host (when_raise_host ..) _).trans (linked_hostPort ..)
    have hfence : u.get (OD.hpFenceCause p.val) = s.get (OD.hpFenceCause p.val) := by
      rw [hget _ huf, linked_get _ _ _ _ _ _ huf]
      simp [OD.hpFenceCause, OD.hpTopology, OD.hpFlitMode, OD.hpWidth, OD.hpRate, OD.hpLinkState]
    have hlink : u.get (OD.hpLinkState p.val) = if s.get (OD.hpFenceCause p.val) = 0 then 2 else 4 := by
      rw [hget _ hul, linked_get _ _ _ _ _ _ hul, if_pos rfl]
    have hwidth : u.get (OD.hpWidth p.val) = width := by
      rw [hget _ huw, linked_get _ _ _ _ _ _ huw]
      simp [OD.hpTopology, OD.hpFlitMode, OD.hpWidth, OD.hpLinkState]
    clear_value u
    rw [memAdmission_of_hostFrame hu, hfence]
    cases ha : s.memAdmission && decide (s.get (OD.hpFenceCause p.val) = 0)
    · refine ⟨hu, hhost, fun h => absurd h hw, hlink.trans ?_, fun k hk _ _ => hget k hk⟩
      by_cases hf : s.get (OD.hpFenceCause p.val) = 0 <;> simp_all
    · obtain ⟨hadm, hf⟩ : s.memAdmission = true ∧ s.get (OD.hpFenceCause p.val) = 0 := by simpa using ha
      have hopen : u.when true (·.openPort p.val) = _ :=
        openPort_admits (hlink.trans (if_pos hf)) (by omega : 8 ≤ u.get (OD.hpWidth p.val)) (hfence.trans hf)
      refine ⟨hu.trans (openPort_hostFrame ..), ?_, fun h => absurd h hw, ?_, fun k hk hm hl => ?_⟩
      · rw [hopen, put_hostPort, putFlag_hostPort, hhost]
      · rw [hopen]
        simp [hadm, hf, show 8 ≤ width by omega]
      · rw [hopen]
        simp [get_put, putFlag_get, hm, hl, hget k hk]

theorem linkUp_links :
    ∃ t, exec (.linkUp p rate width flit bound) s = .next t ∧ t.get (OD.hpRate p.val) = rate ∧ t.get (OD.hpWidth p.val) = width
      ∧ t.get (OD.hpFlitMode p.val) = flit.val ∧ t.get (OD.hpTopology p.val) = (if bound.isSome then 1 else 0)
      ∧ (t.hostPort p.val).bound = bound.getD 0
      ∧ t.get (OD.hpLinkState p.val) = (if s.get (OD.hpFenceCause p.val) ≠ 0 then 4
          else if 8 ≤ width ∧ s.memAdmission = true then 3 else 2)
      ∧ (width < 8 → t.get (OD.hpMemAdmitted p.val) = 0)
      ∧ t.objectsAs s [OD.hpLinkState p.val, OD.hpRate p.val, OD.hpWidth p.val, OD.hpFlitMode p.val, OD.hpTopology p.val,
          OD.hpMemAdmitted p.val]
      ∧ t = { s with od := t.od, host := t.host, log := t.log, perf := t.perf } := by
  obtain ⟨t, hex, hframe, hhost, hmem, hlink, hget⟩ := linkUp_get (bound := bound) hl ht
  have hobj : ∀ k, Undropped k → k ≠ OD.hpMemAdmitted p.val → k ≠ OD.hpLinkState p.val → t.get k =
      if k = OD.hpTopology p.val then (if bound.isSome then 1 else 0)
      else if k = OD.hpFlitMode p.val then flit.val else if k = OD.hpWidth p.val then width
      else if k = OD.hpRate p.val then rate else s.get k := by
    intro k hk hm hl
    rw [hget k hk hm hl, linked_get _ _ _ _ _ _ hk, if_neg hl]
  have hundRate : Undropped (OD.hpRate p.val) := undropped_hp p.isLt (by decide)
  have hundWidth : Undropped (OD.hpWidth p.val) := undropped_hp p.isLt (by decide)
  have hundFlitMode : Undropped (OD.hpFlitMode p.val) := undropped_hp p.isLt (by decide)
  have hundTopology : Undropped (OD.hpTopology p.val) := undropped_hp p.isLt (by decide)
  refine ⟨t, hex, ?_, ?_, ?_, ?_, by rw [hhost], hlink, hmem, ?_, hframe⟩
  · refine (hobj _ (hundRate) ?_ ?_).trans ?_ <;>
      simp [OD.hpTopology, OD.hpFlitMode, OD.hpWidth, OD.hpRate, OD.hpLinkState, OD.hpMemAdmitted]
  · refine (hobj _ (hundWidth) ?_ ?_).trans ?_ <;>
      simp [OD.hpTopology, OD.hpFlitMode, OD.hpWidth, OD.hpLinkState, OD.hpMemAdmitted]
  · refine (hobj _ (hundFlitMode) ?_ ?_).trans ?_ <;>
      simp [OD.hpTopology, OD.hpFlitMode, OD.hpLinkState, OD.hpMemAdmitted]
  · refine (hobj _ (hundTopology) ?_ ?_).trans ?_ <;>
      simp [OD.hpTopology, OD.hpLinkState, OD.hpMemAdmitted]
  · intro k hk hd
    simp only [List.mem_cons, List.not_mem_nil, or_false, not_or] at hk
    obtain ⟨hl, hr, hw, hf, ht, hm⟩ := hk
    rw [hobj k hd hm hl, if_neg ht, if_neg hf, if_neg hw, if_neg hr]
end

/-! ## SURPRISE_LINK_DOWN (R78) -/

theorem mainDieRuns_of_portFrame {s t : State} (h : PortFrame s t) : t.mainDieRuns = s.mainDieRuns := by
  rw [h]
  rfl

/-- What the training of a port whose link is down rests on. -/
theorem mayTrain_of_portFrame {s t : State} {p : Nat} (h : PortFrame s t) (hl : t.get (OD.hpLinkState p) = 0)
    (hf : t.get (OD.hpFenceCause p) = s.get (OD.hpFenceCause p)) :
    t.mayTrain p = (s.mainDieRuns && s.reachedStep 1 && s.ctl.mode != .save && s.perstHigh p
      && (s.get (OD.hpFenceCause p) = 0 || s.get (OD.hpFenceCause p) = 2)) := by
  unfold State.mayTrain
  rw [mainDieRuns_of_portFrame h, hl, hf]
  have hb : t.reachedStep 1 = s.reachedStep 1 := by rw [h]; rfl
  have hm : t.ctl = s.ctl := by rw [h]
  have hp : t.perstHigh p = s.perstHigh p := by rw [h]; rfl
  rw [hb, hm, hp]
  simp

/-- What a surprise makes of a link that is up, before it trains again. -/
def State.surprised (s : State) (p : Nat) : State :=
  ((s.dropLink p).bump (OD.hpSurpriseDowns p) 1).raise 0x1002 0 [(.port, p)]

theorem surprised_portFrame (s : State) (p : Nat) : PortFrame s (s.surprised p) :=
  (dropLink_portFrame ..).trans ((HostFrame.port (bump_hostFrame ..)).trans (HostFrame.port (raise_hostFrame ..)))

theorem surprised_get {k : Nat} (s : State) (p : Nat) (h : Undropped k) : (s.surprised p).get k =
    if k = OD.hpSurpriseDowns p then (s.get k + 1) % 2 ^ bitsOfKey k else (s.dropLink p).get k := by
  unfold State.surprised
  rw [raise_get_undropped _ _ _ _ h, bump_get]
  by_cases hk : k = OD.hpSurpriseDowns p
  · rw [if_pos hk, if_pos hk, hk, dropLink_get, if_neg]
    simp [OD.hpSurpriseDowns, OD.hpIdeState, OD.hpMemAdmitted, OD.hpWidth, OD.hpRate, OD.hpLinkState]
  · rw [if_neg hk, if_neg hk]

theorem surprised_hostPort_same (s : State) (p : Nat) : (s.surprised p).hostPort p = (s.dropLink p).hostPort p :=
  raise_hostPort ..

theorem surpriseLinkDown_up {s : State} {p : Port} (h : s.portUp p.val = true) :
    exec (.surpriseLinkDown p) s = .next ((s.surprised p.val).train p.val) := by
  change execSurpriseLinkDown p s = _
  exact if_pos h

theorem surpriseLinkDown_drops (s : State) (p : Port) (h : s.portUp p.val = true) :
    ∃ t, exec (.surpriseLinkDown p) s = .next t
      ∧ t.get (OD.hpSurpriseDowns p.val) = (s.get (OD.hpSurpriseDowns p.val) + 1) % 2 ^ 32 ∧ t.get (OD.hpMemAdmitted p.val) = 0
      ∧ (s.perstHigh p.val = false → t.get (OD.hpLinkState p.val) = 0)
      ∧ (s.perstHigh p.val = true → s.mainDieRuns = true → s.reachedStep 1 = true → s.ctl.mode ≠ .save →
          (s.get (OD.hpFenceCause p.val) = 0 ∨ s.get (OD.hpFenceCause p.val) = 2) → t.get (OD.hpLinkState p.val) = 1)
      ∧ (t.hostPort p.val).keyMem = none ∧ (t.hostPort p.val).keyIo = none
      ∧ t = { s with od := t.od, host := t.host, work := t.work, tickets := t.tickets, zop := t.zop, log := t.log, perf := t.perf } := by
  have hus : Undropped (OD.hpSurpriseDowns p.val) := undropped_hp p.isLt (by decide)
  have hum : Undropped (OD.hpMemAdmitted p.val) := undropped_hp p.isLt (by decide)
  have hul : Undropped (OD.hpLinkState p.val) := undropped_hp p.isLt (by decide)
  have huf : Undropped (OD.hpFenceCause p.val) := undropped_hp p.isLt (by decide)
  have hframe := surprised_portFrame s p.val
  have hlink : (s.surprised p.val).get (OD.hpLinkState p.val) = 0 := by
    rw [surprised_get _ _ hul, dropLink_get]
    simp [OD.hpLinkState, OD.hpSurpriseDowns]
  have hfence : (s.surprised p.val).get (OD.hpFenceCause p.val) = s.get (OD.hpFenceCause p.val) := by
    rw [surprised_get _ _ huf, dropLink_get]
    simp [OD.hpFenceCause, OD.hpSurpriseDowns, OD.hpIdeState, OD.hpMemAdmitted, OD.hpWidth, OD.hpRate, OD.hpLinkState]
  have hmay := mayTrain_of_portFrame hframe hlink hfence
  obtain ⟨hmem, hio⟩ := train_keys (s.surprised p.val) p.val
  refine ⟨_, surpriseLinkDown_up h, ?_, ?_, fun hp => ?_, fun hp hd hb hm hf => ?_, ?_, ?_, hframe.trans (train_hostFrame ..).port⟩
  · rw [train_get_other, surprised_get _ _ hus, if_pos rfl, bitsOfKey_hpSurpriseDowns] <;>
      simp [OD.hpSurpriseDowns, OD.hpWidth, OD.hpRate, OD.hpLinkState]
  · rw [train_get_other, surprised_get _ _ hum, if_neg, dropLink_get, if_pos] <;>
      simp [OD.hpMemAdmitted, OD.hpSurpriseDowns, OD.hpWidth, OD.hpRate, OD.hpLinkState]
  · rw [train_linkState, hmay, hlink, hp]
    simp
  · rw [train_linkState, hmay, hp, hd, hb]
    simp [hm, hf]
  · rw [hmem, surprised_hostPort_same, dropLink_hostPort_same]
  · rw [hio, surprised_hostPort_same, dropLink_hostPort_same]

/-! ## IDE (R106, R107) -/

/-- A port takes a key: its record and IdeState follow, and a refreshed key is reported. -/
theorem takeKey (s : State) (p : Port) (h : HostPort) (b : Bool) :
    let t := ((s.setHostPort p.val h).put (OD.hpIdeState p.val) h.ideState).when b (·.raise 0x1051 0 [(.port, p.val)])
    t.hostPort p.val = h ∧ t.get (OD.hpIdeState p.val) = (t.hostPort p.val).ideState
      ∧ t.hostPort (1 - p.val) = s.hostPort (1 - p.val) ∧ t.objectsAs s [OD.hpIdeState p.val] ∧ HostFrame s t := by
  extract_lets t
  have hh : ∀ q, t.hostPort q = (s.setHostPort p.val h).hostPort q := fun q => hostPort_of_host (when_raise_host ..) q
  have hs : t.hostPort p.val = h := by rw [hh, setHostPort_hostPort]; simp
  refine ⟨hs, ?_, ?_, fun k hk hd => ?_, ?_⟩
  · rw [hs]
    exact (when_raise_get _ _ _ _ _ (undropped_hp p.isLt (by decide))).trans (get_put_same ..)
  · rw [hh, setHostPort_hostPort, if_neg (other_port p)]
  · refine (when_raise_get _ _ _ _ _ hd).trans ?_
    rw [get_put_other _ _ _ _ (by simpa using hk), setHostPort_get]
  · exact (setHostPort_hostFrame ..).trans ((put_hostFrame ..).trans (when_hostFrame _ (raise_hostFrame ..)))

theorem ideKmMessage_holds (s : State) (p : Port) (key : BitVec 256) (h : s.portUp p.val = true) (h2 : s.reachedStep 2 = true) :
    (∃ t, exec (.ideKmMessage p .mem key) s = .next t ∧ t.hostPort p.val = { s.hostPort p.val with keyMem := some key }
        ∧ t.get (OD.hpIdeState p.val) = (t.hostPort p.val).ideState ∧ t.hostPort (1 - p.val) = s.hostPort (1 - p.val)
        ∧ t.objectsAs s [OD.hpIdeState p.val] ∧ t = { s with od := t.od, host := t.host, log := t.log, perf := t.perf })
      ∧ ∃ t, exec (.ideKmMessage p .io key) s = .next t ∧ t.hostPort p.val = { s.hostPort p.val with keyIo := some key }
        ∧ t.get (OD.hpIdeState p.val) = (t.hostPort p.val).ideState ∧ t.hostPort (1 - p.val) = s.hostPort (1 - p.val)
        ∧ t.objectsAs s [OD.hpIdeState p.val] ∧ t = { s with od := t.od, host := t.host, log := t.log, perf := t.perf } := by
  have hup : ¬ (!(s.portUp p.val && s.reachedStep 2)) = true := by simp [h, h2]
  constructor
  · refine ⟨_, ?_, takeKey s p { s.hostPort p.val with keyMem := some key } (s.hostPort p.val).keyMem.isSome⟩
    change execIdeKmMessage p .mem key s = _
    exact if_neg hup
  · refine ⟨_, ?_, takeKey s p { s.hostPort p.val with keyIo := some key } (s.hostPort p.val).keyIo.isSome⟩
    change execIdeKmMessage p .io key s = _
    exact if_neg hup

theorem ideMacFailure_drops (s : State) (p : Port) (h : s.portUp p.val = true) (hk : (s.hostPort p.val).ideState ≠ 0) :
    ∃ t, exec (.ideMacFailure p) s = .next t ∧ t.get (OD.hpIdeState p.val) = 4 ∧ t.get (OD.hpMemAdmitted p.val) = 0
      ∧ (t.hostPort p.val).keyMem = none ∧ (t.hostPort p.val).keyIo = none ∧ t.get (OD.hpLinkState p.val) ≤ 1
      ∧ t = { s with od := t.od, host := t.host, work := t.work, tickets := t.tickets, zop := t.zop, log := t.log, perf := t.perf } := by
  let u := ((s.raise 0x1050 0 [(.port, p.val)]).dropLink p.val).put (OD.hpIdeState p.val) 4
  have hex : exec (.ideMacFailure p) s = .next (u.train p.val) := by
    change execIdeMacFailure p s = _
    exact if_neg (by simp [h, hk])
  have hframe : PortFrame s u :=
    (HostFrame.port (raise_hostFrame ..)).trans ((dropLink_portFrame ..).trans (HostFrame.port (put_hostFrame ..)))
  have hu : ∀ k, u.get k = if k = OD.hpIdeState p.val then 4
      else ((s.raise 0x1050 0 [(.port, p.val)]).dropLink p.val).get k := fun k => get_put ..
  have hhost : u.hostPort p.val = _ := dropLink_hostPort_same (s.raise 0x1050 0 [(.port, p.val)]) p.val
  have hlink : u.get (OD.hpLinkState p.val) = 0 := by
    rw [hu, dropLink_get]
    simp [OD.hpLinkState, OD.hpIdeState]
  obtain ⟨hmem, hio⟩ := train_keys u p.val
  refine ⟨_, hex, ?_, ?_, ?_, ?_, ?_, hframe.trans (train_hostFrame ..).port⟩
  · rw [train_get_other, hu, if_pos rfl] <;> simp [OD.hpIdeState, OD.hpWidth, OD.hpRate, OD.hpLinkState]
  · rw [train_get_other, hu, if_neg, dropLink_get, if_pos] <;>
      simp [OD.hpMemAdmitted, OD.hpIdeState, OD.hpWidth, OD.hpRate, OD.hpLinkState]
  · rw [hmem, hhost]
  · rw [hio, hhost]
  · rw [train_linkState, hlink]
    split <;> decide

/-- Settles O14: one lemma per command of the port's link, each from what the shared steps (a link that goes down, a port that
trains, an event) write and leave alone. -/
theorem portEvents : Obligations.PortEvents := by
  unfold Obligations.PortEvents
  intro s p
  exact ⟨perstNAssert_running s p, perstNAssert_save s p, perstNAssert_boot s p, perstNAssert_unpowered s p,
    perstNDeassert_trains s p, fun _ _ _ _ hl ht => linkUp_links hl ht, surpriseLinkDown_drops s p,
    ideKmMessage_holds s p, ideMacFailure_drops s p⟩

end Sys2Proof.Machine
end

section
/-! SUPPORT. Settles O15. GPF, the residue message, express panic and configuration requests: what each writes, and what the steps they share with
other commands leave alone. -/
namespace Sys2Proof.Machine

/-! ## GPF (R89) -/

theorem storeTicket_frame (s : State) (t : Ticket) :
    (s.storeTicket t).out = s.out ∧ (s.storeTicket t).host = s.host ∧ (s.storeTicket t).work = s.work := by
  have hnote : ∀ (u : State) (b : Bool), (u.when b (·.note 0x8210)).out = u.out ∧ (u.when b (·.note 0x8210)).host = u.host
      ∧ (u.when b (·.note 0x8210)).work = u.work := fun u b => by
    cases b <;> simp [State.when, State.note]
  unfold State.storeTicket
  extract_lets n poison t'
  split
  · exact ⟨rfl, rfl, rfl⟩
  · exact hnote _ _

theorem storeTickets_frame (ts : List Ticket) (s : State) : (ts.foldl State.storeTicket s).out = s.out
    ∧ (ts.foldl State.storeTicket s).host = s.host ∧ (ts.foldl State.storeTicket s).work = s.work := by
  induction ts generalizing s with
  | nil => exact ⟨rfl, rfl, rfl⟩
  | cons t ts ih =>
    obtain ⟨ho, hh, hw⟩ := ih (s.storeTicket t)
    obtain ⟨ho', hh', hw'⟩ := storeTicket_frame s t
    exact ⟨ho.trans ho', hh.trans hh', hw.trans hw'⟩

/-- Tickets that are settled touch no answer, no port and no held request. -/
theorem settleTickets_frame (s : State) (store : Bool) : (s.settleTickets store).out = s.out
    ∧ (s.settleTickets store).host = s.host ∧ (s.settleTickets store).work = s.work := by
  cases store
  · exact ⟨rfl, rfl, rfl⟩
  · exact storeTickets_frame ..

theorem setHostPort_out (s : State) (p h) : (s.setHostPort p h).out = s.out := by rw [setHostPort_frame]

theorem signalGpf_work (s : State) (p : Nat) : (s.signalGpf p).work = s.work := by
  unfold State.signalGpf State.setHostPort
  dsimp only
  (repeat' split) <;> rfl

/-- A signal adds to the answers and leaves the other port alone. -/
theorem signalGpf_keeps (s : State) {p q : Nat} (hpq : ¬ (p = 0 ↔ q = 0)) :
    (∀ c ∈ s.out.host, c ∈ (s.signalGpf p).out.host) ∧ (s.signalGpf p).hostPort q = s.hostPort q := by
  unfold State.signalGpf
  extract_lets h
  split
  · exact ⟨fun _ hc => hc, rfl⟩
  · refine ⟨fun c hc => List.mem_cons_of_mem _ ?_, ?_⟩
    · exact (setHostPort_out s p _).symm ▸ hc
    · exact (setHostPort_hostPort ..).trans (if_neg hpq)

/-- A port that waits for no write signals the completion it owes. -/
theorem signalGpf_signals {s : State} {p : Nat} (hg : (s.hostPort p).gpf = true) (hw : s.work.waiters = []) :
    .gpfDone p ∈ (s.signalGpf p).out.host ∧ ((s.signalGpf p).hostPort p).gpf = false := by
  unfold State.signalGpf
  extract_lets h
  have hn : ¬ (!h.gpf || s.work.waiters.any (fun w => w.onPort p && w.data.isSome)) = true := by simp [h, hg, hw]
  rw [if_neg hn]
  refine ⟨List.mem_cons_self, ?_⟩
  exact congrArg HostPort.gpf ((setHostPort_hostPort ..).trans (if_pos Iff.rfl))

/-- With no request held, what is left of trying again is the settled tickets and the signals owed. -/
theorem resume_idle {s : State} (hw : s.work.waiters = []) :
    s.resume = ((s.settleTickets true).signalGpf 0).signalGpf 1 := by
  unfold State.resume
  rw [hw]
  rfl

theorem resume_idle_signals {s : State} (p : Port) (hg : (s.hostPort p.val).gpf = true) (hw : s.work.waiters = []) :
    .gpfDone p.val ∈ s.resume.out.host ∧ (s.resume.hostPort p.val).gpf = false := by
  rw [resume_idle hw]
  obtain ⟨-, hhost, hwork⟩ := settleTickets_frame s true
  have hg' : ((s.settleTickets true).hostPort p.val).gpf = true := by rw [hostPort_of_host hhost, hg]
  have hw' : (s.settleTickets true).work.waiters = [] := by rw [hwork, hw]
  generalize s.settleTickets true = u at hg' hw' ⊢
  fin_cases p
  · obtain ⟨hin, hoff⟩ := signalGpf_signals (p := 0) hg' hw'
    obtain ⟨hkeep, hport⟩ := signalGpf_keeps (u.signalGpf 0) (p := 1) (q := 0) (by decide)
    exact ⟨hkeep _ hin, (congrArg HostPort.gpf hport).trans hoff⟩
  · obtain ⟨-, hport⟩ := signalGpf_keeps u (p := 0) (q := 1) (by decide)
    exact signalGpf_signals (p := 1) ((congrArg HostPort.gpf hport).trans hg') ((congrArg _ (signalGpf_work ..)).trans hw')

theorem gpfPhase2Request_signals (s : State) (p : Port) (hup : s.portUp p.val = true) (hf : s.get (OD.hpFenceCause p.val) = 0) :
    ∃ t, exec (.gpfPhase2Request p) s = .next t
      ∧ t = (s.freshAnswers.setHostPort p.val { s.hostPort p.val with gpf := true }).resume
      ∧ (s.work.waiters = [] → .gpfDone p.val ∈ t.out.host ∧ (t.hostPort p.val).gpf = false) := by
  refine ⟨_, ?_, rfl, fun hw => resume_idle_signals p ?_ ?_⟩
  · change execGpfPhase2Request p s = _
    have hc : (s.freshAnswers.portUp p.val && decide (s.freshAnswers.get (OD.hpFenceCause p.val) = 0)) = true :=
      Bool.and_eq_true_iff.2 ⟨hup, decide_eq_true hf⟩
    exact if_pos hc
  · rw [setHostPort_hostPort, if_pos Iff.rfl]
  · rw [setHostPort_frame]
    exact hw

/-! ## The residue message and the throttle (R100, R101) -/

/-- What an evaluation of the throttle makes of the state and of the band: the table of R100, where `below n` says that the
residue lies below n hundredths of the ceiling. -/
def throttleTable (below : Nat → Bool) (throttle band : Nat) : Nat × Nat :=
  match throttle with
  | 0 => if below 75 then (0, 0) else if below 90 then (0, 2) else if below 100 then (1, 3) else (2, 3)
  | 1 => if !below 100 then (2, 3) else if below 88 then (0, band) else (1, 3)
  | n => if below 98 then (1, 3) else (n, band)

/-- The Host region keeps what the Map region last sent. -/
def SameMessage (s t : State) : Prop :=
  t.host.residue = s.host.residue ∧ t.host.ceiling = s.host.ceiling ∧ t.host.flushRate = s.host.flushRate

theorem SameMessage.trans {s t u : State} (h : SameMessage s t) (h' : SameMessage t u) : SameMessage s u :=
  ⟨h'.1.trans h.1, h'.2.1.trans h.2.1, h'.2.2.trans h.2.2⟩

theorem SameMessage.of_host {s t : State} (h : t.host = s.host) : SameMessage s t := by
  unfold SameMessage
  rw [h]
  exact ⟨rfl, rfl, rfl⟩

theorem setHostPort_message (s : State) (p h) :
    SameMessage s (s.setHostPort p h) ∧ (s.setHostPort p h).host.band = s.host.band := by
  unfold State.setHostPort
  split <;> exact ⟨⟨rfl, rfl, rfl⟩, rfl⟩

theorem returnAll_message (s : State) : SameMessage s s.returnAll ∧ s.returnAll.host.band = s.host.band := by
  obtain ⟨h0, hb0⟩ := setHostPort_message s 0 { s.hostPort 0 with withheld := 0 }
  obtain ⟨h1, hb1⟩ := setHostPort_message (s.setHostPort 0 { s.hostPort 0 with withheld := 0 }) 1
    { (s.setHostPort 0 { s.hostPort 0 with withheld := 0 }).hostPort 1 with withheld := 0 }
  exact ⟨h0.trans h1, hb1.trans hb0⟩

theorem returnAll_hostFrame (s : State) : HostFrame s s.returnAll :=
  (setHostPort_hostFrame ..).trans (setHostPort_hostFrame ..)

theorem returnAll_get (s : State) (k : Nat) : s.returnAll.get k = s.get k := by
  unfold State.returnAll
  simp

/-- Credits returned in the Cut state are written into the two ports' records. -/
theorem returnCut_eq (s : State) : ∃ h0 h1 c, s.returnCut =
    { (s.setHostPort 0 h0).setHostPort 1 h1 with host := { ((s.setHostPort 0 h0).setHostPort 1 h1).host with cutCredit := c } } := by
  unfold State.returnCut
  extract_lets h0 h1 waits
  split
  exact ⟨_, _, _, rfl⟩

theorem returnCut_frame (s : State) : s.returnCut = { s with host := s.returnCut.host } ∧ SameMessage s s.returnCut
    ∧ s.returnCut.host.band = s.host.band := by
  obtain ⟨h0, h1, c, h⟩ := returnCut_eq s
  rw [h]
  exact ⟨rfl, ⟨rfl, rfl, rfl⟩, rfl⟩

theorem note_get_undropped {k : Nat} (s : State) (c : Nat) (h : Undropped k) : (s.note c).get k = s.get k :=
  raise_get_undropped _ _ _ _ h

theorem note_hostFrame (s : State) (c : Nat) : HostFrame s (s.note c) := raise_hostFrame ..

/-- What an evaluation of the throttle may touch, and what it makes of throttle and band. -/
structure Throttled (s t : State) (throttle band : Nat) : Prop where
  throttle : t.get OD.qosThrottleState = throttle
  band : t.host.band = band
  message : SameMessage s t
  objects : t.objectsAs s [OD.qosThrottleState]
  frame : HostFrame s t

theorem Throttled.refl (s : State) : Throttled s s (s.get OD.qosThrottleState) s.host.band :=
  ⟨rfl, rfl, ⟨rfl, rfl, rfl⟩, fun _ _ _ => rfl, rfl⟩

theorem Throttled.setBand (s : State) (b : Nat) :
    Throttled s { s with host := { s.host with band := b } } (s.get OD.qosThrottleState) b :=
  ⟨rfl, rfl, ⟨rfl, rfl, rfl⟩, fun _ _ _ => rfl, rfl⟩

theorem Throttled.of_throttle {s t : State} {v w b : Nat} (h : Throttled s t v b) (hv : v = w) : Throttled s t w b := hv ▸ h

theorem Throttled.note {s t : State} {v b : Nat} (h : Throttled s t v b) (c : Nat) : Throttled s (t.note c) v b := by
  obtain ⟨hv, hb, hm, ho, hf⟩ := h
  refine ⟨?_, ?_, hm.trans (.of_host (note_host ..)), fun k hk hd => (note_get_undropped _ _ hd).trans (ho k hk hd),
    hf.trans (note_hostFrame ..)⟩
  · exact (note_get_undropped _ _ (by unfold Undropped; decide)).trans hv
  · rw [note_host, hb]

theorem Throttled.put {s t : State} {v b : Nat} (h : Throttled s t v b) (w : Nat) :
    Throttled s (t.put OD.qosThrottleState w) w b := by
  obtain ⟨-, hb, hm, ho, hf⟩ := h
  exact ⟨get_put_same .., hb, hm.trans (.of_host rfl),
    fun k hk hd => (get_put_other _ _ _ _ (by simpa using hk)).trans (ho k hk hd), hf.trans (put_hostFrame ..)⟩

theorem Throttled.returnAll {s t : State} {v b : Nat} (h : Throttled s t v b) : Throttled s t.returnAll v b := by
  obtain ⟨hv, hb, hm, ho, hf⟩ := h
  obtain ⟨hmsg, hband⟩ := returnAll_message t
  exact ⟨(returnAll_get ..).trans hv, hband.trans hb, hm.trans hmsg, fun k hk hd => (returnAll_get ..).trans (ho k hk hd),
    hf.trans (returnAll_hostFrame ..)⟩

/-- One evaluation of the throttle moves it by the table of R100. -/
theorem evaluateThrottle_table {s : State} {below : Nat → Bool} (ha : s.memAdmission = true) (hb : ∀ n, s.fBelow n = below n) :
    Throttled s s.evaluateThrottle (throttleTable below (s.get OD.qosThrottleState) s.host.band).1
      (throttleTable below (s.get OD.qosThrottleState) s.host.band).2 := by
  unfold State.evaluateThrottle throttleTable
  rw [ha]
  simp only [hb]
  rcases h : s.get OD.qosThrottleState with _ | _ | n
  · cases below 75
    · cases below 90
      · cases below 100
        · exact (((Throttled.setBand s 3).note _).note _).put 2
        · exact ((Throttled.setBand s 3).note _).put 1
      · exact (Throttled.setBand s 2).of_throttle h
    · exact (Throttled.setBand s 0).of_throttle h
  · cases below 100
    · exact ((Throttled.setBand s 3).note _).put 2
    · cases below 88
      · exact (Throttled.setBand s 3).of_throttle h
      · exact (((Throttled.refl s).note _).returnAll).put 0
  · cases below 98
    · exact (Throttled.refl s).of_throttle h
    · exact (Throttled.setBand s 3).put 1

theorem evaluateThrottle_unadmitted {s : State} (ha : s.memAdmission = false) : s.evaluateThrottle = s := by
  unfold State.evaluateThrottle
  rw [ha]
  rfl

/-- What RESIDUE_UPDATE sends to the Host region. -/
def State.messaged (s : State) : State :=
  { s with host := { s.host with residue := s.residue, ceiling := s.get OD.plannerEffectiveCeiling, flushRate := s.flushRate } }

theorem count_frame (s : State) (a i k : Nat) : s.count a i k = { s with perf := (s.count a i k).perf } := by
  unfold State.count
  split <;> rfl

theorem returnCut_throttled {s t : State} {v b : Nat} (h : Throttled s t v b) : Throttled s t.returnCut v b := by
  obtain ⟨hv, hb, hm, ho, hf⟩ := h
  obtain ⟨hframe, hmsg, hband⟩ := returnCut_frame t
  have hget : ∀ k, t.returnCut.get k = t.get k := fun k => by rw [hframe]; rfl
  exact ⟨(hget _).trans hv, hband.trans hb, hm.trans hmsg, fun k hk hd => (hget k).trans (ho k hk hd),
    hf.trans (by rw [hframe]; rfl)⟩

/-- The message, then the throttle's evaluation, then the credits of the Cut state. -/
theorem exec_residueUpdate {s : State} (hd : s.mainDieRuns = true) : exec .residueUpdate s =
    .next (let u := (s.when (s.get OD.qosThrottleState = 2) (·.count 0xF080 0xFFFF s.mapCycles)).sendResidue
      if u.get OD.qosThrottleState = 1 && u.memAdmission then u.returnCut else u) := by
  change execResidueUpdate s = _
  exact if_pos hd

/-- What RESIDUE_UPDATE makes of throttle and band. -/
def State.throttleAfter (s : State) (below : Nat → Bool) : Nat × Nat :=
  if s.memAdmission then throttleTable below (s.get OD.qosThrottleState) s.host.band
  else (s.get OD.qosThrottleState, s.host.band)

theorem evaluateThrottle_throttled {s : State} {below : Nat → Bool} (hb : ∀ n, s.fBelow n = below n) :
    Throttled s s.evaluateThrottle (s.throttleAfter below).1 (s.throttleAfter below).2 := by
  unfold State.throttleAfter
  cases ha : s.memAdmission
  · rw [evaluateThrottle_unadmitted ha]
    exact Throttled.refl s
  · exact evaluateThrottle_table ha hb

theorem residueUpdate_throttled {s : State} {below : Nat → Bool} (hd : s.mainDieRuns = true)
    (hb : ∀ n, below n = (s.get OD.plannerEffectiveCeiling ≠ 0 && s.residue * 100 < n * s.get OD.plannerEffectiveCeiling)) :
    ∃ p t, exec .residueUpdate s = .next t
      ∧ Throttled ({ s with perf := p }).messaged t (s.throttleAfter below).1 (s.throttleAfter below).2 := by
  obtain ⟨p, hp⟩ : ∃ p, s.when (s.get OD.qosThrottleState = 2) (·.count 0xF080 0xFFFF s.mapCycles) = { s with perf := p } := by
    unfold State.when
    split
    · exact ⟨_, count_frame ..⟩
    · exact ⟨s.perf, rfl⟩
  have hbelow : ∀ n, ({ s with perf := p }).messaged.fBelow n = below n := fun n => (hb n).symm
  have hsent : Throttled ({ s with perf := p }).messaged ({ s with perf := p }).sendResidue (s.throttleAfter below).1
      (s.throttleAfter below).2 := evaluateThrottle_throttled hbelow
  refine ⟨p, _, exec_residueUpdate hd, ?_⟩
  rw [hp]
  extract_lets u
  split
  · exact returnCut_throttled hsent
  · exact hsent

theorem residueUpdate_messages (s : State) (below : Nat → Bool) (hd : s.mainDieRuns = true)
    (hb : ∀ n, below n = (s.get OD.plannerEffectiveCeiling ≠ 0 && s.residue * 100 < n * s.get OD.plannerEffectiveCeiling)) :
    ∃ t, exec .residueUpdate s = .next t ∧ t.host.residue = s.residue ∧ t.host.ceiling = s.get OD.plannerEffectiveCeiling
      ∧ t.host.flushRate = s.flushRate
      ∧ (s.memAdmission = false → t.get OD.qosThrottleState = s.get OD.qosThrottleState ∧ t.host.band = s.host.band)
      ∧ (s.memAdmission = true → s.get OD.qosThrottleState = 0 →
          t.get OD.qosThrottleState = (if below 90 then 0 else if below 100 then 1 else 2)
          ∧ t.host.band = (if below 75 then 0 else if below 90 then 2 else 3))
      ∧ (s.memAdmission = true → s.get OD.qosThrottleState = 1 →
          t.get OD.qosThrottleState = (if !below 100 then 2 else if below 88 then 0 else 1))
      ∧ (s.memAdmission = true → s.get OD.qosThrottleState = 2 →
          t.get OD.qosThrottleState = (if below 98 then 1 else 2))
      ∧ t.objectsAs s [OD.qosThrottleState]
      ∧ t = { s with host := t.host, od := t.od, log := t.log, perf := t.perf } := by
  have hmono : below 75 = true → below 90 = true := fun h => by
    rw [hb] at h ⊢
    simp only [ne_eq, decide_not, Bool.and_eq_true, Bool.not_eq_true', decide_eq_false_iff_not, decide_eq_true_eq] at h ⊢
    omega
  obtain ⟨p, t, hex, hv, hband, ⟨hres, hceil, hrate⟩, hobj, hframe⟩ := residueUpdate_throttled hd hb
  refine ⟨t, hex, hres, hceil, hrate, fun ha => ?_, fun ha h0 => ?_, fun ha h1 => ?_, fun ha h2 => ?_, hobj, ?_⟩
  · rw [hv, hband, State.throttleAfter, ha]
    exact ⟨rfl, rfl⟩
  · rw [hv, hband, State.throttleAfter, ha, h0]
    unfold throttleTable
    cases h75 : below 75
    · cases below 90
      · cases below 100 <;> exact ⟨rfl, rfl⟩
      · exact ⟨rfl, rfl⟩
    · rw [hmono h75]
      exact ⟨rfl, rfl⟩
  · rw [hv, State.throttleAfter, ha, h1]
    unfold throttleTable
    cases below 100
    · rfl
    · cases below 88 <;> rfl
  · rw [hv, State.throttleAfter, ha, h2]
    unfold throttleTable
    cases below 98 <;> rfl
  · refine Eq.trans hframe ?_
    unfold State.messaged
    rfl


/-! ## Express panic (R96, R97) -/

theorem changePanic_hostFrame (s : State) (p : Nat) (on : Bool) :
    s.changePanic p on = { s with host := (s.changePanic p on).host, od := (s.changePanic p on).od } := by
  unfold State.changePanic State.setHostPort
  dsimp only
  (repeat' split) <;> rfl

theorem changePanic_hostPort {s : State} {p : Nat} {on : Bool} (h : (s.hostPort p).panic ≠ on) :
    (s.changePanic p on).hostPort p = { s.hostPort p with panic := on, panicSince := s.uptime, heldReported := false } := by
  unfold State.changePanic
  extract_lets x
  rw [if_neg h, setHostPort_hostPort, if_pos Iff.rfl]
  rfl

theorem changePanic_get (s : State) (p : Nat) (on : Bool) {k : Nat} (h0 : k ≠ OD.qosPanicCountHp0) (h1 : k ≠ OD.qosPanicCountHp1) :
    (s.changePanic p on).get k = s.get k := by
  unfold State.changePanic
  extract_lets x
  split
  · rfl
  · rw [setHostPort_get, bump_get, if_neg]
    split <;> assumption

section
variable {s : State} {p : Port} {n age : Nat}

/-- Panic rises at either high threshold and clears below both low ones, on a port without a fence. -/
theorem exec_expressPanicChange (hf : s.get (OD.hpFenceCause p.val) = 0) : exec (.expressPanicChange p n age) s =
    if (s.hostPort p.val).panic = false ∧ (s.get OD.qosPanicHigh ≤ max n (s.expressHeld p.val) ∨ s.get OD.qosPanicAgeHigh ≤ age) then
      .next ((s.changePanic p.val true).raise 0x1020 0 [(.port, p.val)])
    else if (s.hostPort p.val).panic = true ∧ max n (s.expressHeld p.val) ≤ s.get OD.qosPanicLow ∧ age ≤ s.get OD.qosPanicAgeLow then
      .next (s.changePanic p.val false)
    else .next s := by
  change execExpressPanicChange p n age s = _
  unfold execExpressPanicChange
  simp only [hf, ne_eq, not_true_eq_false, if_false, Bool.and_eq_true, Bool.or_eq_true, Bool.not_eq_true', decide_eq_true_eq]

theorem expressPanicChange_rises (hf : s.get (OD.hpFenceCause p.val) = 0) (hp : (s.hostPort p.val).panic = false)
    (h : s.get OD.qosPanicHigh ≤ max n (s.expressHeld p.val) ∨ s.get OD.qosPanicAgeHigh ≤ age) :
    ∃ t, exec (.expressPanicChange p n age) s = .next t ∧ (t.hostPort p.val).panic = true
      ∧ (t.hostPort p.val).panicSince = s.uptime ∧ t.objectsAs s [OD.qosPanicCountHp0, OD.qosPanicCountHp1]
      ∧ t = { s with host := t.host, od := t.od, log := t.log, perf := t.perf } := by
  have hport : ((s.changePanic p.val true).raise 0x1020 0 [(.port, p.val)]).hostPort p.val = _ :=
    (raise_hostPort ..).trans (changePanic_hostPort (by simp [hp]))
  refine ⟨_, (exec_expressPanicChange hf).trans (if_pos ⟨hp, h⟩), by rw [hport], by rw [hport], fun k hk hd => ?_, ?_⟩
  · simp only [List.mem_cons, List.not_mem_nil, or_false, not_or] at hk
    obtain ⟨h0, h1⟩ := hk
    rw [raise_get_undropped _ _ _ _ hd, changePanic_get _ _ _ h0 h1]
  · refine HostFrame.trans (t := s.changePanic p.val true) ?_ (raise_hostFrame ..)
    exact (changePanic_hostFrame ..).trans (by rw [changePanic_hostFrame])

theorem expressPanicChange_clears (hf : s.get (OD.hpFenceCause p.val) = 0) (hp : (s.hostPort p.val).panic = true)
    (h : max n (s.expressHeld p.val) ≤ s.get OD.qosPanicLow) (ha : age ≤ s.get OD.qosPanicAgeLow) :
    ∃ t, exec (.expressPanicChange p n age) s = .next t ∧ (t.hostPort p.val).panic = false
      ∧ t = { s with host := t.host, od := t.od } := by
  refine ⟨_, ((exec_expressPanicChange hf).trans (if_neg (by simp [hp]))).trans (if_pos ⟨hp, h, ha⟩), ?_, changePanic_hostFrame ..⟩
  rw [changePanic_hostPort (by simp [hp])]

theorem expressPanicChange_stays (hf : s.get (OD.hpFenceCause p.val) = 0)
    (h : (s.hostPort p.val).panic = false → max n (s.expressHeld p.val) < s.get OD.qosPanicHigh ∧ age < s.get OD.qosPanicAgeHigh)
    (h' : (s.hostPort p.val).panic = true → s.get OD.qosPanicLow < max n (s.expressHeld p.val) ∨ s.get OD.qosPanicAgeLow < age) :
    exec (.expressPanicChange p n age) s = .next s := by
  refine ((exec_expressPanicChange hf).trans (if_neg ?_)).trans (if_neg ?_)
  · rintro ⟨hp, hi⟩
    obtain ⟨ho, ha⟩ := h hp
    omega
  · rintro ⟨hp, ho, ha⟩
    obtain hl | hl := h' hp <;> omega
end

theorem expressPanicHeld_reports (s : State) (p : Port) (hp : (s.hostPort p.val).panic = true)
    (hr : (s.hostPort p.val).heldReported = false) : exec (.expressPanicHeld p) s =
      .next ((s.setHostPort p.val { s.hostPort p.val with heldReported := true }).raise 0x1021 0 [(.port, p.val)]) := by
  change execExpressPanicHeld p s = _
  exact if_pos (by simp [hp, hr])

/-! ## Panic on the channels (R287, R295) -/

/-- No bank of a channel has a postponed refresh. -/
def NoneDue (m : SMap Chan) : Prop := ∀ e ∈ m, ∀ b ∈ e.2.banks, b.2.due = 0

theorem mem_mapErase {α : Type} {m : SMap α} {k : Nat} {e : Nat × α} (h : e ∈ mapErase m k) : e ∈ m := by
  induction m with
  | nil => exact h
  | cons x m ih =>
    unfold mapErase at h
    split at h
    · exact List.mem_cons_of_mem _ (ih h)
    · obtain rfl | h := List.mem_cons.1 h
      · exact List.mem_cons_self
      · exact List.mem_cons_of_mem _ (ih h)

theorem mem_mapInsert {α : Type} {m : SMap α} {k : Nat} {v : α} {e : Nat × α} (h : e ∈ mapInsert m k v) : e = (k, v) ∨ e ∈ m := by
  induction m with
  | nil => exact .inl (List.mem_singleton.1 h)
  | cons x m ih =>
    unfold mapInsert at h
    split at h
    · exact List.mem_cons.1 h
    · obtain rfl | h := List.mem_cons.1 h
      · exact .inr List.mem_cons_self
      · exact (ih h).imp_right (List.mem_cons_of_mem _)

theorem mem_mapSet {α : Type} [DecidableEq α] {d : Nat → α} {m : SMap α} {k : Nat} {v : α} {e : Nat × α}
    (h : e ∈ mapSet d m k v) : e = (k, v) ∨ e ∈ m := by
  unfold mapSet at h
  split at h
  · exact .inr (mem_mapErase h)
  · exact (mem_mapInsert h).imp_right mem_mapErase

theorem mem_mapMap {α : Type} [DecidableEq α] {d : Nat → α} {f : Nat → α → α} {m : SMap α} {e : Nat × α}
    (h : e ∈ mapMap d f m) : ∃ x ∈ m, e = (x.1, f x.1 x.2) := by
  induction m with
  | nil => exact absurd h List.not_mem_nil
  | cons x m ih =>
    have hx : e = (x.1, f x.1 x.2) ∨ e ∈ mapMap d f m := by
      change e ∈ (if f x.1 x.2 = d x.1 then mapMap d f m else (x.1, f x.1 x.2) :: mapMap d f m) at h
      split at h
      · exact .inr h
      · exact List.mem_cons.1 h
    obtain rfl | hx := hx
    · exact ⟨x, List.mem_cons_self, rfl⟩
    · obtain ⟨y, hy, he⟩ := ih hx
      exact ⟨y, List.mem_cons_of_mem _ hy, he⟩

theorem mapGet_default_or_mem {α : Type} (d : Nat → α) (m : SMap α) (k : Nat) : mapGet d m k = d k ∨ (k, mapGet d m k) ∈ m := by
  induction m with
  | nil => exact .inl rfl
  | cons x m ih =>
    obtain ⟨j, v⟩ := x
    unfold mapGet
    split
    · next h => subst h; exact .inr List.mem_cons_self
    · exact ih.imp_right (List.mem_cons_of_mem _)

theorem NoneDue.chan {s : State} (h : NoneDue s.dram.chans) (c : Nat) : ∀ b ∈ (s.chan c).banks, b.2.due = 0 := by
  obtain hd | hm := mapGet_default_or_mem (fun _ => Chan.initial) s.dram.chans c
  · unfold State.chan
    rw [hd]
    exact fun _ hb => absurd hb List.not_mem_nil
  · exact h _ hm

/-- What refreshes of neighbour rows may touch: channels, counters and events, and no postponed refresh returns. -/
structure TallyFrame (s t : State) : Prop where
  frame : t = { s with dram := t.dram, od := t.od, log := t.log, perf := t.perf }
  dram : t.dram = { s.dram with chans := t.dram.chans }
  due : NoneDue s.dram.chans → NoneDue t.dram.chans

theorem TallyFrame.refl (s : State) : TallyFrame s s := ⟨rfl, rfl, id⟩

theorem TallyFrame.trans {s t u : State} (h : TallyFrame s t) (h' : TallyFrame t u) : TallyFrame s u := by
  obtain ⟨hf, hd, hn⟩ := h
  obtain ⟨hf', hd', hn'⟩ := h'
  refine ⟨hf'.trans ?_, hd'.trans ?_, hn' ∘ hn⟩
  · rw [hf]
  · rw [hd]

theorem ite_tallyFrame {s t : State} {b : Prop} [Decidable b] (h : TallyFrame s t) : TallyFrame s (if b then t else s) := by
  split
  · exact h
  · exact .refl s

theorem foldl_tallyFrame {α : Type} (f : State → α → State) (h : ∀ s a, TallyFrame s (f s a)) (l : List α) (s : State) :
    TallyFrame s (l.foldl f s) :=
  foldl_keeps (R := TallyFrame) (TallyFrame.refl) (fun _ _ _ => TallyFrame.trans) f h l s

/-- A channel that is written with its refreshes as they are. -/
theorem setChan_tallyFrame {s : State} {c : Nat} {x : Chan} (h : x.banks = (s.chan c).banks) : TallyFrame s (s.setChan c x) := by
  refine ⟨rfl, rfl, fun hn e he => ?_⟩
  have hmem : e ∈ mapSet (fun _ => Chan.initial) s.dram.chans c x := he
  obtain rfl | he := mem_mapSet hmem
  · exact h ▸ hn.chan c
  · exact hn e he

theorem setTally_tallyFrame (s : State) (c sub : Nat) (t : Tally) : TallyFrame s (s.setTally c sub t) := setChan_tallyFrame rfl

theorem put_tallyFrame (s : State) (k v : Nat) : TallyFrame s (s.put k v) := ⟨rfl, rfl, id⟩

theorem count_tallyFrame (s : State) (a i k : Nat) : TallyFrame s (s.count a i k) := by
  unfold State.count
  split <;> exact ⟨rfl, rfl, id⟩

theorem raise_tallyFrame (s : State) (c v is) : TallyFrame s (s.raise c v is) := by
  obtain ⟨l, p, o, h⟩ := raiseWith_frame s c v is []
  unfold State.raise
  rw [h]
  exact ⟨rfl, rfl, id⟩

theorem checkFallback_tallyFrame (s : State) (c sub : Nat) : TallyFrame s (s.checkFallback c sub) := by
  unfold State.checkFallback
  exact ite_tallyFrame ((setTally_tallyFrame ..).trans ((put_tallyFrame ..).trans (raise_tallyFrame ..)))

theorem activateRow_tallyFrame (s : State) (c sub rank bank row : Nat) : TallyFrame s (s.activateRow c sub rank bank row) :=
  (count_tallyFrame ..).trans ((setTally_tallyFrame ..).trans (checkFallback_tallyFrame ..))

theorem refreshAround_tallyFrame (s : State) (c sub rank bank row : Nat) : TallyFrame s (s.refreshAround c sub rank bank row) := by
  unfold State.refreshAround
  refine TallyFrame.trans ?_ ((setTally_tallyFrame ..).trans ((put_tallyFrame ..).trans (count_tallyFrame ..)))
  split
  · exact .refl s
  · exact (foldl_tallyFrame _ (fun _ _ => activateRow_tallyFrame ..) _ _).trans (setChan_tallyFrame rfl)

theorem refreshRows_tallyFrame (c sub rank bank n : Nat) (rows : List Nat) (s : State) :
    TallyFrame s (State.refreshRows c sub rank bank n rows s) := by
  induction n generalizing rows s with
  | zero => exact .refl s
  | succ n ih =>
    cases rows with
    | nil => exact .refl s
    | cons r rs =>
      unfold State.refreshRows
      split
      · exact (refreshAround_tallyFrame ..).trans (ih ..)
      · refine TallyFrame.trans ?_ (ih ..)
        exact ite_tallyFrame (put_tallyFrame ..)

theorem neighbours_tallyFrame (s : State) (c sub rank bank row : Nat) : TallyFrame s (s.neighbours c sub rank bank row) :=
  refreshRows_tallyFrame ..

/-- The neighbour refreshes that panic deferred. -/
def State.deferredRefreshes (s : State) : State :=
  s.dram.chans.foldl (fun t e => e.2.tallies.foldl (fun t y =>
    (y.2.entries.filter (fun r => y.2.threshold ≤ r.count)).foldl (fun t r => t.neighbours e.1 y.1 r.rank r.bank r.row) t) t) s

theorem deferredRefreshes_tallyFrame (s : State) : TallyFrame s s.deferredRefreshes :=
  foldl_tallyFrame _ (fun _ _ => foldl_tallyFrame _ (fun _ _ => foldl_tallyFrame _ (fun _ _ => neighbours_tallyFrame ..) _ _) _ _) _ _

/-- A channel whose postponed refreshes are issued (R287). -/
def Chan.issueRefreshes (now : Nat) (c : Chan) : Chan :=
  { c with banks := mapMap (fun _ => BankRefresh.mk 0 0) (fun _ b => if b.due = 0 then b else { due := 0, last := now }) c.banks }

theorem noneDue_issueRefreshes (now : Nat) (m : SMap Chan) :
    NoneDue (mapMap (fun _ => Chan.initial) (fun _ c => c.issueRefreshes now) m) := by
  intro e he b hb
  obtain ⟨x, -, rfl⟩ := mem_mapMap he
  have hmem : b ∈ mapMap (fun _ => BankRefresh.mk 0 0) (fun _ b => if b.due = 0 then b else { due := 0, last := now }) x.2.banks := hb
  obtain ⟨y, -, rfl⟩ := mem_mapMap hmem
  dsimp only
  split
  · assumption
  · rfl

/-- The panic that the channels know once a port's packet has come. -/
def State.panicAfter (s : State) (p : Nat) (raised : Bool) : BitVec 2 :=
  if raised then s.dram.panic ||| 1#2 <<< p else s.dram.panic &&& ~~~(1#2 <<< p)

theorem panicAfter_getLsbD (s : State) (p : Port) (raised : Bool) (i : Nat) (hi : i < 2) :
    (s.panicAfter p.val raised).getLsbD i = if i = p.val then raised else s.dram.panic.getLsbD i := by
  have hp := p.isLt
  have hbit : (1#2 <<< p.val).getLsbD i = decide (i = p.val) := by
    fin_cases p <;> obtain rfl | rfl : i = 0 ∨ i = 1 := by omega
    all_goals decide
  unfold State.panicAfter
  cases raised
  · rw [if_neg Bool.false_ne_true, BitVec.getLsbD_and, BitVec.getLsbD_not, hbit]
    by_cases h : i = p.val <;> simp [h, hi]
  · rw [if_pos rfl, BitVec.getLsbD_or, hbit]
    by_cases h : i = p.val <;> simp [h]

/-- The state in which a packet leaves the channels, before deferred refreshes. -/
def State.panicked (s : State) (panic : BitVec 2) : State :=
  { s with dram := { s.dram with
      panic := panic
      chans := if panic = 0 then mapMap (fun _ => Chan.initial) (fun _ c => c.issueRefreshes s.uptime) s.dram.chans else s.dram.chans } }

theorem exec_panicPacket (s : State) (p : Port) (raised : Bool) : exec (.panicPacket p raised) s =
    .next (if s.dram.panic = 0 ∨ s.panicAfter p.val raised ≠ 0 then s.panicked (s.panicAfter p.val raised)
      else (s.panicked (s.panicAfter p.val raised)).deferredRefreshes) := by
  change (if (decide (s.dram.panic = 0) || decide (s.panicAfter p.val raised ≠ 0)) = true then
      Host.Outcome.next (s.panicked (s.panicAfter p.val raised))
    else .next (s.panicked (s.panicAfter p.val raised)).deferredRefreshes) = _
  by_cases h : s.dram.panic = 0 ∨ s.panicAfter p.val raised ≠ 0
  · rw [if_pos h, if_pos (by simpa using h)]
  · rw [if_neg h, if_neg (by simpa using h)]

theorem panicked_frame (s : State) (panic : BitVec 2) : s.panicked panic = { s with dram := (s.panicked panic).dram } := rfl

/-- What a packet leaves: nothing but the channels' panic and their refreshes, and the events and counters of deferred ones. -/
theorem panicPacket_panics (s : State) (p : Port) (raised : Bool) : ∃ t, exec (.panicPacket p raised) s = .next t
    ∧ (∀ i : Nat, i < 2 → t.dram.panic.getLsbD i = if i = p.val then raised else s.dram.panic.getLsbD i)
    ∧ (t.dram.panic ≠ 0 → t.dram.chans = s.dram.chans)
    ∧ (t.dram.panic = 0 → ∀ e ∈ t.dram.chans, ∀ b ∈ e.2.banks, b.2.due = 0)
    ∧ (t.dram.panic ≠ 0 ∨ s.dram.panic = 0 → t = { s with dram := t.dram })
    ∧ t = { s with dram := t.dram, od := t.od, log := t.log, perf := t.perf }
    ∧ t.dram = { s.dram with panic := t.dram.panic, chans := t.dram.chans } := by
  have hdue : s.panicAfter p.val raised = 0 → NoneDue (s.panicked (s.panicAfter p.val raised)).dram.chans := fun h => by
    unfold State.panicked
    rw [h]
    exact (noneDue_issueRefreshes s.uptime s.dram.chans :)
  have hbits := panicAfter_getLsbD s p raised
  refine ⟨_, exec_panicPacket s p raised, ?_⟩
  generalize s.panicAfter p.val raised = panic at hdue hbits
  by_cases hc : s.dram.panic = 0 ∨ panic ≠ 0
  · rw [if_pos hc]
    exact ⟨hbits, fun hn => if_neg hn, hdue, fun _ => rfl, rfl, rfl⟩
  · rw [if_neg hc]
    obtain ⟨hwas, hnow⟩ : ¬ s.dram.panic = 0 ∧ panic = 0 := by tauto
    obtain ⟨hf, hd, hn⟩ := deferredRefreshes_tallyFrame (s.panicked panic)
    have hpanic : (s.panicked panic).deferredRefreshes.dram.panic = panic := by rw [hd]; rfl
    refine ⟨fun i hi => by rw [hpanic, hbits i hi], fun h => absurd (hpanic.trans hnow) h, fun _ => hn (hdue hnow),
      fun h => absurd h (not_or.2 ⟨not_not.2 (hpanic.trans hnow), hwas⟩), Eq.trans hf ?_, Eq.trans hd ?_⟩
    · rw [panicked_frame]
    · rw [hpanic]
      rfl

/-! ## Configuration requests (R65, R74, R75, R89) -/

theorem exec_configurationRequest (s : State) (p : Port) (r : ConfigRequest) :
    exec (.configurationRequest p r) s = execConfigurationRequest p r s := rfl

section
variable {s : State} {p : Port} (hup : s.portUp p.val = true)
include hup

theorem configurationRequest_early (r : ConfigRequest) (h2 : s.reachedStep 2 = false) : exec (.configurationRequest p r) s =
    .next { s with out := { s.out with host := [.retryStatus p.val], ide := 0 } } := by
  have hup' : s.freshAnswers.portUp p.val = true := hup
  have h2' : s.freshAnswers.reachedStep 2 = false := h2
  rw [exec_configurationRequest]
  unfold execConfigurationRequest
  simp only [hup', h2']
  rfl

variable (h2 : s.reachedStep 2 = true)
include h2

theorem hdmDecoder_programs {ld : Ld} (d : Fin 4) (base size : BitVec 64) {ways gran : Nat} (hp : portOfLd ld.val = p.val)
    (hv : s.ldVisible ld.val = true) (hi : interleaves ways gran = true) :
    ∃ t, exec (.configurationRequest p (.hdmDecoder ld d base size ways gran)) s = .next t
      ∧ mapGet (fun _ => HdmDecoder.initial) t.host.decoders (ld.val * 4 + d.val)
          = { base := base, size := size, ways := ways, granularity := gran }
      ∧ (∀ k, k ≠ ld.val * 4 + d.val → mapGet (fun _ => HdmDecoder.initial) t.host.decoders k
          = mapGet (fun _ => HdmDecoder.initial) s.host.decoders k)
      ∧ t.out.host = [.config p.val 0] ∧ t = { s with out := t.out, host := t.host } := by
  have hup' : s.freshAnswers.portUp p.val = true := hup
  have h2' : s.freshAnswers.reachedStep 2 = true := h2
  have hv' : s.freshAnswers.ldVisible ld.val = true := hv
  refine ⟨{ s.freshAnswers.programDecoder ld.val d.val { base := base, size := size, ways := ways, granularity := gran } with
      out := { s.freshAnswers.out with host := [.config p.val 0] } }, ?_, mapGet_mapSet_same .., fun k hk => mapGet_mapSet_other _ _ _ _ _ hk,
    rfl, rfl⟩
  rw [exec_configurationRequest, execConfigurationRequest]
  simp only [hup', h2', hv', hp, hi]
  rfl

theorem readSpace_identity : ∃ t v, exec (.configurationRequest p (.readSpace 0)) s = .next t
    ∧ t.out.host = [.config p.val (v * 65536 + s.get OD.identityPciVendorId)] ∧ t = { s with out := t.out, free := t.free } := by
  have hup' : s.freshAnswers.portUp p.val = true := hup
  have h2' : s.freshAnswers.reachedStep 2 = true := h2
  refine ⟨{ s.freshAnswers.draw with out := { s.freshAnswers.out with
      host := [.config p.val ((Config.freeBits 32 s.free).toNat / 65536 * 65536 + s.get OD.identityPciVendorId)] } }, _, ?_, rfl, rfl⟩
  rw [exec_configurationRequest, execConfigurationRequest]
  simp only [hup', h2']
  rfl

theorem readField_visible {ld : Ld} (f : CapField) (hp : portOfLd ld.val = p.val) (hv : s.ldVisible ld.val = true) :
    exec (.configurationRequest p (.readField ld f)) s =
      .next { s with out := { s.out with host := [.config p.val (s.capability ld.val f)], ide := 0 } } := by
  have hup' : s.freshAnswers.portUp p.val = true := hup
  have h2' : s.freshAnswers.reachedStep 2 = true := h2
  have hv' : s.freshAnswers.ldVisible ld.val = true := hv
  have hcap : s.freshAnswers.capability ld.val f = s.capability ld.val f := by cases f <;> rfl
  rw [exec_configurationRequest, execConfigurationRequest]
  simp only [hup', h2', hv', hp, hcap]
  rfl

theorem readField_otherPort {ld : Ld} (f : CapField) (hp : portOfLd ld.val ≠ p.val) :
    exec (.configurationRequest p (.readField ld f)) s =
      .next { s with out := { s.out with host := [.refusedConfig p.val], ide := 0 } } := by
  have hup' : s.freshAnswers.portUp p.val = true := hup
  have h2' : s.freshAnswers.reachedStep 2 = true := h2
  rw [exec_configurationRequest, execConfigurationRequest]
  simp only [hup', h2', hp]
  rfl

theorem ideMode_sets (skid : Bool) : ∃ t, exec (.configurationRequest p (.ideMode skid)) s = .next t
    ∧ t.hostPort p.val = { s.hostPort p.val with skid := skid } ∧ t = { s with out := t.out, host := t.host } := by
  have hup' : s.freshAnswers.portUp p.val = true := hup
  have h2' : s.freshAnswers.reachedStep 2 = true := h2
  refine ⟨{ s.freshAnswers.setHostPort p.val { s.hostPort p.val with skid := skid } with
      out := { (s.freshAnswers.setHostPort p.val { s.hostPort p.val with skid := skid }).out with host := [.config p.val 0] } }, ?_, ?_, ?_⟩
  · rw [exec_configurationRequest, execConfigurationRequest]
    simp only [hup', h2']
    rfl
  · exact (setHostPort_hostPort ..).trans (if_pos Iff.rfl)
  · rw [setHostPort_frame]
    rfl
end

/-- Settles O15: each command by the rules of what it shares with others (signals of GPF, the throttle's table, changes of panic,
deferred refreshes), with what those leave alone. -/
theorem hostMessages : Obligations.HostMessages := by
  unfold Obligations.HostMessages
  refine ⟨gpfPhase2Request_signals, residueUpdate_messages, fun s p n occupancy age hf ho => ?_, expressPanicHeld_reports,
    panicPacket_panics, fun _ _ r hup h2 => configurationRequest_early hup r h2,
    fun _ _ _ d base size _ _ hup h2 hp hv hi => hdmDecoder_programs hup h2 d base size hp hv hi,
    fun _ _ hup h2 => readSpace_identity hup h2,
    fun _ _ _ f skid hup h2 => ⟨readField_visible hup h2 f, readField_otherPort hup h2 f, ideMode_sets hup h2 skid⟩,
    fun _ _ => ⟨rfl, rfl, rfl, rfl, rfl, rfl, rfl, rfl⟩⟩
  subst ho
  refine ⟨expressPanicChange_rises hf, expressPanicChange_clears hf, fun hp ho ha => ?_, fun hp h => ?_⟩
  · exact expressPanicChange_stays hf (fun _ => ⟨ho, ha⟩) (fun h => absurd (hp.symm.trans h) (by decide))
  · exact expressPanicChange_stays hf (fun h' => absurd (hp.symm.trans h') (by decide)) (fun _ => h)

end Sys2Proof.Machine
end

section
/-! SUPPORT. Settles O7. The steps of BOOT and the ends of an attempt: what each step writes, and what its parts leave alone. -/
namespace Sys2Proof.Machine

/-! ## The sequence (R62) -/

/-- A step that may end goes on with its own effect. -/
theorem exists_bootStep {s : State} {n : Nat} {f : State → State} {P : State → Prop} (h : s.bootMay n = true) (hp : P (f s)) :
    ∃ t, s.bootStep n f = .next t ∧ P t := ⟨f s, if_pos h, hp⟩

theorem reach'_reachedStep (s : State) {n : Nat} (h : n < 8) : (s.reach' n).reachedStep n = true := by
  unfold State.reach' State.reachedStep
  simp [h]

@[simp] theorem startTraining_boot (s : State) (p : Nat) : (s.startTraining p).boot = s.boot := by rw [startTraining_hostFrame]

/-- A record written to a region of the embedded flash touches nothing else. -/
theorem record_frame (s : State) (region type key : Nat) (payload : List Byte) :
    s.record region type key payload = { s with eflash := (s.record region type key payload).eflash } := by
  unfold State.record State.setRegion
  split <;> rfl

theorem journal_frame (s : State) (type key : Nat) (payload : List Byte) :
    s.journal type key payload = { s with eflash := (s.journal type key payload).eflash } := record_frame ..

/-! ## t1 and t2 -/

theorem bootStart_ends (s : State) (temp : Int) (h : s.bootMay 1 = true) :
    ∃ t, exec (.bootStart temp) s = .next t ∧ t.reachedStep 1 = true ∧ t.boot.temperature = temp := by
  change ∃ t, execBootStart temp s = .next t ∧ _
  refine exists_bootStep h ⟨reach'_reachedStep _ (by decide), ?_⟩
  dsimp only [State.reach']
  (repeat' split) <;> simp

theorem mapGet_range8 (f : Nat → Porter) (n : Nat) (h : n < 8) :
    mapGet (fun _ => Porter.initial) ((List.range 8).map fun i => (i, f i)) n = f n := by
  have hl : (List.range 8).map (fun i => (i, f i)) =
    [(0, f 0), (1, f 1), (2, f 2), (3, f 3), (4, f 4), (5, f 5), (6, f 6), (7, f 7)] := rfl
  rw [hl]
  interval_cases n <;> rfl

theorem startPorters_porter (s : State) (n : Nat) (h : n < 8) :
    (s.startPorters.porter n).running = true ∧ (s.startPorters.porter n).reloading = false := by
  unfold State.porter State.startPorters
  dsimp only
  rw [mapGet_range8 _ _ h]
  exact ⟨rfl, rfl⟩

theorem portersLoaded_ends (s : State) (h : s.bootMay 2 = true) :
    ∃ t, exec (.portersLoaded true true true) s = .next t ∧ t.reachedStep 2 = true
      ∧ (∀ n, n < 8 → (t.porter n).running = true ∧ (t.porter n).reloading = false) ∧ t.ctl = s.ctl ∧ t.tables = s.tables := by
  change ∃ t, execPortersLoaded true true true s = .next t ∧ _
  exact exists_bootStep h ⟨reach'_reachedStep _ (by decide), fun n hn => startPorters_porter s n hn, rfl, rfl⟩

/-! ## t3 (R363, R375, R383) -/

/-- What an update leaves of the pipes' state: the quarantine, the journalled mark and whether keys are held. -/
def SamePipes (s t : State) : Prop :=
  t.crypt.quarantined = s.crypt.quarantined ∧ t.crypt.vaultMark = s.crypt.vaultMark ∧ t.crypt.keyed = s.crypt.keyed

theorem SamePipes.of_crypt {s t : State} (h : t.crypt = s.crypt) : SamePipes s t := by
  unfold SamePipes
  rw [h]
  exact ⟨rfl, rfl, rfl⟩

theorem SamePipes.trans {s t u : State} (h : SamePipes s t) (h' : SamePipes t u) : SamePipes s u :=
  ⟨h'.1.trans h.1, h'.2.1.trans h.2.1, h'.2.2.trans h.2.2⟩

theorem foldl_samePipes {α : Type} (f : State → α → State) (h : ∀ s a, SamePipes s (f s a)) (l : List α) (s : State) :
    SamePipes s (l.foldl f s) :=
  foldl_keeps (R := SamePipes) (fun _ => .of_crypt rfl) (fun _ _ _ => SamePipes.trans) f h l s

theorem journal_crypt (s : State) (type key payload) : (s.journal type key payload).crypt = s.crypt := by rw [journal_frame]

theorem setSlot_samePipes (s : State) (n : Nat) (x : Slot) : SamePipes s (s.setSlot n x) := ⟨rfl, rfl, rfl⟩

theorem loseSlot_samePipes (s : State) (n : Nat) : SamePipes s (s.loseSlot n) := by
  unfold State.loseSlot
  split
  · exact .of_crypt rfl
  · exact (setSlot_samePipes ..).trans (.of_crypt (raise_crypt ..))

theorem advanceSlot_samePipes (s : State) (e : Nat × Slot) : SamePipes s (s.advanceSlot e) := by
  unfold State.advanceSlot
  split
  · exact (setSlot_samePipes ..).trans (.of_crypt (journal_crypt ..))
  · exact .of_crypt rfl

theorem checkVaultKey_crypt (s : State) (check : BitVec 24) : (s.checkVaultKey check).1.crypt = s.crypt := by
  unfold State.checkVaultKey
  dsimp only
  split
  · exact journal_crypt ..
  · rfl

/-- Self-tests quarantine the pipes that fail, and no other state of the cipher moves. -/
theorem testPipes_quarantined (s : State) (pass : BitVec 40) :
    (s.testPipes pass).crypt.quarantined = ~~~pass ∧ (s.testPipes pass).crypt.vaultMark = s.crypt.vaultMark := by
  unfold State.testPipes
  extract_lets _ t
  obtain ⟨hq, hm, -⟩ := foldl_samePipes (fun s p => if pass.getLsbD p then s else s.raise 0x5030 0 [(.u8, p)])
    (fun s p => by
      split
      · exact .of_crypt rfl
      · exact .of_crypt (raise_crypt ..)) (List.range 40) t
  exact ⟨hq, hm⟩

/-- Every counter is advanced; keys are held from then on. -/
theorem advanceCounters_keyed (s : State) :
    s.advanceCounters.crypt.keyed = true ∧ s.advanceCounters.crypt.quarantined = s.crypt.quarantined := by
  unfold State.advanceCounters
  extract_lets m g a _ b n
  obtain ⟨hq, -, hk⟩ := foldl_samePipes State.advanceSlot advanceSlot_samePipes b.crypt.slots b
  rw [raise_crypt, hk, hq]
  refine ⟨rfl, ?_⟩
  have ha : a.crypt = s.crypt := (journal_crypt ..).trans (journal_crypt ..)
  change a.crypt.quarantined = _
  rw [ha]

theorem vaultKeyDerived_ends (s : State) (check : BitVec 24) (pass : BitVec 40) (bad : List (BitVec 8)) (h : s.bootMay 3 = true)
    (hcheck : (s.checkVaultKey check).2 = true) (hpipes : popcount 40 (~~~pass).toNat ≤ 16) (hmark : s.crypt.vaultMark + 2 ^ 21 < 2 ^ 64) :
    ∃ t, exec (.vaultKeyDerived check pass bad) s = .next t ∧ t.reachedStep 3 = true ∧ t.crypt.keyed = true
      ∧ t.crypt.quarantined = ~~~pass := by
  change ∃ t, execVaultKeyDerived check pass bad s = .next t ∧ _
  refine exists_bootStep h ?_
  have hcrypt := checkVaultKey_crypt s check
  generalize s.checkVaultKey check = r at hcheck hcrypt
  obtain ⟨u, b⟩ := r
  obtain rfl : b = true := hcheck
  dsimp only at hcrypt ⊢
  generalize hw : State.testPipes _ pass = w
  obtain ⟨hq, hm⟩ : w.crypt.quarantined = ~~~pass ∧ w.crypt.vaultMark = s.crypt.vaultMark := by
    obtain ⟨hq, hm⟩ := testPipes_quarantined ((bad.map (·.toNat)).foldl State.loseSlot u) pass
    obtain ⟨-, hlost, -⟩ := foldl_samePipes State.loseSlot loseSlot_samePipes (bad.map (·.toNat)) u
    rw [← hw]
    exact ⟨hq, hm.trans (hlost.trans (by rw [hcrypt]))⟩
  have hgo : ¬ (decide (w.pipesUsable < 24) || decide (2 ^ 64 - 2 ^ 20 ≤ w.crypt.vaultMark + 2 ^ 20)) = true := by
    unfold State.pipesUsable
    rw [hq, hm]
    simp only [Bool.or_eq_true, decide_eq_true_eq]
    omega
  rw [if_neg hgo]
  obtain ⟨hkeyed, hkept⟩ := advanceCounters_keyed w
  exact ⟨reach'_reachedStep _ (by decide), hkeyed, hkept.trans hq⟩

/-! ## t4 (R323) -/

/-- A channel in its first state comes up with every die that the population record names. -/
theorem bringUpFc_fresh {s : State} {c : Nat} (rate : Nat) (h : s.fchan c = FChan.initial) (hd : s.namedDies ≠ 0) :
    State.bringUpFc rate [] 0 s c = (s.setFchan c { FChan.initial with dies := s.namedDies, rate := rate }).raise 0x4001 rate
      [(.u8, c), (.u8, popcount 16 s.namedDies.toNat)] := by
  have hall : ∀ v : BitVec 16, v &&& 65535#16 = v := fun _ => BitVec.and_allOnes
  unfold State.bringUpFc
  simp [h, FChan.initial, State.when, hall]
  exact fun h0 => absurd h0 hd

theorem fchan_of_flash {s t : State} (h : t.flash.chans = s.flash.chans) (c : Nat) : t.fchan c = s.fchan c := by
  unfold State.fchan
  rw [h]

theorem bringUpFc_serves {s : State} {c : Nat} (rate : Nat) (h : s.fchan c = FChan.initial) (hd : s.namedDies ≠ 0) :
    ((State.bringUpFc rate [] 0 s c).fchan c).state = 0 ∧ (State.bringUpFc rate [] 0 s c).fchanServes c = true
      ∧ (∀ k, k ≠ c → (State.bringUpFc rate [] 0 s c).fchan k = s.fchan k)
      ∧ (State.bringUpFc rate [] 0 s c).namedDies = s.namedDies := by
  have hchan : ∀ k, (State.bringUpFc rate [] 0 s c).fchan k =
      (s.setFchan c { FChan.initial with dies := s.namedDies, rate := rate }).fchan k := fun k => by
    rw [bringUpFc_fresh rate h hd]
    exact fchan_of_flash (by rw [raise_flash]) k
  refine ⟨?_, ?_, fun k hk => (hchan k).trans (fchan_setFchan_other _ _ _ _ hk), ?_⟩
  · rw [hchan, fchan_setFchan_same]
    rfl
  · unfold State.fchanServes
    rw [hchan, fchan_setFchan_same]
    simpa [FChan.initial] using hd
  · rw [bringUpFc_fresh rate h hd]
    unfold State.namedDies
    rw [raise_flash]
    rfl

/-- Channels in their first state all come up, and no other changes. -/
theorem bringUpFcs_serve (rate : Nat) (l : List Nat) (hl : l.Nodup) (s : State) (h : ∀ c ∈ l, s.fchan c = FChan.initial)
    (hd : s.namedDies ≠ 0) :
    (∀ c ∈ l, ((l.foldl (State.bringUpFc rate [] 0) s).fchan c).state = 0
      ∧ (l.foldl (State.bringUpFc rate [] 0) s).fchanServes c = true)
    ∧ ∀ k, k ∉ l → (l.foldl (State.bringUpFc rate [] 0) s).fchan k = s.fchan k := by
  induction l generalizing s with
  | nil => exact ⟨fun _ hc => absurd hc List.not_mem_nil, fun _ _ => rfl⟩
  | cons c l ih =>
    obtain ⟨hc, hl⟩ := List.nodup_cons.1 hl
    obtain ⟨hstate, hserves, hother, hdies⟩ := bringUpFc_serves rate (h c List.mem_cons_self) hd
    have hrest : ∀ k ∈ l, (State.bringUpFc rate [] 0 s c).fchan k = FChan.initial := fun k hk =>
      (hother k (fun e => hc (e ▸ hk))).trans (h k (List.mem_cons_of_mem _ hk))
    obtain ⟨hup, hkept⟩ := ih hl _ hrest (hdies ▸ hd)
    refine ⟨fun k hk => ?_, fun k hk => ?_⟩
    · obtain rfl | hk := List.mem_cons.1 hk
      · have heq := hkept k hc
        rw [List.foldl_cons]
        refine ⟨by rw [heq, hstate], ?_⟩
        unfold State.fchanServes at hserves ⊢
        rw [heq]
        exact hserves
      · exact hup k hk
    · obtain ⟨hkc, hkl⟩ := not_or.1 (mt List.mem_cons.2 hk)
      exact (hkept k hkl).trans (hother k hkc)

/-- The division of the media and the maker's marks touch no channel and no object. -/
theorem divideMedia_chans (s : State) : s.divideMedia.flash.chans = s.flash.chans ∧ s.divideMedia.od = s.od := by
  unfold State.divideMedia
  dsimp only
  (repeat' split) <;> exact ⟨rfl, rfl⟩

theorem markFactory_chans (s : State) (bad) : (s.markFactory bad).flash.chans = s.flash.chans ∧ (s.markFactory bad).od = s.od := by
  unfold State.markFactory
  split
  · exact ⟨rfl, rfl⟩
  · next h =>
    clear h
    induction bad generalizing s with
    | nil => exact ⟨rfl, rfl⟩
    | cons e l ih => exact ih _

theorem countP_range_all {p : Nat → Bool} {n : Nat} (h : ∀ k, k < n → p k = true) : (List.range n).countP p = n :=
  (List.countP_eq_length.2 fun k hk => h k (List.mem_range.1 hk)).trans List.length_range

theorem countP_range_none {p : Nat → Bool} {n : Nat} (h : ∀ k, k < n → p k = false) : (List.range n).countP p = 0 :=
  List.countP_eq_zero.2 fun k hk => by simp [h k (List.mem_range.1 hk)]

theorem flashChannelsReady_ends (s : State) (marks) (h : s.bootMay 4 = true) (hfresh : ∀ n, n < 64 → s.fchan n = FChan.initial)
    (hd : s.namedDies ≠ 0) :
    ∃ t, exec (.flashChannelsReady (s.get OD.flashSpeedLimit) [] 0 marks) s = .next t ∧ t.reachedStep 4 = true
      ∧ t.channelsInService = 64 ∧ t.get OD.flashRate = s.get OD.flashSpeedLimit := by
  change ∃ t, execFlashChannelsReady (s.get OD.flashSpeedLimit) [] 0 s marks = .next t ∧ _
  refine exists_bootStep h ?_
  dsimp only
  rw [Nat.min_self, List.map_nil]
  obtain ⟨hup, -⟩ := bringUpFcs_serve (s.get OD.flashSpeedLimit) (List.range 64) List.nodup_range s
    (fun c hc => hfresh c (List.mem_range.1 hc)) hd
  generalize (List.range 64).foldl (State.bringUpFc (s.get OD.flashSpeedLimit) [] 0) s = u at hup
  generalize hv : State.divideMedia _ = v
  obtain ⟨hchans, hod⟩ : v.flash.chans = u.flash.chans ∧ v.od = (u.put OD.flashRate (s.get OD.flashSpeedLimit)).od := by
    obtain ⟨hc, ho⟩ := divideMedia_chans ((u.put OD.flashRate (s.get OD.flashSpeedLimit)).markFactory marks)
    obtain ⟨hc', ho'⟩ := markFactory_chans (u.put OD.flashRate (s.get OD.flashSpeedLimit)) marks
    rw [← hv]
    exact ⟨hc.trans hc', ho.trans ho'⟩
  have hrate : v.get OD.flashRate = s.get OD.flashSpeedLimit :=
    (congrArg (mapGet odDefault · OD.flashRate) hod).trans (get_put_same u ..)
  have hserves : ∀ k, k < 64 → v.fchanServes k = true := fun k hk => by
    unfold State.fchanServes
    rw [fchan_of_flash hchans]
    exact (hup k (List.mem_range.2 hk)).2
  have hout : v.fchansOut = 0 := countP_range_none (p := fun c => (v.fchan c).state != 0) fun k hk => by
    rw [fchan_of_flash hchans, (hup k (List.mem_range.2 hk)).1]
    rfl
  rw [hout, if_neg (by decide)]
  exact ⟨reach'_reachedStep _ (by decide), countP_range_all hserves, hrate⟩

/-! ## t5 (R303) -/

/-- A channel keeps its state, and neither the population nor BOOT moves. -/
structure SameChans (s t : State) : Prop where
  state : ∀ c, (t.chan c).state = (s.chan c).state
  population : t.dram.population = s.dram.population
  boot : t.boot = s.boot

theorem SameChans.of_dram {s t : State} (hd : t.dram = s.dram) (hb : t.boot = s.boot) : SameChans s t := by
  refine ⟨fun c => ?_, by rw [hd], hb⟩
  unfold State.chan
  rw [hd]

theorem SameChans.trans {s t u : State} (h : SameChans s t) (h' : SameChans t u) : SameChans s u :=
  ⟨fun c => (h'.state c).trans (h.state c), h'.population.trans h.population, h'.boot.trans h.boot⟩

theorem foldl_sameChans {α : Type} (f : State → α → State) (h : ∀ s a, SameChans s (f s a)) (l : List α) (s : State) :
    SameChans s (l.foldl f s) :=
  foldl_keeps (R := SameChans) (fun _ => .of_dram rfl rfl) (fun _ _ _ => SameChans.trans) f h l s

theorem isPopulated_of_population {s t : State} (h : t.dram.population = s.dram.population) (c : Nat) :
    t.isPopulated c = s.isPopulated c := by
  unfold State.isPopulated State.populated
  rw [h]

theorem record_sameChans (s : State) (region type key payload) : SameChans s (s.record region type key payload) := by
  rw [record_frame]
  exact .of_dram rfl rfl

theorem recordState_sameChans (s : State) (type key : Nat) : SameChans s (s.recordState type key) :=
  have hdraw : SameChans s s.draw := .of_dram rfl rfl
  hdraw.trans ((record_sameChans ..).trans (record_sameChans ..))

theorem when_sameChans {s : State} {f : State → State} (b : Bool) (h : SameChans s (f s)) : SameChans s (s.when b f) := by
  cases b
  · exact .of_dram rfl rfl
  · exact h

/-- A channel that trains is in service; the others, the population and BOOT stay. -/
theorem mcTrained_inService (s : State) (c : Nat) (full : Bool) : ((s.mcTrained c full).chan c).state = .inService
    ∧ (∀ k, k ≠ c → ((s.mcTrained c full).chan k).state = (s.chan k).state)
    ∧ (s.mcTrained c full).dram.population = s.dram.population ∧ (s.mcTrained c full).boot = s.boot := by
  unfold State.mcTrained
  extract_lets x back tally _ y u
  have hu : SameChans (s.setChan c y) u := when_sameChans _ (recordState_sameChans ..)
  have hall : SameChans (s.setChan c y) ((u.when back (·.recordState 0x0112 c)).raise 0x3001 0 [(.u8, c), (.u8, if full then 1 else 0)]) :=
    hu.trans ((when_sameChans _ (recordState_sameChans ..)).trans (.of_dram (raise_dram ..) (raise_boot ..)))
  obtain ⟨hstate, hpop, hboot⟩ := hall
  refine ⟨?_, fun k hk => ?_, hpop, hboot⟩
  · rw [hstate, chan_setChan_same]
  · rw [hstate, chan_setChan_other _ _ _ _ hk]

/-- What one channel's turn at t5 makes of a channel in its first state. -/
theorem bringUpMc_fresh {s : State} {c : Nat} (stored : Bool) (h : (s.chan c).state = .absent) :
    State.bringUpMc stored 0 0 s c = if s.isPopulated c then s.mcTrained c (!stored) else s := by
  unfold State.bringUpMc
  cases s.isPopulated c <;> simp [h]

theorem bringUpMc_serves {s : State} {c : Nat} (stored : Bool) (h : (s.chan c).state = .absent) :
    (s.isPopulated c = true → ((State.bringUpMc stored 0 0 s c).chan c).state = .inService)
    ∧ (∀ k, k ≠ c → ((State.bringUpMc stored 0 0 s c).chan k).state = (s.chan k).state)
    ∧ (State.bringUpMc stored 0 0 s c).dram.population = s.dram.population
    ∧ (State.bringUpMc stored 0 0 s c).boot = s.boot := by
  rw [bringUpMc_fresh stored h]
  cases s.isPopulated c
  · exact ⟨fun h => absurd h Bool.false_ne_true, fun _ _ => rfl, rfl, rfl⟩
  · obtain ⟨hstate, hother, hpop, hboot⟩ := mcTrained_inService s c (!stored)
    exact ⟨fun _ => hstate, hother, hpop, hboot⟩

/-- Populated channels in their first state all enter service. -/
theorem bringUpMcs_serve (stored : Bool) (l : List Nat) (hl : l.Nodup) {s t : State} (h : ∀ c ∈ l, (s.chan c).state = .absent)
    (ht : l.foldl (State.bringUpMc stored 0 0) s = t) :
    (∀ c ∈ l, s.isPopulated c = true → (t.chan c).state = .inService) ∧ (∀ k, k ∉ l → (t.chan k).state = (s.chan k).state)
    ∧ t.dram.population = s.dram.population ∧ t.boot = s.boot := by
  induction l generalizing s with
  | nil => subst ht; exact ⟨fun _ hc => absurd hc List.not_mem_nil, fun _ _ => rfl, rfl, rfl⟩
  | cons c l ih =>
    obtain ⟨hc, hl⟩ := List.nodup_cons.1 hl
    obtain ⟨hstate, hother, hpop, hboot⟩ := bringUpMc_serves stored (h c List.mem_cons_self)
    have hrest : ∀ k ∈ l, ((State.bringUpMc stored 0 0 s c).chan k).state = .absent := fun k hk =>
      (hother k (fun e => hc (e ▸ hk))).trans (h k (List.mem_cons_of_mem _ hk))
    obtain ⟨hup, hkept, hpops, hboots⟩ := ih hl hrest ht
    refine ⟨fun k hk hpk => ?_, fun k hk => ?_, hpops.trans hpop, hboots.trans hboot⟩
    · obtain rfl | hk := List.mem_cons.1 hk
      · exact (hkept k hc).trans (hstate hpk)
      · exact hup k hk ((isPopulated_of_population hpop k).trans hpk)
    · obtain ⟨hkc, hkl⟩ := not_or.1 (mt List.mem_cons.2 hk)
      exact (hkept k hkl).trans (hother k hkc)

theorem storeTraining_sameChans (s : State) (chans : List Nat) : SameChans s (s.storeTraining chans) := by
  unfold State.storeTraining
  extract_lets _ u t v
  have hu : SameChans s u := ⟨fun _ => rfl, rfl, rfl⟩
  split
  · exact hu
  · exact (hu.trans (foldl_sameChans _ (fun s c => recordState_sameChans s 0x0110 c) chans u)).trans ⟨fun _ => rfl, rfl, rfl⟩

theorem setChan_sameChans {s : State} {c : Nat} {x : Chan} (h : x.state = (s.chan c).state) : SameChans s (s.setChan c x) := by
  refine ⟨fun k => ?_, rfl, rfl⟩
  by_cases hk : k = c
  · rw [hk, chan_setChan_same, h]
  · rw [chan_setChan_other _ _ _ _ hk]

theorem put_sameChans (s : State) (k v : Nat) : SameChans s (s.put k v) := .of_dram rfl rfl

theorem reportMc_sameChans (rate : Nat) (drfm : BitVec 64) (s : State) (c : Nat) : SameChans s (State.reportMc rate drfm s c) := by
  unfold State.reportMc
  split
  · exact .of_dram rfl rfl
  · extract_lets _ a p
    have ha : SameChans s a := setChan_sameChans rfl
    exact ha.trans (foldl_sameChans (fun s (e : Nat × Nat) => s.put e.1 e.2) (fun s e => put_sameChans s e.1 e.2) _ a)

/-- DRAM_CHANNELS_TRAINED's work where no channel fails: channels are trained, results are stored, and the status objects follow. -/
def State.trainDram (s : State) : State :=
  let stored := s.useStored
  let s := { s with boot := { s.boot with storedTraining := stored } }
  let full := (List.range 16).filter (fun c => !stored || (s.chan c).state == .offline)
  let s := (List.range 16).foldl (State.bringUpMc stored 0 0) s
  let s := s.storeTraining (full.filter (fun c => (s.chan c).state == .inService))
  let s := (List.range 16).foldl (State.reportMc 8800 0) s
  let s := s.put OD.spaceTableNodesTotal (s.framesPopulated * s.get OD.spaceTableShare / 64)
  s.put OD.spaceFramesTotal s.poolFrames

theorem exec_dramChannelsTrained (s : State) : exec (.dramChannelsTrained 0 0) s =
    s.bootStep 5 (fun s => if s.trainDram.populated < 4 * s.trainDram.chansOut then s.trainDram.bootFail 5 0x0E else s.trainDram.reach' 5) :=
  rfl

theorem trainDram_serves {s : State} (hfresh : ∀ n, n < 16 → (s.chan n).state = .absent) :
    (∀ n, n < 16 → s.isPopulated n = true → (s.trainDram.chan n).state = .inService)
      ∧ s.trainDram.dram.population = s.dram.population ∧ s.trainDram.boot.storedTraining = s.useStored := by
  unfold State.trainDram
  extract_lets stored _ u full up trained reported nodes
  obtain ⟨hup, -, hpop, hboot⟩ := bringUpMcs_serve (s := u) (t := up) stored (List.range 16) List.nodup_range
    (fun c hc => hfresh c (List.mem_range.1 hc)) rfl
  have htrained : SameChans up trained := storeTraining_sameChans ..
  have hreported : SameChans trained reported := foldl_sameChans _ (reportMc_sameChans 8800 0) _ _
  have hnodes : SameChans reported nodes := put_sameChans ..
  clear_value nodes reported trained up
  obtain ⟨hstate, hpop', hboot'⟩ := htrained.trans (hreported.trans (hnodes.trans (put_sameChans nodes OD.spaceFramesTotal nodes.poolFrames)))
  refine ⟨fun n hn hp => (hstate n).trans (hup n (List.mem_range.2 hn) hp), hpop'.trans hpop, ?_⟩
  rw [hboot', hboot]

/-- With every populated channel in service, none is out. -/
theorem chansOut_zero {u : State} (hin : ∀ n, n < 16 → u.isPopulated n = true → (u.chan n).state = .inService) : u.chansOut = 0 :=
  countP_range_none (p := fun c => u.isPopulated c && !(u.chan c).state == .inService && !(u.chan c).state == .absent) fun k hk => by
    cases hp : u.isPopulated k
    · rfl
    · simp [hin k hk hp]

theorem dramChannelsTrained_reaches {s : State} (h : s.bootMay 5 = true) (hout : s.trainDram.chansOut = 0) :
    exec (.dramChannelsTrained 0 0) s = .next (s.trainDram.reach' 5) := by
  rw [exec_dramChannelsTrained]
  refine (if_pos h).trans ?_
  dsimp only
  rw [hout, if_neg (Nat.not_lt_zero _)]

theorem reach'_chan (s : State) (n c : Nat) : (s.reach' n).chan c = s.chan c := rfl
theorem reach'_storedTraining (s : State) (n : Nat) : (s.reach' n).boot.storedTraining = s.boot.storedTraining := rfl

theorem dramChannelsTrained_ends (s : State) (h : s.bootMay 5 = true) (hfresh : ∀ n, n < 16 → s.chan n = Chan.initial) :
    ∃ t, exec (.dramChannelsTrained 0 0) s = .next t ∧ t.reachedStep 5 = true
      ∧ (∀ n, n < 16 → s.isPopulated n = true → (t.chan n).state = .inService) ∧ t.boot.storedTraining = s.useStored := by
  obtain ⟨hin, hpop, hstored⟩ := trainDram_serves (s := s) fun n hn => by rw [hfresh n hn]; rfl
  have hout : s.trainDram.chansOut = 0 := chansOut_zero fun n hn hp => hin n hn ((isPopulated_of_population hpop n).symm.trans hp)
  refine ⟨_, dramChannelsTrained_reaches h hout, reach'_reachedStep _ (by decide), fun n hn hp => ?_, ?_⟩
  · rw [reach'_chan, hin n hn hp]
  · rw [reach'_storedTraining, hstored]

/-! ## t6 and t7 (R55, R62, R266, R274) -/

theorem sealRecordsRead_ends (s : State) (a b h m u) (hmay : s.bootMay 6 = true) :
    ∃ t, exec (.sealRecordsRead a b h m u) s = .next t ∧ t.reachedStep 6 = true := by
  change ∃ t, execSealRecordsRead a b h m u s = .next t ∧ _
  exact exists_bootStep hmay (reach'_reachedStep _ (by decide))

theorem openPort_get_other (s : State) (p : Nat) {k : Nat} (hm : k ≠ OD.hpMemAdmitted p) (hl : k ≠ OD.hpLinkState p) :
    (s.openPort p).get k = s.get k := by
  unfold State.openPort
  dsimp only
  split
  · rfl
  · split
    · rw [get_put_other _ _ _ _ hl, putFlag_get, if_neg hm]
    · rw [putFlag_get, if_neg hm]

/-- SERVICE is entered with its cause in OD 0x1100. -/
theorem enterService_mode (s : State) (cause : Nat) :
    (s.enterService cause).ctl.mode = .service ∧ (s.enterService cause).get OD.modeLastCause = cause := by
  unfold State.enterService
  extract_lets a _ b
  obtain ⟨hmode, hcause⟩ : a.ctl.mode = .service ∧ a.get OD.modeLastCause = cause := enterMode_mode s .service cause
  obtain ⟨hctl, hget⟩ : b.ctl = a.ctl ∧ b.get OD.modeLastCause = a.get OD.modeLastCause := by
    simp only [b]
    split <;> exact ⟨rfl, rfl⟩
  obtain ⟨hctl', -⟩ := openMem_modes b.firstPlan
  have hplan : Steady b b.firstPlan := by
    unfold State.firstPlan
    split
    · simp
    · exact planCompute_steady b
  refine ⟨by rw [hctl', ctl_of_steady hplan, hctl, hmode], ?_⟩
  unfold State.openMem
  rw [openPort_get_other _ _ (by decide) (by decide), openPort_get_other _ _ (by decide) (by decide), lastCause_of_steady hplan, hget, hcause]

theorem releaseOlder_unvaulted {s : State} (h : s.saves.vaults = []) : s.releaseOlder = s := by
  unfold State.releaseOlder
  rw [h]

theorem countDirty_saves (s : State) : s.countDirty.saves = s.saves := by
  unfold State.countDirty
  rw [journal_frame]
  rfl

theorem bootComplete_service (s : State) (h : s.bootMay 7 = true) (hv : s.saves.vaults = []) :
    ∃ t, exec .bootComplete s = .next t ∧ t.ctl.mode = .service ∧ t.get OD.modeLastCause = 0x05 := by
  change ∃ t, execBootComplete s = .next t ∧ _
  refine exists_bootStep h ?_
  extract_lets a _ _ b c cls
  have ha : a.saves.vaults = [] := by
    simp only [a]
    split
    · rw [countDirty_saves, hv]
    · exact hv
  have hc : c.saves.vaults = [] := by
    have hb : (b.put OD.modeBootFailures 0).saves.vaults = [] := ha
    simp only [c]
    rw [releaseOlder_unvaulted hb, hb]
  clear_value c
  rw [hc]
  dsimp only
  exact enterService_mode c.loadImage.deriveKeys.recomputeBacking 0x05

/-! ## Failed attempts (R55, R64) -/

theorem mainDieReset_ctl (s : State) : s.mainDieReset.ctl = s.ctl := by
  simp [State.mainDieReset]

theorem bootStepTimeout_fails {s : State} (n : Fin 7) (hm : s.ctl.mode = .boot) (hr : s.boot.retryHold = false)
    (hn : s.reachedStep (n.val + 1) = false) : exec (.bootStepTimeout n) s = .next (s.bootFail (n.val + 1) 0x0E) := by
  change execBootStepTimeout n s = _
  exact if_pos (by simp [hm, hr, hn])

/-- A first or second failed attempt waits for its retry. -/
theorem bootFail_retries (s : State) (step cause : Nat) (h : s.get OD.modeBootFailures < 2) :
    (s.bootFail step cause).ctl.mode = .boot ∧ (s.bootFail step cause).boot.retryHold = true
      ∧ (s.bootFail step cause).boot.reached = 0 := by
  unfold State.bootFail
  extract_lets n a b _ c d
  rw [if_pos (by omega : n < 3)]
  have hd : d.ctl.mode = .boot := by
    simp only [d]
    rw [mainDieReset_ctl]
    exact (enterMode_mode b .boot cause).1
  clear_value b d
  exact ⟨hd, rfl, rfl⟩

/-- A third failed attempt enters FREEZE. -/
theorem bootFail_freezes (s : State) (step cause : Nat) (h : 2 ≤ s.get OD.modeBootFailures) :
    (s.bootFail step cause).ctl.mode = .freeze := by
  unfold State.bootFail
  extract_lets n a b _ c d
  rw [if_neg (by omega : ¬ n < 3)]
  exact (enterFreeze_mode _ _).1

theorem bootRetryDelayExpiry_starts (s : State) (hm : s.ctl.mode = .boot) (hr : s.boot.retryHold = true) :
    ∃ t, exec .bootRetryDelayExpiry s = .next t ∧ t.boot.t0 = s.uptime ∧ t.boot.retryHold = false
      ∧ t.boot.reached = (if s.pins.resetN then 1 else 0) ∧ t.ctl.mode = .boot ∧ t.tables = s.tables ∧ t.od = s.od := by
  refine ⟨s.startAttempt, ?_, rfl, rfl, ?_, hm, rfl, rfl⟩
  · change execBootRetryDelayExpiry s = _
    exact if_pos (by simp [hm, hr])
  · unfold State.startAttempt
    cases s.pins.resetN <;> rfl

/-- Settles O7: one lemma per step of BOOT, from what the step itself writes and what its parts leave alone, and one for each end of an
attempt. -/
theorem boot : Obligations.Boot := by
  unfold Obligations.Boot
  refine ⟨fun s => ⟨fun temp h => bootStart_ends s temp h, portersLoaded_ends s,
    fun check pass bad h hc hp hm => vaultKeyDerived_ends s check pass bad h hc hp hm, flashChannelsReady_ends s, dramChannelsTrained_ends s,
    sealRecordsRead_ends s⟩, fun s => ⟨bootComplete_service s, fun n hm hr hn hf => ?_, fun n hm hr hn hf => ?_,
    bootRetryDelayExpiry_starts s⟩⟩
  · exact ⟨_, bootStepTimeout_fails n hm hr hn, bootFail_retries s _ _ hf⟩
  · exact ⟨_, bootStepTimeout_fails n hm hr hn, bootFail_freezes s _ _ hf⟩

end Sys2Proof.Machine
end

section
/-! SUPPORT. Settles O8. Watchdogs, restarts and porters: the terms along resumed requests, what an expiry and a rollback leave alone, and what a
restart's loading steps keep. -/
namespace Sys2Proof.Machine

/-! ## The terms along a resumed request -/

@[simp] theorem ite_terms (c : Prop) [Decidable c] (a b : State) :
    (if c then a else b).terms = if c then a.terms else b.terms :=
  apply_ite ..

@[simp] theorem foldl_terms {α : Type} (f : State → α → State) (h : ∀ s a, (f s a).terms = s.terms) (l : List α) (s : State) :
    (l.foldl f s).terms = s.terms := by
  induction l generalizing s with
  | nil => rfl
  | cons a l ih => rw [List.foldl_cons, ih, h]

theorem terms_of_eq {α : Type} {x : State × α} {t : State} {a : α} {q : Terms} (hx : x.1.terms = q) (h : x = (t, a)) :
    t.terms = q := by
  rw [← hx, h]

@[simp] theorem keep_terms (s : State) (k v) : (s.keep k v).terms = s.terms := by simp [State.keep]

@[simp] theorem setHostPort_terms (s : State) (p h) : (s.setHostPort p h).terms = s.terms := by simp [State.setHostPort]

@[simp] theorem when_terms (s : State) (c : Bool) (f : State → State) :
    (s.when c f).terms = if c then (f s).terms else s.terms := by
  unfold State.when; split <;> rfl

@[simp] theorem setChan_terms (s : State) (c x) : (s.setChan c x).terms = s.terms := by rfl

@[simp] theorem checkNodes_terms (s : State) : s.checkNodes.terms = s.terms := by simp [State.checkNodes]

@[simp] theorem placeAux_terms (s : State) (line) : (s.placeAux line).terms = s.terms := by
  unfold State.placeAux
  (repeat' split) <;> simp

@[simp] theorem touch_terms (s : State) (line) : (s.touch line).terms = s.terms := by simp [State.touch]

@[simp] theorem cacheWrite_terms (s : State) (key) : (s.cacheWrite key).terms = s.terms := by simp [State.cacheWrite]

@[simp] theorem setLeaf_terms (s : State) (key l) : (s.setLeaf key l).terms = s.terms := by simp [State.setLeaf]

@[simp] theorem setInterior_terms (s : State) (key e) : (s.setInterior key e).terms = s.terms := by
  simp [State.setInterior]

@[simp] theorem setCarriage_terms (s : State) (cid c) : (s.setCarriage cid c).terms = s.terms := by
  simp [State.setCarriage]

@[simp] theorem setDepot_terms (s : State) (i e) : (s.setDepot i e).terms = s.terms := by simp [State.setDepot]

@[simp] theorem setFlashCopy_terms (s : State) (name c) : (s.setFlashCopy name c).terms = s.terms := by
  simp [State.setFlashCopy]

@[simp] theorem setSnaps_terms (s : State) (cid r) : (s.setSnaps cid r).terms = s.terms := by simp [State.setSnaps]

theorem takeFrame_terms {s t : State} {f : Nat} (h : s.takeFrame = some (f, t)) : t.terms = s.terms := by
  unfold State.takeFrame at h
  dsimp only at h
  split at h
  · cases h
  · split at h <;> cases h
    rfl

@[simp] theorem setFrame_terms (s : State) (f c) : (s.setFrame f c).terms = s.terms := by rfl

@[simp] theorem checkSpace_terms (s : State) : s.checkSpace.terms = s.terms := by simp [State.checkSpace]

@[simp] theorem poisonLeaf_terms (s : State) (key) : (s.poisonLeaf key).terms = s.terms := by simp [State.poisonLeaf]

@[simp] theorem poisonInterior_terms (s : State) (k) : (s.poisonInterior k).terms = s.terms := by
  simp [State.poisonInterior]

@[simp] theorem depotUnref_terms (s : State) (i) : (s.depotUnref i).terms = s.terms := by simp [State.depotUnref]

@[simp] theorem freeCopy_terms (s : State) (name) : (s.freeCopy name).terms = s.terms := by simp [State.freeCopy]

@[simp] theorem dropLocation_terms (s : State) (key) : (s.dropLocation key).terms = s.terms := by rfl

@[simp] theorem freePageCopy_terms (s : State) (key) : (s.freePageCopy key).terms = s.terms := by
  simp [State.freePageCopy]

@[simp] theorem releaseRecord_terms (cid) (s : State) (r) : (State.releaseRecord cid s r).terms = s.terms := by
  unfold State.releaseRecord
  split <;> simp

@[simp] theorem dropSnapshot_terms (s : State) (cid cause) : (s.dropSnapshot cid cause).terms = s.terms := by
  simp [State.dropSnapshot]

@[simp] theorem addRecord_terms (s : State) (cid page k) : (s.addRecord cid page k).terms = s.terms := by
  simp [State.addRecord]

@[simp] theorem retainCopy_terms (s : State) (key) : (s.retainCopy key).terms = s.terms := by simp [State.retainCopy]

@[simp] theorem growEntry_terms (s : State) (cid level page) : (s.growEntry cid level page).1.terms = s.terms := by
  unfold State.growEntry
  dsimp only
  (repeat' split) <;> simp

@[simp] theorem growPath_terms (s : State) (cid page) : (s.growPath cid page).1.terms = s.terms := by
  unfold State.growPath
  split
  next t h3 =>
    have ht := terms_of_eq (growEntry_terms s cid 3 page) h3
    split
    next u h2 => rw [growEntry_terms, terms_of_eq (growEntry_terms t cid 2 page) h2, ht]
    next => rw [growEntry_terms, ht]
  next => exact growEntry_terms s cid 3 page

@[simp] theorem enqueue_terms (s : State) (key) : (s.enqueue key).terms = s.terms := by rfl

@[simp] theorem markDirty_terms (s : State) (key) : (s.markDirty key).terms = s.terms := by simp [State.markDirty]

@[simp] theorem depotRefused_terms (s : State) (cid i r) : (s.depotRefused cid i r).terms = s.terms := by
  unfold State.depotRefused
  split <;> simp

@[simp] theorem setRegion_terms (s : State) (n r) : (s.setRegion n r).terms = s.terms := by rfl

@[simp] theorem record_terms (s : State) (region type key payload) :
    (s.record region type key payload).terms = s.terms := by
  simp [State.record]

@[simp] theorem journal_terms (s : State) (type key payload) : (s.journal type key payload).terms = s.terms := by
  simp [State.journal]

@[simp] theorem lookup_terms (s : State) (cid page) : (s.lookup cid page).terms = s.terms := by simp [State.lookup]

@[simp] theorem complete_terms (s : State) (ld c) : (s.complete ld c).terms = s.terms := by simp [State.complete]

@[simp] theorem freeBuffer_terms (s : State) (p) : (s.freeBuffer p).terms = s.terms := by simp [State.freeBuffer]

@[simp] theorem completeWrite_terms (s : State) (ld dpa) : (s.completeWrite ld dpa).terms = s.terms := by
  simp [State.completeWrite]

@[simp] theorem completePoison_terms (s : State) (ld dpa) : (s.completePoison ld dpa).terms = s.terms := by
  simp [State.completePoison]

@[simp] theorem completeZeros_terms (s : State) (ld dpa) : (s.completeZeros ld dpa).terms = s.terms := by
  simp [State.completeZeros]

@[simp] theorem completeData_terms (s : State) (ld dpa d) : (s.completeData ld dpa d).terms = s.terms := by
  simp [State.completeData]

@[simp] theorem discardWrite_terms (s : State) (ld dpa) : (s.discardWrite ld dpa).terms = s.terms := by
  simp [State.discardWrite]

@[simp] theorem discardAs_terms (s : State) (w) : (s.discardAs w).terms = s.terms := by
  unfold State.discardAs
  split <;> simp

@[simp] theorem wait_terms (s : State) (w) : (s.wait w).terms = s.terms := by simp [State.wait]

@[simp] theorem waitFrame_terms (s : State) (w) : (s.waitFrame w).terms = s.terms := by simp [State.waitFrame]

@[simp] theorem waitPage_terms (s : State) (w) : (s.waitPage w).terms = s.terms := by rfl

@[simp] theorem setOutcome_terms (s : State) (cid n) : (s.setOutcome cid n).terms = s.terms := by simp [State.setOutcome]

@[simp] theorem poisonRestored_terms (s : State) (key) : (s.poisonRestored key).terms = s.terms := by
  simp [State.poisonRestored]

@[simp] theorem vaultUnreadable_terms (s : State) (key) : (s.vaultUnreadable key).terms = s.terms := by
  simp [State.vaultUnreadable]

@[simp] theorem parentUnreadable_terms (s : State) (key) : (s.parentUnreadable key).terms = s.terms := by
  simp [State.parentUnreadable]

@[simp] theorem fetchFails_terms (s : State) (key) : (s.fetchFails key).terms = s.terms := by
  unfold State.fetchFails
  dsimp only
  (repeat' split) <;> simp

@[simp] theorem startFetch_terms (s : State) (key) : (s.startFetch key).terms = s.terms := by simp [State.startFetch]

@[simp] theorem startDepotFetch_terms (s : State) (i) : (s.startDepotFetch i).terms = s.terms := by
  simp [State.startDepotFetch]

@[simp] theorem fetchFor_terms (s : State) (w : Waiter) (start : State → State) (h : (start s).terms = s.terms) :
    (s.fetchFor w start).terms = s.terms := by
  simp [State.fetchFor, h]

@[simp] theorem issueWrites_terms (s : State) (f lines source) : (s.issueWrites f lines source).terms = s.terms := by
  simp [State.issueWrites]

@[simp] theorem issueWrite_terms (s : State) (f line) : (s.issueWrite f line).terms = s.terms := by
  simp [State.issueWrite]

@[simp] theorem placeFrame_terms (s : State) (f c) : (s.placeFrame f c).terms = s.terms := by simp [State.placeFrame]

@[simp] theorem poisonLine_terms (s : State) (f line) : (s.poisonLine f line).terms = s.terms := by rfl

@[simp] theorem failLines_terms (s : State) (old new failed) : (s.failLines old new failed).terms = s.terms := by
  simp [State.failLines]

@[simp] theorem copyOff_terms (s : State) (old new) : (s.copyOff old new).terms = s.terms := by simp [State.copyOff]

@[simp] theorem thawPage_terms (s : State) (key) : (s.thawPage key).terms = s.terms := by
  unfold State.thawPage
  dsimp only
  split
  · split
    next h => simp [takeFrame_terms h]
    next => rfl
  · rfl

@[simp] theorem moveNode_terms (s : State) (k) : (s.moveNode k).terms = s.terms := by
  unfold State.moveNode
  dsimp only
  (repeat' split) <;> simp

@[simp] theorem thawWalk_terms (s : State) (cid page) : (s.thawWalk cid page).terms = s.terms := by
  unfold State.thawWalk
  (repeat' split) <;> simp

@[simp] theorem thawDepot_terms (s : State) (i) : (s.thawDepot i).terms = s.terms := by
  unfold State.thawDepot
  dsimp only
  split
  · split
    next h => simp [takeFrame_terms h]
    next => rfl
  · rfl

@[simp] theorem cipherLine_terms (s : State) : s.cipherLine.terms = s.terms := by simp [State.cipherLine]

@[simp] theorem readResident_terms (s : State) (ld dpa key line blockFails) :
    (s.readResident ld dpa key line blockFails).terms = s.terms := by
  simp [State.readResident]

@[simp] theorem checkEntry_terms (s : State) (i) : (s.checkEntry i).terms = s.terms := by simp [State.checkEntry]

@[simp] theorem readDepot_terms (s : State) (w i blockFails) : (s.readDepot w i blockFails).terms = s.terms := by
  unfold State.readDepot
  dsimp only
  (repeat' split) <;> simp

@[simp] theorem readPage_terms (s : State) (w blockFails) : (s.readPage w blockFails).terms = s.terms := by
  simp [State.readPage]

@[simp] theorem serveRead_terms (s : State) (w blockFails) : (s.serveRead w blockFails).terms = s.terms := by
  simp [State.serveRead]

@[simp] theorem storeLine_terms (s : State) (ld dpa key line d bad) :
    (s.storeLine ld dpa key line d bad).terms = s.terms := by
  simp [State.storeLine]

@[simp] theorem storeFor_terms (s : State) (w) : (s.storeFor w).terms = s.terms := by
  unfold State.storeFor
  split <;> simp

theorem snapshotBefore_terms {s t : State} {key : Nat} (h : s.snapshotBefore key = some t) : t.terms = s.terms := by
  unfold State.snapshotBefore at h
  dsimp only at h
  split at h
  · cases h; rfl
  · split at h
    · split at h
      · split at h
        next => cases h
        next e => cases h; simp [takeFrame_terms e]
      · cases h; simp
    · cases h; simp

theorem changeResident_terms {s t : State} {w : Waiter} (h : s.changeResident w = some t) : t.terms = s.terms := by
  obtain ⟨u, hu, rfl⟩ := Option.map_eq_some_iff.1 h
  simp [snapshotBefore_terms hu]

@[simp] theorem writeResident_terms (s : State) (w) : (s.writeResident w).terms = s.terms := by
  unfold State.writeResident
  split
  · simp
  · split
    · simp
    · split
      next => simp
      next h => exact changeResident_terms h

@[simp] theorem fillPage_terms (s : State) (key f im) : (s.fillPage key f im).terms = s.terms := by simp [State.fillPage]

@[simp] theorem refusePage_terms (s : State) (w) : (s.refusePage w).terms = s.terms := by simp [State.refusePage]

@[simp] theorem writeUnallocated_terms (s : State) (w) : (s.writeUnallocated w).terms = s.terms := by
  unfold State.writeUnallocated
  split
  · simp
  · split
    next t e =>
      have ht := terms_of_eq (growPath_terms s w.cid w.page) e
      split
      next => simp [ht]
      next h => simp [takeFrame_terms h, ht]
    next t _ _ e => rw [discardAs_terms, terms_of_eq (growPath_terms s w.cid w.page) e]

@[simp] theorem writeDepot_terms (s : State) (w) : (s.writeDepot w).terms = s.terms := by
  unfold State.writeDepot
  dsimp only
  split
  · split
    · simp
    · split
      · simp
      · split
        · simp
        · split
          next t e =>
            have ht : t.terms = s.terms := by simpa using terms_of_eq (growPath_terms _ w.cid w.page) e
            split
            · split <;> simp [ht]
            · split
              · simp [ht]
              · split
                next => simp [ht]
                next h => simp [takeFrame_terms h, ht]
          next e => simpa using terms_of_eq (growPath_terms _ w.cid w.page) e
  · simp

@[simp] theorem writePage_terms (s : State) (w) : (s.writePage w).terms = s.terms := by simp [State.writePage]

@[simp] theorem serveWrite_terms (s : State) (w) : (s.serveWrite w).terms = s.terms := by simp [State.serveWrite]

@[simp] theorem serveHeld_terms (s : State) (w) : (s.serveHeld w).terms = s.terms := by simp [State.serveHeld]

@[simp] theorem resumeOne_terms (s : State) (w) : (s.resumeOne w).terms = s.terms := by simp [State.resumeOne]

@[simp] theorem storeTicket_terms (s : State) (t) : (s.storeTicket t).terms = s.terms := by simp [State.storeTicket]

@[simp] theorem settleTickets_terms (s : State) (store) : (s.settleTickets store).terms = s.terms := by
  simp [State.settleTickets]

@[simp] theorem resumeHead_terms (s : State) : s.resumeHead.terms = s.terms := by
  unfold State.resumeHead
  split <;> simp

@[simp] theorem resumeAll_terms (n) (s : State) : (State.resumeAll n s).terms = s.terms := by
  induction n generalizing s with
  | zero => rfl
  | succ n ih => rw [State.resumeAll, ih, resumeHead_terms]

@[simp] theorem signalGpf_terms (s : State) (p) : (s.signalGpf p).terms = s.terms := by simp [State.signalGpf]

@[simp] theorem resume_terms (s : State) : s.resume.terms = s.terms := by simp [State.resume]

@[simp] theorem setLink_terms (s : State) (n l) : (s.setLink n l).terms = s.terms := by rfl

@[simp] theorem releaseSlots_terms (s : State) (n) : (s.releaseSlots n).terms = s.terms := by simp [State.releaseSlots]

@[simp] theorem releaseBatsel_terms (s : State) : s.releaseBatsel.terms = s.terms := by rfl

@[simp] theorem advancePointer_terms (s : State) (n) : (s.advancePointer n).terms = s.terms := by
  simp [State.advancePointer]

@[simp] theorem stopDrill_terms (s : State) (result keepBatsel) : (s.stopDrill result keepBatsel).terms = s.terms := by
  simp [State.stopDrill]

@[simp] theorem abortDrill_terms (s : State) (result keepBatsel) : (s.abortDrill result keepBatsel).terms = s.terms := by
  simp [State.abortDrill]

@[simp] theorem rewindTransfer_terms (s : State) : s.rewindTransfer.terms = s.terms := by
  unfold State.rewindTransfer
  (repeat' split) <;> simp

@[simp] theorem sendOn_terms (s : State) (n k) : (s.sendOn n k).terms = s.terms := by rfl

@[simp] theorem injected_terms (s : State) (n k) : (s.injected n k).terms = s.terms := by simp [State.injected]
theorem abandonTerms_terms (s : State) : s.abandonTerms.terms.runs = [] ∧ s.abandonTerms.terms.exp = none
    ∧ s.abandonTerms.terms.imp = none ∧ s.abandonTerms.terms.admission = none := ⟨rfl, rfl, rfl, rfl⟩

theorem abandonAll_terms (s : State) : s.abandonAll.terms = s.abandonTerms.terms := by
  unfold State.abandonAll
  dsimp only
  split <;> simp

/-! ## The embedded flash's operation along a rollback (R545, R546) -/

/-- The embedded flash goes on with the operation it is at. -/
def SameBusy (s t : State) : Prop := t.eflash.busy = s.eflash.busy

theorem SameBusy.of_eflash {s t : State} (h : t.eflash = s.eflash) : SameBusy s t := congrArg EFlash.busy h

theorem SameBusy.trans {s t u : State} (h : SameBusy s t) (h' : SameBusy t u) : SameBusy s u := Eq.trans h' h

theorem foldl_sameBusy {α : Type} (f : State → α → State) (h : ∀ s a, SameBusy s (f s a)) (l : List α) (s : State) :
    SameBusy s (l.foldl f s) :=
  foldl_keeps (R := SameBusy) (fun _ => rfl) (fun _ _ _ => SameBusy.trans) f h l s

theorem setRegion_sameBusy (s : State) (n : Nat) (r : LogRegion) : SameBusy s (s.setRegion n r) := by
  unfold State.setRegion EFlash.setRegion SameBusy
  split <;> rfl

theorem journal_sameBusy (s : State) (type key payload) : SameBusy s (s.journal type key payload) := by
  unfold State.journal State.record
  split
  · exact setRegion_sameBusy ..
  · rfl

theorem raise_sameBusy (s : State) (c v is) : SameBusy s (s.raise c v is) := .of_eflash (raise_eflash ..)

theorem setBank_eflash (s : State) (b x) : (s.setBank b x).eflash = s.eflash := by
  unfold State.setBank
  split <;> rfl

theorem journalBank_sameBusy (s : State) (b r) : SameBusy s (s.journalBank b r) :=
  (SameBusy.of_eflash (setBank_eflash ..)).trans (journal_sameBusy ..)

theorem setUpdate_sameBusy (s : State) (u) : SameBusy s (s.setUpdate u) :=
  SameBusy.trans (t := { s with update := { s.update with state := u } }) rfl (journal_sameBusy ..)

theorem endPackage_sameBusy (s : State) : SameBusy s s.endPackage := by
  unfold State.endPackage
  extract_lets _ a b
  have ha : SameBusy s a := rfl
  have hb : SameBusy a b := foldl_sameBusy (fun (s : State) k => s.put k 0) (fun _ _ => rfl) _ a
  exact (ha.trans hb).trans (setUpdate_sameBusy ..)

theorem toDefault_sameBusy (s : State) (k : Nat) : SameBusy s (s.toDefault k) := by
  unfold State.toDefault
  dsimp only
  split <;> rfl

theorem migrateOne_sameBusy (old new) (s : State) (k : Nat) : SameBusy s (State.migrateOne old new s k) := by
  unfold State.migrateOne
  split
  · refine SameBusy.trans (toDefault_sameBusy s k) ?_
    unfold State.dropSetting
    dsimp only
    split
    · exact (setRegion_sameBusy ..).trans (setRegion_sameBusy ..)
    · rfl
  · split
    · rfl
    · refine SameBusy.trans (SameBusy.trans (toDefault_sameBusy s k) ?_) (raise_sameBusy ..)
      unfold State.recordSetting
      split
      · exact (setRegion_sameBusy ..).trans (setRegion_sameBusy ..)
      · rfl

theorem migrate_sameBusy (s : State) (old new : Nat) : SameBusy s (s.migrate old new) := by
  unfold State.migrate
  extract_lets recorded staged keys
  clear_value keys
  have hs : SameBusy s { s with update := { s.update with removed := [] } } := rfl
  exact hs.trans (foldl_sameBusy _ (migrateOne_sameBusy _ _) keys _)

theorem transmit_eflash (s : State) (src op tag i b r) : (s.transmit src op tag i b r).eflash = s.eflash := by
  obtain ⟨o, u, h⟩ := transmit_frame s src op tag i b r
  rw [h]

theorem closePorterSessions_sameBusy (s : State) : SameBusy s s.closePorterSessions := by
  unfold State.closePorterSessions
  refine SameBusy.trans (foldl_sameBusy _ (fun s x => ?_) s.zop.sessions s) rfl
  split
  · split
    · exact .of_eflash (transmit_eflash ..)
    · rfl
  · rfl

theorem smRestart_sameBusy (s : State) (cause : Nat) : SameBusy s (s.smRestart cause) := by
  unfold State.smRestart State.proxyInternal
  dsimp only
  split <;> rfl

theorem runBank_sameBusy (s : State) (old new : Nat) : SameBusy s (s.runBank old new) := by
  refine SameBusy.trans (t := (s.bump OD.bankActivations 1).smRestart 4) (smRestart_sameBusy (s.bump OD.bankActivations 1) 4) ?_
  refine SameBusy.trans (t := ((s.bump OD.bankActivations 1).smRestart 4).loadItcm) rfl ?_
  exact (migrate_sameBusy ..).trans ((closePorterSessions_sameBusy ..).trans (raise_sameBusy ..))

theorem rollBack_sameBusy (s : State) (cause : Nat) : SameBusy s (s.rollBack cause) := by
  unfold State.rollBack
  extract_lets bad good trial a _ b c d
  have hd : SameBusy s d := by
    have hb : SameBusy s b := (journalBank_sameBusy ..).trans (journalBank_sameBusy ..)
    have hc : SameBusy s c := SameBusy.trans (t := b.bump OD.bankRollbacks 1) hb (raise_sameBusy ..)
    clear_value c
    simp only [d]
    split
    · exact hc.trans (endPackage_sameBusy ..)
    · exact hc
  clear_value d
  refine hd.trans ?_
  split
  · exact runBank_sameBusy ..
  · exact SameBusy.trans (t := d.bump OD.bankActivations 1) rfl (migrate_sameBusy ..)

theorem trialFails_sameBusy (s : State) (cause : Nat) : SameBusy s (s.trialFails cause) := by
  unfold State.trialFails
  split
  · exact rollBack_sameBusy ..
  · rfl

/-! ## STATIONMASTER_WATCHDOG_EXPIRY (R70, R71) -/

/-- An expiry is counted and reported; a third one ends a trial. -/
def State.expired (s : State) : State :=
  let times := (s.uptime :: s.cores.smExpiries).take 3
  let u := { s with cores := { s.cores with smExpiries := times } }.raise 0x8010 0 [(.u8, s.ctl.mode.code)]
  if thirdExpiry s.uptime times then u.trialFails 3 else u

theorem exec_stationmasterWatchdogExpiry {s : State} (hs : s.ctl.stopped = false) : exec .stationmasterWatchdogExpiry s =
    if s.expired.ctl.mode == .save then .next (s.expired.latch true)
    else if s.expired.eflash.busy.isSome then .next { s.expired with cores := { s.expired.cores with deferredReset := 2 } }
    else .next s.expired.watchdogRestart := by
  change execStationmasterWatchdogExpiry s = _
  exact if_neg (by simp [hs])

theorem expired_frame (s : State) : s.expired.ctl = s.ctl ∧ s.expired.eflash.busy = s.eflash.busy := by
  unfold State.expired
  extract_lets times _ u
  have hu : u.ctl = s.ctl ∧ u.eflash.busy = s.eflash.busy :=
    ⟨raise_ctl .., raise_sameBusy { s with cores := { s.cores with smExpiries := times } } 0x8010 0 [(.u8, s.ctl.mode.code)]⟩
  clear_value u
  obtain ⟨hctl, hbusy⟩ := hu
  split
  · obtain ⟨hctl', -⟩ := trialFails_modes u 3
    exact ⟨hctl'.trans hctl, Eq.trans (trialFails_sameBusy u 3) hbusy⟩
  · exact ⟨hctl, hbusy⟩

/-- Outside a trial an expiry moves no table. -/
theorem expired_tables {s : State} (h : s.update.state ≠ .trial) : s.expired.tables = s.tables := by
  unfold State.expired
  extract_lets times _ u
  have hu : u.tables = s.tables := raise_tables ..
  have hstate : u.update.state = s.update.state := congrArg Update.state (raise_update ..)
  clear_value u
  split
  · unfold State.trialFails
    rw [if_neg (by simp [hstate, h]), hu]
  · exact hu

theorem beginRestart_recovery (s : State) : s.beginRestart.bus.recovery = true := rfl
theorem beginRestart_terms (s : State) : s.beginRestart.terms = s.terms := rfl
theorem beginRestart_ctl (s : State) : s.beginRestart.ctl = s.ctl := rfl
theorem beginRestart_tables (s : State) : s.beginRestart.tables = s.tables := rfl

/-- Where the long operations are abandoned, none is left when the stationmaster restarts. -/
theorem watchdogRestart_abandons {s : State} (h : s.ctl.mode = .restore ∨ s.ctl.mode = .service ∨ s.ctl.mode = .maintenance) :
    s.watchdogRestart.bus.recovery = true ∧ s.watchdogRestart.terms.runs = [] ∧ s.watchdogRestart.terms.exp = none
      ∧ s.watchdogRestart.terms.imp = none ∧ s.watchdogRestart.terms.admission = none := by
  have he : s.watchdogRestart = (s.abandonAll.abortDrill 1 false).resume.beginRestart := by
    unfold State.watchdogRestart
    obtain h | h | h := h <;> rw [h]
  have hterms : (s.abandonAll.abortDrill 1 false).resume.beginRestart.terms = s.abandonTerms.terms := by
    rw [beginRestart_terms, resume_terms, abortDrill_terms, abandonAll_terms]
  rw [he]
  refine ⟨beginRestart_recovery _, ?_⟩
  rw [hterms]
  exact abandonTerms_terms s

theorem watchdogRestart_freeze {s : State} (h : s.ctl.mode = .freeze) : s.watchdogRestart = s.beginRestart := by
  unfold State.watchdogRestart
  rw [h]

theorem stationmasterWatchdogExpiry_restarts (s : State)
    (hm : s.ctl.mode = .restore ∨ s.ctl.mode = .service ∨ s.ctl.mode = .maintenance ∨ s.ctl.mode = .freeze)
    (hs : s.ctl.stopped = false) (hb : s.eflash.busy = none) :
    ∃ t, exec .stationmasterWatchdogExpiry s = .next t ∧ t.bus.recovery = true
      ∧ (s.update.state ≠ .trial → s.ctl.mode = .freeze → t.ctl = s.ctl ∧ t.tables = s.tables)
      ∧ (s.ctl.mode ≠ .freeze → t.terms.runs = [] ∧ t.terms.exp = none ∧ t.terms.imp = none ∧ t.terms.admission = none) := by
  obtain ⟨hctl, hbusy⟩ := expired_frame s
  have hex : exec .stationmasterWatchdogExpiry s = .next s.expired.watchdogRestart := by
    rw [exec_stationmasterWatchdogExpiry hs, hctl, hbusy, hb]
    obtain h | h | h | h := hm <;> rw [h] <;> rfl
  refine ⟨_, hex, ?_⟩
  by_cases hf : s.ctl.mode = .freeze
  · rw [watchdogRestart_freeze (by rw [hctl, hf])]
    exact ⟨beginRestart_recovery _, fun ht _ => ⟨(beginRestart_ctl _).trans hctl, (beginRestart_tables _).trans (expired_tables ht)⟩,
      fun h => absurd hf h⟩
  · obtain ⟨hrec, hterms⟩ := watchdogRestart_abandons (s := s.expired) (by rw [hctl]; tauto)
    exact ⟨hrec, fun _ h => absurd h hf, fun _ => hterms⟩

theorem stationmasterWatchdogExpiry_defers (s : State) (hs : s.ctl.stopped = false) (hm : s.ctl.mode ≠ .save) (hb : s.eflash.busy ≠ none) :
    ∃ t, exec .stationmasterWatchdogExpiry s = .next t ∧ t.cores.deferredReset = 2 ∧ (s.update.state ≠ .trial → t.ctl = s.ctl) := by
  obtain ⟨hctl, hbusy⟩ := expired_frame s
  have hex := exec_stationmasterWatchdogExpiry hs
  rw [hctl, hbusy, if_neg (by simp [hm]), if_pos (Option.isSome_iff_ne_none.2 hb)] at hex
  exact ⟨_, hex, rfl, fun _ => hctl⟩

/-! ## STATIONMASTER_RESTART (R495) -/

/-- Cores, buses and control state stay. -/
def SameCores (s t : State) : Prop := t.cores = s.cores ∧ t.bus = s.bus ∧ t.ctl = s.ctl

theorem SameCores.refl (s : State) : SameCores s s := ⟨rfl, rfl, rfl⟩

theorem SameCores.trans {s t u : State} (h : SameCores s t) (h' : SameCores t u) : SameCores s u :=
  ⟨h'.1.trans h.1, h'.2.1.trans h.2.1, h'.2.2.trans h.2.2⟩

theorem foldl_sameCores {α : Type} (f : State → α → State) (h : ∀ s a, SameCores s (f s a)) (l : List α) (s : State) :
    SameCores s (l.foldl f s) :=
  foldl_keeps (R := SameCores) (SameCores.refl) (fun _ _ _ => SameCores.trans) f h l s

theorem raise_sameCores (s : State) (c v is) : SameCores s (s.raise c v is) := ⟨raise_cores .., raise_bus .., raise_ctl ..⟩

theorem put_sameCores (s : State) (k v : Nat) : SameCores s (s.put k v) := ⟨rfl, rfl, rfl⟩

theorem when_sameCores {s : State} {f : State → State} (b : Bool) (h : SameCores s (f s)) : SameCores s (s.when b f) := by
  cases b
  · exact .refl s
  · exact h

theorem setRegion_sameCores (s : State) (n r) : SameCores s (s.setRegion n r) := ⟨rfl, rfl, rfl⟩

theorem rewriteWeak_sameCores (s : State) (w : Nat × Nat) : SameCores s (s.rewriteWeak w) :=
  foldl_sameCores _ (fun s n => by
    dsimp only
    split
    · exact setRegion_sameCores ..
    · exact .refl s) _ s

theorem spoilRec_sameCores (s : State) (w : Nat × Nat) : SameCores s (s.spoilRec w) :=
  foldl_sameCores _ (fun _ _ => setRegion_sameCores ..) _ s

theorem readErrors_sameCores (s : State) (corrected bad : List (Nat × Nat)) : SameCores s (s.readErrors corrected bad) :=
  (foldl_sameCores _ (fun s w => (rewriteWeak_sameCores s w).trans (raise_sameCores ..)) corrected s).trans
    (foldl_sameCores _ spoilRec_sameCores bad _)

theorem scanRegion_sameCores (s : State) (n : Nat) : SameCores s (s.scanRegion n) :=
  foldl_sameCores _ (fun _ _ => (when_sameCores _ (raise_sameCores ..)).trans (when_sameCores _ (raise_sameCores ..))) _ s

theorem scanAll_sameCores (s : State) : SameCores s s.scanAll :=
  ((scanRegion_sameCores ..).trans (scanRegion_sameCores ..)).trans (scanRegion_sameCores ..)

theorem loadProgress_sameCores (s : State) : SameCores s s.loadProgress := by
  unfold State.loadProgress
  split
  · exact .refl s
  · extract_lets p k n sealed good a b st
    have ha : SameCores s a := (put_sameCores ..).trans ((put_sameCores ..).trans ((put_sameCores ..).trans (put_sameCores ..)))
    have hb : SameCores a b := (put_sameCores ..).trans (put_sameCores ..)
    refine (ha.trans hb).trans ?_
    clear_value b
    exact ⟨rfl, rfl, rfl⟩

theorem loadLearning_sameCores (s : State) : SameCores s s.loadLearning := by
  unfold State.loadLearning
  extract_lets rs sound
  clear_value sound
  split
  · exact (put_sameCores ..).trans (put_sameCores ..)
  · extract_lets derate c r25 a b
    have ha : SameCores s a := (put_sameCores ..).trans (put_sameCores ..)
    have hb : SameCores a b := (put_sameCores ..).trans ((put_sameCores ..).trans (put_sameCores ..))
    exact ha.trans (hb.trans ((put_sameCores ..).trans (when_sameCores _ (raise_sameCores ..))))

theorem resumeApply_sameCores (s : State) : SameCores s s.resumeApply := by
  unfold State.resumeApply
  split
  · exact SameCores.trans (t := { s with update := { s.update with resumed := false, paused := false } }) ⟨rfl, rfl, rfl⟩ (raise_sameCores ..)
  · exact .refl s

/-- With no reset and no porter's expiry waiting, the operation of the embedded flash just ends. -/
theorem eflashDone_idle {s : State} (hr : s.cores.deferredReset = 0) (hp : s.cores.deferredPorters = []) :
    s.eflashDone = { s with eflash := { s.eflash with busy := none } } := by
  unfold State.eflashDone
  rw [hr, hp]
  have hc : s.cores = { s.cores with deferredReset := 0, deferredPorters := [] } := by
    rw [← hr, ← hp]
  simp only [← hc]
  rfl

theorem smRestart_restarts (s : State) (cause : Nat) : (s.smRestart cause).cores.restarts = s.cores.restarts + 1
    ∧ (s.smRestart cause).cores.restartCause = cause ∧ (s.smRestart cause).bus.recovery = false ∧ (s.smRestart cause).ctl = s.ctl := by
  unfold State.smRestart State.proxyInternal
  dsimp only
  split <;> exact ⟨rfl, rfl, rfl, rfl⟩

/-- The stationmaster loads its code from the bank it chose: the counts of restarts stay. -/
theorem keepFault_restarts (s : State) (cause : RestartCause) : (s.keepFault cause).cores.restarts = s.cores.restarts
    ∧ (s.keepFault cause).cores.restartCause = s.cores.restartCause ∧ (s.keepFault cause).bus = s.bus
    ∧ (s.keepFault cause).ctl = s.ctl := by
  cases cause <;> exact ⟨rfl, rfl, rfl, rfl⟩

theorem faultsAgain_of_cores {s t : State} (h : t.cores = s.cores) (cause : RestartCause) : t.faultsAgain cause = s.faultsAgain cause := by
  unfold State.faultsAgain
  rw [h]

/-- The chosen bank's code is loaded: mode, counts and buses stay. -/
theorem chooseBank_loadItcm (s : State) (other : Bool) : ((s.chooseBank true other).loadItcm).ctl.mode = s.ctl.mode
    ∧ ((s.chooseBank true other).loadItcm).cores.restarts = s.cores.restarts
    ∧ ((s.chooseBank true other).loadItcm).cores.restartCause = s.cores.restartCause
    ∧ ((s.chooseBank true other).loadItcm).bus = s.bus := ⟨rfl, rfl, rfl, rfl⟩

/-- What a restart does, in the state in which it comes. -/
theorem exec_stationmasterRestart {s : State} {cause : RestartCause} {cor bad : List (Nat × Nat)} (hs : s.ctl.stopped = false)
    (hrom : s.ctl.romFailed = false) :
    exec (.stationmasterRestart cause true cor bad) s = .next (
      let u := (s.when (cause == .sramError) (·.note 0x6210)).eflashDone
      let v := (u.smRestart (restartCode cause)).keepFault cause
      let w := if u.faultsAgain cause then v.setBank v.activeBank { v.bank v.activeBank with damaged := true } else v
      ((w.chooseBank (true && !u.faultsAgain cause) true).loadItcm.readErrors cor bad).scanAll.loadProgress.loadLearning.resumeApply) := by
  change execStationmasterRestart cause true s cor bad = _
  exact if_neg (by simp [hs, hrom])

theorem stationmasterRestart_restarts (s : State) (cause : RestartCause) (cor bad : List (Nat × Nat)) (hs : s.ctl.stopped = false)
    (hrom : s.ctl.romFailed = false) (hr : s.cores.deferredReset = 0) (hp : s.cores.deferredPorters = [])
    (hfault : s.faultsAgain cause = false) :
    ∃ t, exec (.stationmasterRestart cause true cor bad) s = .next t ∧ t.ctl.mode = s.ctl.mode
      ∧ t.cores.restarts = s.cores.restarts + 1 ∧ t.cores.restartCause = restartCode cause ∧ t.bus.recovery = false := by
  refine ⟨_, exec_stationmasterRestart hs hrom, ?_⟩
  extract_lets u v _ w
  have hu : SameCores s u := by
    have hnote : SameCores s (s.when (cause == .sramError) (·.note 0x6210)) := when_sameCores _ (raise_sameCores ..)
    have hcores := hnote.1
    simp only [u]
    rw [eflashDone_idle (by rw [hcores, hr]) (by rw [hcores, hp])]
    exact hnote
  obtain ⟨hcores, -, hctl⟩ := hu
  have hagain : u.faultsAgain cause = false := (faultsAgain_of_cores hcores cause).trans hfault
  have hw : w = v := by
    simp only [w]
    rw [hagain, if_neg Bool.false_ne_true]
  rw [hagain, hw]
  obtain ⟨hrestarts, hcause, hrec, hctl'⟩ := smRestart_restarts u (restartCode cause)
  obtain ⟨hkrestarts, hkcause, hkbus, hkctl⟩ := keepFault_restarts (u.smRestart (restartCode cause)) cause
  obtain ⟨hbmode, hbrestarts, hbcause, hbbus⟩ := chooseBank_loadItcm v true
  have hrest : SameCores ((v.chooseBank (true && !false) true).loadItcm)
      (((v.chooseBank (true && !false) true).loadItcm.readErrors cor bad).scanAll.loadProgress.loadLearning.resumeApply) :=
    (readErrors_sameCores ..).trans ((scanAll_sameCores ..).trans ((loadProgress_sameCores ..).trans ((loadLearning_sameCores ..).trans
      (resumeApply_sameCores ..))))
  obtain ⟨hc, hb, hm⟩ := hrest
  refine ⟨?_, ?_, ?_, ?_⟩
  · rw [hm]
    exact hbmode.trans (by rw [hkctl, hctl', hctl])
  · rw [hc]
    exact hbrestarts.trans (hkrestarts.trans (hrestarts.trans (by rw [hcores])))
  · rw [hc]
    exact hbcause.trans (hkcause.trans hcause)
  · rw [hb]
    exact (congrArg Bus.recovery (hbbus.trans hkbus)).trans hrec

/-! ## Porters (R37, R70, R500) -/

theorem porter_setPorter_same (s : State) (n : Nat) (p : Porter) : (s.setPorter n p).porter n = p := mapGet_mapSet_same ..

theorem reloadPorter_porter (s : State) (n : Nat) : ((s.reloadPorter n).porter n).running = false
    ∧ ((s.reloadPorter n).porter n).reloading = true := by
  unfold State.reloadPorter
  rw [porter_setPorter_same]
  exact ⟨rfl, rfl⟩

theorem thirdExpiry_first (now : Nat) : thirdExpiry now ((now :: []).take 3) = false := by
  simp [thirdExpiry]

/-- A first expiry of a porter in a mode that serves resets the porter. -/
theorem expirePorter_first {s : State} {n : Nat}
    (hm : s.ctl.mode = .restore ∨ s.ctl.mode = .service ∨ s.ctl.mode = .maintenance ∨ s.ctl.mode = .freeze)
    (he : (s.porter n).expiries = []) : s.expirePorter n =
      ((s.setPorter n { s.porter n with expiries := (s.uptime :: []).take 3 }).raise 0x8011 0 [(.u8, n)]).reloadPorter n := by
  have hup : ∀ p : Porter, (((s.setPorter n p).raise 0x8011 0 [(.u8, n)]).reloadPorter n).uptime = s.uptime := fun p => raise_uptime ..
  unfold State.expirePorter
  obtain h | h | h | h := hm
  all_goals
    rw [h]
    dsimp only
    rw [he, hup, thirdExpiry_first, if_neg Bool.false_ne_true]

theorem porterWatchdogExpiry_reloads (s : State) (pt : Pt)
    (hm : s.ctl.mode = .restore ∨ s.ctl.mode = .service ∨ s.ctl.mode = .maintenance ∨ s.ctl.mode = .freeze)
    (he : (s.porter pt.val).expiries = []) (hb : s.eflash.busy = none) :
    ∃ t, exec (.porterWatchdogExpiry pt) s = .next t ∧ (t.porter pt.val).running = false
      ∧ (t.porter pt.val).reloading = true ∧ t.ctl = s.ctl := by
  have hex : exec (.porterWatchdogExpiry pt) s = .next (s.expirePorter pt.val) := by
    change execPorterWatchdogExpiry pt s = _
    unfold execPorterWatchdogExpiry State.porterExpiry State.when
    simp [hb]
  rw [expirePorter_first hm he] at hex
  obtain ⟨hrun, hload⟩ := reloadPorter_porter
    ((s.setPorter pt.val { s.porter pt.val with expiries := (s.uptime :: []).take 3 }).raise 0x8011 0 [(.u8, pt.val)]) pt.val
  exact ⟨_, hex, hrun, hload, raise_ctl ..⟩

/-- Answers, sessions and buses may change, and nothing else. -/
def SessionFrame (s t : State) : Prop := t = { s with zop := t.zop, out := t.out, bus := t.bus }

theorem SessionFrame.trans {s t u : State} (h : SessionFrame s t) (h' : SessionFrame t u) : SessionFrame s u := by
  unfold SessionFrame at *
  refine h'.trans ?_
  rw [h]

theorem foldl_sessionFrame {α : Type} (f : State → α → State) (h : ∀ s a, SessionFrame s (f s a)) (l : List α) (s : State) :
    SessionFrame s (l.foldl f s) :=
  foldl_keeps (R := SessionFrame) (fun _ => rfl) (fun _ _ _ => SessionFrame.trans) f h l s

theorem transmit_sessionFrame (s : State) (src op tag i b r) : SessionFrame s (s.transmit src op tag i b r) := by
  obtain ⟨o, u, h⟩ := transmit_frame s src op tag i b r
  rw [h]
  rfl

/-- The command that a session waits for is answered within the session's own state. -/
theorem finishIn_active {s : State} {x : Session} {a : Active} {r : Reply} (h : x.active = some a) :
    SessionFrame s (s.finishIn a.key r x) := by
  unfold State.finishIn
  rw [h]
  dsimp only
  rw [if_pos rfl]
  exact SessionFrame.trans (t := s.setSession _) rfl (transmit_sessionFrame ..)

theorem interrupt_sessionFrame (s : State) (mine : Nat → Bool) : SessionFrame s (s.interrupt mine) := by
  unfold State.interrupt
  refine foldl_sessionFrame _ (fun s x => ?_) s.zop.sessions s
  extract_lets y u
  have hu : SessionFrame s u := rfl
  split
  · next a ha =>
    split
    · exact hu.trans (finishIn_active (x := y) ha)
    · exact hu
  · exact hu

theorem porterReloadComplete_runs (s : State) (pt : Pt) (h : (s.porter pt.val).reloading = true) :
    ∃ t, exec (.porterReloadComplete pt true) s = .next t ∧ (t.porter pt.val).running = true
      ∧ (t.porter pt.val).reloading = false ∧ t = { s with cores := t.cores, zop := t.zop, out := t.out, bus := t.bus } := by
  let u := s.setPorter pt.val { s.porter pt.val with running := true, reloading := false }
  have hex : exec (.porterReloadComplete pt true) s = .next (u.interrupt (fun k => porterOf k [] = pt.val)) := by
    change execPorterReloadComplete pt true s = _
    unfold execPorterReloadComplete
    simp only [h]
    rfl
  have hframe := interrupt_sessionFrame u (fun k => porterOf k [] = pt.val)
  have hporter : (u.interrupt (fun k => porterOf k [] = pt.val)).porter pt.val =
      { s.porter pt.val with running := true, reloading := false } := by
    have hcores : (u.interrupt (fun k => porterOf k [] = pt.val)).cores = u.cores := by rw [hframe]
    exact (congrArg (fun c : Cores => mapGet (fun _ => Porter.initial) c.porters pt.val) hcores).trans (porter_setPorter_same ..)
  refine ⟨_, hex, by rw [hporter], by rw [hporter], ?_⟩
  generalize u.interrupt (fun k => porterOf k [] = pt.val) = t at hframe
  refine Eq.trans hframe ?_
  have hc : t.cores = u.cores := by rw [hframe]
  rw [hc]
  rfl

theorem porterMemoryError_reloads (s : State) (pt : Pt) (h : (s.porter pt.val).running = true) :
    exec (.porterMemoryError pt) s = .next ((s.reloadPorter pt.val).raise 0x6211 0 [(.u8, pt.val)]) := by
  change execPorterMemoryError pt s = _
  exact if_neg (by simp [h])

theorem eflashOperationComplete_idles (s : State) (hr : s.cores.deferredReset = 0) (hp : s.cores.deferredPorters = []) :
    ∃ t, exec .eflashOperationComplete s = .next t ∧ t.eflash.busy = none
      ∧ t = { s with eflash := { s.eflash with busy := none } } := by
  refine ⟨_, ?_, rfl, rfl⟩
  change execEflashOperationComplete s = _
  unfold execEflashOperationComplete
  rw [eflashDone_idle hr hp]

/-- Settles O8: a watchdog's restart from what an expiry and a rollback leave alone and from the terms that resumed requests keep, the
stationmaster's restart from what its loading steps keep, and the porters' events from the porter's own record. -/
theorem watchdogsAndPorters : Obligations.WatchdogsAndPorters := by
  unfold Obligations.WatchdogsAndPorters
  intro s
  exact ⟨stationmasterWatchdogExpiry_restarts s, stationmasterWatchdogExpiry_defers s,
    fun cause cor bad hs hrom _ _ hr hp hf => stationmasterRestart_restarts s cause cor bad hs hrom hr hp hf,
    porterWatchdogExpiry_reloads s, porterReloadComplete_runs s, porterMemoryError_reloads s, eflashOperationComplete_idles s⟩

end Sys2Proof.Machine
end

section
/-! SUPPORT. A FETCH that comes as a frame while the porter of its session is being reloaded; the obligation FramesSpellCommands (O58)
stands at the end. -/
namespace Sys2Proof.Machine

/-- A FETCH waits while the porter of its session is being reloaded (R70). -/
theorem exec_fetch_reloading {s : State} {q : Req} (hq : byPorters q.src = true) (h : s.reloads 0 = true) :
    exec (.fetch q) s = .next (s.delay (.fetch q)) := by
  show execFetch q s = _
  simp [execFetch, runReq, hq, h]

/-- The frame of a FETCH is served at once, whatever is being reloaded. -/
theorem requestFrame_fetch {f : ReqFrame} (h : f.opcode = opFetch) (q : Req) (s : State) :
    requestFrame q f s = runNow q opFetch f.index f.sub f.payload (fetchAct q.src q.tag.toNat) s := by
  simp [requestFrame, h, opWrite, opExecute, opFetch]

/-- After reset, porter 0 is being reloaded. -/
def porterReloading : State :=
  { State.reset with cores := { State.reset.cores with porters := [(0, { Porter.initial with reloading := true })] } }

/-- The frame of a FETCH, without TAG and CRC (R441). -/
def fetchFrame : ReqFrame := { opcode := opFetch, index := 0, sub := 0, payload := [] }

/-- A FETCH from the mailbox of LD 0, with TAG 0 and its CRC. -/
def mailboxFetch : Req := { src := .mailbox 0, tag := 0, crc := frameCrc opFetch 0 0 0 0 [] }

theorem mailboxFetch_crc :
    mailboxFetch.crc = frameCrc fetchFrame.opcode mailboxFetch.tag.toNat fetchFrame.index fetchFrame.sub 0 fetchFrame.payload := by
  simp [mailboxFetch, fetchFrame]

/-- The frame's bytes are a whole frame, and spell the FETCH (R439, R440). -/
theorem serveFrame_mailboxFetch (s : State) :
    serveFrame (.mailbox 0) (requestBytes mailboxFetch fetchFrame) s = requestFrame mailboxFetch fetchFrame s := by
  have hwhole : (frameLengthOk (requestBytes mailboxFetch fetchFrame)
      && crc32c ((requestBytes mailboxFetch fetchFrame).take ((requestBytes mailboxFetch fetchFrame).length - 4))
        = BitVec.ofNat 32 (field (requestBytes mailboxFetch fetchFrame) ((requestBytes mailboxFetch fetchFrame).length - 4) 4)) = true := by
    decide +kernel
  have hframe : looseFrame (requestBytes mailboxFetch fetchFrame) = fetchFrame := by decide +kernel
  have htag : field (requestBytes mailboxFetch fetchFrame) 1 1 = 0 := by decide +kernel
  simp only [serveFrame, hwhole, if_true, hframe, htag]
  rfl

/-- Refutes O58: the row of a FETCH waits while porter 0 is being reloaded, and the frame that spells it is served at once, here on a
mailbox that does not operate, where nothing happens. -/
theorem not_framesSpellCommands : ¬ Obligations.FramesSpellCommands := by
  unfold Obligations.FramesSpellCommands
  intro h
  obtain ⟨hserve, -⟩ := (h (.fetch mailboxFetch) mailboxFetch fetchFrame porterReloading rfl rfl mailboxFetch_crc).1 rfl
  have hwaits : exec (.fetch mailboxFetch) porterReloading = .next (porterReloading.delay (.fetch mailboxFetch)) :=
    exec_fetch_reloading rfl rfl
  have hdown : serveFrame mailboxFetch.src (requestBytes mailboxFetch fetchFrame) porterReloading = .next porterReloading := by
    have hup : porterReloading.transportUp mailboxFetch.src = false := by decide
    refine (serveFrame_mailboxFetch _).trans ?_
    rw [requestFrame_fetch rfl, runNow, serve_down hup]
  rw [hdown, hwaits] at hserve
  injection hserve with hsame
  exact absurd (congrArg (fun t => t.work.delayed) hsame) (by decide)

end Sys2Proof.Machine
end

section
/-! SUPPORT. The FM API commands (R93): what an operating port answers, and what a Set of a run of LDs writes; the obligation FabricCommands
(O26) stands at the end. -/
namespace Sys2Proof.Machine

theorem runFabric_up {s : State} {p : Port} (h : s.fabricUp p.val = true) (act : State → State × List Byte) :
    runFabric p act s = .next ((act s).1.fmAnswered (act s).2) := if_pos h

@[simp] theorem toBytes_length (n v : Nat) : (toBytes n v).length = n := by
  induction n generalizing v with
  | zero => rfl
  | succ n ih => simp [toBytes, ih]

@[simp] theorem freeBytes_length (len n : Nat) : (freeBytes len n).length = len := toBytes_length ..

/-! ## Kept objects -/

theorem keep_get (s : State) (k v n : Nat) : (s.keep k v).get n = if n = k then v else s.get n := by
  simp only [State.keep, State.get, owe_od]
  exact get_put s k v n

theorem keep_frame (s : State) (k v : Nat) : ∃ o u, s.keep k v = { s with od := o, unrecorded := u } := by
  unfold State.keep State.owe State.put
  split <;> exact ⟨_, _, rfl⟩

/-! ## Runs of LDs -/

/-- A Set of a run that ends by the sixteenth LD writes its bytes to consecutive LDs and nothing else. -/
theorem setLdValues_get {f : Nat → Nat} (hf : ∀ i j, f i = f j → i = j) (vs : List Byte) (s : State) (ld last : Nat)
    (h : ld + vs.length ≤ last + 1) :
    (∀ n, n < vs.length → (s.setLdValues f ld last vs).get (f (ld + n)) = (vs.getD n 0).toNat)
    ∧ (∀ k, (∀ n, n < vs.length → k ≠ f (ld + n)) → (s.setLdValues f ld last vs).get k = s.get k) := by
  induction vs generalizing s ld with
  | nil => exact ⟨fun n hn => absurd hn (Nat.not_lt_zero n), fun k _ => rfl⟩
  | cons b bs ih =>
    have hin : ¬ last < ld := by simp at h; omega
    obtain ⟨hwritten, hkept⟩ := ih (s.keep (f ld) b.toNat) (ld + 1) (by simp at h; omega)
    have hfirst : (State.setLdValues (s.keep (f ld) b.toNat) f (ld + 1) last bs).get (f ld) = b.toNat := by
      rw [hkept _ fun n _ e => by have := hf _ _ e; omega, keep_get, if_pos rfl]
    simp only [State.setLdValues, hin, if_false]
    refine ⟨fun n hn => ?_, fun k hk => ?_⟩
    · cases n with
      | zero => exact hfirst
      | succ n =>
        have := hwritten n (by simpa using hn)
        rwa [Nat.add_right_comm] at this
    · rw [hkept k fun n hn => by have := hk (n + 1) (by simpa using hn); rwa [← Nat.add_assoc, Nat.add_right_comm] at this,
        keep_get, if_neg (by simpa using hk 0 (by simp))]

theorem setLdValues_frame (f : Nat → Nat) (vs : List Byte) (s : State) (ld last : Nat) :
    ∃ o u, s.setLdValues f ld last vs = { s with od := o, unrecorded := u } := by
  induction vs generalizing s ld with
  | nil => exact ⟨_, _, rfl⟩
  | cons b bs ih =>
    unfold State.setLdValues
    split
    · exact ⟨_, _, rfl⟩
    · obtain ⟨o, u, h⟩ := keep_frame s (f ld) b.toNat
      obtain ⟨o', u', h'⟩ := ih (s.keep (f ld) b.toNat) (ld + 1)
      exact ⟨o', u', by rw [h', h]⟩

/-- The answer to a run that ends by the sixteenth LD. -/
theorem ldAnswer_of_le {s : State} {f : Nat → Nat} {p first count : Nat} (h : first + count ≤ 16) :
    s.ldAnswer f p first count = toBytes 1 count ++ toBytes 1 first
      ++ (List.range count).map (fun i => BitVec.ofNat 8 (s.get (f (16 * p + first + i)))) := by
  have hmin : min count (16 - first) = count := by omega
  simp [State.ldAnswer, State.ldValues, hmin]

/-- A Set outside FREEZE writes the run and answers what it wrote. -/
theorem setRun_writes {f : Nat → Nat} (hf : ∀ i j, f i = f j → i = j) {s : State} {p : Port} (hup : s.fabricUp p.val = true)
    {first : Fin 16} {vs : List Byte} (h : first.val + vs.length ≤ 16) (hm : s.ctl.mode ≠ .freeze) :
    ∃ t, runFabric p (setRun f p.val first.val vs) s = .next t
      ∧ (∀ n, n < vs.length → t.get (f (16 * p.val + first.val + n)) = (vs.getD n 0).toNat)
      ∧ (∀ k, (∀ n, n < vs.length → k ≠ f (16 * p.val + first.val + n)) → t.get k = s.get k)
      ∧ t.out.fm = toBytes 1 vs.length ++ toBytes 1 first.val ++ vs
      ∧ t = { s with od := t.od, unrecorded := t.unrecorded, out := t.out } := by
  obtain ⟨hwritten, hkept⟩ := setLdValues_get hf vs s (16 * p.val + first.val) (16 * p.val + 15) (by omega)
  obtain ⟨o, u, hframe⟩ := setLdValues_frame f vs s (16 * p.val + first.val) (16 * p.val + 15)
  have hvalues : (List.range vs.length).map (fun i => BitVec.ofNat 8
      ((s.setLdValues f (16 * p.val + first.val) (16 * p.val + 15) vs).get (f (16 * p.val + first.val + i)))) = vs := by
    refine List.ext_getElem (by simp) fun n hn hn' => ?_
    simp [hwritten n hn', List.getD_eq_getElem?_getD, hn']
  have hmode : (s.ctl.mode == .freeze) = false := by simpa using hm
  refine ⟨_, runFabric_up hup _, ?_⟩
  simp only [setRun, hmode, Bool.false_eq_true, if_false]
  refine ⟨hwritten, hkept, ?_, ?_⟩
  · exact (ldAnswer_of_le h).trans (by rw [hvalues])
  · rw [hframe]
    rfl

/-! ## The commands -/

theorem fmGetLdAllocations_reports {s : State} {p : Port} (hup : s.fabricUp p.val = true) :
    exec (.fmGetLdAllocations p) s = .next (s.fmAnswered (s.ldAnswer OD.ldAllocatedBw p.val 0 16)) := by
  show execFmGetLdAllocations p s = _
  exact runFabric_up hup _

theorem fmGetQosAllocatedBw_reports {s : State} {p : Port} (hup : s.fabricUp p.val = true) (first : Fin 16) (count : Nat) :
    exec (.fmGetQosAllocatedBw p first count) s = .next (s.fmAnswered (s.ldAnswer OD.ldAllocatedBw p.val first.val count)) := by
  show execFmGetQosAllocatedBw p first count s = _
  exact runFabric_up hup _

theorem fmGetQosBwLimit_reports {s : State} {p : Port} (hup : s.fabricUp p.val = true) (first : Fin 16) (count : Nat) :
    exec (.fmGetQosBwLimit p first count) s = .next (s.fmAnswered (s.ldAnswer OD.ldBwLimit p.val first.val count)) := by
  show execFmGetQosBwLimit p first count s = _
  exact runFabric_up hup _

theorem fmSetQosControl_answers {s : State} {p : Port} (hup : s.fabricUp p.val = true) (control : List Byte) :
    exec (.fmSetQosControl p control) s =
      .next ({ s with host := { s.host with qos := mapSet (fun _ => []) s.host.qos p.val control } }.fmAnswered control) := by
  show execFmSetQosControl p control s = _
  exact runFabric_up hup _

theorem fmGetQosStatus_answers {s : State} {p : Port} (hup : s.fabricUp p.val = true) :
    exec (.fmGetQosStatus p) s = .next (s.draw.fmAnswered (freeBytes 1 s.free)) := by
  show execFmGetQosStatus p s = _
  exact runFabric_up hup _

theorem fmGetQosControl_set {s : State} {p : Port} (hup : s.fabricUp p.val = true) {c : List Byte} (hc : c ≠ [])
    (h : mapGet (fun _ => []) s.host.qos p.val = c) : exec (.fmGetQosControl p) s = .next (s.fmAnswered c) := by
  show execFmGetQosControl p s = _
  unfold execFmGetQosControl
  rw [runFabric_up hup]
  simp [h, hc]

theorem fmGetQosControl_unset {s : State} {p : Port} (hup : s.fabricUp p.val = true) (h : mapGet (fun _ => []) s.host.qos p.val = []) :
    exec (.fmGetQosControl p) s = .next (s.draw.fmAnswered (freeBytes 7 s.free)) := by
  show execFmGetQosControl p s = _
  unfold execFmGetQosControl
  rw [runFabric_up hup]
  simp [h]

/-- Settles O26: reports by the answer to a run, Sets by what a run writes, one LD after the other, and QoS Control by what is held for the
port. -/
theorem fabricCommands : Obligations.FabricCommands := by
  unfold Obligations.FabricCommands
  intro s p hup
  have hallocated : ∀ i j, OD.ldAllocatedBw i = OD.ldAllocatedBw j → i = j := fun i j h => by simp only [OD.ldAllocatedBw] at h; omega
  have hlimit : ∀ i j, OD.ldBwLimit i = OD.ldBwLimit j → i = j := fun i j h => by simp only [OD.ldBwLimit] at h; omega
  refine ⟨?_, fun first count h => ⟨?_, ?_⟩, fun first vs h hm => ⟨?_, setRun_writes hlimit hup h hm⟩, fun control hc => ?_, fun h => ?_, ?_⟩
  · rw [fmGetLdAllocations_reports hup, ldAnswer_of_le (by omega)]
    rfl
  · rw [fmGetQosAllocatedBw_reports hup, ldAnswer_of_le h]
  · rw [fmGetQosBwLimit_reports hup, ldAnswer_of_le h]
  · rintro i (rfl | rfl) <;> exact setRun_writes hallocated hup h hm
  · refine ⟨_, fmSetQosControl_answers hup control, rfl, rfl, fmGetQosControl_set ?_ hc (mapGet_mapSet_same ..)⟩
    exact hup
  · exact ⟨_, fmGetQosControl_unset hup h, freeBytes_length ..⟩
  · exact ⟨_, fmGetQosStatus_answers hup, freeBytes_length ..⟩

end Sys2Proof.Machine
end

section
/-! SUPPORT. Bytes of a payload: the lengths and fields of what is put together from little-endian values. -/
namespace Sys2Proof.Machine

theorem ofBytes_toBytes (n v : Nat) : ofBytes (toBytes n v) = v % 256 ^ n := by
  induction n generalizing v with
  | zero => simp [toBytes, ofBytes, Nat.mod_one]
  | succ n ih =>
    have hlow : (BitVec.ofNat 8 v).toNat = v % 256 := BitVec.toNat_ofNat ..
    rw [toBytes, ofBytes, ih, hlow, Nat.pow_succ', Nat.mod_mul]

/-- The field at the start of a payload that begins with a value's bytes. -/
theorem field_toBytes_append (n v : Nat) (bs : List Byte) : field (toBytes n v ++ bs) 0 n = v % 256 ^ n := by
  simp [field, slice, ofBytes_toBytes]

/-- A field behind a part of the payload is one of the rest. -/
theorem field_append_right (as bs : List Byte) (off n : Nat) : field (as ++ bs) (as.length + off) n = field bs off n := by
  have hskip : as.drop (as.length + off) = [] := List.drop_eq_nil_of_le (Nat.le_add_right ..)
  simp [field, slice, List.drop_append, hskip]

end Sys2Proof.Machine
end

section
/-! SUPPORT. A mailbox that operates completes its command, and what the reporting commands report (R88 to R91, R108 to R110); the
obligation MailboxReports (O23) stands at the end. -/
namespace Sys2Proof.Machine

/-- A mailbox that operates completes a command with its code and its output. -/
theorem runMail_up {s : State} {ld : Ld} (h : s.mailboxUp ld.val = true) (act : MailAct) :
    runMail ld act s = .next ((act s).1.mailed ld (act s).2.1 (act s).2.2) := if_pos h

/-- A command that only reports leaves the state. -/
theorem runMail_reads {s : State} {ld : Ld} (h : s.mailboxUp ld.val = true) (f : State → List Byte) :
    runMail ld (reads f) s = .next (s.mailed ld 0 (f s)) := runMail_up h _

theorem leveled_of_le {s : State} {ld least : Nat} (h : least ≤ s.get (OD.ldMgmtAccess ld)) (act : MailAct) :
    leveled ld least act s = act s := if_neg (Nat.not_lt.mpr h)

theorem leveled_of_lt {s : State} {ld least : Nat} (h : s.get (OD.ldMgmtAccess ld) < least) (act : MailAct) :
    leveled ld least act s
      = (s.raise 0x7011 0 [(.u16, ld), (.u24, 0)], rcSuccess, frameBytes 128 0 0 0 stAccess []) := if_pos h

/-- A command of a minimum level that only reports, on an LD of that level. -/
theorem runMail_leveled_reads {s : State} {ld : Ld} (h : s.mailboxUp ld.val = true) {least : Nat}
    (hl : least ≤ s.get (OD.ldMgmtAccess ld.val)) (f : State → List Byte) :
    runMail ld (leveled ld.val least (reads f)) s = .next (s.mailed ld 0 (f s)) := by
  rw [runMail_up h, leveled_of_le hl]
  rfl

/-- A command of a minimum level on an LD below it (R110). -/
theorem runMail_leveled_refused {s : State} {ld : Ld} (h : s.mailboxUp ld.val = true) {least : Nat}
    (hl : s.get (OD.ldMgmtAccess ld.val) < least) (act : MailAct) :
    runMail ld (leveled ld.val least act) s
      = .next ((s.raise 0x7011 0 [(.u16, ld.val), (.u24, 0)]).mailed ld 0 (frameBytes 128 0 0 0 4 [])) := by
  rw [runMail_up h, leveled_of_lt hl]
  rfl

/-! ## The command effects log -/

theorem effectsEntries_length (n : Nat) (os : List Nat) : (effectsEntries n os).length = 4 * os.length := by
  induction os generalizing n with
  | nil => rfl
  | cons o os ih => simp [effectsEntries, ih]; omega

theorem effectsEntries_opcode (n i : Nat) (os : List Nat) (h : i < os.length) :
    field (effectsEntries n os) (4 * i) 2 = os.getD i 0 % 256 ^ 2 := by
  induction os generalizing n i with
  | nil => exact absurd h (Nat.not_lt_zero i)
  | cons o os ih =>
    cases i with
    | zero => rw [effectsEntries, List.append_assoc]; exact field_toBytes_append ..
    | succ i =>
      have hskip : 4 * (i + 1) = (toBytes 2 o ++ freeBytes 2 n).length + 4 * i := by simp; omega
      rw [effectsEntries, hskip, field_append_right, ih (n + 1) i (by simpa using h)]
      rfl

theorem mailboxOpcodes_fit (i : Nat) : mailboxOpcodes.getD i 0 % 256 ^ 2 = mailboxOpcodes.getD i 0 := by
  have hall : ∀ o ∈ mailboxOpcodes, o < 256 ^ 2 := by decide
  refine Nat.mod_eq_of_lt ?_
  rw [List.getD_eq_getElem?_getD]
  cases h : mailboxOpcodes[i]? with
  | none => decide
  | some o => exact hall o (List.mem_of_getElem? h)

/-! ## The coupling map -/

/-- One coupling of the coupling map. -/
def couplingBytes (c : Coupling) : List Byte := toBytes 1 c.ld ++ toBytes 16 c.entry.toNat

theorem flatMap_couplingBytes_length (cs : List Coupling) : (cs.flatMap couplingBytes).length = 17 * cs.length := by
  induction cs with
  | nil => rfl
  | cons c cs ih => simp [couplingBytes, ih]; omega

/-- The output of GET_COUPLING_MAP for these couplings. -/
theorem couplingMap_layout (cs : List Coupling) (h : cs.length ≤ 64) :
    (toBytes 2 cs.length ++ cs.flatMap couplingBytes).length = 2 + 17 * cs.length
    ∧ field (toBytes 2 cs.length ++ cs.flatMap couplingBytes) 0 2 = cs.length
    ∧ ∀ c rest, cs = c :: rest → ((toBytes 2 cs.length ++ cs.flatMap couplingBytes).drop 3).take 16 = toBytes 16 c.entry.toNat := by
  refine ⟨by rw [List.length_append, flatMap_couplingBytes_length, toBytes_length], ?_, ?_⟩
  · rw [field_toBytes_append, Nat.mod_eq_of_lt (by omega)]
  · rintro c rest rfl
    simp [couplingBytes, List.drop_append, List.take_append]

/-! ## The commands -/

theorem mbxIdentifyMemoryDevice_reports {s : State} {ld : Ld} (h : s.mailboxUp ld.val = true) :
    exec (.mbxIdentifyMemoryDevice ld) s = .next (s.draw.mailed ld 0
      (padTo 16 (versionText (s.bank s.activeBank).record.smVer) ++ toBytes 8 (s.ldCapacity ld.val) ++ toBytes 8 0
        ++ toBytes 8 (s.ldCapacity ld.val) ++ toBytes 8 0 ++ toBytes 2 128 ++ toBytes 2 128 ++ toBytes 2 128 ++ toBytes 2 128
        ++ toBytes 4 131072 ++ freeBytes 7 s.free)) := by
  have hlogs : [128, 128, 128, 128].flatMap (toBytes 2) = toBytes 2 128 ++ toBytes 2 128 ++ toBytes 2 128 ++ toBytes 2 128 := by decide
  show execMbxIdentifyMemoryDevice ld s = _
  simp only [execMbxIdentifyMemoryDevice, runMail_up h, identifyAct, hlogs, List.append_assoc]
  rfl

theorem mbxGetPartitionInfo_reports {s : State} {ld : Ld} (h : s.mailboxUp ld.val = true) :
    exec (.mbxGetPartitionInfo ld) s
      = .next (s.mailed ld 0 (toBytes 8 0 ++ toBytes 8 (s.ldCapacity ld.val) ++ toBytes 8 0 ++ toBytes 8 (s.ldCapacity ld.val))) := by
  show execMbxGetPartitionInfo ld s = _
  simp only [execMbxGetPartitionInfo, runMail_reads h, List.flatMap_cons, List.flatMap_nil, List.append_nil, List.append_assoc]

theorem mbxGetLog_reports {s : State} {ld : Ld} (h : s.mailboxUp ld.val = true) :
    exec (.mbxGetLog ld) s
      = .next ({ s with free := s.free + mailboxOpcodes.length }.mailed ld 0 (effectsEntries s.free mailboxOpcodes)) := by
  show execMbxGetLog ld s = _
  exact runMail_up h _

theorem mbxGetFwInfo_reports {s : State} {ld : Ld} (h : s.mailboxUp ld.val = true) :
    exec (.mbxGetFwInfo ld) s = .next (s.mailed ld 0 (toBytes 1 2
      ++ toBytes 1 (s.activeBank + 1 + 8 * (if s.update.state = .scheduled then s.inactiveBank + 1 else 0)) ++ toBytes 14 0
      ++ padTo 16 (versionText s.update.bankA.record.smVer) ++ padTo 16 (versionText s.update.bankB.record.smVer)
      ++ List.replicate 32 0#8)) := by
  show execMbxGetFwInfo ld s = _
  simp only [execMbxGetFwInfo, runMail_reads h, beq_iff_eq]

theorem mbxGetScanMediaCapabilities_reports {s : State} {ld : Ld} (h : s.mailboxUp ld.val = true) :
    exec (.mbxGetScanMediaCapabilities ld) s = .next (s.draw.mailed ld 0 (freeBytes 4 s.free)) := by
  show execMbxGetScanMediaCapabilities ld s = _
  exact runMail_up h _

theorem mbxGetHealthInfo_reports {s : State} {ld : Ld} (h : s.mailboxUp ld.val = true) :
    exec (.mbxGetHealthInfo ld) s = .next ({ s with free := s.free + 2 }.mailed ld 0
      (freeBytes 6 s.free ++ toBytes 4 (s.get OD.vaultDirtyShutdowns) ++ freeBytes 8 (s.free + 1))) := by
  show execMbxGetHealthInfo ld s = _
  exact runMail_up h _

theorem mbxGetLsa_reports {s : State} {ld : Ld} (h : s.mailboxUp ld.val = true) {off len : Nat} (hend : off + len ≤ 131072)
    (hlen : len ≤ 2048) (hlost : ∀ a ∈ s.flash.lsaLost, a < ld.val * 131072 + off ∨ ld.val * 131072 + off + len ≤ a) :
    exec (.mbxGetLsa ld off len) s
      = .next (s.mailed ld 0 ((List.range len).map (fun i => mapGet (fun _ => 0) (s.lsa ld.val) (off + i)))) := by
  have hin : (131072 < off + len || 2048 < len) = false := by simp; omega
  have hread : (s.flash.lsaLost.any fun a => ld.val * 131072 + off ≤ a && a < ld.val * 131072 + off + len) = false := by
    simp only [List.any_eq_false, Bool.and_eq_true, decide_eq_true_eq, not_and, not_lt]
    intro a ha hge
    exact (hlost a ha).resolve_left (Nat.not_lt.mpr hge)
  show execMbxGetLsa ld off len s = _
  simp only [execMbxGetLsa, runMail_up h, hin, hread, Bool.false_eq_true, if_false]
  rfl

theorem mbxGetLsa_refused {s : State} {ld : Ld} (h : s.mailboxUp ld.val = true) {off len : Nat} (hout : 131072 < off + len ∨ 2048 < len) :
    exec (.mbxGetLsa ld off len) s = .next (s.mailed ld 2 []) := by
  have hin : (131072 < off + len || 2048 < len) = true := by simpa using hout
  show execMbxGetLsa ld off len s = _
  simp only [execMbxGetLsa, runMail_up h, hin, if_true]
  rfl

theorem mbxUnsupportedOpcode_unsupported {s : State} {ld : Ld} (h : s.mailboxUp ld.val = true) {o : BitVec 16}
    (ho : mailboxOpcodes.contains o.toNat = false) : exec (.mbxUnsupportedOpcode ld o) s = .next (s.mailed ld 3 []) := by
  show execMbxUnsupportedOpcode ld o s = _
  simp only [execMbxUnsupportedOpcode, ho, Bool.false_eq_true, if_false]
  exact runMail_up h _

theorem getVendorIdentity_reports {s : State} {ld : Ld} (h : s.mailboxUp ld.val = true) :
    ∃ p, exec (.getVendorIdentity ld) s = .next (s.mailed ld 0 p)
      ∧ p.take (1 + (s.blob OD.identityVendor).length) = toBytes 1 (s.blob OD.identityVendor).length ++ s.blob OD.identityVendor := by
  refine ⟨_, runMail_leveled_reads h (Nat.zero_le _) _, ?_⟩
  simp only [List.append_assoc]
  rw [← List.append_assoc]
  exact List.take_left' (by simp)

theorem getCouplingMap_reports {s : State} {ld : Ld} (h : s.mailboxUp ld.val = true) (hl : 1 ≤ s.get (OD.ldMgmtAccess ld.val))
    (first : BitVec 16) : ∃ p cs, exec (.getCouplingMap ld first) s = .next (s.mailed ld 0 p)
      ∧ cs = ((s.tables.couplings.filter (fun c => s.get (OD.ldMgmtAccess ld.val) = 3 || c.ld = ld.val)).drop first.toNat).take 64
      ∧ p.length = 2 + 17 * cs.length ∧ field p 0 2 = cs.length
      ∧ ∀ c rest, cs = c :: rest → (p.drop 3).take 16 = toBytes 16 c.entry.toNat :=
  ⟨_, _, runMail_leveled_reads h hl _, rfl, couplingMap_layout _ (List.length_take_le ..)⟩

/-- Settles O23: each command by the output its mailbox completes with, those of a minimum level by the LD's level. -/
theorem mailboxReports : Obligations.MailboxReports := by
  unfold Obligations.MailboxReports
  refine ⟨fun s ld h => ⟨?_, mbxGetPartitionInfo_reports h, runMail_reads h _, ?_, mbxGetFwInfo_reports h, runMail_reads h _,
    runMail_reads h _, ?_, runMail_reads h _, ?_, fun off len hend hlen hlost => ?_, fun off len hout => mbxGetLsa_refused h hout⟩,
    fun s ld h => ⟨fun o ho => mbxUnsupportedOpcode_unsupported h ho, getVendorIdentity_reports h,
      fun hl => ⟨runMail_leveled_reads h hl _, runMail_leveled_reads h hl _, getCouplingMap_reports h hl⟩, ?_⟩⟩
  · exact ⟨_, mbxIdentifyMemoryDevice_reports h, freeBytes_length ..⟩
  · exact ⟨_, _, mbxGetLog_reports h, rfl, effectsEntries_length .., fun i hi =>
      (effectsEntries_opcode _ i mailboxOpcodes hi).trans (mailboxOpcodes_fit i)⟩
  · exact ⟨_, _, mbxGetHealthInfo_reports h, rfl, by simp, by simp⟩
  · exact ⟨_, mbxGetScanMediaCapabilities_reports h, freeBytes_length ..⟩
  · refine ⟨_, mbxGetLsa_reports h hend hlen hlost, by simp, fun i hi => by simp [List.getD_eq_getElem?_getD, hi]⟩
  · rintro i first hl (rfl | rfl | rfl) <;> exact runMail_leveled_refused h (by omega) _

end Sys2Proof.Machine
end

section
/-! SUPPORT. What a mailbox's settings keep and its event records' places in a payload (R88, R91, R108, R456, R571); the obligation
MailboxSettings (O24) stands at the end. -/
namespace Sys2Proof.Machine

@[simp] theorem padTo_length (n : Nat) (bs : List Byte) : (padTo n bs).length = n := by
  simp [padTo]

/-- A part of a payload, found at the length of what stands before it. -/
theorem take_drop_part {as bs cs : List Byte} {m n : Nat} (ha : as.length = m) (hb : bs.length = n) :
    ((as ++ (bs ++ cs)).drop m).take n = bs := by
  rw [List.drop_left' ha, List.take_left' hb]

/-! ## The mailbox's own settings -/

@[simp] theorem setMail_mail_same (s : State) (ld : Nat) (m : MailboxState) : (s.setMail ld m).mail ld = m := mapGet_mapSet_same ..

theorem setMail_mail_other (s : State) {ld n : Nat} (m : MailboxState) (h : n ≠ ld) : (s.setMail ld m).mail n = s.mail n :=
  mapGet_mapSet_other _ _ _ _ _ h

theorem mbxSetEventInterruptPolicy_sets {s : State} {ld : Ld} (h : s.mailboxUp ld.val = true) (policy : BitVec 32) :
    exec (.mbxSetEventInterruptPolicy ld policy) s
      = .next ((s.setMail ld.val { s.mail ld.val with policy := policy }).mailed ld 0 []) := by
  show execMbxSetEventInterruptPolicy ld policy s = _
  exact runMail_up h _

theorem mbxSetAlertConfiguration_sets {s : State} {ld : Ld} (h : s.mailboxUp ld.val = true) {config : List Byte} (hc : config.length = 12) :
    exec (.mbxSetAlertConfiguration ld config) s
      = .next ((s.setMail ld.val { s.mail ld.val with alerts := config }).mailed ld 0 []) := by
  show execMbxSetAlertConfiguration ld config s = _
  simp only [execMbxSetAlertConfiguration, runMail_up h, hc, ne_eq, not_true_eq_false, if_false]
  rfl

theorem mbxSetAlertConfiguration_refused {s : State} {ld : Ld} (h : s.mailboxUp ld.val = true) {config : List Byte}
    (hc : config.length ≠ 12) : exec (.mbxSetAlertConfiguration ld config) s = .next (s.mailed ld 2 []) := by
  show execMbxSetAlertConfiguration ld config s = _
  simp only [execMbxSetAlertConfiguration, runMail_up h, ne_eq, hc, not_false_eq_true, if_true]
  rfl

theorem mbxGetAlertConfiguration_set {s : State} {ld : Ld} (h : s.mailboxUp ld.val = true) {config : List Byte} (hc : config ≠ [])
    (ha : (s.mail ld.val).alerts = config) : exec (.mbxGetAlertConfiguration ld) s = .next (s.mailed ld 0 config) := by
  show execMbxGetAlertConfiguration ld s = _
  simp only [execMbxGetAlertConfiguration, runMail_up h, ha, List.isEmpty_eq_false_iff.mpr hc, Bool.false_eq_true, if_false]
  rfl

theorem mbxGetAlertConfiguration_unset {s : State} {ld : Ld} (h : s.mailboxUp ld.val = true) (ha : (s.mail ld.val).alerts = []) :
    exec (.mbxGetAlertConfiguration ld) s = .next (s.draw.mailed ld 0 (freeBytes 12 s.free)) := by
  show execMbxGetAlertConfiguration ld s = _
  simp only [execMbxGetAlertConfiguration, runMail_up h, ha, List.isEmpty_nil, if_true]
  rfl

/-! ## Clock and shutdown state -/

/-- Setting the clock writes its two objects; the event may count what its severity drops. -/
theorem setClock_get {k : Nat} (s : State) (time : Nat) (hk : Undropped k) :
    (s.setClock time).get k = if k = OD.clockLastSet then time else if k = OD.clockTimeValid then 1 else s.get k := by
  unfold State.setClock
  rw [raise_get_undropped _ _ _ _ hk, get_put, get_put]
  rfl

theorem setClock_frame (s : State) (time : Nat) :
    ∃ o l p, s.setClock time = { s with clock := time, od := o, log := l, perf := p } := by
  obtain ⟨l, p, o, h⟩ := raiseWith_frame (({ s with clock := time }.put OD.clockTimeValid 1).put OD.clockLastSet time) 0x7014
    (valueWord (s.clock / 1000)) [(.u40, time / 1000)] []
  exact ⟨o, l, p, h⟩

theorem mbxSetTimestamp_sets {s : State} {ld : Ld} (h : s.mailboxUp ld.val = true) (time : BitVec 64) :
    exec (.mbxSetTimestamp ld time) s = .next ((s.setClock time.toNat).mailed ld 0 []) := by
  show execMbxSetTimestamp ld time s = _
  exact runMail_up h _

theorem mbxSetShutdownState_sets {s : State} {ld : Ld} (h : s.mailboxUp ld.val = true) (dirty : Bool) :
    exec (.mbxSetShutdownState ld dirty) s
      = .next ((s.keep (OD.ldShutdownState ld.val) (if dirty then 1 else 0)).mailed ld 0 []) := by
  show execMbxSetShutdownState ld dirty s = _
  exact runMail_up h _

/-! ## The label storage area -/

theorem storeRun_before (m : SMap Byte) (off a : Nat) (bs : List Byte) (h : a < off ∨ off + bs.length ≤ a) :
    mapGet (fun _ => 0) (storeRun m off bs) a = mapGet (fun _ => 0) m a := by
  induction bs generalizing m off with
  | nil => rfl
  | cons b bs ih =>
    simp only [List.length_cons] at h
    rw [storeRun, ih _ _ (by omega), mapGet_mapSet_other _ _ _ _ _ (by omega)]

theorem storeRun_within (m : SMap Byte) (off i : Nat) (bs : List Byte) (h : i < bs.length) :
    mapGet (fun _ => 0) (storeRun m off bs) (off + i) = bs.getD i 0 := by
  induction bs generalizing m off i with
  | nil => exact absurd h (Nat.not_lt_zero i)
  | cons b bs ih =>
    cases i with
    | zero =>
      rw [storeRun, storeRun_before _ _ _ _ (by omega), Nat.add_zero, mapGet_mapSet_same]
      rfl
    | succ i =>
      rw [storeRun, ← Nat.add_assoc, Nat.add_right_comm, ih _ _ _ (by simpa using h)]
      rfl

@[simp] theorem storeLsa_lsa_same (s : State) (ld : Nat) (area : SMap Byte) : (s.storeLsa ld area).lsa ld = area := mapGet_mapSet_same ..

theorem storeLsa_lsa_other (s : State) {ld n : Nat} (area : SMap Byte) (h : n ≠ ld) : (s.storeLsa ld area).lsa n = s.lsa n :=
  mapGet_mapSet_other _ _ _ _ _ h

/-- The blocks of an LD's area that these bytes cover read again. -/
def State.lsaRewritten (s : State) (ld off len : Nat) : State :=
  { s with flash := { s.flash with lsaLost := s.flash.lsaLost.filter (fun a => a < ld * 131072 + off || ld * 131072 + off + len ≤ a) } }

theorem mbxSetLsa_stores {s : State} {ld : Ld} (h : s.mailboxUp ld.val = true) {off : Nat} {data : List Byte}
    (hend : off + data.length ≤ 131072) (hlen : data.length + 8 ≤ 2048) :
    exec (.mbxSetLsa ld off data) s = .next (((s.lsaRewritten ld.val off data.length).storeLsa ld.val
      (storeRun (s.lsa ld.val) off data)).mailed ld 0 []) := by
  have hin : (131072 < off + data.length || 2048 < data.length + 8) = false := by simp; omega
  show execMbxSetLsa ld off data s = _
  simp only [execMbxSetLsa, runMail_up h, hin, Bool.false_eq_true, if_false]
  rfl

/-! ## Event records -/

theorem nth_setNth_same (c : CxlLogs) (n : Fin 4) (l : List LogRec) : (c.setNth n.val l).nth n.val = l := by
  obtain ⟨n, hn⟩ := n
  interval_cases n <;> rfl

theorem nth_setNth_other (c : CxlLogs) {m n : Fin 4} (l : List LogRec) (h : m ≠ n) :
    (c.setNth n.val l).nth m.val = c.nth m.val := by
  revert h
  fin_cases m <;> fin_cases n <;> simp [CxlLogs.nth, CxlLogs.setNth]

theorem nth_withOverflow (c : CxlLogs) (o : List Nat) (n : Nat) : { c with overflow := o }.nth n = c.nth n := rfl

/-- The payload of Get Event Records: the flags and the overflow of a log, then the count of its records, then they. -/
theorem getEventsAct_payload (s : State) (ld log : Nat) : ∃ head : List Byte, head.length = 20
    ∧ (getEventsAct ld log s).2.2 = head ++ (toBytes 2 (((s.cxlLogs ld).nth log).take 15).length
      ++ (List.replicate 10 0#8 ++ cxlRecords log (s.free + 1) (((s.cxlLogs ld).nth log).take 15))) := by
  refine ⟨_, ?_, by simp only [getEventsAct, List.append_assoc]; simp only [← List.append_assoc]; rfl⟩
  split <;> simp

/-- A CXL event record holds the logbook record behind 48 bytes. -/
theorem cxlRecord_layout (severity n : Nat) (r : LogRec) : ∃ head tail : List Byte, head.length = 48
    ∧ cxlRecord severity n r = head ++ (padTo 64 r.bytes ++ tail) := by
  refine ⟨recordUuid ++ toBytes 1 128 ++ toBytes 3 severity ++ freeBytes 4 n ++ toBytes 8 r.last ++ List.replicate 16 0#8,
    List.replicate 16 0#8, ?_, ?_⟩
  · simp [recordUuid]
  · simp only [cxlRecord, List.append_assoc]

theorem mbxGetEventRecords_reports {s : State} {ld : Ld} (h : s.mailboxUp ld.val = true) (log : Fin 4) :
    exec (.mbxGetEventRecords ld log) s
      = .next ({ s with free := s.free + 16 }.mailed ld 0 (getEventsAct ld.val log.val s).2.2) := by
  show execMbxGetEventRecords ld log s = _
  exact runMail_up h _

/-- The count of records stands at byte 20, the first record's 64 bytes at byte 80. -/
theorem getEventsAct_fields (s : State) (ld log : Nat) :
    field (getEventsAct ld log s).2.2 20 2 = min 15 ((s.cxlLogs ld).nth log).length
    ∧ ∀ r rest, (s.cxlLogs ld).nth log = r :: rest → ((getEventsAct ld log s).2.2.drop 80).take 64 = padTo 64 r.bytes := by
  obtain ⟨head, hlen, hp⟩ := getEventsAct_payload s ld log
  rw [hp]
  refine ⟨?_, fun r rest hr => ?_⟩
  · have hfirst := field_append_right head (toBytes 2 (((s.cxlLogs ld).nth log).take 15).length
      ++ (List.replicate 10 0#8 ++ cxlRecords log (s.free + 1) (((s.cxlLogs ld).nth log).take 15))) 0 2
    rw [hlen] at hfirst
    rw [hfirst, field_toBytes_append, List.length_take, Nat.mod_eq_of_lt (by omega)]
  · obtain ⟨before, behind, hbefore, hrecord⟩ := cxlRecord_layout log (s.free + 1) r
    rw [hr, List.take_succ_cons, cxlRecords, hrecord]
    have hsplit : ∀ (count zeros more : List Byte), head ++ (count ++ (zeros ++ ((before ++ (padTo 64 r.bytes ++ behind)) ++ more)))
        = (head ++ (count ++ (zeros ++ before))) ++ (padTo 64 r.bytes ++ (behind ++ more)) := by simp
    rw [hsplit]
    exact take_drop_part (by simp [hlen, hbefore]) (by simp)

/-- Clear Event Records takes the oldest records out of one log of the LD, and the count of its overflow with the last of them. -/
theorem mbxClearEventRecords_clears {s : State} {ld : Ld} (h : s.mailboxUp ld.val = true) {log : Fin 4} {count : Nat}
    (hc : count ≤ ((s.cxlLogs ld.val).nth log.val).length) : ∃ o, exec (.mbxClearEventRecords ld log count) s
      = .next ((s.setCxlLogs ld.val { (s.cxlLogs ld.val).setNth log.val (((s.cxlLogs ld.val).nth log.val).drop count)
          with overflow := o }).mailed ld 0 []) := by
  refine ⟨if ((s.cxlLogs ld.val).nth log.val).length = count then
    ((s.cxlLogs ld.val).setNth log.val (((s.cxlLogs ld.val).nth log.val).drop count)).overflow.set log.val 0
    else ((s.cxlLogs ld.val).setNth log.val (((s.cxlLogs ld.val).nth log.val).drop count)).overflow, ?_⟩
  show execMbxClearEventRecords ld log count s = _
  simp only [execMbxClearEventRecords, runMail_up h, clearEventsAct, Nat.not_lt.mpr hc, if_false]
  split <;> rfl

theorem mbxClearEventRecords_refused {s : State} {ld : Ld} (h : s.mailboxUp ld.val = true) {log : Fin 4} {count : Nat}
    (hc : ((s.cxlLogs ld.val).nth log.val).length < count) :
    exec (.mbxClearEventRecords ld log count) s = .next (s.mailed ld 14 []) := by
  show execMbxClearEventRecords ld log count s = _
  simp only [execMbxClearEventRecords, runMail_up h, clearEventsAct, hc, if_true]
  rfl

@[simp] theorem setCxlLogs_cxlLogs_same (s : State) (ld : Nat) (c : CxlLogs) : (s.setCxlLogs ld c).cxlLogs ld = c :=
  mapGet_mapSet_same ..

theorem setCxlLogs_cxlLogs_other (s : State) {ld n : Nat} (c : CxlLogs) (h : n ≠ ld) : (s.setCxlLogs ld c).cxlLogs n = s.cxlLogs n :=
  mapGet_mapSet_other _ _ _ _ _ h

/-! ## The obligation -/

theorem mbxSetTimestamp_holds {s : State} {ld : Ld} (h : s.mailboxUp ld.val = true) (time : BitVec 64) :
    ∃ t, exec (.mbxSetTimestamp ld time) s = .next t ∧ t.clock = time.toNat ∧ t.get OD.clockTimeValid = 1
      ∧ t.get OD.clockLastSet = time.toNat ∧ t.objectsAs s [OD.clockTimeValid, OD.clockLastSet]
      ∧ t = { s with clock := t.clock, od := t.od, log := t.log, perf := t.perf, out := t.out } := by
  obtain ⟨o, l, p, hframe⟩ := setClock_frame s time.toNat
  have hget : ∀ k, Undropped k → ((s.setClock time.toNat).mailed ld 0 []).get k = _ := fun k hk => setClock_get s time.toNat hk
  refine ⟨_, mbxSetTimestamp_sets h time, by rw [hframe]; rfl, ?_, ?_, fun k hk hu => ?_, by rw [hframe]; rfl⟩
  · rw [hget _ (by unfold Undropped; decide)]
    rfl
  · rw [hget _ (by unfold Undropped; decide)]
    rfl
  · simp only [List.mem_cons, List.not_mem_nil, or_false, not_or] at hk
    rw [hget k hu, if_neg hk.2, if_neg hk.1]

theorem mbxSetShutdownState_holds {s : State} {ld : Ld} (h : s.mailboxUp ld.val = true) (dirty : Bool) :
    ∃ t, exec (.mbxSetShutdownState ld dirty) s = .next t ∧ t.get (OD.ldShutdownState ld.val) = (if dirty then 1 else 0)
      ∧ (∀ k, k ≠ OD.ldShutdownState ld.val → t.get k = s.get k)
      ∧ t = { s with od := t.od, unrecorded := t.unrecorded, out := t.out }
      ∧ t.out.mailbox = some { ld := ld.val, code := 0, payload := [] } := by
  obtain ⟨o, u, hframe⟩ := keep_frame s (OD.ldShutdownState ld.val) (if dirty then 1 else 0)
  exact ⟨_, mbxSetShutdownState_sets h dirty, (keep_get ..).trans (if_pos rfl), fun k hk => (keep_get ..).trans (if_neg hk),
    by rw [hframe]; rfl, rfl⟩

theorem mbxClearEventRecords_holds {s : State} {ld : Ld} (h : s.mailboxUp ld.val = true) (log : Fin 4) (count : Nat)
    (hc : count ≤ ((s.cxlLogs ld.val).nth log.val).length) : ∃ t, exec (.mbxClearEventRecords ld log count) s = .next t
      ∧ (t.cxlLogs ld.val).nth log.val = ((s.cxlLogs ld.val).nth log.val).drop count
      ∧ (∀ m : Fin 4, m ≠ log → (t.cxlLogs ld.val).nth m.val = (s.cxlLogs ld.val).nth m.val)
      ∧ (∀ n, n ≠ ld.val → t.cxlLogs n = s.cxlLogs n) ∧ t = { s with log := { s.log with cxl := t.log.cxl }, out := t.out }
      ∧ t.out.mailbox = some { ld := ld.val, code := 0, payload := [] } := by
  obtain ⟨o, hex⟩ := mbxClearEventRecords_clears h hc
  generalize hl : ({ (s.cxlLogs ld.val).setNth log.val (((s.cxlLogs ld.val).nth log.val).drop count) with overflow := o } : CxlLogs) = l
    at hex
  have hlogs : ((s.setCxlLogs ld.val l).mailed ld 0 []).cxlLogs ld.val = l := setCxlLogs_cxlLogs_same ..
  refine ⟨_, hex, ?_, fun m hm => ?_, fun n hn => setCxlLogs_cxlLogs_other s l hn, rfl, rfl⟩
  · rw [hlogs, ← hl, nth_withOverflow, nth_setNth_same]
  · rw [hlogs, ← hl, nth_withOverflow, nth_setNth_other _ _ hm]

theorem mbxSetLsa_holds {s : State} {ld : Ld} (h : s.mailboxUp ld.val = true) (off : Nat) (data : List Byte)
    (hend : off + data.length ≤ 131072) (hlen : data.length + 8 ≤ 2048) : ∃ t, exec (.mbxSetLsa ld off data) s = .next t
      ∧ (∀ i, i < data.length → mapGet (fun _ => 0) (t.lsa ld.val) (off + i) = data.getD i 0)
      ∧ (∀ a, a < off ∨ off + data.length ≤ a → mapGet (fun _ => 0) (t.lsa ld.val) a = mapGet (fun _ => 0) (s.lsa ld.val) a)
      ∧ (∀ n, n ≠ ld.val → t.lsa n = s.lsa n) ∧ mapGet (fun _ => []) t.flush.image.lsa ld.val = t.lsa ld.val
      ∧ t = { s with tables := t.tables, flush := t.flush, flash := t.flash, out := t.out }
      ∧ t.tables = { s.tables with lsa := t.tables.lsa }
      ∧ t.flush = { s.flush with image := { s.flush.image with lsa := t.flush.image.lsa } }
      ∧ t.flash = { s.flash with lsaLost := t.flash.lsaLost } ∧ t.out.mailbox = some { ld := ld.val, code := 0, payload := [] } := by
  generalize hu : (s.lsaRewritten ld.val off data.length).storeLsa ld.val (storeRun (s.lsa ld.val) off data) = u
  have hex : exec (.mbxSetLsa ld off data) s = .next (u.mailed ld 0 []) := hu ▸ mbxSetLsa_stores h hend hlen
  have hlsa : (u.mailed ld 0 []).lsa ld.val = storeRun (s.lsa ld.val) off data := hu ▸ storeLsa_lsa_same ..
  refine ⟨_, hex, fun i hi => ?_, fun a ha => ?_, fun n hn => ?_, ?_, ?_, ?_, ?_, ?_, rfl⟩
  · rw [hlsa, storeRun_within _ _ _ _ hi]
  · rw [hlsa, storeRun_before _ _ _ _ ha]
  · subst hu
    exact storeLsa_lsa_other _ _ hn
  · rw [hlsa]
    subst hu
    exact mapGet_mapSet_same ..
  all_goals subst hu; rfl

/-- Settles O24: a setting by the state its command leaves, and a report by the places in its payload. -/
theorem mailboxSettings : Obligations.MailboxSettings := by
  unfold Obligations.MailboxSettings
  intro s ld h
  refine ⟨mbxSetEventInterruptPolicy_sets h, fun config hc => ?_, fun ha => ?_, fun config hc => mbxSetAlertConfiguration_refused h hc,
    mbxSetTimestamp_holds h, mbxSetShutdownState_holds h, mbxSetLsa_holds h, fun log => ?_, mbxClearEventRecords_holds h,
    fun log count hc => mbxClearEventRecords_refused h hc⟩
  · refine ⟨_, mbxSetAlertConfiguration_sets h hc, rfl, mbxGetAlertConfiguration_set ?_ ?_ ?_⟩
    · exact h
    · rintro rfl
      simp at hc
    · exact congrArg MailboxState.alerts (setMail_mail_same ..)
  · exact ⟨_, mbxGetAlertConfiguration_unset h ha, freeBytes_length ..⟩
  · exact ⟨_, _, mbxGetEventRecords_reports h log, rfl, getEventsAct_fields s ld.val log.val⟩

end Sys2Proof.Machine
end

section
/-! SUPPORT. The two-wire port as controller, the transports of whole frames and the TAP (R109, R110, R449, R450, R473 to R477, R603);
the obligation NoticesAndTransports (O57) stands at the end. -/
namespace Sys2Proof.Machine

/-! ## Attempts to send a Host Notify message -/

theorem sending_notice {s : State} {n : Notice} {rest : List Notice} (h : s.bus.queue = n :: rest) : s.sending = .notice n rest := by
  simp [State.sending, h]

/-- What an attempt to send does before it fails: it counts. -/
structure NoticeTried (s t : State) : Prop where
  bus : t.bus = s.bus
  objects : t.objectsAs s [OD.notifyNacked, OD.notifyArbitrationLost]
  frame : t = { s with od := t.od, log := t.log, perf := t.perf, out := { s.out with busSent := t.out.busSent } }

/-- The message's bytes are on the wire. -/
def State.noticeSent (s : State) (code : Nat) : State := { s with out := { s.out with busSent := some (s.noticeBytes code) } }

theorem noticeTried_nacked (s : State) (code : Nat) : NoticeTried s ((s.noticeSent code).bump OD.notifyNacked 1) where
  bus := rfl
  objects k hk _ := by
    simp only [List.mem_cons, not_or] at hk
    exact (bump_get ..).trans (if_neg hk.1)
  frame := rfl

theorem noticeTried_arbitrationLost (s : State) : NoticeTried s ((s.bump OD.notifyArbitrationLost 1).note 0x6105) := by
  obtain ⟨l, p, o, hframe⟩ := raiseWith_frame (s.bump OD.notifyArbitrationLost 1) 0x6105 0 [] []
  replace hframe : (s.bump OD.notifyArbitrationLost 1).note 0x6105 = _ := hframe
  refine ⟨by rw [hframe]; rfl, fun k hk hu => ?_, by rw [hframe]; rfl⟩
  simp only [List.mem_cons, List.not_mem_nil, or_false, not_or] at hk
  exact (raise_get_undropped _ _ _ _ hu).trans ((bump_get ..).trans (if_neg hk.2))

theorem hostNotifySend_fails {s : State} {n : Notice} {rest : List Notice} (hs : s.ctl.stopped = false) (hw : s.bus.waiting = false)
    (hq : s.bus.queue = n :: rest) : exec (.hostNotifySend false) s
      = .next ((((s.noticeSent n.code).bump OD.notifyNacked 1).attemptFailed true).busFree) := by
  show execHostNotifySend false s = _
  simp only [execHostNotifySend, hs, hw, sending_notice hq, Bool.or_self, Bool.false_eq_true, if_false]
  rfl

theorem hostNotifySend_acknowledged {s : State} {n : Notice} {rest : List Notice} (hs : s.ctl.stopped = false)
    (hw : s.bus.waiting = false) (hq : s.bus.queue = n :: rest) : exec (.hostNotifySend true) s
      = .next ((((State.bump { s.noticeSent n.code with bus := { s.bus with queue := rest } } OD.notifySent 1).put
          OD.notifyLastCode n.code).put OD.notifyLastResult 1).busFree) := by
  show execHostNotifySend true s = _
  simp only [execHostNotifySend, hs, hw, sending_notice hq, Bool.or_self, Bool.false_eq_true, if_false, if_true]
  rfl

theorem arbitrationLost_fails {s : State} {n : Notice} {rest : List Notice} (inAddress : Bool) (hs : s.ctl.stopped = false)
    (hw : s.bus.waiting = false) (hq : s.bus.queue = n :: rest) : exec (.arbitrationLost inAddress) s
      = .next (if inAddress then ((s.bump OD.notifyArbitrationLost 1).note 0x6105).attemptFailed false
          else (((s.bump OD.notifyArbitrationLost 1).note 0x6105).attemptFailed false).busFree) := by
  show execArbitrationLost inAddress s = _
  simp [execArbitrationLost, hs, hw, sending_notice hq]

/-- Every attempt that fails counts, and fails for its cause; the bus may be free after it. -/
theorem noticeAttempt_fails {s : State} {n : Notice} {rest : List Notice} (hs : s.ctl.stopped = false) (hw : s.bus.waiting = false)
    (hq : s.bus.queue = n :: rest) (i : Instr) (hi : i = .hostNotifySend false ∨ i = .arbitrationLost true ∨ i = .arbitrationLost false) :
    ∃ u, NoticeTried s u
      ∧ (exec i s = .next (u.attemptFailed (Decidable.decide (i = .hostNotifySend false)))
        ∨ exec i s = .next (u.attemptFailed (Decidable.decide (i = .hostNotifySend false))).busFree) := by
  obtain rfl | rfl | rfl := hi
  · exact ⟨_, noticeTried_nacked s n.code, .inr (hostNotifySend_fails hs hw hq)⟩
  · exact ⟨_, noticeTried_arbitrationLost s, .inl (arbitrationLost_fails true hs hw hq)⟩
  · exact ⟨_, noticeTried_arbitrationLost s, .inr (arbitrationLost_fails false hs hw hq)⟩

theorem attemptFailed_waits {s : State} {n : Notice} {rest : List Notice} (hq : s.bus.queue = n :: rest)
    (h : n.attempts + 1 < s.get OD.notifyAttempts) (nack : Bool) : s.attemptFailed nack
      = { s with bus := { s.bus with queue := { n with attempts := n.attempts + 1 } :: rest, waiting := true, lastNack := nack } } := by
  simp [State.attemptFailed, sending_notice hq, h]

theorem attemptFailed_drops {s : State} {n : Notice} {rest : List Notice} (hq : s.bus.queue = n :: rest)
    (h : s.get OD.notifyAttempts ≤ n.attempts + 1) (nack : Bool) : s.attemptFailed nack
      = State.noticeLost { s with bus := { s.bus with queue := rest, waiting := false } } n.code (if nack then 2 else 3) := by
  simp only [State.attemptFailed, sending_notice hq, if_pos h]

/-- A dropped message writes its code, its cause and the count of those dropped. -/
theorem noticeLost_get {k : Nat} (s : State) (code cause : Nat) (hk : Undropped k) : (s.noticeLost code cause).get k =
    if k = OD.notifyDropped then (s.get OD.notifyDropped + 1) % 2 ^ 32 else if k = OD.notifyLastCode then code
    else if k = OD.notifyLastResult then cause else s.get k := by
  have hbits : bitsOfKey OD.notifyDropped = 32 := by decide
  unfold State.noticeLost
  rw [raise_get_undropped _ _ _ _ hk, bump_get, hbits]
  simp only [get_put]
  rfl

@[simp] theorem noticeLost_bus (s : State) (code cause : Nat) : (s.noticeLost code cause).bus = s.bus := by
  obtain ⟨l, p, o, hframe⟩ := raiseWith_frame (((s.put OD.notifyLastResult cause).put OD.notifyLastCode code).bump OD.notifyDropped 1)
    0x6102 0 [(.u16, code), (.u8, cause)] []
  replace hframe : s.noticeLost code cause = _ := hframe
  rw [hframe]
  rfl

theorem busFree_get (s : State) (k : Nat) : s.busFree.get k = s.get k := rfl

theorem notice_acknowledged {s : State} {n : Notice} {rest : List Notice} (hs : s.ctl.stopped = false) (hw : s.bus.waiting = false)
    (hq : s.bus.queue = n :: rest) : ∃ t, exec (.hostNotifySend true) s = .next t ∧ t.out.busSent
        = some [0x10#8, BitVec.ofNat 8 (2 * s.get OD.twoWireAddress), BitVec.ofNat 8 n.code, BitVec.ofNat 8 (n.code / 256)]
      ∧ t.bus.queue = rest ∧ t.get OD.notifySent = (s.get OD.notifySent + 1) % 2 ^ 32 ∧ t.get OD.notifyLastCode = n.code
      ∧ t.get OD.notifyLastResult = 1 ∧ (∀ k, k ∉ [OD.notifySent, OD.notifyLastCode, OD.notifyLastResult] → t.get k = s.get k)
      ∧ t = { s with bus := t.bus, od := t.od, out := { s.out with busSent := t.out.busSent } } := by
  refine ⟨_, hostNotifySend_acknowledged hs hw hq, rfl, rfl, ?_⟩
  generalize ht : State.busFree _ = t
  have hbits : bitsOfKey OD.notifySent = 32 := by decide
  have hget : ∀ k, t.get k = if k = OD.notifyLastResult then 1 else if k = OD.notifyLastCode then n.code
      else if k = OD.notifySent then (s.get OD.notifySent + 1) % 2 ^ 32 else s.get k := by
    intro k
    subst ht
    rw [busFree_get, get_put, get_put, bump_get, hbits]
    rfl
  refine ⟨by rw [hget]; rfl, by rw [hget]; rfl, by rw [hget]; rfl, fun k hk => ?_, ?_⟩
  · simp only [List.mem_cons, List.not_mem_nil, or_false, not_or] at hk
    obtain ⟨hsent, hcode, hresult⟩ := hk
    rw [hget, if_neg hresult, if_neg hcode, if_neg hsent]
  · obtain ⟨o, b, hframe⟩ : ∃ o b, t = { s.noticeSent n.code with od := o, bus := b } := ⟨_, _, ht.symm⟩
    rw [hframe]
    rfl

theorem noticeTried_attempts {s u : State} (h : NoticeTried s u) : u.get OD.notifyAttempts = s.get OD.notifyAttempts :=
  h.objects _ (by decide) (by decide)

theorem notice_waits {s : State} {n : Notice} {rest : List Notice} (hs : s.ctl.stopped = false) (hw : s.bus.waiting = false)
    (hq : s.bus.queue = n :: rest) (hn : n.attempts + 1 < s.get OD.notifyAttempts) (i : Instr)
    (hi : i = .hostNotifySend false ∨ i = .arbitrationLost true ∨ i = .arbitrationLost false) :
    ∃ t, exec i s = .next t ∧ t.bus.queue = { n with attempts := n.attempts + 1 } :: rest ∧ t.bus.waiting = true
      ∧ t.bus.lastNack = Decidable.decide (i = .hostNotifySend false)
      ∧ t.objectsAs s [OD.notifyNacked, OD.notifyArbitrationLost]
      ∧ t = { s with bus := t.bus, od := t.od, log := t.log, perf := t.perf, out := { s.out with busSent := t.out.busSent } } := by
  obtain ⟨u, hu, hex⟩ := noticeAttempt_fails hs hw hq i hi
  rw [attemptFailed_waits (n := n) (rest := rest) (by rw [hu.bus, hq]) (by rwa [noticeTried_attempts hu])] at hex
  obtain hex | hex := hex
  all_goals
    refine ⟨_, hex, rfl, rfl, rfl, fun k hk hd => hu.objects k hk hd, ?_⟩
    have hframe := hu.frame
    generalize u.od = o, u.log = l, u.perf = p, u.out.busSent = b at hframe
    subst hframe
    rfl

theorem notice_drops {s : State} {n : Notice} {rest : List Notice} (hs : s.ctl.stopped = false) (hw : s.bus.waiting = false)
    (hq : s.bus.queue = n :: rest) (hn : s.get OD.notifyAttempts ≤ n.attempts + 1) (i : Instr) (c : Nat)
    (hi : (i = .hostNotifySend false ∧ c = 2) ∨ (i = .arbitrationLost false ∧ c = 3)) :
    ∃ t, exec i s = .next t ∧ t.bus.queue = rest ∧ t.bus.waiting = false ∧ t.get OD.notifyLastResult = c
      ∧ t.get OD.notifyDropped = (s.get OD.notifyDropped + 1) % 2 ^ 32 := by
  have hcause : c = if Decidable.decide (i = .hostNotifySend false) then 2 else 3 := by
    obtain ⟨rfl, rfl⟩ | ⟨rfl, rfl⟩ := hi <;> rfl
  obtain ⟨u, hu, hex⟩ := noticeAttempt_fails hs hw hq i (hi.imp And.left fun h => .inr h.1)
  rw [attemptFailed_drops (n := n) (rest := rest) (by rw [hu.bus, hq]) (by rwa [noticeTried_attempts hu]), ← hcause] at hex
  have hresult := noticeLost_get (k := OD.notifyLastResult) { u with bus := { u.bus with queue := rest, waiting := false } } n.code c
    (by unfold Undropped; decide)
  have hdropped := noticeLost_get (k := OD.notifyDropped) { u with bus := { u.bus with queue := rest, waiting := false } } n.code c
    (by unfold Undropped; decide)
  have hcount : u.get OD.notifyDropped = s.get OD.notifyDropped := hu.objects _ (by decide) (by decide)
  have hbus := noticeLost_bus { u with bus := { u.bus with queue := rest, waiting := false } } n.code c
  obtain hex | hex := hex
  all_goals
    refine ⟨_, hex, congrArg Bus.queue hbus, congrArg Bus.waiting hbus, hresult, hdropped.trans ?_⟩
    rw [if_pos rfl, ← hcount]
    rfl

theorem hostNotifyRetry_sends {s : State} {n : Notice} {rest : List Notice} (hw : s.bus.waiting = true) (hq : s.bus.queue = n :: rest)
    (hn : n.attempts < s.get OD.notifyAttempts) :
    exec .hostNotifyRetry s = .next { s with bus := { s.bus with waiting := false } } := by
  show execHostNotifyRetry s = _
  simp [execHostNotifyRetry, hw, sending_notice hq, hn]

/-! ## TestNotify -/

/-- A response leaves the queue of Host Notify messages alone. -/
theorem transmit_bus (s : State) (src : Transport) (opcode tag index sub : Nat) (r : Reply) :
    ∃ p ps, (s.transmit src opcode tag index sub r).bus = { s.bus with proxy := p, packets := ps } := by
  unfold State.transmit
  extract_lets frame u
  cases src with
  | mailbox ld => exact ⟨_, _, rfl⟩
  | vdm p e => exact ⟨_, _, rfl⟩
  | smbus e => exact ⟨_, _, rfl⟩
  | proxy => dsimp only; split <;> exact ⟨_, _, rfl⟩

theorem arrived_bus (s : State) (src : Transport) : ∃ p ps, (s.arrived src).bus = { s.bus with proxy := p, packets := ps } := by
  show ∃ p ps, (s.answerPending src).bus = _
  unfold State.answerPending
  extract_lets x
  split
  · exact ⟨_, _, rfl⟩
  · exact transmit_bus ..

theorem queueMessage_of_empty {s : State} (hq : s.bus.queue = []) (code severity : Nat) (atHead : Bool) :
    (s.queueMessage code severity atHead).bus.queue
        = [{ code := code, severity := severity, attempts := 0, order := s.bus.arrivals }]
      ∧ ∃ b, s.queueMessage code severity atHead = { s with bus := b } := by
  cases atHead <;> simp [State.queueMessage, hq, noticeLimit, State.placeNotice]

theorem testNotify_refused {s : State} {q : Req} {code : BitVec 16} (h : s.accepts (.testNotify q code) = true)
    (hn : noticeNever code.toNat = true) : exec (.testNotify q code) s
      = .next ((s.arrived q.src).answered (.testNotify q code) { status := 0x06, payload := [] }) := by
  show execTestNotify q code s = _
  rw [execTestNotify, runCmd_accepts _ _ _ _ _ _ rfl h, if_pos hn]
  rfl

theorem testNotify_queues {s : State} {q : Req} {code : BitVec 16} (h : s.accepts (.testNotify q code) = true)
    (hn : noticeNever code.toNat = false) (hq : s.bus.queue = []) : ∃ u : State,
      exec (.testNotify q code) s = .next (u.answered (.testNotify q code) okReply)
      ∧ u.bus.queue = [{ code := code.toNat, severity := 1, attempts := 0, order := s.bus.arrivals }]
      ∧ u = { s.arrived q.src with bus := u.bus } := by
  obtain ⟨p, ps, hbus⟩ := arrived_bus s q.src
  have harrived : (s.arrived q.src).bus.queue = [] := by rw [hbus, hq]
  obtain ⟨hqueue, b, hframe⟩ := queueMessage_of_empty harrived code.toNat 1 (noticeFirst code.toNat)
  refine ⟨(s.arrived q.src).queueMessage code.toNat 1 (noticeFirst code.toNat), ?_, ?_, by rw [hframe]⟩
  · show execTestNotify q code s = _
    rw [execTestNotify, runCmd_accepts _ _ _ _ _ _ rfl h, if_neg (by simp [hn])]
    rfl
  · rw [hqueue, hbus]

/-! ## ZOP over the mailbox -/

theorem zopRequest_misfits {s : State} {ld : Ld} (h : s.mailboxUp ld.val = true) {frame : List Byte} (hf : mailFrameOk frame = false) :
    exec (.zopRequest ld frame) s = .next (s.mailed ld 2 []) := by
  show execZopRequest ld frame s = _
  simp only [execZopRequest, hf, Bool.not_false, if_true]
  exact runMail_up h _

theorem zopRequestInBackground_misfits {s : State} {ld : Ld} (h : s.mailboxUp ld.val = true) {frame : List Byte}
    (hf : mailFrameOk frame = false) : exec (.zopRequestInBackground ld frame) s = .next (s.mailed ld 2 []) := by
  show execZopRequestInBackground ld frame s = _
  simp only [execZopRequestInBackground, hf, Bool.not_false, Bool.true_or, if_true]
  exact runMail_up h _

theorem zopRequest_serves {s : State} {ld : Ld} (h : s.mailboxUp ld.val = true) {frame : List Byte} (hf : mailFrameOk frame = true)
    (hl : 1 ≤ s.get (OD.ldMgmtAccess ld.val)) : exec (.zopRequest ld frame) s = serveFrame (.mailbox ld) frame s := by
  show execZopRequest ld frame s = _
  simp only [execZopRequest, hf, Bool.not_true, Bool.false_eq_true, if_false, Nat.not_lt.mpr hl, h, if_true]

theorem zopRequest_below_level {s : State} {ld : Ld} (h : s.mailboxUp ld.val = true) {frame : List Byte} (hf : mailFrameOk frame = true)
    (hl : s.get (OD.ldMgmtAccess ld.val) < 1) : exec (.zopRequest ld frame) s
      = .next ((s.levelRefused ld.val frame).1.mailed ld 0 (s.levelRefused ld.val frame).2.2) := by
  show execZopRequest ld frame s = _
  simp only [execZopRequest, hf, Bool.not_true, Bool.false_eq_true, if_false, hl, if_true]
  exact runMail_up h _

/-- A response without a payload has 12 bytes, and its STATUS at byte 5 (R439). -/
theorem frameBytes_status (opcode tag index sub status : Nat) (h : status < 256) :
    (frameBytes opcode tag index sub status []).length = 12 ∧ field (frameBytes opcode tag index sub status []) 5 1 = status := by
  refine ⟨by simp [frameBytes, frameHead], ?_⟩
  have hsplit : frameBytes opcode tag index sub status [] = (toBytes 1 opcode ++ toBytes 1 tag ++ toBytes 2 index ++ toBytes 1 sub)
      ++ (toBytes 1 status ++ (toBytes 2 0 ++ toBytes 4 (frameCrc opcode tag index sub status []).toNat)) := by
    simp [frameBytes, frameHead]
  have hbehind := field_append_right (toBytes 1 opcode ++ toBytes 1 tag ++ toBytes 2 index ++ toBytes 1 sub)
    (toBytes 1 status ++ (toBytes 2 0 ++ toBytes 4 (frameCrc opcode tag index sub status []).toNat)) 0 1
  rw [field_toBytes_append, Nat.mod_eq_of_lt (by omega)] at hbehind
  simpa [hsplit] using hbehind

theorem zopRequest_refused {s : State} {ld : Ld} (h : s.mailboxUp ld.val = true) {frame : List Byte} (hf : mailFrameOk frame = true)
    (hl : s.get (OD.ldMgmtAccess ld.val) = 0) : ∃ t, exec (.zopRequest ld frame) s = .next t
      ∧ t.out.mailbox.map (fun m => (m.ld, m.code, m.payload.length, field m.payload 5 1)) = some (ld.val, 0, 12, 0x04)
      ∧ t.objectsAs s [] ∧ t = { s with od := t.od, log := t.log, perf := t.perf, out := { s.out with mailbox := t.out.mailbox } } := by
  obtain ⟨hlen, hstatus⟩ := frameBytes_status ((looseFrame frame).opcode % 128 + 128) (field frame 1 1) (looseFrame frame).index
    (looseFrame frame).sub stAccess (by decide)
  obtain ⟨l, p, o, hframe⟩ : ∃ l p o, (s.levelRefused ld.val frame).1 = { s with log := l, perf := p, od := o } :=
    raiseWith_frame s 0x7011 0 [(.u16, ld.val), (.u24, keyOf (looseFrame frame).index (looseFrame frame).sub)] []
  refine ⟨_, zopRequest_below_level h hf (by omega), ?_, fun k _ hu => raise_get_undropped _ _ _ _ hu, ?_⟩
  · show some (ld.val, 0, (frameBytes _ _ _ _ stAccess []).length, field (frameBytes _ _ _ _ stAccess []) 5 1) = _
    rw [hlen, hstatus]
    rfl
  · rw [hframe]
    rfl

/-- What a background command adds to what its frame did: its session's result and the mailbox's answer. -/
theorem background_frame (s : State) (ld : Ld) (tag key : Nat) : ∃ z o u h, s.background ld tag key
    = { s with zop := z, out := o, bus := u, host := h } := by
  unfold State.background
  extract_lets src x m r y t
  have ht : ∃ z o u h, t = { s with zop := z, out := o, bus := u, host := h } := by
    obtain ⟨z, o, u, hpending⟩ := answerPending_frame s src
    simp only [t]
    split
    · exact ⟨z, o, u, _, by rw [hpending]; rfl⟩
    · exact ⟨_, _, _, _, rfl⟩
  obtain ⟨z, o, u, h, ht⟩ := ht
  exact ⟨z, _, u, h, by rw [ht]⟩

/-- The mailbox has started its background command. -/
theorem background_starts (s : State) (ld : Ld) (tag key : Nat) :
    (s.background ld tag key).out.mailbox = some { ld := ld.val, code := 1, payload := [] }
    ∧ ((s.background ld tag key).mail ld.val).background.1 = 0xC001 := by
  refine ⟨rfl, ?_⟩
  unfold State.background
  extract_lets src x m r y t
  show (t.mail ld.val).background.1 = _
  simp only [t]
  split <;> rw [setMail_mail_same]

theorem zopRequestInBackground_serves {s : State} {ld : Ld} (h : s.mailboxUp ld.val = true) {frame : List Byte}
    (hf : mailFrameOk frame = true) (hc : namesCommand frame = true) (hl : 2 ≤ s.get (OD.ldMgmtAccess ld.val))
    (hb : (s.mail ld.val).background.1 ≠ 0xC001 ∨ 100 ≤ (s.mail ld.val).background.2.1)
    (hr : (s.session (.mailbox ld)).results.length < 16) :
    ∃ t u : State, serveFrame (.mailbox ld) frame { s with out := { s.out with zop := none } } = .next t ∧
      exec (.zopRequestInBackground ld frame) s = .next u ∧ u.out.mailbox = some { ld := ld.val, code := 1, payload := [] }
      ∧ (u.mail ld.val).background.1 = 0xC001 ∧ u.tables = t.tables ∧ u.od = t.od ∧ u.dram = t.dram ∧ u.ctl = t.ctl := by
  obtain ⟨t, hserved, -⟩ := serveFrame_goesOn (.mailbox ld) frame { s with out := { s.out with zop := none } }
  obtain ⟨z, o, b, m, hframe⟩ := background_frame t ld (field frame 1 1) (keyOf (field frame 2 2) (field frame 4 1))
  obtain ⟨hmailbox, hstarted⟩ := background_starts t ld (field frame 1 1) (keyOf (field frame 2 2) (field frame 4 1))
  have hfree : ((s.mail ld.val).background.1 = 0xC001 && (s.mail ld.val).background.2.1 < 100
      || 16 ≤ (s.session (.mailbox ld)).results.length) = false := by
    simp only [Bool.or_eq_false_iff, Bool.and_eq_false_iff, decide_eq_false_iff_not, not_lt, not_le]
    exact ⟨hb, hr⟩
  refine ⟨t, t.background ld (field frame 1 1) (keyOf (field frame 2 2) (field frame 4 1)), hserved, ?_, hmailbox, hstarted, ?_⟩
  · show execZopRequestInBackground ld frame s = _
    simp only [execZopRequestInBackground, hf, hc, Bool.not_true, Bool.or_self, Bool.false_eq_true, if_false, Nat.not_lt.mpr hl, hfree, h,
      hserved]
  · rw [hframe]
    exact ⟨rfl, rfl, rfl, rfl⟩

theorem zopRequest_holds (s : State) (ld : Ld) (frame : List Byte) (h : s.mailboxUp ld.val = true) (hf : mailFrameOk frame = true)
    (hl : 1 ≤ s.get (OD.ldMgmtAccess ld.val)) :
    ∃ t, serveFrame (.mailbox ld) frame s = .next t ∧ exec (.zopRequest ld frame) s = .next t := by
  obtain ⟨t, hserved, -⟩ := serveFrame_goesOn (.mailbox ld) frame s
  exact ⟨t, hserved, (zopRequest_serves h hf hl).trans hserved⟩

/-! ## MCTP -/

theorem mctpMessage_control {s : State} {src : Transport} {ep : Nat} (he : endpointOf src = some ep) (hup : s.transportUp src = true)
    (body : List Byte) : exec (.mctpMessage src 0 body) s = .next (s.mctpControl src ep body) := by
  show execMctpMessage src 0 body s = _
  simp [execMctpMessage, he, hup]

theorem mctpMessage_foreign {s : State} {src : Transport} {ep : Nat} (he : endpointOf src = some ep) (hup : s.transportUp src = true)
    {body : List Byte} (hb : s.frameIn body = none) : exec (.mctpMessage src 0x7E body) s = .next s := by
  show execMctpMessage src 0x7E body s = _
  simp [execMctpMessage, he, hup, hb]

theorem mctpMessage_vendor {s : State} {src : Transport} {ep : Nat} (he : endpointOf src = some ep) (hup : s.transportUp src = true)
    {body frame : List Byte} (hb : s.frameIn body = some frame) : exec (.mctpMessage src 0x7E body) s = serveFrame src frame s := by
  show execMctpMessage src 0x7E body s = _
  simp [execMctpMessage, he, hup, hb]

theorem mctpMessage_other {s : State} {src : Transport} {ep : Nat} (he : endpointOf src = some ep) (hup : s.transportUp src = true)
    (body : List Byte) {ty : BitVec 8} (h0 : ty ≠ 0) (h7 : ty ≠ 0x7E) : exec (.mctpMessage src ty body) s = .next s := by
  replace h0 : ty ≠ 0#8 := h0
  replace h7 : ty ≠ 0x7E#8 := h7
  show execMctpMessage src ty body s = _
  simp [execMctpMessage, he, hup, h0, h7]

theorem sendMctp_sends (s : State) {src : Transport} {ep : Nat} (he : endpointOf src = some ep) (msg : List Byte) :
    ∃ b, s.sendMctp src msg = { s with out := { s.out with mctp := some (src, msg) }, bus := b } := by
  cases src with
  | mailbox ld => simp [endpointOf] at he
  | proxy => simp [endpointOf] at he
  | vdm p e => exact ⟨_, rfl⟩
  | smbus e => exact ⟨_, rfl⟩

/-- Set Endpoint ID is answered with the ID, which is kept. -/
theorem mctpControl_setEid (s : State) (src : Transport) (ep : Nat) {e : BitVec 8} (h0 : e ≠ 0) (h255 : e ≠ 255) :
    s.mctpControl src ep [0x80#8, 1#8, 0#8, e] = State.sendMctp
      { s.draw with zop := { s.zop with eids := mapSet (fun _ => 0) s.zop.eids ep e.toNat } } src
      [0#8, 0#8, 1#8, 0#8, 0#8, e, 0#8] := by
  have h0' : e.toNat ≠ 0 := fun h => h0 (BitVec.eq_of_toNat_eq h)
  have h255' : e.toNat ≠ 255 := fun h => h255 (BitVec.eq_of_toNat_eq h)
  simp [State.mctpControl, controlAnswer, field, slice, ofBytes, h0', h255']

theorem mctpMessage_setEid {s : State} {src : Transport} {ep : Nat} (he : endpointOf src = some ep) (hup : s.transportUp src = true)
    {e : BitVec 8} (h0 : e ≠ 0) (h255 : e ≠ 255) : ∃ t, exec (.mctpMessage src 0 [0x80#8, 1#8, 0#8, e]) s = .next t
      ∧ mapGet (fun _ => 0) t.zop.eids ep = e.toNat ∧ t.out.mctp = some (src, [0#8, 0#8, 1#8, 0#8, 0#8, e, 0#8])
      ∧ t = { s with free := s.free + 1, zop := { s.zop with eids := t.zop.eids }, bus := t.bus, out := t.out } := by
  obtain ⟨b, hsent⟩ := sendMctp_sends { s.draw with zop := { s.zop with eids := mapSet (fun _ => 0) s.zop.eids ep e.toNat } } he
    [0#8, 0#8, 1#8, 0#8, 0#8, e, 0#8]
  refine ⟨_, mctpMessage_control he hup _, ?_⟩
  rw [mctpControl_setEid s src ep h0 h255, hsent]
  exact ⟨mapGet_mapSet_same .., rfl, rfl⟩

/-! ## The TAP -/

theorem tapInstruction_scan (s : State) {i : TapInstruction} (hi : scanInstruction i = true) : exec (.tapInstruction i) s
    = .next { s with tap := { s.tap with instruction := if s.scanOpen then i else .bypass, drives := s.scanOpen } } := by
  show execTapInstruction i s = _
  cases i with
  | samplePreload | extest | extestPulse | extestTrain => simp only [execTapInstruction, hi, Bool.and_true]
  | bypass | idcode | other | reset => exact absurd hi (by decide)

theorem idcode_fits {a b : Nat} (ha : a < 2 ^ 4) (hb : b < 2 ^ 11) : a * 2 ^ 28 + 0x9640 * 2 ^ 12 + b * 2 + 1 < 2 ^ 32 := by
  omega

/-- IDCODE as a number: its free parts stay in their places. -/
theorem idcode_toNat : ∃ a b, a < 2 ^ 4 ∧ b < 2 ^ 11 ∧ idcode.toNat = a * 2 ^ 28 + 0x9640 * 2 ^ 12 + b * 2 + 1 := by
  have ha := (Config.freeBits 4 0).isLt
  have hb := (Config.freeBits 11 1).isLt
  refine ⟨_, _, ha, hb, ?_⟩
  exact (BitVec.toNat_ofNat ..).trans (Nat.mod_eq_of_lt (idcode_fits ha hb))

theorem idcode_bits : idcode.extractLsb' 12 16 = 0x9640#16 ∧ idcode.getLsbD 0 = true := by
  obtain ⟨a, b, ha, hb, hvalue⟩ := idcode_toNat
  refine ⟨BitVec.eq_of_toNat_eq ?_, ?_⟩
  · rw [BitVec.extractLsb'_toNat, hvalue, Nat.shiftRight_eq_div_pow]
    show _ = 0x9640
    omega
  · rw [BitVec.getLsbD, hvalue, Nat.testBit_zero]
    simp only [decide_eq_true_eq]
    omega

theorem tapInstruction_holds (s : State) :
    (s.ctl.mode = .off → s.pins.mdPwrgd = true → s.pins.resetN = false → ∀ i : TapInstruction, scanInstruction i = true →
        ∃ t, exec (.tapInstruction i) s = .next t ∧ t.tapDrives = true ∧ t = { s with tap := { s.tap with instruction := i, drives := true } })
    ∧ ((s.ctl.mode ≠ .off ∨ s.pins.mdPwrgd = false ∨ s.pins.resetN = true) → ∀ i : TapInstruction, scanInstruction i = true →
        exec (.tapInstruction i) s = .next { s with tap := { s.tap with instruction := .bypass, drives := false } })
    ∧ (∃ t c, exec (.tapInstruction .idcode) s = .next t ∧ t.tap.idcode = some c ∧ c.extractLsb' 12 16 = 0x9640#16 ∧ c.getLsbD 0 = true
        ∧ t.tapDrives = false ∧ t = { s with tap := t.tap }) := by
  refine ⟨fun hm hp hr i hi => ?_, fun hshut i hi => ?_, ⟨_, idcode, rfl, rfl, idcode_bits.1, idcode_bits.2, rfl, rfl⟩⟩
  · have hopen : s.scanOpen = true := by simp [State.scanOpen, hm, hp, hr]
    exact ⟨_, tapInstruction_scan s hi, Bool.and_eq_true_iff.mpr ⟨hopen, hopen⟩, by rw [hopen, if_pos rfl]⟩
  · have hclosed : s.scanOpen = false := by
      simp only [State.scanOpen, Bool.and_eq_false_iff, beq_eq_false_iff_ne, Bool.not_eq_false', or_assoc]
      exact hshut
    rw [tapInstruction_scan s hi, hclosed]
    rfl

/-- Settles O57: attempts by what they count and what becomes of the head of the queue, frames by the same service on every transport,
and the TAP by its condition. -/
theorem noticesAndTransports : Obligations.NoticesAndTransports := by
  unfold Obligations.NoticesAndTransports
  refine ⟨fun s n rest hs hw hq => ⟨notice_acknowledged hs hw hq, notice_waits hs hw hq, notice_drops hs hw hq⟩,
    fun s n rest => hostNotifyRetry_sends, fun s q code h => ⟨testNotify_refused h, testNotify_queues h⟩,
    fun s ld frame h => ⟨fun hf => ⟨zopRequest_misfits h hf, zopRequestInBackground_misfits h hf⟩, zopRequest_refused h,
      zopRequest_holds s ld frame h, zopRequestInBackground_serves h⟩,
    fun s src ep body he hup => ?_, tapInstruction_holds⟩
  refine ⟨fun ty => mctpMessage_other he hup body, fun frame hframe => ?_, mctpMessage_foreign he hup, ?_⟩
  · obtain ⟨t, hserved, -⟩ := serveFrame_goesOn src frame s
    exact ⟨t, hserved, (mctpMessage_vendor he hup hframe).trans hserved⟩
  · rintro e h0 h255 rfl
    exact mctpMessage_setEid he hup h0 h255

end Sys2Proof.Machine
end

section
/-! SUPPORT. How a CXL.mem message reaches its page (R77, R98, R107, R137, R143): what its receipt, its ticket and the lookup leave alone,
and what its completion adds. Shared by the obligations ReadCompletes (O16), WriteCompletes (O17) and MailboxPoison (O25). -/
namespace Sys2Proof.Machine

/-! ## Tickets and counters -/

theorem count_counts (s : State) (source inst k : Nat) : ∃ p, s.count source inst k = { s with perf := p } :=
  ⟨_, count_frame s source inst k⟩

/-- A request that may be drawn for a ticket leaves everything but the tracer, its counters and the free values. -/
theorem drawTicket_draws (s : State) (ld dpa : Nat) (isWrite : Bool) :
    (∃ k f p o, s.drawTicket ld dpa isWrite = { s with tickets := k, free := f, perf := p, od := o })
    ∧ ∀ n, n ≠ OD.ticketSkipped → (s.drawTicket ld dpa isWrite).get n = s.get n := by
  unfold State.drawTicket
  extract_lets p x ticketsBefore u t ticketsNow v
  split
  · exact ⟨⟨_, _, _, _, rfl⟩, fun n _ => rfl⟩
  · split
    · rw [count_frame]
      exact ⟨⟨_, _, _, _, rfl⟩, fun n hn => (bump_get u OD.ticketSkipped 1 n).trans (if_neg hn)⟩
    · rw [count_frame]
      exact ⟨⟨_, _, _, _, rfl⟩, fun n _ => rfl⟩

/-- The state `t` is `s` with tickets stored: the tracer, its two objects, the log and the counters. -/
structure TicketsStored (s t : State) : Prop where
  frame : ∃ k o l p, t = { s with tickets := k, od := o, log := l, perf := p }
  objects : t.objectsAs s [OD.ticketNextTicket, OD.ticketGeneration]

theorem TicketsStored.trans {s t u : State} (h : TicketsStored s t) (h' : TicketsStored t u) : TicketsStored s u := by
  refine ⟨?_, fun n hn hd => (h'.objects n hn hd).trans (h.objects n hn hd)⟩
  obtain ⟨k, o, l, p, rfl⟩ := h.frame
  obtain ⟨k', o', l', p', rfl⟩ := h'.frame
  exact ⟨k', o', l', p', rfl⟩

theorem ticketsStored_note (s : State) (b : Bool) (c : Nat) : TicketsStored s (s.when b (·.note c)) := by
  cases b with
  | false => exact ⟨⟨_, _, _, _, rfl⟩, fun _ _ _ => rfl⟩
  | true =>
    obtain ⟨l, p, o, h⟩ := raiseWith_frame s c 0 [] []
    exact ⟨⟨s.tickets, o, l, p, h⟩, fun _ _ hd => raise_get_undropped s c 0 [] hd⟩

theorem storeTicket_stores (s : State) (t : Ticket) : TicketsStored s (s.storeTicket t) := by
  unfold State.storeTicket
  dsimp only
  split
  · exact ⟨⟨_, _, _, _, rfl⟩, fun _ _ _ => rfl⟩
  · refine TicketsStored.trans ?_ (ticketsStored_note (State.bump _ OD.ticketGeneration 1) _ _)
    refine ⟨⟨_, _, _, _, rfl⟩, fun k hk _ => ?_⟩
    simp only [List.mem_cons, List.not_mem_nil, or_false, not_or] at hk
    rw [bump_get, if_neg hk.2]
    exact get_put_other _ _ _ _ hk.1

theorem storeTickets_store (ts : List Ticket) (s : State) : TicketsStored s (ts.foldl State.storeTicket s) := by
  induction ts generalizing s with
  | nil => exact ⟨⟨_, _, _, _, rfl⟩, fun _ _ _ => rfl⟩
  | cons t ts ih => exact (storeTicket_stores s t).trans (ih _)

theorem settleTickets_stores (s : State) : TicketsStored s (s.settleTickets true) := by
  unfold State.settleTickets
  extract_lets done ticketsBefore u
  exact TicketsStored.trans (t := u) ⟨⟨_, _, _, _, rfl⟩, fun _ _ _ => rfl⟩ (storeTickets_store done u)

/-! ## The lookup -/

theorem lookup_looks (s : State) (cid page : Nat) : ∃ p f c n, s.lookup cid page
    = { s with perf := p, free := f, work := { s.work with cache := c, unwritten := n } } := by
  have hcounted : ∀ miss, ∃ p, ((s.draw.count 0xF010 0xFFFF 1).count 0xF011 0xFFFF miss).count 0xF012 0xFFFF miss
      = { s.draw with perf := p } := fun miss => by
    rw [count_frame, count_frame (s.draw.count 0xF010 0xFFFF 1), count_frame s.draw]
    exact ⟨_, rfl⟩
  unfold State.lookup
  dsimp only
  obtain ⟨p, hp⟩ := hcounted (if s.leafCached (leafKey cid page) = true then 0 else 1)
  rw [hp]
  exact ⟨_, _, _, _, rfl⟩

/-- A line's cipher blocks take a free value and are counted. -/
theorem cipherLine_counts (s : State) : ∃ p, s.cipherLine = { s with free := s.free + 1, perf := p } :=
  count_counts s.draw _ _ _

/-! ## On the way to a page -/

/-- The state `t` in which a message is served that was received in `s`: counters, tickets, free values, the translation cache and a port's
spent credit have moved, and there is no answer yet. -/
structure Reached (s t : State) : Prop where
  frame : ∃ o p k f h x c n, t = { s with od := o, perf := p, tickets := k, free := f, host := h, out := x
                                          work := { s.work with cache := c, unwritten := n } }
  objects : ∀ n, n ≠ OD.ticketSkipped → t.get n = s.get n
  answers : t.out.host = []
  host : s.ctl.mode ≠ .save → t.host = s.host
  ports : ∀ p, ∃ n, t.hostPort p = { s.hostPort p with reqHeld := n }

namespace Reached

variable {s t : State} (h : Reached s t)
include h

theorem tables : t.tables = s.tables := by obtain ⟨o, p, k, f, x, y, c, n, rfl⟩ := h.frame; rfl
theorem dram : t.dram = s.dram := by obtain ⟨o, p, k, f, x, y, c, n, rfl⟩ := h.frame; rfl
theorem ctl : t.ctl = s.ctl := by obtain ⟨o, p, k, f, x, y, c, n, rfl⟩ := h.frame; rfl
theorem terms : t.terms = s.terms := by obtain ⟨o, p, k, f, x, y, c, n, rfl⟩ := h.frame; rfl
theorem crypt : t.crypt = s.crypt := by obtain ⟨o, p, k, f, x, y, c, n, rfl⟩ := h.frame; rfl
theorem flush : t.flush = s.flush := by obtain ⟨o, p, k, f, x, y, c, n, rfl⟩ := h.frame; rfl
theorem iso : t.iso = s.iso := by obtain ⟨o, p, k, f, x, y, c, n, rfl⟩ := h.frame; rfl
theorem uptime : t.uptime = s.uptime := by obtain ⟨o, p, k, f, x, y, c, n, rfl⟩ := h.frame; rfl
theorem waiters : t.work.waiters = s.work.waiters := by obtain ⟨o, p, k, f, x, y, c, n, rfl⟩ := h.frame; rfl
theorem delayed : t.work.delayed = s.work.delayed := by obtain ⟨o, p, k, f, x, y, c, n, rfl⟩ := h.frame; rfl
theorem held : t.work.held = s.work.held := by obtain ⟨o, p, k, f, x, y, c, n, rfl⟩ := h.frame; rfl
theorem nextFrame : t.work.nextFrame = s.work.nextFrame := by obtain ⟨o, p, k, f, x, y, c, n, rfl⟩ := h.frame; rfl
theorem badBanks : t.work.badBanks = s.work.badBanks := by obtain ⟨o, p, k, f, x, y, c, n, rfl⟩ := h.frame; rfl
theorem claims : t.flush.claims = s.flush.claims := by rw [h.flush]

theorem leaf (k : Nat) : t.leaf k = s.leaf k := by simp [State.leaf, h.tables]
theorem carriage (c : Nat) : t.carriage c = s.carriage c := by simp [State.carriage, h.tables]
theorem interior (k : Nat) : t.interior k = s.interior k := by simp [State.interior, h.tables]
theorem depotEntry (i : Nat) : t.depotEntry i = s.depotEntry i := by simp [State.depotEntry, h.tables]
theorem frames (f : Nat) : t.frame f = s.frame f := by simp [State.frame, h.dram]
theorem populated : t.populated = s.populated := by rw [State.populated, h.dram]; rfl
theorem channelOf (f : Nat) : t.channelOf f = s.channelOf f := by rw [State.channelOf, h.populated]; rfl
theorem chan (c : Nat) : t.chan c = s.chan c := by simp [State.chan, h.dram]
theorem frameServes (f : Nat) : t.frameServes f = s.frameServes f := by
  simp [State.frameServes, State.chanServes, h.chan, h.channelOf]

theorem residentImage (key : Nat) : t.residentImage key = s.residentImage key := by
  simp [State.residentImage, State.carriageKey, State.lpn, h.leaf, h.carriage, h.interior, h.frames]

theorem pageName (cid page : Nat) : t.pageName cid page = s.pageName cid page := by
  simp only [State.pageName, State.lpn, h.interior]

theorem depotImage (i : Nat) : t.depotImage i = s.depotImage i := by simp [State.depotImage, h.depotEntry, h.frames]

theorem poisonAbove (cid page : Nat) : t.poisonAbove cid page = s.poisonAbove cid page := by
  simp only [State.poisonAbove, h.interior]

theorem checkDepot (cid i : Nat) : t.checkDepot cid i = s.checkDepot cid i := by
  rw [State.checkDepot, State.passRow, State.slot, h.depotEntry, h.tables, h.crypt]
  rfl

theorem fetching : t.fetching = s.fetching := by simp [State.fetching, h.tables]

theorem fetchRoom : t.fetchRoom = s.fetchRoom := by
  rw [State.fetchRoom, State.internalOps, h.fetching, h.waiters, h.claims]
  rfl

theorem framesInUse : t.framesInUse = s.framesInUse := by
  simp [State.framesInUse, State.allSnaps, h.tables, h.terms, h.held]

theorem chanServes (c : Nat) : t.chanServes c = s.chanServes c := by simp [State.chanServes, h.chan]

/-- Every object below the logbook's reads as before. -/
theorem get {n : Nat} (hn : n < OD.logbookDroppedNote) : t.get n = s.get n :=
  h.objects n (by simp only [OD.logbookDroppedNote, OD.ticketSkipped] at *; omega)

theorem framesPopulated : t.framesPopulated = s.framesPopulated := by
  unfold State.framesPopulated State.framesPerChannel
  rw [h.populated, h.dram]

theorem poolTop : t.poolTop = s.poolTop := by
  have hnodes : t.get OD.spaceTableNodesTotal = s.get OD.spaceTableNodesTotal := h.get (by decide)
  unfold State.poolTop
  rw [h.framesPopulated, hnodes]

theorem framesFree : t.framesFree = s.framesFree := by
  simp only [State.framesFree, State.poolFrames, h.populated, h.chanServes, h.channelOf, h.poolTop, h.framesInUse, h.fetching]

theorem walkServes {cid page : Nat} (hw : s.walkServes cid page) : t.walkServes cid page := by
  simpa [State.walkServes, State.chanServes, State.nodeIn, h.chan, h.channelOf, h.carriage, h.interior] using hw

theorem reaching (ld : Ld) (a : Nat) : t.reaching ld.val a = s.reaching ld.val a := by
  have hkey : OD.ldWindowSize ld.val < OD.logbookDroppedNote := by simp only [OD.ldWindowSize, OD.logbookDroppedNote]; omega
  simp [State.reaching, State.couplingAt, h.tables, h.get hkey, h.carriage]

theorem leafAt {ld : Ld} {a : Nat} {isWrite : Bool} {c : Coupling} {key line : Nat} (hl : s.leafAt ld.val a isWrite c key line) :
    t.leafAt ld.val a isWrite c key line := by
  obtain ⟨hreach, hfree, hwalk, hsound, hkey, hline, habove, hpois, hbusy⟩ := hl
  refine ⟨(h.reaching ld a).trans hreach, ?_, h.walkServes hwalk, ?_, hkey, hline, ?_, ?_, ?_⟩
  · simpa [State.lineFree, h.waiters] using hfree
  · rw [h.carriage, hsound]
  · rw [h.poisonAbove, habove]
  · rw [h.leaf, hpois]
  · rw [h.leaf, hbusy]

theorem tracked (p : Nat) : t.tracked p = s.tracked p := by
  obtain ⟨n, hn⟩ := h.ports p
  simp [State.tracked, h.waiters, hn]

theorem queueBand (p : Nat) : t.queueBand p = s.queueBand p := by
  simp only [State.queueBand, h.tracked, h.get (n := OD.qosLoadOptimal) (by decide), h.get (n := OD.qosLoadModerate) (by decide),
    h.get (n := OD.qosLoadSevere) (by decide)]

theorem readLoad (ld : Nat) : t.readLoad ld = s.readLoad ld := h.queueBand _

theorem carries (ld : Ld) : t.carries (ld.val / 16) = s.carries (ld.val / 16) := by
  have hl : OD.hpLinkState (ld.val / 16) < OD.logbookDroppedNote := by simp only [OD.hpLinkState, OD.logbookDroppedNote]; omega
  have hf : OD.hpFenceCause (ld.val / 16) < OD.logbookDroppedNote := by simp only [OD.hpFenceCause, OD.logbookDroppedNote]; omega
  simp only [State.carries, h.get hl, h.get hf]

omit h in
theorem fresh (s : State) : Reached s s.freshAnswers :=
  ⟨⟨_, _, _, _, _, _, _, _, rfl⟩, fun _ _ => rfl, rfl, fun _ => rfl, fun _ => ⟨_, rfl⟩⟩

theorem spendCredit (p : Nat) : Reached s (t.spendCredit p) ∧ (t.spendCredit p).work = t.work := by
  unfold State.spendCredit
  split
  · next hsave =>
    refine ⟨⟨?_, fun n hn => (setHostPort_get ..).trans (h.objects n hn), ?_, fun hm => ?_, fun q => ?_⟩, ?_⟩
    · rw [setHostPort_frame]
      obtain ⟨o, p', k, f, x, y, c, n, rfl⟩ := h.frame
      exact ⟨_, _, _, _, _, _, _, _, rfl⟩
    · rw [setHostPort_out, h.answers]
    · rw [h.ctl, beq_iff_eq] at hsave
      exact absurd hsave hm
    · obtain ⟨n, hn⟩ := h.ports q
      rw [setHostPort_hostPort]
      split
      · next hpq =>
        have hsame : t.hostPort p = t.hostPort q := by
          unfold State.hostPort
          by_cases hq : q = 0 <;> simp [hq, hpq]
        rw [hsame, hn]
        exact ⟨_, rfl⟩
      · exact ⟨n, hn⟩
    · rw [setHostPort_frame]
  · exact ⟨h, rfl⟩

theorem count (source inst k : Nat) : Reached s (t.count source inst k) ∧ (t.count source inst k).work = t.work := by
  obtain ⟨p, hp⟩ := count_counts t source inst k
  rw [hp]
  refine ⟨⟨?_, h.objects, h.answers, h.host, h.ports⟩, rfl⟩
  obtain ⟨o, p', k, f, x, y, c, n, rfl⟩ := h.frame
  exact ⟨o, p, k, f, x, y, c, n, rfl⟩

theorem drawTicket (ld dpa : Nat) (isWrite : Bool) :
    Reached s (t.drawTicket ld dpa isWrite) ∧ (t.drawTicket ld dpa isWrite).work = t.work := by
  obtain ⟨⟨k, f, p, o, hdrawn⟩, hobjects⟩ := drawTicket_draws t ld dpa isWrite
  rw [hdrawn] at hobjects ⊢
  refine ⟨⟨?_, fun n hn => (hobjects n hn).trans (h.objects n hn), h.answers, h.host, h.ports⟩, rfl⟩
  obtain ⟨o', p', k', f', x, y, c, n, rfl⟩ := h.frame
  exact ⟨o, p, k, f, x, y, c, n, rfl⟩

/-- Where no walk has used the translation cache, the Map region's work is as before. -/
theorem unwalked (hw : t.work = s.work) :
    ∃ o p k f h x, t = { s with od := o, perf := p, tickets := k, free := f, host := h, out := x } := by
  obtain ⟨o, p, k, f, x, y, c, n, rfl⟩ := h.frame
  exact ⟨o, p, k, f, x, y, by rw [show { s.work with cache := c, unwritten := n } = s.work from hw]⟩

theorem lookup (cid page : Nat) : Reached s (t.lookup cid page) := by
  obtain ⟨p, f, c, n, hlooked⟩ := lookup_looks t cid page
  rw [hlooked]
  refine ⟨?_, h.objects, h.answers, h.host, h.ports⟩
  obtain ⟨o, p', k, f', x, y, c', n', rfl⟩ := h.frame
  exact ⟨o, p, k, f, x, y, c, n, rfl⟩

end Reached

/-- A port that takes CXL.mem requests of an LD carries its responses. -/
theorem memOpen_carries {s : State} {ld : Nat} (h : s.memOpen ld = true) : s.carries (ld / 16) = true := by
  unfold State.memOpen at h
  extract_lets p l at h
  simp only [Bool.and_eq_true] at h
  obtain ⟨-, hl⟩ := h
  split at hl <;> simp [State.carries, p, l] at hl ⊢ <;> simp [hl]

/-! ## Completions -/

/-- A completion leaves a port that carries it, and is the answer where there was none. -/
theorem complete_answers {s : State} {ld : Nat} (h : s.carries (ld / 16) = true) (ho : s.out.host = []) (c : Completion) :
    ∃ x, s.complete ld c = { s with out := x } ∧ x.host = [c] := by
  refine ⟨{ s.out with host := c :: s.out.host, ide := s.out.ide ||| s.ideBit (ld / 16) }, if_pos h, ?_⟩
  rw [ho]

/-! ## Receipt -/

theorem reportSince_same {s t : State} (hports : t.iso.ports = s.iso.ports) (hbanks : t.work.badBanks = s.work.badBanks)
    (hpipes : t.crypt.quarantined = s.crypt.quarantined) : t.reportSince s = t := by
  simp [State.reportSince, hports, hbanks, hpipes]

/-- A message on a port without an IDE key is served at once (R107). -/
theorem receive_serves {s : State} {m : MemRequest} (h : (s.hostPort (m.ld / 16)).keyMem = none) : s.receive m = s.serveMessage m := by
  simp [State.receive, h]

/-- A message on a port with an IDE key waits for its MAC (R107). -/
theorem receive_waits {s : State} {m : MemRequest} (h : (s.hostPort (m.ld / 16)).keyMem ≠ none) : s.receive m
    = s.setHostPort (m.ld / 16) { s.hostPort (m.ld / 16) with unverified := (s.hostPort (m.ld / 16)).unverified ++ [m] } := by
  simp [State.receive, Option.isSome_iff_ne_none, h]

theorem cxlMemRead_received {s : State} {ld : Ld} (ho : s.memOpen ld.val = true) (hc : s.creditsFor ld.val false ≠ 0) (dpa : BitVec 64)
    (fault : PathFault) : exec (.cxlMemRead ld dpa fault) s = .next (((s.freshAnswers.spendCredit (ld.val / 16)).receive
      { ld := ld.val, dpa := s.dpaOf ld.val dpa, data := none, fault := fault }).reportSince s.freshAnswers) := by
  show execCxlMemRead ld dpa fault s = _
  replace ho : s.freshAnswers.memOpen ld.val = true := ho
  replace hc : s.freshAnswers.reqCredits (ld.val / 16) ≠ 0 := hc
  simp only [execCxlMemRead, ho, hc, Bool.not_true, Bool.false_or, decide_false, Bool.false_eq_true, if_false]
  rfl

theorem cxlMemWrite_received {s : State} {ld : Ld} (ho : s.memOpen ld.val = true) (hm : s.ctl.mode ≠ .freeze)
    (hc : s.creditsFor ld.val true ≠ 0) (dpa : BitVec 64) (d : Line) (fault : PathFault) : exec (.cxlMemWrite ld dpa d fault) s
      = .next ((s.freshAnswers.receive { ld := ld.val, dpa := s.dpaOf ld.val dpa, data := some d, fault := fault }).reportSince
        s.freshAnswers) := by
  show execCxlMemWrite ld dpa d fault s = _
  replace ho : s.freshAnswers.memOpen ld.val = true := ho
  replace hc : s.freshAnswers.rwdCredits (ld.val / 16) ≠ 0 := hc
  replace hm : (s.freshAnswers.ctl.mode == .freeze) = false := beq_eq_false_iff_ne.mpr hm
  simp only [execCxlMemWrite, ho, hc, hm, Bool.not_true, Bool.false_or, decide_false, Bool.false_eq_true, if_false]
  rfl

/-- Nothing that `t` has isolated is missing in `s`. -/
structure SameOutages (s t : State) : Prop where
  ports : t.iso.ports = s.iso.ports
  banks : t.work.badBanks = s.work.badBanks
  pipes : t.crypt.quarantined = s.crypt.quarantined

theorem settled_unreported {s r : State} (h : SameOutages s r) :
    (r.settleTickets true).reportSince s.freshAnswers = r.settleTickets true := by
  obtain ⟨k, o, l, p, hframe⟩ := (settleTickets_stores r).frame
  rw [hframe]
  exact reportSince_same h.ports h.banks h.pipes

/-- A read that a port takes is served in a state that it has reached, and its ticket is settled at its end. -/
theorem cxlMemRead_begins {s : State} {ld : Ld} (h : s.memReady ld.val false) (dpa : BitVec 64) (fault : PathFault) :
    ∃ u, Reached s u ∧ u.work = s.work ∧ ∀ r, u.readUnder ld.val (s.dpaOf ld.val dpa) fault = r → SameOutages s r →
      exec (.cxlMemRead ld dpa fault) s = .next (r.settleTickets true) := by
  obtain ⟨ho, hc, hk⟩ := h
  obtain ⟨hcredit, hcreditWork⟩ := (Reached.fresh s).spendCredit (ld.val / 16)
  obtain ⟨n, hport⟩ := hcredit.ports (ld.val / 16)
  obtain ⟨hcount, hcountWork⟩ := hcredit.count 0xF001 (ld.val / 16) 1
  obtain ⟨hdraw, hdrawWork⟩ := hcount.drawTicket ld.val (s.dpaOf ld.val dpa) false
  refine ⟨_, hdraw, hdrawWork.trans (hcountWork.trans hcreditWork), ?_⟩
  rintro r rfl hr
  rw [cxlMemRead_received ho hc, receive_serves (by rw [hport]; exact hk)]
  exact congrArg _ (settled_unreported hr)

theorem cxlMemWrite_begins {s : State} {ld : Ld} (h : s.memReady ld.val true) (hm : s.ctl.mode ≠ .freeze) (dpa : BitVec 64) (d : Line)
    (fault : PathFault) : ∃ u, Reached s u ∧ u.work = s.work ∧ u.host = s.host
      ∧ ∀ r, u.writeUnder ld.val (s.dpaOf ld.val dpa) d fault = r → SameOutages s r →
        exec (.cxlMemWrite ld dpa d fault) s = .next (r.settleTickets true) := by
  obtain ⟨ho, hc, hk⟩ := h
  obtain ⟨hcount, hcountWork⟩ := (Reached.fresh s).count 0xF002 (ld.val / 16) 1
  obtain ⟨hbytes, hbytesWork⟩ := hcount.count 0xF003 (ld.val / 16) 64
  obtain ⟨hdraw, hdrawWork⟩ := hbytes.drawTicket ld.val (s.dpaOf ld.val dpa) true
  refine ⟨_, hdraw, hdrawWork.trans (hbytesWork.trans hcountWork), ?_, ?_⟩
  · obtain ⟨⟨k, f, p, o, hframe⟩, -⟩ := drawTicket_draws ((s.freshAnswers.count 0xF002 (ld.val / 16) 1).count 0xF003 (ld.val / 16) 64)
      ld.val (s.dpaOf ld.val dpa) true
    rw [hframe, count_frame, count_frame s.freshAnswers]
    rfl
  · rintro r rfl hr
    rw [cxlMemWrite_received ho hm hc, receive_serves hk]
    exact congrArg _ (settled_unreported hr)

/-! ## From the address to the page -/

theorem couplingAt_ld {s : State} {ld a : Nat} {c : Coupling} (h : s.reaching ld a = some c) : c.ld = ld := by
  obtain ⟨hc, -⟩ := Option.filter_eq_some_iff.mp h
  have := List.find?_some hc
  simp only [Bool.and_eq_true, decide_eq_true_eq] at this
  exact this.1.1

/-- A read that reaches its leaf, outside FREEZE, goes to its page. -/
theorem hostRead_reads {s : State} {ld a : Nat} {c : Coupling} {key line : Nat} (hm : s.ctl.mode ≠ .freeze)
    (h : s.leafAt ld a false c key line) (b : Bool) : s.hostRead ld a b = s.readPage (s.accepted c a none) b := by
  obtain ⟨hreach, hfree, -, hsound, -⟩ := h
  have hm' : (s.ctl.mode == .freeze) = false := beq_eq_false_iff_ne.mpr hm
  have hother : s.behindOther (s.accepted c a none) = false :=
    behindOther_lineFree _ _ (by simpa [State.accepted, couplingAt_ld hreach] using hfree)
  have hsound' : (s.carriage (s.accepted c a none).cid).damaged = false := hsound
  simp only [State.hostRead, hm', hreach, State.serveRead, hsound', hother, Bool.or_self, Bool.false_eq_true, if_false]

theorem hostWrite_takes {s : State} {ld a : Nat} {c : Coupling} (h : s.reaching ld a = some c) (d : Line) {bad : WriteMark}
    (hr : c.rdonly = false ∨ bad = .injected) : s.hostWrite ld a d bad = s.takeWrite (s.accepted c a (some (d, bad))) := by
  have hr' : (c.rdonly && bad != .injected) = false := by
    obtain hr | rfl := hr
    · simp [hr]
    · simp
  simp only [State.hostWrite, h, hr', Bool.false_eq_true, if_false]

theorem takeWrite_serves {s : State} {w : Waiter} (h : s.termHolds w.cid = false) : s.takeWrite w = s.serveWrite w := by
  simp [State.takeWrite, h]

/-- A write that reaches its leaf, of a carriage whose term does not end, goes to its page. -/
theorem hostWrite_writes {s : State} {ld a : Nat} {c : Coupling} {key line : Nat} (h : s.leafAt ld a true c key line) (d : Line)
    {bad : WriteMark} (hr : c.rdonly = false ∨ bad = .injected) (ht : s.termHolds c.cid = false) :
    s.hostWrite ld a d bad = s.writePage (s.accepted c a (some (d, bad))) := by
  obtain ⟨hreach, hfree, -, hsound, -⟩ := h
  have hother : s.behindOther (s.accepted c a (some (d, bad))) = false :=
    behindOther_lineFree _ _ (by simpa [State.accepted, couplingAt_ld hreach] using hfree)
  have hsound' : (s.carriage (s.accepted c a (some (d, bad))).cid).damaged = false := hsound
  rw [hostWrite_takes hreach d hr, takeWrite_serves (by exact ht)]
  simp only [State.serveWrite, hsound', hother, Bool.false_eq_true, if_false]

/-- A page that lies on a channel that serves, or in no frame, is not moved. -/
theorem thawPage_serves {s : State} {key : Nat} (h : (s.leaf key).res = true → s.frameServes (s.leaf key).ptr = true) :
    s.thawPage key = s := by
  unfold State.thawPage
  extract_lets l
  split
  · next hthaw =>
    simp only [Bool.and_eq_true, beq_iff_eq] at hthaw
    obtain ⟨hres, hstate⟩ := hthaw
    have hserves : (s.chan (s.channelOf l.ptr)).state = .inService := by simpa [State.frameServes, State.chanServes] using h hres
    exact absurd (hstate.symm.trans hserves) (by decide)
  · rfl

end Sys2Proof.Machine
end

section
/-! SUPPORT. What a read does with its page (R86, R104, R105, R144, R145, R154, R166); the obligation ReadCompletes (O16) stands at the
end. -/
namespace Sys2Proof.Machine

/-! ## Table entries whose change is not significant (R211) -/

/-- A leaf entry of which nothing changes but marks that R211 excepts counts no changed line. -/
theorem setLeaf_quiet {s : State} {key : Nat} {l : Leaf} (hsig : (s.leaf key).significant = l.significant)
    (hseal : (s.leaf key).pageSeal = l.pageSeal) (hdirty : (s.leaf key).dirty = l.dirty) (hres : (s.leaf key).res = l.res) :
    ∃ n, s.setLeaf key l = { s with tables := { s.tables with leaves := mapSet (fun _ => Leaf.empty) s.tables.leaves key l }
                                    work := { s.work with unwritten := n } } := by
  unfold State.setLeaf State.cacheWrite
  simp only [hsig, hseal, hdirty, hres, and_self, if_true, List.foldl_nil]
  split
  · exact ⟨_, rfl⟩
  · split <;> exact ⟨_, rfl⟩

theorem setAcc_quiet (s : State) (key : Nat) : ∃ n, s.setLeaf key { s.leaf key with acc := true }
    = { s with tables := { s.tables with leaves := mapSet (fun _ => Leaf.empty) s.tables.leaves key { s.leaf key with acc := true } }
               work := { s.work with unwritten := n } } := setLeaf_quiet rfl rfl rfl rfl

theorem setBusy_quiet (s : State) (key : Nat) : ∃ n, s.setLeaf key { s.leaf key with busy := true }
    = { s with tables := { s.tables with leaves := mapSet (fun _ => Leaf.empty) s.tables.leaves key { s.leaf key with busy := true } }
               work := { s.work with unwritten := n } } := setLeaf_quiet rfl rfl rfl rfl

theorem setDepotAcc_quiet (s : State) (i : Nat) : ∃ n d, s.setDepot i { s.depotEntry i with acc := true }
    = { s with tables := { s.tables with depot := d }, work := { s.work with depotNodes := n } } := by
  have hsame : (s.depotEntry i).significant = DepotEntry.significant { s.depotEntry i with acc := true } := rfl
  unfold State.setDepot
  simp only [hsame, if_true]
  split <;> exact ⟨_, _, rfl⟩

/-! ## From the leaf on (R144) -/

/-- A walk to the leaf of a page: it neither waits nor moves a node, the page stays where it is, and nothing on it is poisoned or busy. -/
structure WalkedTo (s u : State) (cid page : Nat) : Prop where
  walk : u.thawWalk cid page = u
  served : u.walkWaits cid page = false
  looked : Reached s (u.lookup cid page)
  stays : (u.lookup cid page).thawPage (leafKey cid page) = u.lookup cid page
  sound : ((u.lookup cid page).poisonAbove cid page).isSome = false
  leaf : (u.lookup cid page).leaf (leafKey cid page) = s.leaf (leafKey cid page)
  pois : (s.leaf (leafKey cid page)).pois = false
  busy : (s.leaf (leafKey cid page)).busy = false

theorem leafAt_walkedTo {s u : State} {ld : Ld} {a : Nat} {isWrite : Bool} {c : Coupling} {key line : Nat} (hu : Reached s u)
    (h : s.leafAt ld.val a isWrite c key line) (hs : (s.leaf key).res = true → s.frameServes (s.leaf key).ptr = true) :
    WalkedTo s u c.cid ((a - c.dpa) / 4096) := by
  obtain ⟨-, -, hwalk, -, rfl, -, habove, hpois, hbusy⟩ := h
  have hv := hu.lookup c.cid ((a - c.dpa) / 4096)
  refine ⟨thawWalk_serves _ _ _ (hu.walkServes hwalk), walkWaits_serves _ _ _ (hu.walkServes hwalk), hv, thawPage_serves fun hr => ?_, ?_,
    hv.leaf _, hpois, hbusy⟩
  · rw [hv.leaf] at hr ⊢
    rw [hv.frameServes]
    exact hs hr
  · rw [hv.poisonAbove, habove]
    rfl

section
variable {s u : State} {w : Waiter} (h : WalkedTo s u w.cid w.page)
include h

theorem readPage_resident (hd : (s.leaf (leafKey w.cid w.page)).depot = false) (hr : (s.leaf (leafKey w.cid w.page)).res = true)
    (hs : s.frameServes (s.leaf (leafKey w.cid w.page)).ptr = true) (b : Bool) :
    u.readPage w b = (u.lookup w.cid w.page).readResident w.ld w.dpa (leafKey w.cid w.page) w.line b := by
  unfold State.readPage
  simp only [h.walk, h.served, h.stays, h.sound, h.leaf, h.pois, h.busy, hd, hr, h.looked.frameServes, hs, Bool.or_self,
    Bool.not_true, Bool.false_eq_true, if_false, if_true]

theorem readPage_depot (hd : (s.leaf (leafKey w.cid w.page)).depot = true) (b : Bool) :
    u.readPage w b = (u.lookup w.cid w.page).readDepot w (s.leaf (leafKey w.cid w.page)).ptr b := by
  unfold State.readPage
  simp only [h.walk, h.served, h.stays, h.sound, h.leaf, h.pois, h.busy, hd, Bool.or_self, Bool.false_eq_true, if_false, if_true]

theorem readPage_unallocated (hd : (s.leaf (leafKey w.cid w.page)).depot = false) (hr : (s.leaf (leafKey w.cid w.page)).res = false)
    (hf : (s.leaf (leafKey w.cid w.page)).flc = false) (b : Bool) :
    u.readPage w b = (u.lookup w.cid w.page).completeZeros w.ld w.dpa := by
  unfold State.readPage
  simp only [h.walk, h.served, h.stays, h.sound, h.leaf, h.pois, h.busy, hd, hr, hf, Bool.or_self, Bool.false_eq_true, if_false]

theorem readPage_flash (hd : (s.leaf (leafKey w.cid w.page)).depot = false) (hr : (s.leaf (leafKey w.cid w.page)).res = false)
    (hf : (s.leaf (leafKey w.cid w.page)).flc = true) (hl : (s.flashCopy (s.pageName w.cid w.page)).lost = false) (b : Bool) :
    u.readPage w b = (u.lookup w.cid w.page).fetchFor w (·.startFetch (leafKey w.cid w.page)) := by
  have hl' : ((u.lookup w.cid w.page).flashCopy ((u.lookup w.cid w.page).pageName w.cid w.page)).lost = false := by
    rw [State.flashCopy, h.looked.pageName, h.looked.tables]
    exact hl
  unfold State.readPage
  simp only [h.walk, h.served, h.stays, h.sound, h.leaf, h.pois, h.busy, hd, hr, hf, hl', Bool.or_self, Bool.false_eq_true, if_false, if_true]

end

/-! ## What a read answers -/

/-- The end `r` of a read that has been received in `s`: it moves objects of the tracer only, the tables, the Map region's work, counters,
a spent credit and the answers. -/
structure ReadEnds (s r : State) : Prop where
  frame : ∃ o l p k f tb w h x, r = { s with od := o, log := l, perf := p, tickets := k, free := f, tables := tb, work := w, host := h,
                                             out := x }
  objects : ∀ n, n ≠ OD.ticketSkipped → r.get n = s.get n
  host : s.ctl.mode ≠ .save → r.host = s.host
  banks : r.work.badBanks = s.work.badBanks

/-- What a read does to its page, and its answer, end it where it has reached the page. -/
theorem Reached.ends {s v r : State} (h : Reached s v) (hb : r.work.badBanks = v.work.badBanks)
    (hr : ∃ p f tb w x, r = { v with perf := p, free := f, tables := tb, work := w, out := x }) : ReadEnds s r := by
  obtain ⟨p, f, tb, w, x, rfl⟩ := hr
  refine ⟨?_, h.objects, h.host, hb.trans h.badBanks⟩
  obtain ⟨o, p', k, f', y, x', c, n, rfl⟩ := h.frame
  exact ⟨_, _, _, _, _, _, _, _, _, rfl⟩

theorem ReadEnds.outages {s r : State} (h : ReadEnds s r) : SameOutages s r := by
  have hb := h.banks
  obtain ⟨o, l, p, k, f, tb, w, y, x, rfl⟩ := h.frame
  exact ⟨rfl, hb, rfl⟩

/-- A read's tickets are settled at its end. -/
theorem ReadEnds.settles {s r t : State} (h : ReadEnds s r) (ht : TicketsStored r t) :
    t.objectsAs s [OD.ticketSkipped, OD.ticketNextTicket, OD.ticketGeneration] ∧ (s.ctl.mode ≠ .save → t.host = s.host)
    ∧ t = { s with od := t.od, log := t.log, perf := t.perf, tickets := t.tickets, free := t.free, tables := t.tables,
                   work := t.work, host := t.host, out := t.out } := by
  refine ⟨fun n hn hd => ?_, fun hm => ?_, ?_⟩
  · obtain ⟨hskipped, hstored⟩ : n ≠ OD.ticketSkipped ∧ n ∉ [OD.ticketNextTicket, OD.ticketGeneration] := by simpa using hn
    rw [ht.objects n hstored hd, h.objects n hskipped]
  · obtain ⟨k, o, l, p, rfl⟩ := ht.frame
    exact h.host hm
  · obtain ⟨k, o, l, p, rfl⟩ := ht.frame
    obtain ⟨o', l', p', k', f, tb, w, y, x, rfl⟩ := h.frame
    rfl

/-- A depot page on a channel that serves is not moved. -/
theorem Reached.thawDepot_serves {s v : State} (h : Reached s v) {i : Nat} (hs : s.frameServes (s.depotEntry i).frame = true) :
    v.thawDepot i = v := by
  have hserves : (v.chan (v.channelOf (v.depotEntry i).frame)).state = .inService := by
    simpa [h.depotEntry, h.chan, h.channelOf, State.frameServes, State.chanServes] using hs
  have hstate : ((v.chan (v.channelOf (v.depotEntry i).frame)).state == ChanState.thawing) = false := by
    rw [hserves]
    decide
  simp only [State.thawDepot, hstate, Bool.and_false, Bool.false_eq_true, if_false]

theorem Reached.checkEntry_sound {s v : State} (h : Reached s v) {i : Nat} (hsound : (s.depotEntry i).damaged = false) :
    v.checkEntry i = v := by
  simp [State.checkEntry, h.depotEntry, hsound]

/-- No access waits for a key slot that nothing loads or erases. -/
theorem Reached.slotHolds_free {s v : State} (h : Reached s v) (w : Waiter) {n : Nat} (hslot : s.work.delayed.any (loadsSlot n) = false) :
    v.slotHolds w n = false := by
  simp [State.slotHolds, h.delayed, hslot]

section
variable {s v : State} (h : Reached s v) {ld : Ld} (hc : s.carries (ld.val / 16) = true) (a : Nat)
include h hc

theorem completeZeros_answers : ∃ x, v.completeZeros ld.val a = { v with out := x } ∧ x.host = [.zeros ld.val a (s.readLoad ld.val)] := by
  rw [State.completeZeros, h.readLoad]
  exact complete_answers ((h.carries ld).trans hc) h.answers _

theorem completePoison_answers :
    ∃ x, v.completePoison ld.val a = { v with out := x } ∧ x.host = [.poison ld.val a (s.readLoad ld.val)] := by
  rw [State.completePoison, h.readLoad]
  exact complete_answers ((h.carries ld).trans hc) h.answers _

/-- A line of a Resident page is returned, or poison where it is marked; its leaf is accessed (R154). -/
theorem readResident_answers (key line : Nat) : ∃ r, v.readResident ld.val a key line false = r ∧ ReadEnds s r
    ∧ r.tables = { s.tables with leaves := mapSet (fun _ => Leaf.empty) s.tables.leaves key { s.leaf key with acc := true } }
    ∧ r.out.host = (if (s.residentImage key).bad.getLsbD line then [.poison ld.val a (s.readLoad ld.val)]
        else [.data ld.val a ((s.residentImage key).line line) (s.readLoad ld.val)]) := by
  obtain ⟨n, hset⟩ := setAcc_quiet v key
  obtain ⟨p, hcipher⟩ := cipherLine_counts (v.setLeaf key { v.leaf key with acc := true })
  generalize hq : (v.setLeaf key { v.leaf key with acc := true }).cipherLine = q at hcipher
  rw [hset, h.tables, h.leaf] at hcipher
  have hload : q.readLoad ld.val = s.readLoad ld.val := by
    rw [← h.readLoad, hcipher]
    rfl
  have hcarries : q.carries (ld.val / 16) = true := by
    rw [← hc, ← h.carries, hcipher]
    rfl
  have hanswers : q.out.host = [] := by rw [hcipher]; exact h.answers
  have hends : ∀ x, ReadEnds s { q with out := x } := fun x => h.ends (by rw [hcipher]) ⟨_, _, _, _, x, by rw [hcipher]⟩
  unfold State.readResident
  simp only [hq, h.residentImage, Bool.false_or, State.completePoison, State.completeData, hload]
  refine ⟨_, rfl, ?_⟩
  split
  · obtain ⟨x, hx, hxhost⟩ := complete_answers hcarries hanswers (.poison ld.val a (s.readLoad ld.val))
    rw [hx]
    exact ⟨hends x, by rw [hcipher], hxhost⟩
  · obtain ⟨x, hx, hxhost⟩ := complete_answers hcarries hanswers (.data ld.val a ((s.residentImage key).line line) (s.readLoad ld.val))
    rw [hx]
    exact ⟨hends x, by rw [hcipher], hxhost⟩

/-- A depot page that passes its checks and lies on a channel that serves returns its line (R166). -/
theorem readDepot_answers {w : Waiter} {i : Nat} (hld : w.ld = ld.val) (hcheck : s.checkDepot w.cid i = .ok)
    (hpois : (s.depotEntry i).pois = false) (hsound : (s.depotEntry i).damaged = false)
    (hslot : s.work.delayed.any (loadsSlot (s.depotEntry i).slot) = false) (hres : (s.depotEntry i).res = true)
    (hs : s.frameServes (s.depotEntry i).frame = true) (hbad : (s.depotImage i).bad.getLsbD w.line = false) :
    ∃ r, v.readDepot w i false = r ∧ ReadEnds s r ∧ r.tables.leaves = s.tables.leaves
      ∧ r.out.host = [.data ld.val w.dpa ((s.depotImage i).line w.line) (s.readLoad ld.val)] := by
  obtain ⟨n, d, hset⟩ := setDepotAcc_quiet v i
  obtain ⟨p, hcipher⟩ := cipherLine_counts (v.setDepot i { v.depotEntry i with acc := true })
  generalize hq : (v.setDepot i { v.depotEntry i with acc := true }).cipherLine = q at hcipher
  rw [hset, h.tables] at hcipher
  have hload : q.readLoad ld.val = s.readLoad ld.val := by
    rw [← h.readLoad, hcipher]
    rfl
  have hcarries : q.carries (ld.val / 16) = true := by
    rw [← hc, ← h.carries, hcipher]
    rfl
  have hanswers : q.out.host = [] := by rw [hcipher]; exact h.answers
  have hthaw := h.thawDepot_serves hs
  have hentry := h.checkEntry_sound hsound
  have hholds := h.slotHolds_free w hslot
  obtain ⟨x, hx, hxhost⟩ := complete_answers hcarries hanswers (.data ld.val w.dpa ((s.depotImage i).line w.line) (s.readLoad ld.val))
  refine ⟨{ q with out := x }, ?_, h.ends (by rw [hcipher]) ⟨_, _, _, _, x, by rw [hcipher]⟩, by rw [hcipher], hxhost⟩
  rw [h.depotEntry] at hq
  unfold State.readDepot
  simp only [hthaw, hentry, h.checkDepot, hcheck, h.depotEntry, hq, hld]
  simp only [hholds, hpois, hres, h.frameServes, hs, h.depotImage, hbad, Bool.not_true, Bool.or_self, Bool.false_eq_true, if_false,
    if_true]
  rw [State.completeData, hload, hx]

end

/-- A page only in flash starts its fetch, for which the read waits (R145). -/
theorem fetchFor_fetches {s v : State} (h : Reached s v) (w : Waiter) (key : Nat) (hfree : s.framesFree ≠ 0) (hroom : s.fetchRoom = true) :
    ∃ r w', v.fetchFor w (·.startFetch key) = r ∧ ReadEnds s r
      ∧ r.tables = { s.tables with leaves := mapSet (fun _ => Leaf.empty) s.tables.leaves key { s.leaf key with busy := true } }
      ∧ r.work.waiters = s.work.waiters ++ [w'] ∧ r.out.host = []
      ∧ w'.ld = w.ld ∧ w'.dpa = w.dpa ∧ w'.cid = w.cid ∧ w'.page = w.page ∧ w'.data = w.data := by
  obtain ⟨n, hset⟩ := setBusy_quiet v key
  obtain ⟨p, hcount⟩ := count_counts (v.setLeaf key { v.leaf key with busy := true }) 0xF020 0xFFFF 1
  generalize hq : (v.setLeaf key { v.leaf key with busy := true }).count 0xF020 0xFFFF 1 = q at hcount
  rw [hset, h.tables, h.leaf] at hcount
  have hstart : v.startFetch key = q := hq
  have hroom' : v.fetchRoom = true := h.fetchRoom.trans hroom
  have hwaiters : q.work.waiters = s.work.waiters := by
    rw [hcount]
    exact h.waiters
  unfold State.fetchFor
  rw [if_neg (by rw [h.framesFree]; exact hfree), hroom']
  simp only [Bool.not_true, Bool.false_eq_true, if_false, hstart, State.waitPage, State.wait, hwaiters]
  refine ⟨_, _, rfl, h.ends (by rw [hcount]) ⟨_, _, _, _, _, by rw [hcount]⟩, by rw [hcount], rfl, by rw [hcount]; exact h.answers, ?_⟩
  split <;> exact ⟨rfl, rfl, rfl, rfl, rfl⟩

/-! ## The reads that reach their leaf -/

theorem TicketsStored.out {s t : State} (h : TicketsStored s t) : t.out = s.out := by obtain ⟨k, o, l, p, rfl⟩ := h.frame; rfl
theorem TicketsStored.tables {s t : State} (h : TicketsStored s t) : t.tables = s.tables := by
  obtain ⟨k, o, l, p, rfl⟩ := h.frame; rfl
theorem TicketsStored.work {s t : State} (h : TicketsStored s t) : t.work = s.work := by obtain ⟨k, o, l, p, rfl⟩ := h.frame; rfl
theorem TicketsStored.dram {s t : State} (h : TicketsStored s t) : t.dram = s.dram := by obtain ⟨k, o, l, p, rfl⟩ := h.frame; rfl
theorem TicketsStored.leaf {s t : State} (h : TicketsStored s t) (k : Nat) : t.leaf k = s.leaf k := by simp [State.leaf, h.tables]

/-- The leaves of a state whose tables have one leaf written. -/
theorem leaf_of_tables {s t : State} {key : Nat} {l : Leaf}
    (h : t.tables = { s.tables with leaves := mapSet (fun _ => Leaf.empty) s.tables.leaves key l }) :
    t.leaf key = l ∧ ∀ k, k ≠ key → t.leaf k = s.leaf k := by
  simp only [State.leaf, h]
  exact ⟨mapGet_mapSet_same .., fun k hk => mapGet_mapSet_other _ _ _ _ _ hk⟩

section
variable {s : State} {ld : Ld} {dpa : BitVec 64} {c : Coupling} {key line : Nat}
  (h : s.reachesLeaf ld.val (s.dpaOf ld.val dpa) false c key line)
include h

/-- A read that reaches its leaf ends as its page's read does. -/
theorem cxlMemRead_ends (hs : (s.leaf key).res = true → s.frameServes (s.leaf key).ptr = true) :
    ∃ u w, Reached s u ∧ WalkedTo s u w.cid w.page ∧ w.ld = ld.val ∧ w.dpa = s.dpaOf ld.val dpa ∧ w.cid = c.cid
      ∧ w.page = (s.dpaOf ld.val dpa - c.dpa) / 4096 ∧ w.data = none ∧ key = leafKey w.cid w.page ∧ line = w.line
      ∧ ∀ r, u.readPage w false = r → ReadEnds s r → ∃ t, exec (.cxlMemRead ld dpa .none) s = .next t ∧ TicketsStored r t := by
  obtain ⟨hready, hm, hleaf⟩ := h
  obtain ⟨u, hu, -, hexec⟩ := cxlMemRead_begins hready dpa .none
  have hread := hostRead_reads (by rw [hu.ctl]; exact hm) (hu.leafAt hleaf) false
  have hwalked := leafAt_walkedTo hu hleaf hs
  obtain ⟨hreach, -, -, -, hkey, hline, -⟩ := hleaf
  refine ⟨u, u.accepted c (s.dpaOf ld.val dpa) none, hu, hwalked, couplingAt_ld hreach, rfl, rfl, rfl, rfl, hkey, hline, fun r hr hends => ?_⟩
  exact ⟨_, hexec r (hread.trans hr) hends.outages, settleTickets_stores r⟩

theorem cxlMemRead_resident (hd : (s.leaf key).depot = false) (hr : (s.leaf key).res = true) (hs : s.frameServes (s.leaf key).ptr = true) :
    ∃ t, exec (.cxlMemRead ld dpa .none) s = .next t
      ∧ t.out.host = (if (s.residentImage key).bad.getLsbD line then [.poison ld.val (s.dpaOf ld.val dpa) (s.readLoad ld.val)]
          else [.data ld.val (s.dpaOf ld.val dpa) ((s.residentImage key).line line) (s.readLoad ld.val)])
      ∧ t.leaf key = { s.leaf key with acc := true } ∧ (∀ k, k ≠ key → t.leaf k = s.leaf k)
      ∧ t.objectsAs s [OD.ticketSkipped, OD.ticketNextTicket, OD.ticketGeneration]
      ∧ (s.ctl.mode ≠ .save → t.host = s.host)
      ∧ t = { s with od := t.od, log := t.log, perf := t.perf, tickets := t.tickets, free := t.free, tables := t.tables,
                     work := t.work, host := t.host, out := t.out } := by
  obtain ⟨u, w, hu, hwalked, hld, hdpa, -, -, -, rfl, rfl, hexec⟩ := cxlMemRead_ends h fun _ => hs
  obtain ⟨r, hread, hends, htables, hhost⟩ := readResident_answers hwalked.looked (memOpen_carries h.1.1) (s.dpaOf ld.val dpa)
    (leafKey w.cid w.page) w.line
  obtain ⟨t, hnext, ht⟩ := hexec r (by rw [readPage_resident hwalked hd hr hs, hld, hdpa, hread]) hends
  obtain ⟨hleaf, hleaves⟩ := leaf_of_tables (ht.tables.trans htables)
  exact ⟨t, hnext, ht.out ▸ hhost, hleaf, hleaves, hends.settles ht⟩

theorem cxlMemRead_unallocated (hd : (s.leaf key).depot = false) (hr : (s.leaf key).res = false) (hf : (s.leaf key).flc = false) :
    ∃ t, exec (.cxlMemRead ld dpa .none) s = .next t ∧ t.out.host = [.zeros ld.val (s.dpaOf ld.val dpa) (s.readLoad ld.val)]
      ∧ (s.ctl.mode ≠ .save → t.host = s.host)
      ∧ t = { s with od := t.od, log := t.log, perf := t.perf, tickets := t.tickets, free := t.free, work := t.work, host := t.host,
                     out := t.out } := by
  obtain ⟨u, w, hu, hwalked, hld, hdpa, -, -, -, rfl, rfl, hexec⟩ := cxlMemRead_ends h fun hr' => absurd (hr.symm.trans hr') (by decide)
  obtain ⟨x, hread, hhost⟩ := completeZeros_answers hwalked.looked (memOpen_carries h.1.1) (s.dpaOf ld.val dpa)
  have hends : ReadEnds s { u.lookup w.cid w.page with out := x } := hwalked.looked.ends rfl ⟨_, _, _, _, x, rfl⟩
  obtain ⟨t, hnext, ht⟩ := hexec _ (by rw [readPage_unallocated hwalked hd hr hf, hld, hdpa, hread]) hends
  obtain ⟨-, hport, hframe⟩ := hends.settles ht
  rw [ht.tables.trans hwalked.looked.tables] at hframe
  exact ⟨t, hnext, ht.out ▸ hhost, hport, hframe⟩

theorem cxlMemRead_flash (hd : (s.leaf key).depot = false) (hr : (s.leaf key).res = false) (hf : (s.leaf key).flc = true)
    (hfree : s.framesFree ≠ 0) (hroom : s.fetchRoom = true)
    (hlost : (s.flashCopy (s.pageName c.cid ((s.dpaOf ld.val dpa - c.dpa) / 4096))).lost = false) :
    ∃ t w, exec (.cxlMemRead ld dpa .none) s = .next t ∧ t.out.host = [] ∧ t.leaf key = { s.leaf key with busy := true }
      ∧ (∀ k, k ≠ key → t.leaf k = s.leaf k) ∧ t.work.waiters = s.work.waiters ++ [w] ∧ w.ld = c.ld ∧ w.dpa = s.dpaOf ld.val dpa
      ∧ w.cid = c.cid ∧ w.page = (s.dpaOf ld.val dpa - c.dpa) / 4096 ∧ w.data = none
      ∧ (s.ctl.mode ≠ .save → t.host = s.host)
      ∧ t = { s with od := t.od, log := t.log, perf := t.perf, tickets := t.tickets, free := t.free, tables := t.tables,
                     work := t.work, host := t.host, out := t.out } := by
  have hcoupling : c.ld = ld.val := couplingAt_ld h.2.2.1
  obtain ⟨u, w, hu, hwalked, hld, hdpa, hcid, hpage, hdata, rfl, -, hexec⟩ :=
    cxlMemRead_ends h fun hr' => absurd (hr.symm.trans hr') (by decide)
  obtain ⟨r, w', hread, hends, htables, hwaiters, hhost, hld', hdpa', hcid', hpage', hdata'⟩ :=
    fetchFor_fetches hwalked.looked w (leafKey w.cid w.page) hfree hroom
  obtain ⟨t, hnext, ht⟩ := hexec r (by rw [readPage_flash hwalked hd hr hf (by rw [hcid, hpage]; exact hlost), hread]) hends
  obtain ⟨hleaf, hleaves⟩ := leaf_of_tables (ht.tables.trans htables)
  obtain ⟨-, hport, hframe⟩ := hends.settles ht
  exact ⟨t, w', hnext, ht.out ▸ hhost, hleaf, hleaves, ht.work ▸ hwaiters, hld'.trans (hld.trans hcoupling.symm), hdpa'.trans hdpa,
    hcid'.trans hcid, hpage'.trans hpage, hdata'.trans hdata, hport, hframe⟩

theorem cxlMemRead_depot {i : Nat} (hd : (s.leaf key).depot = true) (hr : (s.leaf key).res = false) (hi : i = (s.leaf key).ptr)
    (hcheck : s.checkDepot c.cid i = .ok) (hpois : (s.depotEntry i).pois = false) (hsound : (s.depotEntry i).damaged = false)
    (hslot : s.work.delayed.any (loadsSlot (s.depotEntry i).slot) = false) (hres : (s.depotEntry i).res = true)
    (hs : s.frameServes (s.depotEntry i).frame = true) (hbad : (s.depotImage i).bad.getLsbD line = false) :
    ∃ t, exec (.cxlMemRead ld dpa .none) s = .next t
      ∧ t.out.host = [.data ld.val (s.dpaOf ld.val dpa) ((s.depotImage i).line line) (s.readLoad ld.val)]
      ∧ t.tables.leaves = s.tables.leaves ∧ t.dram = s.dram := by
  obtain ⟨u, w, hu, hwalked, hld, hdpa, hcid, -, -, rfl, rfl, hexec⟩ :=
    cxlMemRead_ends h fun hr' => absurd (hr.symm.trans hr') (by decide)
  obtain ⟨r, hread, hends, hleaves, hhost⟩ := readDepot_answers hwalked.looked (memOpen_carries h.1.1) (w := w) hld
    (by rw [hcid]; exact hcheck) hpois hsound hslot hres hs hbad
  obtain ⟨t, hnext, ht⟩ := hexec r (by rw [readPage_depot hwalked hd, ← hi, hread]) hends
  obtain ⟨-, -, hframe⟩ := hends.settles ht
  exact ⟨t, hnext, by rw [ht.out, hhost, hdpa], by rw [ht.tables, hleaves], by rw [hframe]⟩

end

/-! ## The reads that reach none -/

/-- The count of refused accesses of an LD has 32 bits. -/
theorem bitsOfKey_ldRefusedAccesses (ld : Ld) : bitsOfKey (OD.ldRefusedAccesses ld.val) = 32 := by
  fin_cases ld <;> decide

theorem ldRefusedAccesses_undropped (ld : Ld) : Undropped (OD.ldRefusedAccesses ld.val) := by
  simp only [Undropped, OD.ldRefusedAccesses, OD.logbookDroppedNote]
  omega

/-- The state in which a refused access ends: it is counted, and its event raised (R86, R87). -/
def State.accessRefused (s : State) (ld code : Nat) (is : List (ItemKind × Nat)) : State :=
  (s.bump (OD.ldRefusedAccesses ld) 1).raise code 0 is

section
variable (s : State) (ld : Ld) (code : Nat) (is : List (ItemKind × Nat))

theorem accessRefused_frame : ∃ o l p, s.accessRefused ld.val code is = { s with od := o, log := l, perf := p } := by
  obtain ⟨l, p, o, h⟩ := raiseWith_frame (s.bump (OD.ldRefusedAccesses ld.val) 1) code 0 is []
  exact ⟨o, l, p, h⟩

theorem accessRefused_get {k : Nat} (hk : Undropped k) : (s.accessRefused ld.val code is).get k
    = if k = OD.ldRefusedAccesses ld.val then (s.get (OD.ldRefusedAccesses ld.val) + 1) % 2 ^ 32 else s.get k := by
  rw [State.accessRefused, raise_get_undropped _ _ _ _ hk, bump_get, bitsOfKey_ldRefusedAccesses]

/-- Every object below the logbook's but the count reads as before. -/
theorem accessRefused_get_other {k : Nat} (hk : k < OD.logbookDroppedNote) (hne : k ≠ OD.ldRefusedAccesses ld.val) :
    (s.accessRefused ld.val code is).get k = s.get k := by
  rw [accessRefused_get s ld code is (by unfold Undropped; omega), if_neg hne]

end

/-- The band of a port's queue hangs on what the port tracks and on its three limits. -/
theorem queueBand_congr {s t : State} {p : Nat} (ht : t.tracked p = s.tracked p) (ho : t.get OD.qosLoadOptimal = s.get OD.qosLoadOptimal)
    (hm : t.get OD.qosLoadModerate = s.get OD.qosLoadModerate) (hs : t.get OD.qosLoadSevere = s.get OD.qosLoadSevere) :
    t.queueBand p = s.queueBand p := by
  simp only [State.queueBand, ht, ho, hm, hs]

theorem accessRefused_queueBand (s : State) (ld : Ld) (code : Nat) (is : List (ItemKind × Nat)) (p : Nat) :
    (s.accessRefused ld.val code is).queueBand p = s.queueBand p := by
  have hget : ∀ k, 0x260000 ≤ k → k < OD.logbookDroppedNote → (s.accessRefused ld.val code is).get k = s.get k := fun k hlow hk =>
    accessRefused_get_other s ld code is hk (by simp only [OD.ldRefusedAccesses]; omega)
  refine queueBand_congr ?_ (hget _ (by decide) (by decide)) (hget _ (by decide) (by decide)) (hget _ (by decide) (by decide))
  obtain ⟨o, l, q, hframe⟩ := accessRefused_frame s ld code is
  rw [hframe]
  rfl

theorem accessRefused_carries (s : State) (ld : Ld) (code : Nat) (is : List (ItemKind × Nat)) (p : Port) :
    (s.accessRefused ld.val code is).carries p.val = s.carries p.val := by
  have hl := accessRefused_get_other s ld code is (k := OD.hpLinkState p.val) (by simp only [OD.hpLinkState, OD.logbookDroppedNote]; omega)
    (by simp only [OD.hpLinkState, OD.ldRefusedAccesses]; omega)
  have hf := accessRefused_get_other s ld code is (k := OD.hpFenceCause p.val)
    (by simp only [OD.hpFenceCause, OD.logbookDroppedNote]; omega) (by simp only [OD.hpFenceCause, OD.ldRefusedAccesses]; omega)
  simp only [State.carries, hl, hf]

section
variable {s : State} {ld : Ld}

/-- A read to an address that no coupling covers completes with poison and is counted (R86). -/
theorem cxlMemRead_uncoupled (dpa : BitVec 64) (h : s.memReady ld.val false) (hm : s.ctl.mode ≠ .freeze)
    (hc : s.reaching ld.val (s.dpaOf ld.val dpa) = none) : ∃ t, exec (.cxlMemRead ld dpa .none) s = .next t
      ∧ t.out.host = [.poison ld.val (s.dpaOf ld.val dpa) (s.readLoad ld.val)]
      ∧ t.get (OD.ldRefusedAccesses ld.val) = (s.get (OD.ldRefusedAccesses ld.val) + 1) % 2 ^ 32
      ∧ (s.ctl.mode ≠ .save → t.host = s.host)
      ∧ t = { s with od := t.od, log := t.log, perf := t.perf, tickets := t.tickets, free := t.free, host := t.host, out := t.out } := by
  obtain ⟨u, hu, hwork, hexec⟩ := cxlMemRead_begins h dpa .none
  generalize s.dpaOf ld.val dpa = a at *
  have hmode : (u.ctl.mode == .freeze) = false := by rw [hu.ctl]; exact beq_eq_false_iff_ne.mpr hm
  obtain ⟨o, l, p, hframe⟩ := accessRefused_frame u ld 0x1040 [(.ld, ld.val), dpaItem a]
  generalize hq : u.accessRefused ld.val 0x1040 [(.ld, ld.val), dpaItem a] = q at hframe
  have hcarries : q.carries (ld.val / 16) = true := by
    rw [← hq, accessRefused_carries u ld 0x1040 _ ⟨ld.val / 16, by omega⟩, hu.carries ld]
    exact memOpen_carries h.1
  have hload : q.readLoad ld.val = s.readLoad ld.val := by
    rw [← hq, State.readLoad, accessRefused_queueBand, hu.queueBand]
    rfl
  obtain ⟨x, hx, hhost⟩ := complete_answers hcarries (by rw [hframe]; exact hu.answers) (.poison ld.val a (q.readLoad ld.val))
  have hread : u.readUnder ld.val a .none = { q with out := x } := by
    rw [← hx, ← hq]
    show u.hostRead ld.val a false = _
    simp only [State.hostRead, hmode, Bool.false_eq_true, if_false, hu.reaching, hc]
    rfl
  obtain ⟨k, o', l', p', ht⟩ := (settleTickets_stores { q with out := x }).frame
  have hcount := (settleTickets_stores { q with out := x }).objects (OD.ldRefusedAccesses ld.val)
    (by simp only [List.mem_cons, List.not_mem_nil, or_false, OD.ldRefusedAccesses, OD.ticketNextTicket, OD.ticketGeneration]; omega)
    (ldRefusedAccesses_undropped ld)
  refine ⟨_, hexec _ hread ⟨by rw [hframe, hu.iso], by rw [hframe, hwork], by rw [hframe, hu.crypt]⟩, ?_, hcount.trans ?_,
    fun hsave => ?_, ?_⟩
  · rw [ht, hhost, hload]
  · show q.get _ = _
    rw [← hq, accessRefused_get _ _ _ _ (ldRefusedAccesses_undropped ld), if_pos rfl,
      hu.get (by simp only [OD.ldRefusedAccesses, OD.logbookDroppedNote]; omega)]
  · rw [ht, hframe]
    exact hu.host hsave
  · rw [ht, hframe]
    obtain ⟨o'', p'', k'', f, y, x', hreached⟩ := hu.unwalked hwork
    rw [hreached]

/-- In FREEZE a read completes with poison (R104). -/
theorem cxlMemRead_freeze (dpa : BitVec 64) (h : s.memReady ld.val false) (hm : s.ctl.mode = .freeze) :
    ∃ t, exec (.cxlMemRead ld dpa .none) s = .next t
      ∧ t.out.host = [.poison ld.val (s.dpaOf ld.val dpa) (s.readLoad ld.val)] ∧ t.tables = s.tables := by
  obtain ⟨u, hu, -, hexec⟩ := cxlMemRead_begins h dpa .none
  obtain ⟨x, hx, hhost⟩ := completePoison_answers hu (memOpen_carries h.1) (s.dpaOf ld.val dpa)
  have hread : u.readUnder ld.val (s.dpaOf ld.val dpa) .none = { u with out := x } := by
    have hmode : (u.ctl.mode == .freeze) = true := by rw [hu.ctl, hm]; rfl
    rw [← hx]
    show u.hostRead ld.val _ false = _
    simp only [State.hostRead, hmode, if_true]
  have hends : ReadEnds s { u with out := x } := hu.ends rfl ⟨_, _, _, _, x, rfl⟩
  have ht := settleTickets_stores { u with out := x }
  exact ⟨_, hexec _ hread hends.outages, ht.out ▸ hhost, ht.tables.trans hu.tables⟩

/-- The first double-bit error of a port's buffers in a second poisons the read and is remembered (R105). -/
theorem bufferFault_first {s : State} {p : Nat} (h : (s.hostPort p).bufferError = 0) : ∃ l q o,
    s.bufferFault p = { s.setHostPort p { s.hostPort p with bufferError := s.uptime + 1 } with log := l, perf := q, od := o } := by
  unfold State.bufferFault
  simp only [h, ne_eq, not_true_eq_false, decide_false, Bool.false_and, Bool.false_eq_true, if_false]
  exact raiseWith_frame _ 0x1080 0 [(.port, p)] []

theorem cxlMemRead_portBuffer (dpa : BitVec 64) (h : s.memReady ld.val false) (hb : (s.hostPort (ld.val / 16)).bufferError = 0) :
    ∃ t, exec (.cxlMemRead ld dpa .portBuffer) s = .next t
      ∧ t.out.host = [.poison ld.val (s.dpaOf ld.val dpa) (s.readLoad ld.val)]
      ∧ t.tables = s.tables ∧ (t.hostPort (ld.val / 16)).bufferError = s.uptime + 1 ∧ t.iso = s.iso := by
  obtain ⟨u, hu, -, hexec⟩ := cxlMemRead_begins h dpa .portBuffer
  obtain ⟨x, hx, hhost⟩ := completePoison_answers hu (memOpen_carries h.1) (s.dpaOf ld.val dpa)
  obtain ⟨m, hport⟩ := hu.ports (ld.val / 16)
  obtain ⟨l, q, o, hfault⟩ := bufferFault_first (s := { u with out := x }) (p := ld.val / 16) ((congrArg HostPort.bufferError hport).trans hb)
  have hread : u.readUnder ld.val (s.dpaOf ld.val dpa) .portBuffer = _ := (congrArg (State.bufferFault · _) hx).trans hfault
  rw [setHostPort_frame] at hread
  obtain ⟨k, o', l', q', ht⟩ := (settleTickets_stores _).frame
  refine ⟨_, hexec _ hread ⟨congrArg Isolation.ports hu.iso, hu.badBanks, congrArg _ hu.crypt⟩, ?_⟩
  rw [ht]
  refine ⟨hhost, hu.tables, ?_, hu.iso⟩
  have hset := setHostPort_hostPort { u with out := x } (ld.val / 16) (ld.val / 16)
    { State.hostPort { u with out := x } (ld.val / 16) with bufferError := u.uptime + 1 }
  rw [if_pos Iff.rfl] at hset
  exact (congrArg HostPort.bufferError hset).trans (congrArg (· + 1) hu.uptime)

/-- With an IDE key on the port a read waits for its MAC (R107). -/
theorem cxlMemRead_waits (dpa : BitVec 64) (f : PathFault) (ho : s.memOpen ld.val = true) (hc : s.creditsFor ld.val false ≠ 0)
    (hk : (s.hostPort (ld.val / 16)).keyMem ≠ none) : ∃ t, exec (.cxlMemRead ld dpa f) s = .next t ∧ t.out.host = []
      ∧ (t.hostPort (ld.val / 16)).unverified = (s.hostPort (ld.val / 16)).unverified
        ++ [{ ld := ld.val, dpa := s.dpaOf ld.val dpa, data := none, fault := f }]
      ∧ t = { s with host := t.host, out := t.out } := by
  obtain ⟨hcredit, -⟩ := (Reached.fresh s).spendCredit (ld.val / 16)
  obtain ⟨n, hport⟩ := hcredit.ports (ld.val / 16)
  obtain ⟨y, hspent⟩ : ∃ y, s.freshAnswers.spendCredit (ld.val / 16) = { s.freshAnswers with host := y } := by
    unfold State.spendCredit
    split
    · exact ⟨_, setHostPort_frame ..⟩
    · exact ⟨_, rfl⟩
  have hexec := cxlMemRead_received ho hc dpa f
  rw [receive_waits (by rw [hport]; exact hk), reportSince_same (by rw [setHostPort_frame, hspent]) (by rw [setHostPort_frame, hspent])
    (by rw [setHostPort_frame, hspent])] at hexec
  refine ⟨_, hexec, ?_, ?_, ?_⟩
  · rw [setHostPort_out, hspent]
    rfl
  · rw [setHostPort_hostPort, if_pos Iff.rfl, hport]
  · rw [setHostPort_frame, hspent]
    rfl

end

/-- Settles O16: reads that reach their leaf by what they do to its page, the others by what ends them before. -/
theorem readCompletes : Obligations.ReadCompletes := by
  unfold Obligations.ReadCompletes
  rintro s ld dpa _ rfl
  refine ⟨fun c key line h hd => ⟨cxlMemRead_resident h hd, fun hr hf => cxlMemRead_unallocated h hd hr hf,
      fun hr hf hfree hroom hlost => cxlMemRead_flash h hd hr hf hfree hroom hlost⟩,
    fun c key line i h hd hr hi hcheck hpois hsound hslot hres hs hbad => cxlMemRead_depot h hd hr hi hcheck hpois hsound hslot hres hs hbad,
    cxlMemRead_uncoupled dpa, cxlMemRead_freeze dpa, cxlMemRead_portBuffer dpa, cxlMemRead_waits dpa⟩

end Sys2Proof.Machine
end

section
/-! SUPPORT. What the writes of tables and frames that a stored line needs leave alone (R146, R147, R169, R201), and the line as it is
stored. Shared by the obligations WriteCompletes (O17) and MailboxPoison (O25). -/
namespace Sys2Proof.Machine

/-! ## Objects -/

section
variable {k : Nat} (hk : Undropped k) (s : State)
include hk

theorem checkNodes_get : s.checkNodes.get k = s.get k := by
  unfold State.checkNodes
  dsimp only
  split
  · exact raise_get_undropped _ _ _ _ hk
  · rfl

theorem placeAux_get (line : Nat) : (s.placeAux line).get k = s.get k := by
  unfold State.placeAux
  split
  · rfl
  · split
    · exact checkNodes_get hk _
    · rfl

theorem touch_get (line : Nat) : (s.touch line).get k = s.get k := by
  unfold State.touch
  split
  · rfl
  · dsimp only
    split
    · exact (raise_get_undropped _ _ _ _ hk).trans (placeAux_get hk { s with work := { s.work with changed := s.work.changed ++ [line] } } line)
    · exact placeAux_get hk _ line

theorem touchAll_get (lines : List Nat) : (lines.foldl State.touch s).get k = s.get k := by
  induction lines generalizing s with
  | nil => rfl
  | cons line lines ih => exact (ih _).trans (touch_get hk s line)

theorem touchUnless_get (c : Prop) [Decidable c] (line : Nat) : (if c then s else s.touch line).get k = s.get k := by
  split
  · rfl
  · exact touch_get hk s line

/-- A leaf entry that is written moves no object but the counts of dropped records. -/
theorem setLeaf_get (key : Nat) (l : Leaf) : (s.setLeaf key l).get k = s.get k := by
  unfold State.setLeaf
  dsimp only
  rw [touchAll_get hk, touchUnless_get hk, touchUnless_get hk]
  split
  · rfl
  · unfold State.cacheWrite
    split <;> rfl

theorem setDepot_get (i : Nat) (e : DepotEntry) : (s.setDepot i e).get k = s.get k := by
  unfold State.setDepot
  dsimp only
  rw [touchUnless_get hk]
  split <;> rfl

theorem setSnaps_get (cid : Nat) (r : List SnapRecord) : (s.setSnaps cid r).get k = s.get k := by
  unfold State.setSnaps
  split
  · rfl
  · exact touchAll_get hk _ _

theorem markDirty_get (key : Nat) : (s.markDirty key).get k = s.get k := by
  unfold State.markDirty
  dsimp only
  split
  · exact setLeaf_get hk s _ _
  · exact setLeaf_get hk s _ _

end

/-! ## Steps of a write -/

/-- The state `t` is `s` with tables, frames and the work of the Map region written: the carriages, the interior entries, the held requests
and the objects below the DRAM controllers' stay. -/
structure Written (s t : State) : Prop where
  frame : ∃ tb w fl d lg p o f, t = { s with tables := tb, work := w, flush := fl, dram := d, log := lg, perf := p, od := o, free := f }
  carriages : t.tables.carriages = s.tables.carriages
  interior : t.tables.interior = s.tables.interior
  waiters : t.work.waiters = s.work.waiters
  banks : t.work.badBanks = s.work.badBanks
  objects : ∀ k, k < 0x400000 → t.get k = s.get k

theorem Written.refl (s : State) : Written s s := ⟨⟨_, _, _, _, _, _, _, _, rfl⟩, rfl, rfl, rfl, rfl, fun _ _ => rfl⟩

theorem Written.trans {s t u : State} (h : Written s t) (h' : Written t u) : Written s u := by
  refine ⟨?_, h'.carriages.trans h.carriages, h'.interior.trans h.interior, h'.waiters.trans h.waiters, h'.banks.trans h.banks,
    fun k hk => (h'.objects k hk).trans (h.objects k hk)⟩
  obtain ⟨tb, w, fl, d, lg, p, o, f, rfl⟩ := h.frame
  obtain ⟨tb', w', fl', d', lg', p', o', f', rfl⟩ := h'.frame
  exact ⟨_, _, _, _, _, _, _, _, rfl⟩

theorem Written.carriage {s t : State} (h : Written s t) (c : Nat) : t.carriage c = s.carriage c := by
  simp [State.carriage, h.carriages]

theorem Written.pageCipher {s t : State} (h : Written s t) (key : Nat) (im : Image) : t.pageCipher key im = s.pageCipher key im :=
  pageCipher_congr key im h.carriages h.interior

/-- A step of a write that leaves the leaves and the frames alone too. -/
structure Aside (s t : State) : Prop extends Written s t where
  leaves : t.tables.leaves = s.tables.leaves
  frames : t.dram.frames = s.dram.frames

theorem Aside.refl (s : State) : Aside s s := ⟨.refl s, rfl, rfl⟩

theorem Aside.trans {s t u : State} (h : Aside s t) (h' : Aside t u) : Aside s u :=
  ⟨h.toWritten.trans h'.toWritten, h'.leaves.trans h.leaves, h'.frames.trans h.frames⟩

theorem Aside.leaf {s t : State} (h : Aside s t) (k : Nat) : t.leaf k = s.leaf k := by simp [State.leaf, h.leaves]

theorem Aside.frame_eq {s t : State} (h : Aside s t) (f : Nat) : t.frame f = s.frame f := by simp [State.frame, h.frames]

/-- Objects below the DRAM controllers' are none of the counts of dropped records. -/
theorem undropped_of_low {k : Nat} (hk : k < 0x400000) : Undropped k := by
  simp only [Undropped, OD.logbookDroppedNote]
  omega

theorem touched_aside {s t : State} (h : Touched s t) (ho : ∀ k, Undropped k → t.get k = s.get k) : Aside s t := by
  obtain ⟨a, c, n, m, l, p, o, rfl⟩ := h
  exact ⟨⟨⟨_, _, _, _, _, _, _, _, rfl⟩, rfl, rfl, rfl, rfl, fun k hk => ho k (undropped_of_low hk)⟩, rfl, rfl⟩

theorem raise_aside (s : State) (c v : Nat) (is : List (ItemKind × Nat)) : Aside s (s.raise c v is) :=
  touched_aside (touched_raise s c v is) fun _ hk => raise_get_undropped s c v is hk

theorem raiseWhen_aside (s : State) (b : Bool) (c : Nat) : Aside s (s.when b (·.note c)) := by
  cases b with
  | false => exact .refl s
  | true => exact raise_aside s c 0 []

theorem count_aside (s : State) (source inst k : Nat) : Aside s (s.count source inst k) := by
  obtain ⟨p, h⟩ := count_counts s source inst k
  rw [h]
  exact ⟨⟨⟨_, _, _, _, _, _, _, _, rfl⟩, rfl, rfl, rfl, rfl, fun _ _ => rfl⟩, rfl, rfl⟩

theorem takeFrame_aside {s t : State} {f : Nat} (h : s.takeFrame = some (f, t)) : Aside s t := by
  rw [takeFrame_frame h]
  exact ⟨⟨⟨_, _, _, _, _, _, _, _, rfl⟩, rfl, rfl, rfl, rfl, fun _ _ => rfl⟩, rfl, rfl⟩

theorem checkSpace_aside (s : State) : Aside s s.checkSpace := by
  unfold State.checkSpace
  extract_lets used total reached fallen w c work u
  have hu : Aside s u := ⟨⟨⟨_, _, _, _, _, _, _, _, rfl⟩, rfl, rfl, rfl, rfl, fun _ _ => rfl⟩, rfl, rfl⟩
  exact hu.trans ((raiseWhen_aside u _ _).trans (raiseWhen_aside _ _ _))

theorem setDepot_aside (s : State) (i : Nat) (e : DepotEntry) : Aside s (s.setDepot i e) := by
  have ho : ∀ k, k < 0x400000 → (s.setDepot i e).get k = s.get k := fun k hk => setDepot_get (undropped_of_low hk) s i e
  obtain ⟨a, c, n, d, m, lg, p, o, h⟩ := setDepot_frame s i e
  rw [h] at ho ⊢
  exact ⟨⟨⟨_, _, _, _, _, _, _, _, rfl⟩, rfl, rfl, rfl, rfl, ho⟩, rfl, rfl⟩

theorem depotUnref_aside (s : State) (i : Nat) : Aside s (s.depotUnref i) := by
  unfold State.depotUnref
  dsimp only
  split
  · exact .refl s
  · exact setDepot_aside ..

theorem setSnaps_aside (s : State) (cid : Nat) (r : List SnapRecord) : Aside s (s.setSnaps cid r) := by
  have ho : ∀ k, Undropped k → (s.setSnaps cid r).get k = s.get k := fun k hk => setSnaps_get hk s cid r
  unfold State.setSnaps at ho ⊢
  split
  · exact .refl s
  · next hne =>
    rw [if_neg hne] at ho
    have hset : Aside s { s with tables := { s.tables with snapshots := mapSet (fun _ => []) s.tables.snapshots cid r } } :=
      ⟨⟨⟨_, _, _, _, _, _, _, _, rfl⟩, rfl, rfl, rfl, rfl, fun _ _ => rfl⟩, rfl, rfl⟩
    exact hset.trans (touched_aside (touched_foldl _ _) ho)

theorem addRecord_aside (s : State) (cid page : Nat) (r : SnapKind) : Aside s (s.addRecord cid page r) := setSnaps_aside ..

theorem setLeaf_written (s : State) (key : Nat) (l : Leaf) : Written s (s.setLeaf key l) := by
  have ho : ∀ k, k < 0x400000 → (s.setLeaf key l).get k = s.get k := fun k hk => setLeaf_get (undropped_of_low hk) s key l
  obtain ⟨a, c, n, u, m, lg, p, o, h⟩ := setLeaf_frame s key l
  rw [h] at ho ⊢
  exact ⟨⟨_, _, _, _, _, _, _, _, rfl⟩, rfl, rfl, rfl, rfl, ho⟩

theorem setFrame_written (s : State) (f : Nat) (c : Cipher) : Written s (s.setFrame f c) :=
  ⟨⟨_, _, _, _, _, _, _, _, rfl⟩, rfl, rfl, rfl, rfl, fun _ _ => rfl⟩

theorem setFrame_frame (s : State) (f : Nat) (c : Cipher) (g : Nat) : (s.setFrame f c).frame g = if g = f then c else s.frame g :=
  mapGet_mapSet ..

theorem issueWrites_aside (s : State) (f : Nat) (lines : List Nat) (source : DramSource) : Aside s (s.issueWrites f lines source) := by
  obtain ⟨c, p, h⟩ := issueWrites_frame s f lines source
  rw [h]
  exact ⟨⟨⟨_, _, _, _, _, _, _, _, rfl⟩, rfl, rfl, rfl, rfl, fun _ _ => rfl⟩, rfl, rfl⟩

theorem placeFrame_written (s : State) (f : Nat) (c : Cipher) : Written s (s.placeFrame f c) :=
  (setFrame_written s f c).trans (issueWrites_aside ..).toWritten

/-- The count of lines poisoned on a channel lies among the DRAM controllers' objects. -/
theorem bumpPoisoned_aside (s : State) (c : Nat) : Aside s (s.bump (OD.mcPoisonedLines c) 1) := by
  refine ⟨⟨⟨_, _, _, _, _, _, _, _, rfl⟩, rfl, rfl, rfl, rfl, fun k hk => ?_⟩, rfl, rfl⟩
  exact (bump_get ..).trans (if_neg (by simp only [OD.mcPoisonedLines]; omega))

/-! ## A page that becomes dirty -/

theorem markDirty_leaf (s : State) (key : Nat) :
    (s.markDirty key).leaf key = { s.leaf key with dirty := true, acc := true, ttag := (s.carriage (leafCid key)).term % 256 } := by
  unfold State.markDirty
  dsimp only
  split
  · exact setLeaf_leaf_same ..
  · exact setLeaf_leaf_same ..

theorem markDirty_written (s : State) (key : Nat) : Written s (s.markDirty key) := by
  have henqueue : ∀ t : State, Written t (t.enqueue key) := fun t =>
    ⟨⟨_, _, _, _, _, _, _, _, rfl⟩, rfl, rfl, rfl, rfl, fun _ _ => rfl⟩
  unfold State.markDirty
  dsimp only
  split
  · exact setLeaf_written ..
  · exact (setLeaf_written ..).trans (henqueue _)

@[simp] theorem setLeaf_age (s : State) (key : Nat) (l : Leaf) : (s.setLeaf key l).flush.age = s.flush.age := by
  obtain ⟨a, c, n, u, m, lg, p, o, h⟩ := setLeaf_frame s key l; rw [h]

@[simp] theorem setLeaf_uptime (s : State) (key : Nat) (l : Leaf) : (s.setLeaf key l).uptime = s.uptime := by
  obtain ⟨a, c, n, u, m, lg, p, o, h⟩ := setLeaf_frame s key l; rw [h]

/-- A page of the residue is in the age list already (R149). -/
theorem markDirty_age_of_residue {s : State} {key : Nat} (h : (s.leaf key).inResidue = true) :
    (s.markDirty key).flush.age = s.flush.age := by
  simp [State.markDirty, h]

/-- A page that joins the residue enters the age list at its end (R204). -/
theorem markDirty_age_of_clean {s : State} {key : Nat} (h : (s.leaf key).inResidue = false) : (s.markDirty key).flush.age
    = s.flush.age.filter (fun e => e.key ≠ key) ++ [{ key := key, time := (s.uptime + 9999999) / 10000000 * 10000000, retry := 0 }] := by
  simp [State.markDirty, h, State.enqueue]

/-! ## A line that is stored -/

/-- The image of a page in which a line has been written, or poisoned (R146, R296). -/
def Image.stored (i : Image) (line : Nat) (d : Line) (bad : WriteMark) : Image := if bad = .plain then i.write line d else i.poison line

/-- The state in which a line of a resident page has been stored, before its completion. -/
def State.lineStored (s : State) (key line : Nat) (d : Line) (bad : WriteMark) : State :=
  let s := s.markDirty key
  let im := (s.residentImage key).stored line d bad
  let f := (s.leaf key).ptr
  let s := s.when (bad != .plain) (·.bump (OD.mcPoisonedLines (s.channelOf f)) 1)
  let s := ((s.setFrame f (s.pageCipher key im)).issueWrite f line).cipherLine
  { s with tables := { s.tables with payload := s.tables.payload + 64 } }

/-- A stored line completes its write, if somebody waits for it. -/
theorem storeLine_stores (s : State) (ld dpa key line : Nat) (d : Line) (bad : WriteMark) : s.storeLine ld dpa key line d bad
    = if bad = .injected then s.lineStored key line d bad else (s.lineStored key line d bad).completeWrite ld dpa := rfl

/-- A line of a resident page has been stored: the page is dirty, its frame holds the image under the page's key, and no other page or frame
has changed. -/
structure LineStored (s t : State) (key : Nat) (im : Image) : Prop extends Written s t where
  leaf : t.leaf key = { s.leaf key with dirty := true, acc := true, ttag := (s.carriage (leafCid key)).term % 256 }
  leaves : ∀ k, k ≠ key → t.leaf k = s.leaf k
  content : t.frame (s.leaf key).ptr = s.pageCipher key im
  frames : ∀ g, g ≠ (s.leaf key).ptr → t.frame g = s.frame g
  age : t.flush.age = (s.markDirty key).flush.age

theorem markDirty_residentImage (s : State) (key : Nat) : (s.markDirty key).residentImage key = s.residentImage key := by
  have hkeeps := markDirty_keepsPlace s key
  have hframes : ∀ f, (s.markDirty key).frame f = s.frame f := fun f => by simp [State.frame, hkeeps.frames]
  simp [State.residentImage, State.carriageKey, State.carriage, State.lpn, State.interior, hkeeps.ptr, hkeeps.carriages, hkeeps.interior,
    hframes]

theorem poisonCount_aside (s : State) (b : Bool) (c : Nat) : Aside s (s.when b (·.bump (OD.mcPoisonedLines c) 1))
    ∧ (s.when b (·.bump (OD.mcPoisonedLines c) 1)).flush = s.flush := by
  cases b with
  | false => exact ⟨.refl s, rfl⟩
  | true => exact ⟨bumpPoisoned_aside s c, rfl⟩

theorem lineStored_stores (s : State) (key line : Nat) (d : Line) (bad : WriteMark) :
    LineStored s (s.lineStored key line d bad) key ((s.residentImage key).stored line d bad) := by
  have hkeeps := markDirty_keepsPlace s key
  have hdirty := markDirty_written s key
  unfold State.lineStored
  extract_lets x im f y z
  have him : im = (s.residentImage key).stored line d bad := by simp only [im, x, markDirty_residentImage]
  have hf : f = (s.leaf key).ptr := hkeeps.ptr
  obtain ⟨hcount, hcountFlush⟩ := poisonCount_aside x (bad != .plain) (x.channelOf f)
  obtain ⟨c, p, hissued⟩ := issueWrites_frame (y.setFrame f (y.pageCipher key im)) f [line] .host
  obtain ⟨p', hcipher⟩ := cipherLine_counts ((y.setFrame f (y.pageCipher key im)).issueWrite f line)
  have hz : z = { y with dram := { y.dram with frames := mapSet (fun _ => Cipher.zero) y.dram.frames f (y.pageCipher key im), chans := c }
                         perf := p', free := y.free + 1 } := by
    rw [show z = _ from hcipher, show State.issueWrite _ f line = _ from hissued]
    rfl
  have hframe : ∀ g, z.frame g = if g = f then y.pageCipher key im else y.frame g := fun g => by
    rw [hz]
    exact setFrame_frame y f _ g
  have hzWritten : Written y z := by
    rw [hz]
    exact ⟨⟨_, _, _, _, _, _, _, _, rfl⟩, rfl, rfl, rfl, rfl, fun _ _ => rfl⟩
  have hpaid : ∀ t : State, Written t { t with tables := { t.tables with payload := t.tables.payload + 64 } } := fun t =>
    ⟨⟨_, _, _, _, _, _, _, _, rfl⟩, rfl, rfl, rfl, rfl, fun _ _ => rfl⟩
  have hleaf : ∀ k, z.leaf k = x.leaf k := fun k => by
    rw [hz]
    exact hcount.leaf k
  have hyWritten : Written s y := hdirty.trans hcount.toWritten
  refine ⟨hyWritten.trans (hzWritten.trans (hpaid z)), (hleaf key).trans (markDirty_leaf s key),
    fun k hk => (hleaf k).trans (hkeeps.leaves k hk), ?_, fun g hg => ?_, ?_⟩
  · refine (hframe _).trans ?_
    rw [if_pos hf.symm, him, hyWritten.pageCipher]
  · refine (hframe _).trans ?_
    rw [if_neg (by rw [hf]; exact hg), hcount.frame_eq]
    simp [State.frame, hkeeps.frames, x]
  · show z.flush.age = x.flush.age
    rw [hz, ← hcountFlush]

/-- A line that is stored whole moves no object but the counts of dropped records. -/
theorem lineStored_get {k : Nat} (hk : Undropped k) (s : State) (key line : Nat) (d : Line) :
    (s.lineStored key line d .plain).get k = s.get k := by
  unfold State.lineStored
  extract_lets x im f y z
  obtain ⟨c, p, hissued⟩ := issueWrites_frame (y.setFrame f (y.pageCipher key im)) f [line] .host
  obtain ⟨p', hcipher⟩ := cipherLine_counts ((y.setFrame f (y.pageCipher key im)).issueWrite f line)
  have hz : z.od = x.od := by
    rw [show z = _ from hcipher, show State.issueWrite _ f line = _ from hissued]
    rfl
  refine Eq.trans ?_ (markDirty_get hk s key)
  show z.get k = x.get k
  rw [State.get, hz, State.get]

/-! ## A page that is filled -/

/-- A page has been filled: it is Resident and dirty in its frame, and no other page or frame has changed. -/
structure PageFilled (s t : State) (key f : Nat) (im : Image) : Prop extends Written s t where
  leaf : t.leaf key = { Leaf.empty with res := true, ptr := f, dirty := true, acc := true, ttag := (s.carriage (leafCid key)).term % 256 }
  leaves : ∀ k, k ≠ key → t.leaf k = s.leaf k
  content : t.frame f = s.pageCipher key im
  frames : ∀ g, g ≠ f → t.frame g = s.frame g

theorem fillPage_fills (s : State) (key f : Nat) (im : Image) : PageFilled s (s.fillPage key f im) key f im := by
  unfold State.fillPage
  extract_lets l x y
  have hx : Written s x := setLeaf_written ..
  have hy : Written s y := hx.trans (placeFrame_written ..)
  have hkeeps := markDirty_keepsPlace y key
  have hleaf : ∀ k, y.leaf k = x.leaf k := fun k => by simp only [State.leaf, y, placeFrame_tables]
  have hframe : ∀ g, (y.markDirty key).frame g = if g = f then s.pageCipher key im else s.frame g := fun g => by
    rw [State.frame, hkeeps.frames]
    refine (placeFrame_content ..).trans ?_
    rw [hx.pageCipher]
    simp [State.frame, x]
  refine ⟨hy.trans (markDirty_written y key), ?_, fun k hk => ?_, by rw [hframe, if_pos rfl], fun g hg => by rw [hframe, if_neg hg]⟩
  · rw [markDirty_leaf, hleaf, hy.carriage, setLeaf_leaf_same]
  · rw [hkeeps.leaves k hk, hleaf, setLeaf_leaf_other _ _ _ hk]

/-- A page that has been filled holds its image. -/
theorem PageFilled.residentImage {s t : State} {key f : Nat} {im : Image} (h : PageFilled s t key f im) : t.residentImage key = im := by
  refine residentImage_of_pageCipher (s := s) ?_ h.carriages h.interior
  rw [h.leaf]
  exact h.content

theorem PageFilled.aside {s t u : State} {key f : Nat} {im : Image} (h : PageFilled s t key f im) (ha : Aside t u) :
    PageFilled s u key f im :=
  ⟨h.toWritten.trans ha.toWritten, (ha.leaf key).trans h.leaf, fun k hk => (ha.leaf k).trans (h.leaves k hk),
    (ha.frame_eq f).trans h.content, fun g hg => (ha.frame_eq g).trans (h.frames g hg)⟩

theorem PageFilled.after {s t u : State} {key f : Nat} {im : Image} (ha : Aside s t) (h : PageFilled t u key f im) :
    PageFilled s u key f im :=
  ⟨ha.toWritten.trans h.toWritten, by rw [h.leaf, ha.carriage], fun k hk => (h.leaves k hk).trans (ha.leaf k),
    by rw [h.content, ha.pageCipher], fun g hg => (h.frames g hg).trans (ha.frame_eq g)⟩

/-- A line stored in a page that has been filled is a part of its content. -/
theorem PageFilled.stores {s t : State} {key f : Nat} {im : Image} (h : PageFilled s t key f im) (line : Nat) (d : Line) :
    PageFilled s (t.lineStored key line d .plain) key f (im.write line d) := by
  have hstored := lineStored_stores t key line d .plain
  have hptr : (t.leaf key).ptr = f := by rw [h.leaf]
  refine ⟨h.toWritten.trans hstored.toWritten, ?_, fun k hk => (hstored.leaves k hk).trans (h.leaves k hk), ?_, fun g hg => ?_⟩
  · rw [hstored.leaf, h.leaf, h.carriage]
  · have hcontent := hstored.content
    rw [hptr, h.residentImage, h.pageCipher] at hcontent
    exact hcontent
  · rw [hstored.frames g (by rw [hptr]; exact hg), h.frames g hg]

end Sys2Proof.Machine
end

section
/-! SUPPORT. How a write ends (R86, R87, R120, R146, R147, R167, R169, R177); the obligation WriteCompletes (O17) stands at the end. -/
namespace Sys2Proof.Machine

namespace Reached

variable {s t : State} (h : Reached s t)
include h

theorem backingUsed : t.backingUsed = s.backingUsed := by simp only [State.backingUsed, h.tables]

theorem termHolds (cid : Nat) : t.termHolds cid = s.termHolds cid := by simp [State.termHolds, h.terms, h.carriage]

theorem pathGrown {cid page : Nat} (hg : s.pathGrown cid page) : t.pathGrown cid page := by
  simpa only [State.pathGrown, h.interior] using hg

theorem recordFree {key : Nat} (hr : s.recordFree key) : t.recordFree key := by
  simpa only [State.recordFree, State.needsRecord, State.snapRecords, h.leaf, h.carriage, h.tables] using hr

theorem pageCipher (key : Nat) (im : Image) : t.pageCipher key im = s.pageCipher key im :=
  pageCipher_congr key im (by rw [h.tables]) (by rw [h.tables])

/-- The frame that a page would take in `s` is the one it takes. -/
theorem takeFrame {f : Nat} {s' : State} (hf : s.takeFrame = some (f, s')) : ∃ t', t.takeFrame = some (f, t') := by
  have hfree : t.freeOn t.framesInUse = s.freeOn s.framesInUse := by
    funext k
    simp only [State.freeOn, h.populated, h.chanServes, h.channelOf, h.poolTop, h.framesInUse]
  unfold State.takeFrame at hf ⊢
  dsimp only at hf ⊢
  rw [h.framesFree, h.populated, h.nextFrame, hfree]
  split at hf
  · cases hf
  · next hne =>
    rw [if_neg hne]
    split at hf
    · cases hf
    · next g _ =>
      cases hf
      exact ⟨_, rfl⟩

end Reached

/-! ## From the leaf on (R147) -/

section
variable {s u : State} {w : Waiter} (h : WalkedTo s u w.cid w.page) (hm : s.flush.metaHold = false)
include h

include hm in
theorem writePage_resident {d : Line × WriteMark} (hd : w.data = some d) (hr : (s.leaf (leafKey w.cid w.page)).res = true)
    (hs : s.frameServes (s.leaf (leafKey w.cid w.page)).ptr = true) (hrec : s.recordFree (leafKey w.cid w.page)) :
    u.writePage w = (u.lookup w.cid w.page).storeLine w.ld w.dpa (leafKey w.cid w.page) w.line d.1 d.2 := by
  have hv := h.looked
  have hwaits : (u.lookup w.cid w.page).metaWaits = false := by rw [State.metaWaits, hv.flush, hm]
  have hsnap : (u.lookup w.cid w.page).snapshotBefore (leafKey w.cid w.page) = some (u.lookup w.cid w.page) := by
    have hfree := hv.recordFree hrec
    unfold State.recordFree at hfree
    unfold State.snapshotBefore
    dsimp only
    rw [if_pos (by simpa using hfree)]
  unfold State.writePage
  simp only [h.walk, h.served, h.stays, h.sound, h.leaf, h.pois, h.busy, hr, Bool.or_self, Bool.false_eq_true, if_false, if_true]
  simp only [State.writeResident, hv.leaf, hv.frameServes, hs, hwaits, State.changeResident, hsnap, State.storeFor, hd, Option.map_some,
    Bool.not_true, Bool.false_and, Bool.false_eq_true, if_false]

include hm in
theorem writePage_unallocated (hd : (s.leaf (leafKey w.cid w.page)).depot = false) (hr : (s.leaf (leafKey w.cid w.page)).res = false)
    (hf : (s.leaf (leafKey w.cid w.page)).flc = false) : u.writePage w = (u.lookup w.cid w.page).writeUnallocated w := by
  have hwaits : (u.lookup w.cid w.page).metaWaits = false := by rw [State.metaWaits, h.looked.flush, hm]
  unfold State.writePage
  simp only [h.walk, h.served, h.stays, h.sound, h.leaf, h.pois, h.busy, hd, hr, hf, hwaits, Bool.or_self, Bool.false_eq_true, if_false]

include hm in
theorem writePage_depot (hd : (s.leaf (leafKey w.cid w.page)).depot = true) (hr : (s.leaf (leafKey w.cid w.page)).res = false) :
    u.writePage w = (u.lookup w.cid w.page).writeDepot w := by
  have hwaits : (u.lookup w.cid w.page).metaWaits = false := by rw [State.metaWaits, h.looked.flush, hm]
  unfold State.writePage
  simp only [h.walk, h.served, h.stays, h.sound, h.leaf, h.pois, h.busy, hd, hr, hwaits, Bool.or_self, Bool.false_eq_true, if_false, if_true]

end

/-! ## A path that is grown -/

theorem setInterior_same (s : State) (k : Nat) : s.setInterior k (s.interior k) = s := by simp [State.setInterior]

theorem growEntry_grown {s : State} {cid level page : Nat} (hv : (s.interior (interiorKey cid level page)).valid = true)
    (he : level = 2 → (s.interior (interiorKey cid level page)).extent ≠ 0) : s.growEntry cid level page = (s, .done) := by
  have hneed : (level = 2 && (s.interior (interiorKey cid level page)).extent = 0) = false := by simpa using he
  unfold State.growEntry
  simp only [hneed, Bool.false_eq_true, if_false, hv, if_true, setInterior_same]

/-- A page whose nodes and extent are there is given none. -/
theorem growPath_grown {s : State} {cid page : Nat} (h : s.pathGrown cid page) : s.growPath cid page = (s, .done) := by
  obtain ⟨hvalid, hextent⟩ := h
  simp only [State.growPath, growEntry_grown (hvalid 3 (.inr (.inr rfl))) (fun h => absurd h (by decide)),
    growEntry_grown (hvalid 2 (.inr (.inl rfl))) (fun _ => hextent), growEntry_grown (hvalid 1 (.inl rfl)) (fun h => absurd h (by decide))]

/-! ## A page that is filled for a write -/

/-- A write that stores its line whole completes after it. -/
theorem storeFor_plain (s : State) {w : Waiter} {d : Line} (hd : w.data = some (d, .plain)) :
    s.storeFor w = (s.lineStored (leafKey w.cid w.page) w.line d .plain).completeWrite w.ld w.dpa := by
  simp only [State.storeFor, hd, storeLine_stores, reduceCtorEq, if_false]

section
variable {s v : State} (h : Reached s v) {w : Waiter} {f : Nat} {s' : State} (hback : s.backingUsed < s.get OD.spaceBackingPagesTotal)
  (hgrown : s.pathGrown w.cid w.page) (hf : s.takeFrame = some (f, s')) {d : Line} (hd : w.data = some (d, .plain))
include h hback hgrown hf hd

/-- A write to an Unallocated page fills the frame taken with zeros and stores its line there (R147). -/
theorem writeUnallocated_fills : ∃ q, v.writeUnallocated w = q.completeWrite w.ld w.dpa
    ∧ PageFilled v q (leafKey w.cid w.page) f (Image.zero.write w.line d) := by
  obtain ⟨x, hx⟩ := h.takeFrame hf
  have hroom : ¬ v.get OD.spaceBackingPagesTotal ≤ v.backingUsed := by
    rw [h.get (by decide), h.backingUsed]
    exact Nat.not_le.mpr hback
  generalize hy : (if x.needsRecord w.cid w.page then x.addRecord w.cid w.page .zero else x) = y
  have hside : Aside x y := by
    rw [← hy]
    split
    · exact addRecord_aside ..
    · exact .refl x
  have hfilled : PageFilled v ((y.fillPage (leafKey w.cid w.page) f Image.zero).checkSpace) (leafKey w.cid w.page) f Image.zero :=
    .after ((takeFrame_aside hx).trans hside) ((fillPage_fills ..).aside (checkSpace_aside _))
  refine ⟨_, ?_, hfilled.stores w.line d⟩
  rw [← storeFor_plain _ hd]
  unfold State.writeUnallocated
  rw [if_neg hroom, growPath_grown (h.pathGrown hgrown)]
  dsimp only
  rw [hx]
  dsimp only
  rw [hy]

/-- A write to a Depot leaf fills the frame taken with the depot page's content and stores its line there (R169). -/
theorem writeDepot_fills {i : Nat} (hi : i = (s.leaf (leafKey w.cid w.page)).ptr) (hcheck : s.checkDepot w.cid i = .ok)
    (hpois : (s.depotEntry i).pois = false) (hsound : (s.depotEntry i).damaged = false)
    (hslot : s.work.delayed.any (loadsSlot (s.depotEntry i).slot) = false) (hres : (s.depotEntry i).res = true)
    (hs : s.frameServes (s.depotEntry i).frame = true) : ∃ q, v.writeDepot w = q.completeWrite w.ld w.dpa
      ∧ PageFilled v q (leafKey w.cid w.page) f ((s.depotImage i).write w.line d) := by
  obtain ⟨x, hx⟩ := h.takeFrame hf
  have hroom : ¬ v.get OD.spaceBackingPagesTotal ≤ v.backingUsed := by
    rw [h.get (by decide), h.backingUsed]
    exact Nat.not_le.mpr hback
  have himage : x.depotImage i = s.depotImage i := by
    rw [← h.depotImage, takeFrame_frame hx]
    rfl
  generalize hy : (if x.needsRecord w.cid w.page then x.addRecord w.cid w.page (.depot i) else x.depotUnref i).count 0xF021 0xFFFF 1 = y
  have hside : Aside x y := by
    rw [← hy]
    refine .trans ?_ (count_aside ..)
    split
    · exact addRecord_aside ..
    · exact depotUnref_aside ..
  have hfilled : PageFilled v ((y.fillPage (leafKey w.cid w.page) f (s.depotImage i)).checkSpace) (leafKey w.cid w.page) f (s.depotImage i) :=
    .after ((takeFrame_aside hx).trans hside) ((fillPage_fills ..).aside (checkSpace_aside _))
  refine ⟨_, ?_, hfilled.stores w.line d⟩
  rw [← storeFor_plain _ hd]
  unfold State.writeDepot
  dsimp only
  rw [h.leaf, ← hi, h.thawDepot_serves hs, h.checkEntry_sound hsound, h.checkDepot, hcheck]
  dsimp only
  rw [h.depotEntry, if_neg (by rw [h.slotHolds_free w hslot]; decide), if_neg (by rw [hpois]; decide), if_neg hroom,
    growPath_grown (h.pathGrown hgrown)]
  dsimp only
  rw [if_neg (by rw [hres]; decide), if_neg (by rw [h.frameServes, hs]; decide), hx]
  dsimp only
  rw [himage, hy]

end

/-! ## Completions of writes -/

/-- An object outside those of the LDs, below the DRAM controllers' objects. -/
def PortObject (k : Nat) : Prop := k < 0x240000 ∨ (0x260000 ≤ k ∧ k < 0x400000)

theorem PortObject.low {k : Nat} (h : PortObject k) : k < 0x400000 := by
  unfold PortObject at h
  omega

/-- The port of an LD answers in `q` as it would in `s`: its record, what it tracks and the objects that it reads are as there. -/
structure PortAs (s q : State) : Prop where
  host : q.host = s.host
  waiters : q.work.waiters = s.work.waiters
  ctl : q.ctl = s.ctl
  answers : q.out.host = []
  objects : ∀ k, PortObject k → q.get k = s.get k

theorem Reached.portAs {s v : State} (h : Reached s v) (hh : v.host = s.host) : PortAs s v :=
  ⟨hh, h.waiters, h.ctl, h.answers, fun _ hk => h.get (Nat.lt_trans hk.low (by decide))⟩

theorem PortAs.written {s v q : State} (h : PortAs s v) (hw : Written v q) : PortAs s q := by
  refine ⟨?_, hw.waiters.trans h.waiters, ?_, ?_, fun k hk => (hw.objects k hk.low).trans (h.objects k hk)⟩
  all_goals obtain ⟨tb, w, fl, d, lg, p, o, f, rfl⟩ := hw.frame
  · exact h.host
  · exact h.ctl
  · exact h.answers

theorem PortAs.carries {s q : State} (h : PortAs s q) (ld : Ld) : q.carries (ld.val / 16) = s.carries (ld.val / 16) := by
  have hl := h.objects (OD.hpLinkState (ld.val / 16)) (.inl (by simp only [OD.hpLinkState]; omega))
  have hf := h.objects (OD.hpFenceCause (ld.val / 16)) (.inl (by simp only [OD.hpFenceCause]; omega))
  simp only [State.carries, hl, hf]

theorem PortAs.writeLoad {s q : State} (h : PortAs s q) (ld : Nat) : q.writeLoad ld = s.writeLoad ld := by
  have hport : q.hostPort (ld / 16) = s.hostPort (ld / 16) := by simp only [State.hostPort, h.host]
  have htracked : q.tracked (ld / 16) = s.tracked (ld / 16) := by rw [State.tracked, h.waiters, hport]; rfl
  simp only [State.writeLoad, h.host,
    queueBand_congr htracked (h.objects _ (.inr (by decide))) (h.objects _ (.inr (by decide))) (h.objects _ (.inr (by decide)))]

/-- Where credits are returned, a freed buffer leaves its port alone (R100, R104). -/
theorem freeBuffer_frees (s : State) (p : Nat) : (∃ y, s.freeBuffer p = { s with host := y })
    ∧ (s.get OD.qosThrottleState = 0 → s.ctl.mode ≠ .freeze → s.ctl.mode ≠ .save → s.freeBuffer p = s) := by
  unfold State.freeBuffer
  refine ⟨?_, fun ht hf hs => ?_⟩
  · split
    · exact ⟨_, rfl⟩
    · exact ⟨_, setHostPort_frame ..⟩
  · rw [if_pos (by simp [ht, hf, hs])]

/-- A write completes with the load of its port. -/
theorem completeWrite_answers {s q : State} (h : PortAs s q) {ld : Ld} (hc : s.carries (ld.val / 16) = true) (a : Nat) :
    ∃ y x, q.completeWrite ld.val a = { q with host := y, out := x } ∧ x.host = [.written ld.val a (s.writeLoad ld.val)]
      ∧ (s.get OD.qosThrottleState = 0 → s.ctl.mode ≠ .freeze → s.ctl.mode ≠ .save → y = s.host) := by
  obtain ⟨x, hx, hhost⟩ := complete_answers ((h.carries ld).trans hc) h.answers (.written ld.val a (s.writeLoad ld.val))
  obtain ⟨⟨y, hy⟩, hsame⟩ := freeBuffer_frees { q with out := x } (ld.val / 16)
  refine ⟨y, x, ?_, hhost, fun ht hf hs => ?_⟩
  · rw [State.completeWrite, h.writeLoad, hx, hy]
  · rw [hsame ((h.objects _ (.inr (by decide))).trans ht) (by rw [← h.ctl] at hf; exact hf) (by rw [← h.ctl] at hs; exact hs)] at hy
    exact (congrArg State.host hy).symm.trans h.host

/-- The end `t` of a write that has been received in `s` and has written `q`: it is answered, and its ticket settled. -/
structure WriteEnds (s q t : State) (ld : Ld) (a : Nat) : Prop where
  answer : t.out.host = [.written ld.val a (s.writeLoad ld.val)]
  tables : t.tables = q.tables
  dram : t.dram = q.dram
  flush : t.flush = q.flush
  work : t.work = q.work
  objects : t.objectsAs q [OD.ticketNextTicket, OD.ticketGeneration]
  host : s.get OD.qosThrottleState = 0 → s.ctl.mode ≠ .freeze → s.ctl.mode ≠ .save → t.host = s.host
  frame : t = { s with od := t.od, log := t.log, perf := t.perf, tickets := t.tickets, free := t.free, tables := t.tables,
                       work := t.work, flush := t.flush, dram := t.dram, host := t.host, out := t.out }

theorem WriteEnds.leaf {s q t : State} {ld : Ld} {a : Nat} (h : WriteEnds s q t ld a) (k : Nat) : t.leaf k = q.leaf k := by
  simp [State.leaf, h.tables]

theorem WriteEnds.frames {s q t : State} {ld : Ld} {a : Nat} (h : WriteEnds s q t ld a) (f : Nat) : t.frame f = q.frame f := by
  simp [State.frame, h.dram]

/-- The state `q` that a write has reached and written, with the frame of what it may have moved. -/
structure WrittenFrom (s q : State) : Prop where
  port : PortAs s q
  banks : q.work.badBanks = s.work.badBanks
  frame : ∃ o l p k f tb w fl d y x, q = { s with od := o, log := l, perf := p, tickets := k, free := f, tables := tb, work := w, flush := fl,
                                                  dram := d, host := y, out := x }

theorem Reached.writtenFrom {s v q : State} (h : Reached s v) (hh : v.host = s.host) (hw : Written v q) : WrittenFrom s q := by
  refine ⟨(h.portAs hh).written hw, hw.banks.trans h.badBanks, ?_⟩
  obtain ⟨tb, w, fl, d, lg, p, o, f, rfl⟩ := hw.frame
  obtain ⟨o', p', k, f', y, x, c, n, rfl⟩ := h.frame
  exact ⟨_, _, _, _, _, _, _, _, _, _, _, rfl⟩

theorem lookup_host (s : State) (cid page : Nat) : (s.lookup cid page).host = s.host := by
  obtain ⟨p, f, c, n, h⟩ := lookup_looks s cid page
  rw [h]

theorem WrittenFrom.completes {s q : State} (h : WrittenFrom s q) {ld : Ld} (hc : s.carries (ld.val / 16) = true) (a : Nat) :
    SameOutages s (q.completeWrite ld.val a) ∧ WriteEnds s q ((q.completeWrite ld.val a).settleTickets true) ld a := by
  obtain ⟨y, x, hq, hanswer, hhost⟩ := completeWrite_answers h.port hc a
  rw [hq]
  have hbanks := h.banks
  obtain ⟨k, o, l, p, ht⟩ := (settleTickets_stores { q with host := y, out := x }).frame
  have hobjects := (settleTickets_stores { q with host := y, out := x }).objects
  rw [ht] at hobjects ⊢
  obtain ⟨o', l', p', k', f, tb, w, fl, d, y', x', rfl⟩ := h.frame
  exact ⟨⟨rfl, hbanks, rfl⟩, hanswer, rfl, rfl, rfl, rfl, hobjects, hhost, rfl⟩

/-- The plain marks of a write under the faults of its way that only mark its line. -/
def markOf : PathFault → WriteMark
  | .transport => .poisoned
  | _ => .plain

section
variable {s : State} {ld : Ld} {dpa : BitVec 64} {d : Line} {c : Coupling}

/-- A write that a port takes, on a way without a fault or with a transport error, goes to its address. -/
theorem cxlMemWrite_goes (h : s.memReady ld.val true) (hm : s.ctl.mode ≠ .freeze) {fault : PathFault}
    (hfault : fault = .none ∨ fault = .transport) : ∃ u, Reached s u ∧ u.work = s.work ∧ u.host = s.host
      ∧ ∀ r, u.hostWrite ld.val (s.dpaOf ld.val dpa) d (markOf fault) = r → SameOutages s r →
        exec (.cxlMemWrite ld dpa d fault) s = .next (r.settleTickets true) := by
  obtain ⟨u, hu, hwork, hhost, hexec⟩ := cxlMemWrite_begins h hm dpa d fault
  refine ⟨u, hu, hwork, hhost, fun r hr => hexec r ?_⟩
  obtain rfl | rfl := hfault <;> exact hr

/-- A write that reaches its leaf, and writes there, ends with its answer. -/
theorem cxlMemWrite_ends {key line : Nat} (h : s.reachesLeaf ld.val (s.dpaOf ld.val dpa) true c key line) (hro : c.rdonly = false)
    (hterm : s.termHolds c.cid = false) (hs : (s.leaf key).res = true → s.frameServes (s.leaf key).ptr = true) {fault : PathFault}
    (hfault : fault = .none ∨ fault = .transport) :
    ∃ u w, Reached s u ∧ WalkedTo s u w.cid w.page ∧ w.cid = c.cid ∧ w.page = (s.dpaOf ld.val dpa - c.dpa) / 4096
      ∧ w.data = some (d, markOf fault) ∧ key = leafKey w.cid w.page ∧ line = w.line
      ∧ ∀ q, u.writePage w = q.completeWrite w.ld w.dpa → Written (u.lookup w.cid w.page) q →
        ∃ t, exec (.cxlMemWrite ld dpa d fault) s = .next t ∧ WriteEnds s q t ld (s.dpaOf ld.val dpa) := by
  obtain ⟨hready, hm, hleaf⟩ := h
  obtain ⟨u, hu, -, hhost, hexec⟩ := cxlMemWrite_goes (dpa := dpa) (d := d) hready hm hfault
  have hwrite := hostWrite_writes (hu.leafAt hleaf) d (bad := markOf fault) (.inl hro) (by rw [hu.termHolds]; exact hterm)
  have hwalked := leafAt_walkedTo hu hleaf hs
  have hcoupling := couplingAt_ld hleaf.1
  obtain ⟨-, -, -, -, hkey, hline, -⟩ := hleaf
  refine ⟨u, u.accepted c (s.dpaOf ld.val dpa) (some (d, markOf fault)), hu, hwalked, rfl, rfl, rfl, hkey, hline, fun q hq hw => ?_⟩
  have hfrom := hwalked.looked.writtenFrom ((lookup_host ..).trans hhost) hw
  obtain ⟨hout, hends⟩ := hfrom.completes (memOpen_carries hready.1) (s.dpaOf ld.val dpa)
  refine ⟨_, hexec _ (hwrite.trans (hq.trans ?_)) hout, hends⟩
  show q.completeWrite c.ld _ = _
  rw [hcoupling]
  rfl

end

/-! ## The writes that reach their leaf -/

section
variable {s : State} {ld : Ld} {dpa : BitVec 64} {d : Line} {c : Coupling} {key line : Nat}
  (h : s.reachesLeaf ld.val (s.dpaOf ld.val dpa) true c key line) (hro : c.rdonly = false) (hterm : s.termHolds c.cid = false)
  (hmeta : s.flush.metaHold = false)
include h hro hterm hmeta

/-- A write to a Resident page that needs no snapshot record stores its line, whole or with the poison encoding. -/
theorem cxlMemWrite_stores (hr : (s.leaf key).res = true) (hs : s.frameServes (s.leaf key).ptr = true) (hrec : s.recordFree key)
    {fault : PathFault} (hfault : fault = .none ∨ fault = .transport) : ∃ v t, Reached s v
      ∧ exec (.cxlMemWrite ld dpa d fault) s = .next t
      ∧ WriteEnds s (v.lineStored key line d (markOf fault)) t ld (s.dpaOf ld.val dpa) := by
  obtain ⟨u, w, hu, hwalked, -, -, hdata, rfl, rfl, hends⟩ := cxlMemWrite_ends (d := d) h hro hterm (fun _ => hs) hfault
  have hmark : markOf fault ≠ .injected := by obtain rfl | rfl := hfault <;> decide
  obtain ⟨t, hexec, ht⟩ := hends ((u.lookup w.cid w.page).lineStored (leafKey w.cid w.page) w.line d (markOf fault))
    (by rw [writePage_resident hwalked hmeta hdata hr hs hrec, storeLine_stores, if_neg hmark]) (lineStored_stores ..).toWritten
  exact ⟨_, t, hwalked.looked, hexec, ht⟩

end

/-- A line that is stored where a request was received is in its page's frame, and nowhere else. -/
theorem Reached.stored {s v : State} (hv : Reached s v) (key line : Nat) (d : Line) (bad : WriteMark) :
    (v.lineStored key line d bad).frame (s.leaf key).ptr = s.pageCipher key ((s.residentImage key).stored line d bad)
    ∧ (v.lineStored key line d bad).leaf key
      = { s.leaf key with dirty := true, acc := true, ttag := (s.carriage (leafCid key)).term % 256 }
    ∧ (∀ k, k ≠ key → (v.lineStored key line d bad).leaf k = s.leaf k)
    ∧ (∀ f, f ≠ (s.leaf key).ptr → (v.lineStored key line d bad).frame f = s.frame f)
    ∧ (v.lineStored key line d bad).flush.age = (v.markDirty key).flush.age := by
  obtain ⟨-, hleaf, hleaves, hcontent, hframes, hage⟩ := lineStored_stores v key line d bad
  rw [hv.leaf] at hleaf hcontent hframes
  rw [hv.residentImage, hv.pageCipher] at hcontent
  rw [hv.carriage] at hleaf
  exact ⟨hcontent, hleaf, fun k hk => (hleaves k hk).trans (hv.leaf k), fun f hf => (hframes f hf).trans (hv.frames f), hage⟩

theorem WriteEnds.stored {s v t : State} {ld : Ld} {a key line : Nat} {d : Line} {bad : WriteMark} (hv : Reached s v)
    (h : WriteEnds s (v.lineStored key line d bad) t ld a) :
    t.frame (s.leaf key).ptr = s.pageCipher key ((s.residentImage key).stored line d bad)
    ∧ t.leaf key = { s.leaf key with dirty := true, acc := true, ttag := (s.carriage (leafCid key)).term % 256 }
    ∧ (∀ k, k ≠ key → t.leaf k = s.leaf k) ∧ (∀ f, f ≠ (s.leaf key).ptr → t.frame f = s.frame f)
    ∧ t.flush.age = (v.markDirty key).flush.age := by
  obtain ⟨hcontent, hleaf, hleaves, hframes, hage⟩ := hv.stored key line d bad
  exact ⟨(h.frames _).trans hcontent, (h.leaf _).trans hleaf, fun k hk => (h.leaf k).trans (hleaves k hk),
    fun f hf => (h.frames f).trans (hframes f hf), (congrArg Flush.age h.flush).trans hage⟩

/-- A page enters the age list at its end where it was not dirty before (R149, R204). -/
theorem Reached.markDirty_age {s v : State} (h : Reached s v) (key : Nat) :
    ((s.leaf key).inResidue = true → (v.markDirty key).flush.age = s.flush.age)
    ∧ ((s.leaf key).inResidue = false → (v.markDirty key).flush.age = s.flush.age.filter (fun e => e.key ≠ key)
      ++ [{ key := key, time := (s.uptime + 9999999) / 10000000 * 10000000, retry := 0 }]) := by
  rw [← h.leaf, ← h.flush, ← h.uptime]
  exact ⟨markDirty_age_of_residue, markDirty_age_of_clean⟩

theorem cxlMemWrite_resident {s : State} {ld : Ld} {dpa : BitVec 64} {c : Coupling} {key line : Nat} (d : Line)
    (h : s.reachesLeaf ld.val (s.dpaOf ld.val dpa) true c key line) (hro : c.rdonly = false) (hterm : s.termHolds c.cid = false)
    (hmeta : s.flush.metaHold = false) (hr : (s.leaf key).res = true) (hs : s.frameServes (s.leaf key).ptr = true)
    (hrec : s.recordFree key) : ∃ t u, exec (.cxlMemWrite ld dpa d .none) s = .next t ∧ exec (.cxlMemWrite ld dpa d .transport) s = .next u
      ∧ t.out.host = [.written ld.val (s.dpaOf ld.val dpa) (s.writeLoad ld.val)]
      ∧ u.out.host = [.written ld.val (s.dpaOf ld.val dpa) (s.writeLoad ld.val)]
      ∧ t.frame (s.leaf key).ptr = s.pageCipher key ((s.residentImage key).write line d)
      ∧ u.frame (s.leaf key).ptr = s.pageCipher key ((s.residentImage key).poison line)
      ∧ t.leaf key = { s.leaf key with dirty := true, acc := true, ttag := (s.carriage (leafCid key)).term % 256 }
      ∧ (∀ k, k ≠ key → t.leaf k = s.leaf k) ∧ (∀ f, f ≠ (s.leaf key).ptr → t.frame f = s.frame f)
      ∧ ((s.leaf key).inResidue = true → t.flush.age = s.flush.age)
      ∧ ((s.leaf key).inResidue = false → t.flush.age = s.flush.age.filter (fun e => e.key ≠ key)
          ++ [{ key := key, time := (s.uptime + 9999999) / 10000000 * 10000000, retry := 0 }])
      ∧ t.objectsAs s [OD.ticketSkipped, OD.ticketNextTicket, OD.ticketGeneration]
      ∧ (s.get OD.qosThrottleState = 0 → s.ctl.mode ≠ .save → t.host = s.host)
      ∧ t = { s with od := t.od, log := t.log, perf := t.perf, tickets := t.tickets, free := t.free, tables := t.tables,
                     work := t.work, flush := t.flush, dram := t.dram, host := t.host, out := t.out } := by
  obtain ⟨v, t, hv, ht, hends⟩ := cxlMemWrite_stores (d := d) h hro hterm hmeta hr hs hrec (.inl rfl)
  obtain ⟨v', u, hv', hu, hends'⟩ := cxlMemWrite_stores (d := d) h hro hterm hmeta hr hs hrec (.inr rfl)
  obtain ⟨hframe, hleaf, hleaves, hframes, hage⟩ := hends.stored hv
  obtain ⟨hresidue, hclean⟩ := hv.markDirty_age key
  refine ⟨t, u, ht, hu, hends.answer, hends'.answer, hframe, (hends'.stored hv').1, hleaf, hleaves, hframes,
    fun hin => hage.trans (hresidue hin), fun hout => hage.trans (hclean hout), fun n hn hd => ?_,
    fun hthrottle hsave => hends.host hthrottle h.2.1 hsave, hends.frame⟩
  obtain ⟨hskipped, hstored⟩ : n ≠ OD.ticketSkipped ∧ n ∉ [OD.ticketNextTicket, OD.ticketGeneration] := by simpa using hn
  have hline : (v.lineStored key line d (markOf .none)).get n = v.get n := lineStored_get hd v key line d
  rw [hends.objects n hstored hd, hline, hv.objects n hskipped]

/-- A page that has been filled where a write was received is in the frame taken, and nothing else has changed. -/
theorem WriteEnds.filled {s v q t : State} {ld : Ld} {a key f : Nat} {im : Image} (hv : Reached s v) (hq : PageFilled v q key f im)
    (h : WriteEnds s q t ld a) : t.out.host = [.written ld.val a (s.writeLoad ld.val)]
    ∧ t.leaf key = { Leaf.empty with res := true, ptr := f, dirty := true, acc := true, ttag := (s.carriage (leafCid key)).term % 256 }
    ∧ t.frame f = s.pageCipher key im ∧ (∀ k, k ≠ key → t.leaf k = s.leaf k) ∧ (∀ g, g ≠ f → t.frame g = s.frame g) := by
  obtain ⟨-, hleaf, hleaves, hcontent, hframes⟩ := hq
  rw [hv.carriage] at hleaf
  rw [hv.pageCipher] at hcontent
  exact ⟨h.answer, (h.leaf _).trans hleaf, (h.frames _).trans hcontent,
    fun k hk => (h.leaf k).trans ((hleaves k hk).trans (hv.leaf k)), fun g hg => (h.frames g).trans ((hframes g hg).trans (hv.frames g))⟩

section
variable {s : State} {ld : Ld} {dpa : BitVec 64} {c : Coupling} {key line : Nat} (d : Line)
  (h : s.reachesLeaf ld.val (s.dpaOf ld.val dpa) true c key line) (hro : c.rdonly = false) (hterm : s.termHolds c.cid = false)
  (hmeta : s.flush.metaHold = false) {f : Nat} {s' : State} (hr : (s.leaf key).res = false)
  (hback : s.backingUsed < s.get OD.spaceBackingPagesTotal) (hgrown : s.pathGrown c.cid ((s.dpaOf ld.val dpa - c.dpa) / 4096))
  (hf : s.takeFrame = some (f, s'))
include h hro hterm hmeta hr hback hgrown hf

theorem cxlMemWrite_unallocated (hflc : (s.leaf key).flc = false) (hdepot : (s.leaf key).depot = false) :
    ∃ t, exec (.cxlMemWrite ld dpa d .none) s = .next t ∧ t.out.host = [.written ld.val (s.dpaOf ld.val dpa) (s.writeLoad ld.val)]
      ∧ t.leaf key = { Leaf.empty with res := true, ptr := f, dirty := true, acc := true, ttag := (s.carriage (leafCid key)).term % 256 }
      ∧ t.frame f = s.pageCipher key (Image.zero.write line d) ∧ (∀ k, k ≠ key → t.leaf k = s.leaf k)
      ∧ (∀ g, g ≠ f → t.frame g = s.frame g) := by
  obtain ⟨u, w, hu, hwalked, hcid, hpage, hdata, rfl, rfl, hends⟩ :=
    cxlMemWrite_ends (d := d) h hro hterm (fun hr' => absurd (hr.symm.trans hr') (by decide)) (.inl rfl)
  rw [← hcid, ← hpage] at hgrown
  obtain ⟨q, hq, hfilled⟩ := writeUnallocated_fills hwalked.looked hback hgrown hf hdata
  obtain ⟨t, hexec, ht⟩ := hends q (by rw [writePage_unallocated hwalked hmeta hdepot hr hflc, hq]) hfilled.toWritten
  exact ⟨t, hexec, ht.filled hwalked.looked hfilled⟩

theorem cxlMemWrite_depot {i : Nat} (hdepot : (s.leaf key).depot = true) (hi : i = (s.leaf key).ptr) (hcheck : s.checkDepot c.cid i = .ok)
    (hpois : (s.depotEntry i).pois = false) (hsound : (s.depotEntry i).damaged = false)
    (hslot : s.work.delayed.any (loadsSlot (s.depotEntry i).slot) = false) (hres : (s.depotEntry i).res = true)
    (hs : s.frameServes (s.depotEntry i).frame = true) :
    ∃ t, exec (.cxlMemWrite ld dpa d .none) s = .next t ∧ t.out.host = [.written ld.val (s.dpaOf ld.val dpa) (s.writeLoad ld.val)]
      ∧ t.leaf key = { Leaf.empty with res := true, ptr := f, dirty := true, acc := true, ttag := (s.carriage (leafCid key)).term % 256 }
      ∧ t.frame f = s.pageCipher key ((s.depotImage i).write line d) ∧ (∀ k, k ≠ key → t.leaf k = s.leaf k)
      ∧ (∀ g, g ≠ f → t.frame g = s.frame g) := by
  obtain ⟨u, w, hu, hwalked, hcid, hpage, hdata, rfl, rfl, hends⟩ :=
    cxlMemWrite_ends (d := d) h hro hterm (fun hr' => absurd (hr.symm.trans hr') (by decide)) (.inl rfl)
  rw [← hcid, ← hpage] at hgrown
  rw [← hcid] at hcheck
  obtain ⟨q, hq, hfilled⟩ := writeDepot_fills hwalked.looked hback hgrown hf hdata hi hcheck hpois hsound hslot hres hs
  obtain ⟨t, hexec, ht⟩ := hends q (by rw [writePage_depot hwalked hmeta hdepot hr, hq]) hfilled.toWritten
  exact ⟨t, hexec, ht.filled hwalked.looked hfilled⟩

end

/-! ## The writes that change no page -/

/-- The state in which a write has been discarded, before its completion (R120, R147). -/
def State.oneDiscarded (s : State) : State := { s with work := { s.work with discarded := s.work.discarded + 1 } }

theorem oneDiscarded_aside (s : State) : Aside s s.oneDiscarded :=
  ⟨⟨⟨_, _, _, _, _, _, _, _, rfl⟩, rfl, rfl, rfl, rfl, fun _ _ => rfl⟩, rfl, rfl⟩

/-- A discarded write that somebody waits for completes. -/
theorem discardAs_plain (s : State) {w : Waiter} {d : Line} (hd : w.data = some (d, .plain)) :
    s.discardAs w = s.oneDiscarded.completeWrite w.ld w.dpa := by
  simp only [State.discardAs, hd]
  rfl

/-- A write to a poisoned page is discarded where its leaf is reached (R147). -/
theorem writePage_poisoned {s u : State} (hu : Reached s u) {w : Waiter} (hwalk : s.walkServes w.cid w.page)
    (hpois : (s.leaf (leafKey w.cid w.page)).pois = true) (hr : (s.leaf (leafKey w.cid w.page)).res = false) :
    u.writePage w = ((u.lookup w.cid w.page).raise 0x2040 0 [(.carriage, w.cid)]).discardAs w := by
  have hleaf := (hu.lookup w.cid w.page).leaf (leafKey w.cid w.page)
  have hstays : (u.lookup w.cid w.page).thawPage (leafKey w.cid w.page) = u.lookup w.cid w.page :=
    thawPage_serves fun hr' => absurd ((hleaf ▸ hr).symm.trans hr') (by decide)
  unfold State.writePage
  simp only [thawWalk_serves _ _ _ (hu.walkServes hwalk), walkWaits_serves _ _ _ (hu.walkServes hwalk), hstays, hleaf, hpois, Bool.or_true,
    Bool.false_eq_true, if_false, if_true]

section
variable {s : State} {ld : Ld} {dpa : BitVec 64} {d : Line}

/-- A write that ends without reaching its leaf is answered. -/
theorem cxlMemWrite_completes (h : s.memReady ld.val true) (hm : s.ctl.mode ≠ .freeze) {P : State → State → Prop}
    (hq : ∀ u, Reached s u → u.work = s.work → u.host = s.host → ∃ q, u.hostWrite ld.val (s.dpaOf ld.val dpa) d .plain
      = q.completeWrite ld.val (s.dpaOf ld.val dpa) ∧ WrittenFrom s q ∧ P u q) :
    ∃ u q t, exec (.cxlMemWrite ld dpa d .none) s = .next t ∧ WriteEnds s q t ld (s.dpaOf ld.val dpa) ∧ Reached s u ∧ u.work = s.work
      ∧ P u q := by
  obtain ⟨u, hu, hwork, hhost, hexec⟩ := cxlMemWrite_goes (dpa := dpa) (d := d) h hm (.inl rfl)
  obtain ⟨q, hwrite, hfrom, hP⟩ := hq u hu hwork hhost
  obtain ⟨hout, hends⟩ := hfrom.completes (memOpen_carries h.1) (s.dpaOf ld.val dpa)
  exact ⟨u, q, _, hexec _ hwrite hout, hends, hu, hwork, hP⟩

theorem Reached.refused {u : State} (hu : Reached s u) (hh : u.host = s.host) (ld : Ld) (code : Nat) (is : List (ItemKind × Nat)) :
    WrittenFrom s (u.accessRefused ld.val code is) := by
  have hobjects : ∀ k, PortObject k → (u.accessRefused ld.val code is).get k = s.get k := fun k hk =>
    (accessRefused_get_other u ld code is (Nat.lt_trans hk.low (by decide))
      (by simp only [PortObject, OD.ldRefusedAccesses] at *; omega)).trans ((hu.portAs hh).objects k hk)
  obtain ⟨o, l, p, hframe⟩ := accessRefused_frame u ld code is
  rw [hframe] at hobjects ⊢
  refine ⟨⟨hh, hu.waiters, hu.ctl, hu.answers, hobjects⟩, hu.badBanks, ?_⟩
  obtain ⟨o', p', k, f, y, x, c, n, rfl⟩ := hu.frame
  exact ⟨_, _, _, _, _, _, _, _, _, _, _, rfl⟩

/-- A refused write completes and is counted (R86, R87). -/
theorem cxlMemWrite_refused (h : s.memReady ld.val true) (hm : s.ctl.mode ≠ .freeze) {code : Nat} {is : List (ItemKind × Nat)}
    (hwrite : ∀ u, Reached s u → u.hostWrite ld.val (s.dpaOf ld.val dpa) d .plain
      = (u.accessRefused ld.val code is).completeWrite ld.val (s.dpaOf ld.val dpa)) :
    ∃ t, exec (.cxlMemWrite ld dpa d .none) s = .next t ∧ t.out.host = [.written ld.val (s.dpaOf ld.val dpa) (s.writeLoad ld.val)]
      ∧ t.get (OD.ldRefusedAccesses ld.val) = (s.get (OD.ldRefusedAccesses ld.val) + 1) % 2 ^ 32
      ∧ t = { s with od := t.od, log := t.log, perf := t.perf, tickets := t.tickets, free := t.free, host := t.host, out := t.out } := by
  obtain ⟨u, q, t, hexec, hends, hu, hwork, rfl⟩ := cxlMemWrite_completes (P := fun u q => q = u.accessRefused ld.val code is) h hm
    fun u hu _ hh => ⟨_, hwrite u hu, hu.refused hh ld code is, rfl⟩
  obtain ⟨o, l, p, hframe⟩ := accessRefused_frame u ld code is
  refine ⟨t, hexec, hends.answer, ?_, ?_⟩
  · rw [hends.objects _ (by simp only [List.mem_cons, List.not_mem_nil, or_false, OD.ldRefusedAccesses, OD.ticketNextTicket,
      OD.ticketGeneration]; omega) (ldRefusedAccesses_undropped ld), accessRefused_get _ _ _ _ (ldRefusedAccesses_undropped ld),
      if_pos rfl, hu.get (by simp only [OD.ldRefusedAccesses, OD.logbookDroppedNote]; omega)]
  · have ht := hends.frame
    rw [hends.tables, hends.work, hends.flush, hends.dram, hframe] at ht
    rw [hu.tables, hwork, hu.flush, hu.dram] at ht
    exact ht

theorem cxlMemWrite_uncoupled (h : s.memReady ld.val true) (hm : s.ctl.mode ≠ .freeze) (hc : s.reaching ld.val (s.dpaOf ld.val dpa) = none) :
    ∃ t, exec (.cxlMemWrite ld dpa d .none) s = .next t ∧ t.out.host = [.written ld.val (s.dpaOf ld.val dpa) (s.writeLoad ld.val)]
      ∧ t.get (OD.ldRefusedAccesses ld.val) = (s.get (OD.ldRefusedAccesses ld.val) + 1) % 2 ^ 32
      ∧ t = { s with od := t.od, log := t.log, perf := t.perf, tickets := t.tickets, free := t.free, host := t.host, out := t.out } :=
  cxlMemWrite_refused h hm (code := 0x1040) (is := [(.ld, ld.val), dpaItem (s.dpaOf ld.val dpa)]) fun u hu => by
    simp only [State.hostWrite, hu.reaching, hc]
    rfl

/-- A request that waits joins the held requests, in its order. -/
theorem wait_waits (s : State) (w : Waiter) : ∃ x n, (x.ld = w.ld ∧ x.dpa = w.dpa ∧ x.cid = w.cid ∧ x.page = w.page ∧ x.data = w.data
    ∧ x.held = w.held) ∧ s.wait w = { s with work := { s.work with waiters := s.work.waiters ++ [x], orders := n } } := by
  unfold State.wait
  refine ⟨_, _, ?_, rfl⟩
  split <;> exact ⟨rfl, rfl, rfl, rfl, rfl, rfl⟩

section
variable {c : Coupling} (h : s.memReady ld.val true) (hm : s.ctl.mode ≠ .freeze) (hc : s.reaching ld.val (s.dpaOf ld.val dpa) = some c)
include h hm hc

theorem cxlMemWrite_rdonly (hro : c.rdonly = true) :
    ∃ t, exec (.cxlMemWrite ld dpa d .none) s = .next t ∧ t.out.host = [.written ld.val (s.dpaOf ld.val dpa) (s.writeLoad ld.val)]
      ∧ t.get (OD.ldRefusedAccesses ld.val) = (s.get (OD.ldRefusedAccesses ld.val) + 1) % 2 ^ 32
      ∧ t = { s with od := t.od, log := t.log, perf := t.perf, tickets := t.tickets, free := t.free, host := t.host, out := t.out } :=
  cxlMemWrite_refused h hm (code := 0x1041) (is := [(.ld, ld.val)]) fun u hu => by
    have hrefuses : (c.rdonly && WriteMark.plain != .injected) = true := by simp [hro]
    simp only [State.hostWrite, hu.reaching, hc, hrefuses, if_true]
    rfl

/-- A write to a damaged carriage is discarded (R120). -/
theorem cxlMemWrite_damaged (hro : c.rdonly = false) (hterm : s.termHolds c.cid = false) (hdamaged : (s.carriage c.cid).damaged = true) :
    ∃ t, exec (.cxlMemWrite ld dpa d .none) s = .next t ∧ t.out.host = [.written ld.val (s.dpaOf ld.val dpa) (s.writeLoad ld.val)]
      ∧ t.work.discarded = s.work.discarded + 1
      ∧ t = { s with od := t.od, log := t.log, perf := t.perf, tickets := t.tickets, free := t.free, work := t.work, host := t.host,
                     out := t.out } := by
  obtain ⟨u, q, t, hexec, hends, hu, hwork, rfl⟩ := cxlMemWrite_completes (dpa := dpa) (d := d) (P := fun u q => q = u.oneDiscarded) h hm
    fun u hu _ hh => by
      refine ⟨_, ?_, hu.writtenFrom hh (oneDiscarded_aside u).toWritten, rfl⟩
      have hdamaged' : (u.carriage (u.accepted c (s.dpaOf ld.val dpa) (some (d, .plain))).cid).damaged = true := by
        rw [hu.carriage]
        exact hdamaged
      rw [hostWrite_takes ((hu.reaching ld _).trans hc) d (.inl hro), takeWrite_serves ((hu.termHolds _).trans hterm), State.serveWrite,
        if_pos hdamaged', discardAs_plain _ rfl, ← couplingAt_ld hc]
      rfl
  refine ⟨t, hexec, hends.answer, ?_, ?_⟩
  · rw [hends.work, State.oneDiscarded, hwork]
  · have ht := hends.frame
    rw [hends.tables, hends.flush, hends.dram] at ht
    exact ht.trans (by simp only [State.oneDiscarded, hu.tables, hu.flush, hu.dram])

/-- A write to a carriage whose term is ending is held (R177). -/
theorem cxlMemWrite_held (hro : c.rdonly = false) (hterm : s.termHolds c.cid = true) : ∃ t w, exec (.cxlMemWrite ld dpa d .none) s = .next t
    ∧ t.out.host = [] ∧ t.tables = s.tables ∧ t.dram = s.dram ∧ t.work.waiters = s.work.waiters ++ [w] ∧ w.ld = c.ld
    ∧ w.dpa = s.dpaOf ld.val dpa ∧ w.cid = c.cid ∧ w.page = (s.dpaOf ld.val dpa - c.dpa) / 4096 ∧ w.data = some (d, .plain)
    ∧ w.held = true := by
  obtain ⟨u, hu, -, -, hexec⟩ := cxlMemWrite_goes (dpa := dpa) (d := d) h hm (.inl rfl)
  have hwrite : u.hostWrite ld.val (s.dpaOf ld.val dpa) d .plain
      = u.wait { u.accepted c (s.dpaOf ld.val dpa) (some (d, .plain)) with held := true } := by
    rw [hostWrite_takes ((hu.reaching ld _).trans hc) d (.inl hro)]
    exact if_pos ((hu.termHolds _).trans hterm)
  generalize hw : ({ u.accepted c (s.dpaOf ld.val dpa) (some (d, .plain)) with held := true } : Waiter) = w at hwrite
  obtain ⟨x, n, hx, hwait⟩ := wait_waits u w
  rw [hwait] at hwrite
  have ht := settleTickets_stores { u with work := { u.work with waiters := u.work.waiters ++ [x], orders := n } }
  refine ⟨_, x, hexec _ hwrite ⟨congrArg _ hu.iso, hu.badBanks, congrArg _ hu.crypt⟩, (congrArg Outputs.host ht.out).trans hu.answers,
    ht.tables.trans hu.tables, ht.dram.trans hu.dram, ?_, ?_⟩
  · rw [ht.work, hu.waiters]
  · obtain ⟨hld, hdpa, hcid, hpage, hdata, hheld⟩ := hx
    rw [hld, hdpa, hcid, hpage, hdata, hheld, ← hw]
    exact ⟨rfl, rfl, rfl, rfl, rfl, rfl⟩

/-- A write to a poisoned page is discarded (R147). -/
theorem cxlMemWrite_poisoned (hro : c.rdonly = false) (hterm : s.termHolds c.cid = false) (hsound : (s.carriage c.cid).damaged = false)
    (hfree : s.lineFree ld.val (s.dpaOf ld.val dpa) true) (hwalk : s.walkServes c.cid ((s.dpaOf ld.val dpa - c.dpa) / 4096))
    (hpois : (s.leaf (leafKey c.cid ((s.dpaOf ld.val dpa - c.dpa) / 4096))).pois = true)
    (hr : (s.leaf (leafKey c.cid ((s.dpaOf ld.val dpa - c.dpa) / 4096))).res = false) :
    ∃ t, exec (.cxlMemWrite ld dpa d .none) s = .next t ∧ t.out.host = [.written ld.val (s.dpaOf ld.val dpa) (s.writeLoad ld.val)]
      ∧ t.work.discarded = s.work.discarded + 1 ∧ t.tables = s.tables ∧ t.dram = s.dram := by
  obtain ⟨u, q, t, hexec, hends, hu, hwork, v, hv, rfl⟩ := cxlMemWrite_completes (dpa := dpa) (d := d)
    (P := fun u q => ∃ v, v = u.lookup c.cid ((s.dpaOf ld.val dpa - c.dpa) / 4096)
      ∧ q = (v.raise 0x2040 0 [(.carriage, c.cid)]).oneDiscarded) h hm fun u hu hwork hh => by
      have hlooked := hu.lookup c.cid ((s.dpaOf ld.val dpa - c.dpa) / 4096)
      refine ⟨_, ?_, hlooked.writtenFrom ((lookup_host ..).trans hh) ((raise_aside ..).trans (oneDiscarded_aside _)).toWritten, _, rfl, rfl⟩
      have hsound' : (u.carriage (u.accepted c (s.dpaOf ld.val dpa) (some (d, .plain))).cid).damaged = false := by
        rw [hu.carriage]
        exact hsound
      have hother : u.behindOther (u.accepted c (s.dpaOf ld.val dpa) (some (d, .plain))) = false := by
        refine behindOther_lineFree _ _ ?_
        simpa [State.accepted, couplingAt_ld hc, State.lineFree, hu.waiters] using hfree
      have hpage := writePage_poisoned hu (w := u.accepted c (s.dpaOf ld.val dpa) (some (d, .plain))) hwalk hpois hr
      rw [hostWrite_takes ((hu.reaching ld _).trans hc) d (.inl hro), takeWrite_serves ((hu.termHolds _).trans hterm), State.serveWrite,
        if_neg (by rw [hsound']; decide), if_neg (by rw [hother]; decide), hpage, discardAs_plain _ rfl, ← couplingAt_ld hc]
      rfl
  obtain ⟨l, p, o, hraised⟩ := raiseWith_frame v 0x2040 0 [(.carriage, c.cid)] []
  have hdiscarded : v.work.discarded = s.work.discarded := by
    obtain ⟨p, f, x, n, hlooked⟩ := lookup_looks u c.cid ((s.dpaOf ld.val dpa - c.dpa) / 4096)
    rw [hv, hlooked, hwork]
  have hreached : Reached s v := hv ▸ hu.lookup ..
  rw [State.oneDiscarded, State.raise, hraised] at hends
  exact ⟨t, hexec, hends.answer, by rw [hends.work, hdiscarded], hends.tables.trans hreached.tables, hends.dram.trans hreached.dram⟩

end

/-- With an IDE key on the port a write waits for its MAC (R107). -/
theorem cxlMemWrite_waits (dpa : BitVec 64) (f : PathFault) (ho : s.memOpen ld.val = true) (hm : s.ctl.mode ≠ .freeze)
    (hc : s.creditsFor ld.val true ≠ 0) (hk : (s.hostPort (ld.val / 16)).keyMem ≠ none) :
    ∃ t, exec (.cxlMemWrite ld dpa d f) s = .next t ∧ t.out.host = []
      ∧ (t.hostPort (ld.val / 16)).unverified = (s.hostPort (ld.val / 16)).unverified
        ++ [{ ld := ld.val, dpa := s.dpaOf ld.val dpa, data := some d, fault := f }]
      ∧ t = { s with host := t.host, out := t.out } := by
  have hexec := cxlMemWrite_received ho hm hc dpa d f
  rw [receive_waits hk, reportSince_same (by rw [setHostPort_frame]) (by rw [setHostPort_frame]) (by rw [setHostPort_frame])] at hexec
  refine ⟨_, hexec, ?_, ?_, ?_⟩
  · rw [setHostPort_out]
    rfl
  · rw [setHostPort_hostPort, if_pos Iff.rfl]
    rfl
  · rw [setHostPort_frame]
    rfl

end

/-- Settles O17: writes that reach their leaf by what they do to its page, the others by what ends them before. -/
theorem writeCompletes : Obligations.WriteCompletes := by
  unfold Obligations.WriteCompletes
  rintro s ld dpa d _ rfl
  refine ⟨fun c key line h hro hterm hmeta => ⟨cxlMemWrite_resident d h hro hterm hmeta,
      fun f s' hr hflc hdepot hback hgrown hf => cxlMemWrite_unallocated d h hro hterm hmeta hr hback hgrown hf hflc hdepot,
      fun i f s' hr hdepot hi hcheck hpois hsound hslot hres hs hback hgrown hf =>
        cxlMemWrite_depot d h hro hterm hmeta hr hback hgrown hf hdepot hi hcheck hpois hsound hslot hres hs⟩,
    fun c h hm hc => ⟨cxlMemWrite_rdonly h hm hc, cxlMemWrite_damaged h hm hc, fun hro => ⟨cxlMemWrite_held h hm hc hro,
      cxlMemWrite_poisoned h hm hc hro⟩⟩,
    cxlMemWrite_uncoupled, fun f => cxlMemWrite_waits dpa f⟩

end Sys2Proof.Machine
end

section
/-! SUPPORT. Poison by mailbox: its lists, a page that is filled again, a line that is injected (R74, R108, R153, R155, R298); the
obligation MailboxPoison (O25) stands at the end. -/
namespace Sys2Proof.Machine

/-! ## The lists of poisoned pages (R108) -/

theorem mediaRecord_length (e : Nat × Nat) : (mediaRecord e).length = 16 := by simp [mediaRecord]

theorem mediaRecords_length {α : Type} (f : α → Nat × Nat) (es : List α) :
    (es.flatMap (fun e => mediaRecord (f e))).length = 16 * es.length := by
  induction es with
  | nil => rfl
  | cons e es ih => rw [List.flatMap_cons, List.length_append, ih, mediaRecord_length, List.length_cons, Nat.mul_succ, Nat.add_comm]

/-- The payload of Get Poison List: its records stand behind 32 bytes. -/
theorem poisonListAct_payload (s : State) (ld : Nat) : ∃ head : List Byte, head.length = 32 ∧ (poisonListAct ld s).2.2
    = head ++ (((s.poisonList ld).drop (s.mail ld).poisonNext).take 126).flatMap mediaRecord :=
  ⟨_, by simp, rfl⟩

theorem mbxGetPoisonList_reports {s : State} {ld : Ld} (h : s.mailboxUp ld.val = true) : ∃ t p, exec (.mbxGetPoisonList ld) s = .next t
    ∧ t.out.mailbox = some { ld := ld.val, code := 0, payload := p }
    ∧ p.length = 32 + 16 * min 126 ((s.poisonList ld.val).length - (s.mail ld.val).poisonNext)
    ∧ ((s.mail ld.val).poisonNext = 0 → ∀ e es, s.poisonList ld.val = e :: es → field p 32 8 = e.1 % 2 ^ 64)
    ∧ t = { s with host := t.host, out := t.out } := by
  obtain ⟨head, hlen, hp⟩ := poisonListAct_payload s ld.val
  have hexec : exec (.mbxGetPoisonList ld) s = .next ((poisonListAct ld.val s).1.mailed ld 0 (poisonListAct ld.val s).2.2) := runMail_up h _
  refine ⟨_, _, hexec, rfl, ?_, fun hnext e es he => ?_, rfl⟩
  · rw [hp, List.length_append, hlen]
    exact congrArg (32 + ·) ((mediaRecords_length id _).trans (by rw [List.length_take, List.length_drop]))
  · have hfirst := field_append_right head (((s.poisonList ld.val).take 126).flatMap mediaRecord) 0 8
    rw [hlen] at hfirst
    rw [hp, hnext, List.drop_zero]
    refine hfirst.trans ?_
    rw [he, List.take_succ_cons, List.flatMap_cons, mediaRecord, List.append_assoc, List.append_assoc, field_toBytes_append]
    rfl

theorem mbxScanMedia_scans {s : State} {ld : Ld} (h : s.mailboxUp ld.val = true) (dpa length : BitVec 64)
    (hidle : (s.mail ld.val).background.1 ≠ 0xC001) (hend : dpa.toNat + 64 * length.toNat ≤ s.get (OD.ldWindowSize ld.val)) :
    ∃ t, exec (.mbxScanMedia ld dpa length) s = .next t ∧ (t.mail ld.val).scan = s.scanRange ld.val dpa.toNat length.toNat
      ∧ (t.mail ld.val).background = (0x4304, 100, 0) ∧ t.out.mailbox = some { ld := ld.val, code := 1, payload := [] }
      ∧ (∀ n, n ≠ ld.val → t.mail n = s.mail n) ∧ t = { s with host := t.host, out := t.out } := by
  generalize hm : ({ s.mail ld.val with background := (0x4304, 100, 0), scan := s.scanRange ld.val dpa.toNat length.toNat,
                                        scanned := true } : MailboxState) = m
  have hexec : exec (.mbxScanMedia ld dpa length) s = .next ((s.setMail ld.val m).mailed ld 1 []) := by
    show execMbxScanMedia ld dpa length s = _
    simp only [execMbxScanMedia, runMail_up h, scanMediaAct, hidle, if_false, Nat.not_lt.mpr hend, hm]
    rfl
  have hmail : ((s.setMail ld.val m).mailed ld 1 []).mail ld.val = m := setMail_mail_same ..
  refine ⟨_, hexec, ?_, ?_, rfl, fun n hn => setMail_mail_other s m hn, rfl⟩
  · rw [hmail, ← hm]
  · rw [hmail, ← hm]

theorem mbxGetScanMediaResults_reports {s : State} {ld : Ld} (h : s.mailboxUp ld.val = true) :
    ∃ t p, exec (.mbxGetScanMediaResults ld) s = .next t ∧ t.out.mailbox = some { ld := ld.val, code := 0, payload := p }
      ∧ p.length = 32 + 16 * min 126 (s.mail ld.val).scan.length ∧ (t.mail ld.val).scan = (s.mail ld.val).scan.drop 126
      ∧ t = { s with host := t.host, out := t.out } := by
  obtain ⟨head, hlen, hexec⟩ : ∃ head : List Byte, head.length = 32 ∧ exec (.mbxGetScanMediaResults ld) s
      = .next ((s.setMail ld.val { s.mail ld.val with scan := (s.mail ld.val).scan.drop 126 }).mailed ld 0
        (head ++ ((s.mail ld.val).scan.take 126).flatMap (fun a => mediaRecord (a, 4096)))) :=
    ⟨toBytes 16 0 ++ toBytes 1 (if 126 < (s.mail ld.val).scan.length then 1 else 0) ++ toBytes 1 0
      ++ toBytes 2 ((s.mail ld.val).scan.take 126).length ++ List.replicate 12 0#8, by simp, if_pos h⟩
  refine ⟨_, _, hexec, rfl, ?_, congrArg MailboxState.scan (setMail_mail_same ..), rfl⟩
  rw [List.length_append, mediaRecords_length, List.length_take, hlen]

/-! ## A page that is filled again (R155) -/

/-- Steps that leave leaves and frames alone leave a page its place. -/
theorem Aside.keepsPlace {s t : State} (h : Aside s t) (key : Nat) : KeepsPlace key s t := by
  refine ⟨by rw [h.leaf], by rw [h.leaf], by rw [h.leaf], fun k _ => h.leaf k, h.carriages, h.interior, h.frames, ?_⟩
  obtain ⟨tb, w, fl, d, l, p, o, f, rfl⟩ := h.frame
  rfl

theorem setFlashCopy_keepsPlace (s : State) (name : Nat) (x : FlashCopy) (key : Nat) : KeepsPlace key s (s.setFlashCopy name x) := by
  obtain ⟨f, a, c, n, m, l, p, o, h⟩ := setFlashCopy_frame s name x
  rw [h]
  exact ⟨rfl, rfl, rfl, fun _ _ => rfl, rfl, rfl, rfl, rfl⟩

theorem releaseRecord_keepsPlace (s : State) (cid : Nat) (r : SnapRecord) (key : Nat) : KeepsPlace key s (State.releaseRecord cid s r) := by
  unfold State.releaseRecord
  cases r.kind with
  | zero => exact .refl key s
  | frame f => exact .refl key s
  | copy => exact setFlashCopy_keepsPlace ..
  | depot i => exact (depotUnref_aside s i).keepsPlace key

theorem releaseRecords_keepsPlace (cid key : Nat) (rs : List SnapRecord) (s : State) :
    KeepsPlace key s (rs.foldl (State.releaseRecord cid) s) := by
  induction rs generalizing s with
  | nil => exact .refl key s
  | cons r rs ih => exact (releaseRecord_keepsPlace s cid r key).trans (ih _)

theorem dropSnapshot_keepsPlace (s : State) (cid cause key : Nat) : KeepsPlace key s (s.dropSnapshot cid cause) := by
  have hnoted : ∀ t : State, KeepsPlace key t { t with tables := { t.tables with dropped := cid :: t.tables.dropped } } :=
    fun t => ⟨rfl, rfl, rfl, fun _ _ => rfl, rfl, rfl, rfl, rfl⟩
  unfold State.dropSnapshot
  split
  · exact .refl key s
  · exact (releaseRecords_keepsPlace ..).trans (((setSnaps_aside ..).keepsPlace key).trans ((hnoted _).trans
      ((raise_aside ..).keepsPlace key)))

theorem addRecord_keepsPlace (s : State) (cid page : Nat) (r : SnapKind) (key : Nat) : KeepsPlace key s (s.addRecord cid page r) :=
  (addRecord_aside ..).keepsPlace key

theorem retainCopy_keepsPlace (s : State) (key : Nat) : KeepsPlace key s (s.retainCopy key) := by
  unfold State.retainCopy
  extract_lets cid page l c x
  split
  · have hx : KeepsPlace key s x := (setFlashCopy_keepsPlace ..).trans (freePageCopy_keepsPlace ..)
    have hadded := hx.trans (addRecord_keepsPlace x cid page (.copy l.sided l.sealed l.pois l.pageSeal) key)
    exact hadded.trans (setLeaf_keepsPlace _ key _ hadded.res.symm hadded.busy.symm hadded.ptr.symm)
  · exact dropSnapshot_keepsPlace ..

/-- The snapshot record of a page that is filled again, and the release of what it does not keep (R182). -/
theorem recordPoisoned_keepsPlace (s : State) (key : Nat) : KeepsPlace key s (s.recordPoisoned key) := by
  unfold State.recordPoisoned
  extract_lets cid page l first older
  split
  · split
    · exact addRecord_keepsPlace ..
    · exact (depotUnref_aside ..).keepsPlace key
  · split
    · split
      · exact addRecord_keepsPlace ..
      · exact .refl key s
    · split
      · split
        · exact retainCopy_keepsPlace s key
        · exact freePageCopy_keepsPlace s key
      · split
        · exact addRecord_keepsPlace ..
        · exact .refl key s

/-- A page has been filled again in `t`: it is Resident and dirty in its frame and holds its image, and no other page or frame has changed. -/
structure PageRefilled (s t : State) (key f : Nat) (im : Image) : Prop where
  leaf : t.leaf key = { Leaf.empty with res := true, ptr := f, dirty := true, acc := true, ttag := (s.carriage (leafCid key)).term % 256 }
  content : t.residentImage key = im
  leaves : ∀ k, k ≠ key → t.leaf k = s.leaf k
  frames : ∀ g, g ≠ f → t.frame g = s.frame g
  ctl : t.ctl = s.ctl

/-- A page whose entry has been cleared is filled where nothing else has changed before. -/
theorem KeepsPlace.refilled {s x t : State} {key f : Nat} {im : Image} (h : KeepsPlace key s x)
    (ht : PageFilled (x.setLeaf key Leaf.empty) t key f im) : PageRefilled s t key f im := by
  have hframe : ∀ g, (x.setLeaf key Leaf.empty).frame g = s.frame g := fun g => by simp [State.frame, h.frames]
  refine ⟨?_, ht.residentImage, fun k hk => ?_, fun g hg => (ht.frames g hg).trans (hframe g), ?_⟩
  · rw [ht.leaf]
    simp [State.carriage, h.carriages]
  · rw [ht.leaves k hk, setLeaf_leaf_other _ _ _ hk, h.leaves k hk]
  · obtain ⟨tb, w, fl, d, l, p, o, f, hframe⟩ := ht.frame
    rw [hframe, ← h.ctl]
    exact setLeaf_ctl ..

theorem refillPage_refills {s v : State} (h : Reached s v) {key line : Nat} (d : Line) (hgrown : s.pathGrown (leafCid key) (leafPage key))
    (hback : s.backingUsed < s.get OD.spaceBackingPagesTotal) {f : Nat} {s' : State} (hf : s.takeFrame = some (f, s')) :
    ∃ t, v.refillPage key line d = (t, .done) ∧ PageRefilled s t key f (Image.zero.write line d) := by
  obtain ⟨x, hx⟩ := h.takeFrame hf
  have hroom : (!(v.leaf key).allocated && v.get OD.spaceBackingPagesTotal ≤ v.backingUsed) = false := by
    rw [h.get (by decide), h.backingUsed]
    simp [Nat.not_le.mpr hback]
  have hkeeps : KeepsPlace key s (x.recordPoisoned key) := by
    have hv : KeepsPlace key s v :=
      ⟨by rw [h.leaf], by rw [h.leaf], by rw [h.leaf], fun k _ => h.leaf k, by rw [h.tables], by rw [h.tables], by rw [h.dram], h.ctl⟩
    exact hv.trans (((takeFrame_aside hx).keepsPlace key).trans (recordPoisoned_keepsPlace x key))
  refine ⟨_, ?_, hkeeps.refilled (((fillPage_fills ..).aside
    (raise_aside _ 0x2041 0 [(.carriage, leafCid key), (.u32, leafPage key)])).aside (checkSpace_aside _))⟩
  unfold State.refillPage
  dsimp only
  rw [hroom, growPath_grown (h.pathGrown hgrown)]
  dsimp only
  rw [hx]
  rfl

section
variable {s : State} {ld : Ld} (h : s.mailboxUp ld.val = true) {dpa : BitVec 64} (d : Line) {c : Coupling} {key line : Nat}
include h

theorem mbxClearPoison_nowhere (hat : s.pageAt ld.val dpa.toNat = none) :
    exec (.mbxClearPoison ld dpa d) s = .next (s.freshAnswers.mailed ld 15 []) := by
  have hat' : s.freshAnswers.pageAt ld.val dpa.toNat = none := hat
  refine (runMail_up (s := s.freshAnswers) h _).trans ?_
  simp only [clearPoisonAct, hat']
  rfl

variable (hat : s.pageAt ld.val dpa.toNat = some (c, key, line))
include hat

theorem mbxClearPoison_damaged (hd : (s.carriage (leafCid key)).damaged = true) :
    exec (.mbxClearPoison ld dpa d) s = .next (s.freshAnswers.mailed ld 4 []) := by
  have hat' : s.freshAnswers.pageAt ld.val dpa.toNat = some (c, key, line) := hat
  have hd' : (s.freshAnswers.carriage (leafCid key)).damaged = true := hd
  refine (runMail_up (s := s.freshAnswers) h _).trans ?_
  simp only [clearPoisonAct, hat', hd', if_true]
  rfl

/-- Clear Poison in a sound carriage ends as the page does. -/
theorem mbxClearPoison_clears (hd : (s.carriage (leafCid key)).damaged = false) {t : State}
    (ht : s.freshAnswers.clearPoison key line d = (t, .done)) : exec (.mbxClearPoison ld dpa d) s = .next (t.resume.mailed ld 0 []) := by
  have hat' : s.freshAnswers.pageAt ld.val dpa.toNat = some (c, key, line) := hat
  have hd' : (s.freshAnswers.carriage (leafCid key)).damaged = false := hd
  refine (runMail_up (s := s.freshAnswers) h _).trans ?_
  simp only [clearPoisonAct, hat', hd', ht, Bool.false_eq_true, if_false]
  rfl

end

/-- Clear Poison of a page fills it where it is poisoned, and does nothing elsewhere. -/
theorem clearPoison_below {s : State} {key : Nat} (h : s.poisonAbove (leafCid key) (leafPage key) = none) (line : Nat) (d : Line) :
    s.freshAnswers.clearPoison key line d
      = if (s.leaf key).pois then s.freshAnswers.refillPage key line d else (s.freshAnswers, .done) := by
  have h' : s.freshAnswers.poisonAbove (leafCid key) (leafPage key) = none := h
  simp only [State.clearPoison, h']
  rfl

/-! ## A line that is injected (R74, R298) -/

theorem mbxInjectPoison_unsupported {s : State} {ld : Ld} (h : s.mailboxUp ld.val = true) (dpa : BitVec 64)
    (hm : s.ctl.mode ≠ .maintenance) : exec (.mbxInjectPoison ld dpa) s = .next (s.freshAnswers.mailed ld 3 []) := by
  have hm' : (s.freshAnswers.ctl.mode == .maintenance) = false := beq_eq_false_iff_ne.mpr hm
  refine (runMail_up (s := s.freshAnswers) h _).trans ?_
  simp only [injectPoisonAct, hm', Bool.not_false, if_true]
  rfl

/-- An address at which a request reaches its leaf is one of its page. -/
theorem pageAt_of_leafAt {s : State} {ld a : Nat} {isWrite : Bool} {c : Coupling} {key line : Nat} (h : s.leafAt ld a isWrite c key line) :
    s.pageAt ld a = some (c, key, (a - c.dpa) / 64 % 64) := by
  obtain ⟨hreach, -, -, -, rfl, -⟩ := h
  obtain ⟨hc, hin⟩ := Option.filter_eq_some_iff.mp hreach
  obtain ⟨-, hsize⟩ : a < s.get (OD.ldWindowSize ld) ∧ a - c.dpa < (s.carriage c.cid).size * 2 ^ 21 := by simpa using hin
  simp only [State.pageAt, hc, Nat.not_le.mpr hsize, if_false]

/-- A poisoned leaf leaves the frames and the other leaves. -/
theorem poisonLeaf_poisons (s : State) (key : Nat) : ((s.poisonLeaf key).leaf key).pois = true
    ∧ (∀ k, k ≠ key → (s.poisonLeaf key).leaf k = s.leaf k) ∧ (s.poisonLeaf key).dram = s.dram ∧ (s.poisonLeaf key).out = s.out := by
  refine ⟨by rw [State.poisonLeaf, setLeaf_leaf_same], fun k hk => setLeaf_leaf_other _ _ _ hk, setLeaf_dram .., ?_⟩
  obtain ⟨a, c, n, u, m, l, p, o, h⟩ := setLeaf_frame s key { s.leaf key with pois := true }
  rw [State.poisonLeaf, h]

section
variable {s : State} {ld : Ld} {c : Coupling} {key line : Nat} (hterm : s.termHolds c.cid = false) (hmeta : s.flush.metaHold = false)
  (hr : (s.leaf key).res = true) (hs : s.frameServes (s.leaf key).ptr = true) (hrec : s.recordFree key)
include hterm hmeta hr hs hrec

/-- An injected write stores its line in the page that it reaches, and is not completed. -/
theorem hostWrite_injects {a : Nat} (hl : s.leafAt ld.val a true c key line) : ∃ v, Reached s v
    ∧ s.freshAnswers.hostWrite ld.val a 0 .injected = v.lineStored key line 0 .injected := by
  have hwalked := leafAt_walkedTo (.fresh s) hl fun _ => hs
  have hwrite := hostWrite_writes ((Reached.fresh s).leafAt hl) 0 (bad := .injected) (.inr rfl) (((Reached.fresh s).termHolds _).trans hterm)
  obtain ⟨-, -, -, -, rfl, rfl, -⟩ := hl
  have hpage := writePage_resident (w := s.freshAnswers.accepted c a (some (0, .injected))) hwalked hmeta rfl hr hs hrec
  exact ⟨_, hwalked.looked, hwrite.trans (hpage.trans (storeLine_stores ..))⟩

theorem mbxInjectPoison_injects (h : s.mailboxUp ld.val = true) {dpa : BitVec 64} (hm : s.ctl.mode = .maintenance)
    (hl : s.leafAt ld.val dpa.toNat true c key line) : ∃ t, exec (.mbxInjectPoison ld dpa) s = .next t
      ∧ t.frame (s.leaf key).ptr = s.pageCipher key ((s.residentImage key).poison line) ∧ t.out.host = []
      ∧ (t.leaf key).pois = true
      ∧ (∀ k, k ≠ key → t.leaf k = s.leaf k) ∧ (∀ f, f ≠ (s.leaf key).ptr → t.frame f = s.frame f) := by
  have hat : s.freshAnswers.pageAt ld.val dpa.toNat = some (c, key, _) := pageAt_of_leafAt ((Reached.fresh s).leafAt hl)
  have hm' : (s.freshAnswers.ctl.mode == .maintenance) = true := beq_iff_eq.mpr hm
  obtain ⟨v, hv, hwrite⟩ := hostWrite_injects hterm hmeta hr hs hrec hl
  obtain ⟨hcontent, -, hleaves, hframes, -⟩ := hv.stored key line 0 .injected
  obtain ⟨hpois, hothers, hdram, hout⟩ := poisonLeaf_poisons (v.lineStored key line 0 .injected) key
  have hexec : exec (.mbxInjectPoison ld dpa) s = .next (((v.lineStored key line 0 .injected).poisonLeaf key).mailed ld 0 []) := by
    refine (runMail_up (s := s.freshAnswers) h _).trans ?_
    simp only [injectPoisonAct, hm', hat, hwrite, Bool.not_true, Bool.false_eq_true, if_false]
    rfl
  have hframe : ∀ f, (((v.lineStored key line 0 .injected).poisonLeaf key).mailed ld 0 []).frame f
      = (v.lineStored key line 0 .injected).frame f := fun f => by
    rw [State.frame, State.frame, ← hdram]
    rfl
  have hanswers : (v.lineStored key line 0 .injected).out.host = [] := by
    obtain ⟨tb, w, fl, d, l, p, o, f, hwritten⟩ := (lineStored_stores v key line 0 .injected).frame
    rw [hwritten]
    exact hv.answers
  exact ⟨_, hexec, (hframe _).trans hcontent, (congrArg Outputs.host hout).trans hanswers, hpois,
    fun k hk => (hothers k hk).trans (hleaves k hk), fun f hf => (hframe f).trans (hframes f hf)⟩

end

/-- Settles O25: a poisoned page by its refill, an injected line by its store, the lists by their payloads. -/
theorem mailboxPoison : Obligations.MailboxPoison := by
  unfold Obligations.MailboxPoison
  intro s ld h
  refine ⟨mbxGetPoisonList_reports h, fun dpa d c key line hat habove => ⟨fun hpois hd hgrown hback f s' hf => ?_, fun hpois hd => ?_⟩,
    fun dpa d c key line hat hd => mbxClearPoison_damaged h d hat hd, fun dpa d hat => mbxClearPoison_nowhere h d hat,
    mbxInjectPoison_unsupported h,
    fun dpa c key line hm hl hterm hmeta hr hs hrec => mbxInjectPoison_injects hterm hmeta hr hs hrec h hm hl, mbxScanMedia_scans h,
    mbxGetScanMediaResults_reports h⟩
  · obtain ⟨u, hu, hrefilled⟩ := refillPage_refills (.fresh s) (line := line) d hgrown hback hf
    exact ⟨u, mbxClearPoison_clears h d hat hd (by rw [clearPoison_below habove, if_pos hpois, hu]), hrefilled.leaf, hrefilled.content,
      hrefilled.leaves, hrefilled.frames, hrefilled.ctl⟩
  · exact mbxClearPoison_clears h d hat hd (by rw [clearPoison_below habove, if_neg (by rw [hpois]; decide)])

end Sys2Proof.Machine
end

section
/-! SUPPORT. The lines that a change of the coupling table touches (R211), in a table of more couplings than its lines have numbers for; the
obligation Couplings (O33) stands at the end. -/
namespace Sys2Proof.Machine

/-! ## Lines of the coupling table -/

/-- Where the last of an LD's couplings stands alone on its line, its removal changes that line only. -/
theorem couplingLine_append_ne_iff {cs : List Coupling} {c : Coupling} {ld m : Nat} (hcs : ∀ x ∈ cs, x.ld = ld) (hc : c.ld = ld)
    (hlen : cs.length = 4 * m) (n : Nat) : couplingLine (cs ++ [c]) ld n ≠ couplingLine cs ld n ↔ n = m := by
  have hall : ∀ xs : List Coupling, (∀ x ∈ xs, x.ld = ld) → xs.filter (fun x => x.ld = ld) = xs := fun xs hxs =>
    List.filter_eq_self.mpr fun x hx => decide_eq_true (hxs x hx)
  have hboth : ∀ x ∈ cs ++ [c], x.ld = ld := by simpa [or_imp, forall_and, hc] using hcs
  simp only [couplingLine, hall cs hcs, hall _ hboth]
  obtain hn | rfl | hn := Nat.lt_trichotomy n m
  · have hroom : 4 ≤ (cs.drop (4 * n)).length := by rw [List.length_drop]; omega
    rw [List.drop_append_of_le_length (by omega), List.take_append_of_le_length hroom]
    simp [hn.ne]
  · simp [← hlen]
  · rw [List.drop_eq_nil_of_le (by rw [List.length_append, List.length_singleton]; omega), List.drop_eq_nil_of_le (by omega)]
    simp [hn.ne']

/-- A list's only member with a property is what a filter by it leaves. -/
theorem range_filter_eq {p : Nat → Bool} {m k : Nat} (hp : ∀ n, p n = true ↔ n = m) (hm : m < k) : (List.range k).filter p = [m] := by
  have hsame : p = (· == m) := funext fun n => Bool.eq_iff_iff.mpr ((hp n).trans beq_iff_eq.symm)
  rw [hsame, List.filter_beq, List.count_eq_one_of_mem List.nodup_range (List.mem_range.mpr hm)]
  rfl

theorem setCouplings_touches {s : State} {cs : List Coupling} {c : Coupling} {ld m : Nat} (hold : s.tables.couplings = cs ++ [c])
    (hcs : ∀ x ∈ cs, x.ld = ld) (hc : c.ld = ld) (hlen : cs.length = 4 * m) :
    s.setCouplings ld cs = State.touch { s with tables := { s.tables with couplings := cs } } (lineCoupling ld m) := by
  have hlines : (List.range (cs.length / 4 + 2)).filter (fun n => couplingLine s.tables.couplings ld n ≠ couplingLine cs ld n) = [m] :=
    range_filter_eq (fun n => by rw [hold, decide_eq_true_iff, couplingLine_append_ne_iff hcs hc hlen]) (by omega)
  simp only [State.setCouplings, hlines]
  rfl

/-! ## A node for a touched line (R136) -/

theorem checkNodes_tables (s : State) : s.checkNodes.tables = s.tables := by
  unfold State.checkNodes
  dsimp only
  split
  · exact note_tables ..
  · rfl

/-- A line of an auxiliary table that changes for the first time, and whose node has no frame yet, takes one. -/
theorem touch_places {s : State} {line f : Nat} (hnew : s.work.changed.contains line = false) (haux : auxLine line = true)
    (hnode : mapGet (fun _ => 0) s.tables.aux (line / 64) = 0) (hpick : s.pickNode 1 = some f) :
    (s.touch line).tables.aux = mapSet (fun _ => 0) s.tables.aux (line / 64) (f + 1) := by
  have hplaced : (State.placeAux { s with work := { s.work with changed := s.work.changed ++ [line] } } line).tables.aux
      = mapSet (fun _ => 0) s.tables.aux (line / 64) (f + 1) := by
    have hpick' : State.pickNode { s with work := { s.work with changed := s.work.changed ++ [line] } } 1 = some f := hpick
    simp only [State.placeAux, haux, hnode, hpick', Bool.not_true, Bool.false_or, ne_eq, not_true_eq_false, decide_false,
      Bool.false_eq_true, if_false, checkNodes_tables]
  unfold State.touch
  rw [if_neg (by rw [hnew]; decide)]
  dsimp only
  split
  · rw [note_tables]
    exact hplaced
  · exact hplaced

/-- A changed line of couplings whose number is one of an auxiliary table gives that table a node. -/
theorem setCouplings_places {s : State} {cs : List Coupling} {c : Coupling} {ld m f : Nat} (hold : s.tables.couplings = cs ++ [c])
    (hcs : ∀ x ∈ cs, x.ld = ld) (hc : c.ld = ld) (hlen : cs.length = 4 * m)
    (hnew : s.work.changed.contains (lineCoupling ld m) = false) (haux : auxLine (lineCoupling ld m) = true)
    (hnode : mapGet (fun _ => 0) s.tables.aux (lineCoupling ld m / 64) = 0)
    (hpick : State.pickNode { s with tables := { s.tables with couplings := cs } } 1 = some f) :
    (s.setCouplings ld cs).tables.aux = mapSet (fun _ => 0) s.tables.aux (lineCoupling ld m / 64) (f + 1) := by
  rw [setCouplings_touches hold hcs hc hlen]
  exact touch_places hnew haux hnode hpick

/-! ## UNCOUPLE of an entry (R85) -/

/-- The state in which an uncouple of an entry runs. -/
def State.uncoupled (s : State) (ld : Nat) (c : Coupling) (a : Asker) : State :=
  let s := s.setCouplings ld (s.tables.couplings.filter (· ≠ c))
  { s with terms := { s.terms with uncoupling := [(c, a)] } }

theorem uncoupled_tables (s : State) (ld : Nat) (c : Coupling) (a : Asker) :
    (s.uncoupled ld c a).tables = (s.setCouplings ld (s.tables.couplings.filter (· ≠ c))).tables := rfl

theorem exec_uncouple {s : State} {q : Req} {ld : BitVec 8} {dpa : BitVec 64} {c : Coupling}
    (h : s.accepts (.uncouple q ld dpa) = true) (hld : ld.toNat < 32) (hidle : s.terms.uncoupling = [])
    (hfind : s.tables.couplings.find? (fun c => c.ld = ld.toNat && c.dpa = dpa.toNat) = some c) : exec (.uncouple q ld dpa) s
      = .next (((s.arrived q.src).uncoupled ld.toNat c (askerOf q)).goesOnFor (.uncouple q ld dpa) OD.couplingUncouple) := by
  have hidle' : (s.arrived q.src).terms.uncoupling.isEmpty = true := by rw [arrived_terms, hidle]; rfl
  rw [← arrived_tables s q.src] at hfind
  show execUncouple q ld dpa s = _
  rw [execUncouple, runCmd_accepts _ _ _ _ _ _ rfl h]
  simp only [Nat.not_le.mpr hld, if_false, queueCoupling, hidle', if_true, uncoupleAct, hfind]
  rfl

/-! ## A table of 2^50 couplings and one more -/

/-- The coupling that is taken from the table. -/
def lastCoupling : Coupling := { ld := 0, dpa := 0, cid := 1, length := 512, rdonly := false, cls := 15 }

/-- Couplings of LD 0 that fill 2^48 lines. -/
def otherCouplings : List Coupling := List.replicate (4 * 2 ^ 48) { lastCoupling with dpa := 2 ^ 40 }

/-- The loaded unit, with those couplings. -/
def manyCoupled : State := { Tests.loaded with tables := { Tests.loaded.tables with couplings := otherCouplings ++ [lastCoupling] } }

/-- The proxy's request to uncouple DPA 0 of LD 0. -/
def uncouplesLast : Req := Tests.reqOf (cmdFrame OD.couplingUncouple (toBytes 1 0 ++ toBytes 8 0))

theorem manyCoupled_accepts : manyCoupled.accepts (.uncouple uncouplesLast 0 0) = true := by decide +kernel

theorem otherCouplings_ld : ∀ x ∈ otherCouplings, x.ld = 0 := fun x hx => by
  rw [List.eq_of_mem_replicate hx]
  rfl

theorem otherCouplings_length : otherCouplings.length = 4 * 2 ^ 48 := List.length_replicate

theorem otherCouplings_ne : ∀ x ∈ otherCouplings, x ≠ lastCoupling := fun x hx => by
  rw [List.eq_of_mem_replicate hx]
  decide

theorem find_lastCoupling :
    (otherCouplings ++ [lastCoupling]).find? (fun c => c.ld = (0#8).toNat && c.dpa = (0#64).toNat) = some lastCoupling := by
  have hnone : otherCouplings.find? (fun c => c.ld = (0#8).toNat && c.dpa = (0#64).toNat) = none := List.find?_eq_none.mpr fun x hx => by
    rw [List.eq_of_mem_replicate hx]
    decide
  rw [List.find?_append, hnone]
  rfl

theorem filter_lastCoupling : (otherCouplings ++ [lastCoupling]).filter (· ≠ lastCoupling) = otherCouplings := by
  rw [List.filter_append, List.filter_eq_self.mpr fun x hx => decide_eq_true (otherCouplings_ne x hx)]
  exact List.append_nil _

/-- The state in which the request is served without its last coupling has a frame for a node. -/
theorem manyCoupled_picks : ∃ f, State.pickNode { manyCoupled.arrived .proxy with
    tables := { (manyCoupled.arrived .proxy).tables with couplings := otherCouplings } } 1 = some f :=
  Option.isSome_iff_exists.mp (by decide +kernel)

theorem manyCoupled_node : mapGet (fun _ => 0) manyCoupled.tables.aux (lineCoupling 0 (2 ^ 48) / 64) = 0 := by decide

/-- Line 2^48 of LD 0's couplings has the number of the pass table's first line: taking the coupling on it gives that table a node. -/
theorem manyCoupled_uncoupled (a : Asker) : ∃ f, ((manyCoupled.arrived .proxy).uncoupled 0 lastCoupling a).tables.aux
    = mapSet (fun _ => 0) manyCoupled.tables.aux (lineCoupling 0 (2 ^ 48) / 64) (f + 1) := by
  obtain ⟨f, hpick⟩ := manyCoupled_picks
  have hchanged : (manyCoupled.arrived .proxy).work.changed.contains (lineCoupling 0 (2 ^ 48)) = false := by
    rw [arrived_work]
    decide
  generalize hs : manyCoupled.arrived .proxy = s at hpick hchanged
  have htables : s.tables = manyCoupled.tables := by rw [← hs, arrived_tables]
  have hold : s.tables.couplings = otherCouplings ++ [lastCoupling] := by rw [htables]; rfl
  have hnode : mapGet (fun _ => 0) s.tables.aux (lineCoupling 0 (2 ^ 48) / 64) = 0 := by rw [htables]; exact manyCoupled_node
  have hplaced := setCouplings_places hold otherCouplings_ld rfl otherCouplings_length hchanged (by decide) hnode hpick
  exact ⟨f, by rw [uncoupled_tables, hold, filter_lastCoupling, hplaced, htables]⟩

/-- Refutes O33: nothing bounds the table that UNCOUPLE finds, and the removal of a coupling that stands alone on line 2^48 of its LD gives
the pass table a node. -/
theorem not_couplings : ¬ Obligations.Couplings := by
  unfold Obligations.Couplings
  rintro ⟨-, huncouple, -⟩
  obtain ⟨t, ht, htables, -⟩ :=
    (huncouple manyCoupled uncouplesLast 0 0 manyCoupled_accepts (by decide) (by decide)).1 lastCoupling find_lastCoupling
  obtain ⟨f, haux⟩ := manyCoupled_uncoupled (askerOf uncouplesLast)
  rw [exec_uncouple manyCoupled_accepts (by decide) (by decide) find_lastCoupling] at ht
  injection ht with hsame
  have hboth : ((manyCoupled.arrived .proxy).uncoupled 0 lastCoupling (askerOf uncouplesLast)).tables = t.tables := by
    rw [← goesOnFor_tables t, ← hsame, goesOnFor_tables]
    rfl
  have hnode : mapGet (fun _ => 0) manyCoupled.tables.aux (lineCoupling 0 (2 ^ 48) / 64) = f + 1 := by
    rw [← mapGet_mapSet_same (fun _ => 0) manyCoupled.tables.aux (lineCoupling 0 (2 ^ 48) / 64) (f + 1), ← haux, hboth, htables]
  exact Nat.succ_ne_zero f (hnode.symm.trans manyCoupled_node)

end Sys2Proof.Machine
end
